-- ==== Sys2Proof/Word.lean ====
section
/-!
DEFINITION. The word types of the CRL-5608 and their plainest arithmetic: the Ramtan word is 32 bits (R90), a byte
is 8 bits, and data are little-endian (spec/04_ramtan_threads_memory.md).
-/

namespace Sys2Proof

/-- A Ramtan register or register-window word. -/
abbrev Word := BitVec 32

/-- A byte of memory or of a serial frame. -/
abbrev Byte := BitVec 8

/-- A halfword of the instruction stream (R110). -/
abbrev Half := BitVec 16

end Sys2Proof
end

