-- ==== Sys2Proof/Syntax.lean ====
section
/-!
DEFINITION. The commands of the CRL-5608 model: one constructor of `Instr` for each row of spec/opcode_table.json,
with the operands the row needs. A command is one indivisible step of the device (spec/95_what_each_step_holds.md):
a Ramtan instruction issued by a thread, a store that reaches a register, a read that changes an island, or an
event of a clock, a pin, a supply or an analog comparator. Where a step depends on a quantity the device measures
(a voltage, a temperature, a received character), the command carries what was measured; four commands read what a pin
presents from State (`PinSt`).
-/

namespace Sys2Proof

/-- A hardware thread T0 to T15. -/
abbrev Tid := Fin 16
/-- A general register g0 to g15. -/
abbrev Gpr := Fin 16
/-- A ring number 0 to 3 (R135). -/
abbrev Ring := Fin 4

/-- Operand forms of the two- and three-register ALU (R114 op4 0x1, R115 op6 0x00). -/
inductive AluForm where
  /-- 16 bits: a = gd, b = gs, result to gd. -/
  | short (gd gs : Gpr)
  /-- 32 bits: a = gs, b = gt, result to gd. -/
  | long (gd gs gt : Gpr)
  deriving DecidableEq, Repr

/-- movi gd, simm8 (16 bits) or movi gd, simm16 (32 bits). -/
inductive MoviForm where
  | short (gd : Gpr) (imm : BitVec 8)
  | long (gd : Gpr) (imm : BitVec 16)
  deriving DecidableEq, Repr

/-- addi gd, simm8 (16 bits) or addi gd, gs, simm16 (32 bits). -/
inductive AddiForm where
  | short (gd : Gpr) (imm : BitVec 8)
  | long (gd gs : Gpr) (imm : BitVec 16)
  deriving DecidableEq, Repr

/-- cmpi gd, simm8 (16 bits) or cmpi gs, simm16 (32 bits). -/
inductive CmpiForm where
  | short (gs : Gpr) (imm : BitVec 8)
  | long (gs : Gpr) (imm : BitVec 16)
  deriving DecidableEq, Repr

/-- Addressing forms of loads and stores (R114 op4 0x6 to 0x9, R115 formats I and A). The 16-bit forms exist for
word accesses only (WellFormed). -/
inductive MemForm where
  /-- 16 bits: [gs, 4 × u4]. -/
  | u4 (r gs : Gpr) (off : BitVec 4)
  /-- 16 bits: [sp, 4 × u8]. -/
  | sp (r : Gpr) (off : BitVec 8)
  /-- 32 bits: [gs, simm16]. -/
  | base (r gs : Gpr) (off : BitVec 16)
  /-- 32 bits, format A: region base plus u18 × access size; region 3 is reserved. -/
  | abs (r : Gpr) (region : Fin 4) (off : BitVec 18)
  deriving DecidableEq, Repr

/-- The branch conditions of R117. -/
inductive Cond where
  | al | eq | ne | ult | uge | ugt | ule | slt | sge | sgt | sle | neg | pos | ovf | nov
  deriving DecidableEq, Repr

/-- b<cond> with simm8 (16 bits) or simm20 (32 bits). -/
inductive BcondForm where
  | short (off : BitVec 8)
  | long (off : BitVec 20)
  deriving DecidableEq, Repr

/-- br with simm12 (16 bits) or simm24 (32 bits). -/
inductive BrForm where
  | short (off : BitVec 12)
  | long (off : BitVec 24)
  deriving DecidableEq, Repr

/-- The supply that fed a COLD reset (SYS.RSTCAUSE). -/
inductive ColdSrc where
  | vin | vstor
  deriving DecidableEq, Repr

/-- What ended CALM (R55). -/
inductive WakeSrc where
  | line (k : Fin 32) | twAddress | uartStart
  deriving DecidableEq, Repr

/-- The islands of R40 that hold a landing latch (R99). SC serves SC and CHG, HOST serves HOST, TWn and Un. -/
inductive Island where
  | sys | otp | nvc | sw (n : Fin 6) | sc | seq | therm | adc | port (p : Fin 2) | host | pwm | bak | qspi
  deriving DecidableEq, Repr

/-- A fault input of PWM at its ball (R354): its level, the 48 MHz cycles it has stood at it, and the level that the
filter passed before. -/
structure FltPin where
  level : Bool
  held : Nat
  filtered : Bool
  deriving DecidableEq, Repr

/-- What an island senses while a command takes effect in it: the output's present voltage as a reference code
(R196), whether the line side of a port is below 12 V (R256) and stands at mark (R257), VSYS (R83) and VSTOR (R215) in
millivolts, the fault inputs of PWM (R358), and the bits of the written register that hardware sets in the cycle
of the store (R8). -/
structure Sense where
  fbCode : Nat
  lineBelow12V : Bool
  atMark : Bool
  vsysMv : Nat
  vstorMv : Nat
  flt0 : FltPin
  flt1 : FltPin
  setNow : Word
  deriving DecidableEq, Repr

/-- What a VBAK_SOURCE_CHANGE measures beside VCOIN: the voltage LDOBAK shows, and VSTOR, in millivolts (R221). -/
structure LdobakObs where
  shownMv : Nat
  vstorMv : Nat
  deriving DecidableEq, Repr

/-- Which comparator of a supervisor asserts, and the microseconds since its channel's last downward move ended
(R226). -/
structure SupObs where
  ov : Bool
  sinceFallUs : Nat
  deriving DecidableEq, Repr

/-- The new level of an event input, and for how many samples it has held (R342). -/
structure EdgeObs where
  rising : Bool
  held : Nat
  deriving DecidableEq, Repr

/-- One switching cycle as the island measures it (R186 to R190, R193). Periods are in counts of the ring oscillator;
the phase error is in thousandths of a degree, within ±180°. -/
structure SwObs where
  phaseErr : Int
  period : Nat
  refPeriod : Nat
  offAtMin : Bool
  onTimeBelow40ns : Bool
  continuous : Bool
  /-- the average of the sense voltage over the last 64 cycles is above the slow limit (R193). -/
  overSlow : Bool
  /-- BSTn − SWNn is below 3.6 V (R190). -/
  bstLow : Bool
  deriving DecidableEq, Repr

/-- Measured quantities of a current-sense zero calibration (R201). -/
structure SwCalObs where
  /-- the largest |sense| of the first window, in microvolts. -/
  peakSense : Nat
  /-- the mean offset, in the 62.5 µV units of SWn.CAL.CSOFS. -/
  offset : Int
  deriving DecidableEq, Repr

/-- What the ADC calibration reads (R325): sums of raw readings in codes, 16 each for its four checks and 64 each for the
trims. -/
structure AdcCalObs where
  gnd : Int
  dac0 : Int
  ref : Int
  dac512 : Int
  gnd64 : Int
  ref64 : Int
  deriving DecidableEq, Repr

/-- How a port measurement phase ended (R254): the node voltage and the charging times. -/
inductive MeasObs where
  /-- discharge over: node voltage in mV. -/
  | discharged (nodeMv : Nat)
  /-- a source step reached its 2.0 V in this many nanoseconds. -/
  | stepped (ns : Nat)
  /-- a source step did not reach 2.0 V within 50 ms. -/
  | late
  deriving DecidableEq, Repr

/-- One received character of a telegram (R263). -/
structure RxChar where
  data : Byte
  /-- parity or stop-bit error. -/
  bad : Bool
  /-- the gap before this character exceeded GAP port bit times. -/
  gapBefore : Bool
  deriving DecidableEq, Repr

/-- One sample of a port's ledger (R249), taken every 250 ns: the terminal voltage in millivolts, the line current and
a target's bridge current in units of 10 µA, and, on a space-to-mark edge that has not yet reached mark − 1 V, the time
since it began. -/
structure LedgSample where
  mv : Nat
  line : Nat
  bridge : Nat
  edgeNs : Option Nat
  deriving DecidableEq, Repr

/-- How a two-wire transfer ended: with STOP, a repeated START or a new START; with SCL low for 25 ms; or with a bus
clear, SDA released while the host clocked (R280). -/
inductive TwEnd where
  | stop | timeout | busClear
  deriving DecidableEq, Repr

/-- A read transfer: how many bytes the master reads, and how the transfer ends (R289, R280). -/
structure TwReading where
  count : Nat
  ending : TwEnd
  deriving DecidableEq, Repr

/-- The execution ports of HOST (R296). -/
inductive ExecPort where
  | kernel | service (w : Fin 4)
  deriving DecidableEq, Repr

/-- The eight sensor readings of one THERM scan, 0.25 °C per unit. -/
structure TsReadings where
  t0 : Int
  t1 : Int
  t2 : Int
  t3 : Int
  t4 : Int
  t5 : Int
  t6 : Int
  t7 : Int
  deriving DecidableEq, Repr

/-- The commands of the device. Every constructor is one row of spec/opcode_table.json. -/
inductive Instr where
  | registerWrite (addr : Word) (ring : Ring) (v : Word) (e : Sense)
  -- resets and power
  | coldReset (src : ColdSrc)
  | otpVote
  | moscOk
  | earlyRailStart (fbCode : Nat)
  | boot (vioPresent : Bool)
  | rstNAssert
  | rstNRelease
  | fastStopRailOff (vbakMv : Nat)
  | systemReset
  | vsysBackupFall (vbakMv : Nat)
  | vbakLoss
  | bakPowerUp
  | coreResetRequest (ring : Ring) (v : Word)
  | coreReset
  | islandReset (ring : Ring) (v : Word)
  | domctlWrite (ring : Ring) (v : Word)
  | domainPowerGood (d : Fin 16)
  | clkcfgWrite (ring : Ring) (v : Word)
  | pllLock
  | fllWindow (count : Nat)
  | xtalFail
  | fllResume
  | syncInValid
  | syncLost
  | dozeEntry
  | calmEntry
  | calmWake (src : WakeSrc)
  | calmClockRestore
  | kernelTick
  -- events, entries and memory of the core
  | hwEventPending (k : Fin 32)
  | eventEntry (k : Fin 64)
  | galeEntry (k : Fin 64)
  | eddyDetect
  | eddyEntry
  | gmHoldLimit
  | galeBudgetExceeded
  | storeRetire
  | latchApply (isl : Island) (e : Sense)
  | windowLoadReturn (t : Tid)
  | flashMissFill (t : Tid)
  -- Ramtan instructions
  | reservedEncoding (t : Tid) (h0 h1 : Half)
  | mov (t : Tid) (gd gs : Gpr)
  | add (t : Tid) (f : AluForm)
  | sub (t : Tid) (f : AluForm)
  | adc (t : Tid) (f : AluForm)
  | sbc (t : Tid) (f : AluForm)
  | cmp (t : Tid) (gd gs : Gpr)
  | and (t : Tid) (f : AluForm)
  | or (t : Tid) (f : AluForm)
  | xor (t : Tid) (f : AluForm)
  | tst (t : Tid) (gd gs : Gpr)
  | shl (t : Tid) (f : AluForm)
  | shr (t : Tid) (f : AluForm)
  | sar (t : Tid) (f : AluForm)
  | neg (t : Tid) (gd gs : Gpr)
  | not (t : Tid) (gd gs : Gpr)
  | mul (t : Tid) (f : AluForm)
  | mulh (t : Tid) (gd gs gt : Gpr)
  | mulhu (t : Tid) (gd gs gt : Gpr)
  | div (t : Tid) (gd gs gt : Gpr)
  | divu (t : Tid) (gd gs gt : Gpr)
  | rem (t : Tid) (gd gs gt : Gpr)
  | remu (t : Tid) (gd gs gt : Gpr)
  | ror (t : Tid) (gd gs gt : Gpr)
  | sextB (t : Tid) (gd gs : Gpr)
  | sextH (t : Tid) (gd gs : Gpr)
  | movi (t : Tid) (f : MoviForm)
  | movhi (t : Tid) (gd : Gpr) (imm : BitVec 16)
  | addi (t : Tid) (f : AddiForm)
  | cmpi (t : Tid) (f : CmpiForm)
  | andi (t : Tid) (gd gs : Gpr) (imm : BitVec 16)
  | ori (t : Tid) (gd gs : Gpr) (imm : BitVec 16)
  | xori (t : Tid) (gd gs : Gpr) (imm : BitVec 16)
  | shli (t : Tid) (gd : Gpr) (amount : BitVec 5)
  | shri (t : Tid) (gd : Gpr) (amount : BitVec 5)
  | sari (t : Tid) (gd : Gpr) (amount : BitVec 5)
  | ldW (t : Tid) (f : MemForm)
  | ldH (t : Tid) (f : MemForm)
  | ldHs (t : Tid) (f : MemForm)
  | ldB (t : Tid) (f : MemForm)
  | ldBs (t : Tid) (f : MemForm)
  | stW (t : Tid) (f : MemForm)
  | stH (t : Tid) (f : MemForm)
  | stB (t : Tid) (f : MemForm)
  | bCond (t : Tid) (c : Cond) (f : BcondForm)
  | br (t : Tid) (f : BrForm)
  | call (t : Tid) (off : BitVec 24)
  | jr (t : Tid) (gs : Gpr)
  | jalr (t : Tid) (gs : Gpr)
  | ret (t : Tid)
  | nop (t : Tid)
  | yield (t : Tid)
  | yieldExpire (t : Tid)
  | halt (t : Tid)
  | signal (t : Tid) (k : Fin 32)
  | wait (t : Tid) (gm : Gpr)
  | spawn (t : Tid) (tn : Tid) (gs ga : Gpr) (ring : Ring) (cls : Fin 4)
  | gate (t : Tid) (n : Fin 64)
  | retg (t : Tid)
  | rete (t : Tid)
  | fenceS (t : Tid)
  | fenceA (t : Tid)
  | fenceI (t : Tid)
  | fenceP (t : Tid)
  | mfc (t : Tid) (gd : Gpr) (cr : Fin 64)
  | mtc (t : Tid) (cr : Fin 64) (gs : Gpr)
  | tick (t : Tid) (gd : Gpr)
  | swap (t : Tid) (gd gs gt : Gpr)
  | cas (t : Tid) (gd gs gt : Gpr)
  | xadd (t : Tid) (gd gs gt : Gpr)
  | bmov (t : Tid) (gd gs gt : Gpr)
  | bset (t : Tid) (gd gs gt : Gpr)
  | setv (t : Tid) (rail : Fin 32) (gs : Gpr)
  | ramp (t : Tid) (rail : Fin 32) (gs gt : Gpr)
  | rail (t : Tid) (rail : Fin 32) (op : Fin 3)
  | pgwait (t : Tid) (rail : Fin 32) (tmo : BitVec 8) (off : BitVec 11)
  | pgwaitTimeout (t : Tid)
  | rampStep (rail : Fin 32)
  -- EVT and PROT registers
  | evtSwsigWrite (ring : Ring) (v : Word)
  | haltreq (ring : Ring) (n : Tid)
  | protRegionWrite (ring : Ring) (off : BitVec 12) (v : Word)
  | protEcfgWrite (ring : Ring) (v : Word)
  -- OTP and QSPI
  | otpRead (ring : Ring)
  | otpProgram (ring : Ring) (key : Byte) (vsysMv : Nat)
  | otpWprog (ring : Ring) (key : Byte) (vsysMv : Nat)
  | otpOpDone (readbackOk : Bool)
  | qspiCopy (ring : Ring) (v : Word)
  | qspiCopyDone
  -- NVC
  | nvcProgram (ring : Ring) (key : Byte)
  | nvcErase (ring : Ring) (key : Byte)
  | nvcSuspend (ring : Ring) (key : Byte)
  | nvcResume (ring : Ring) (key : Byte)
  | nvcMark (ring : Ring) (key : Byte)
  | nvcCheckread (ring : Ring) (key : Byte)
  | nvcScan (ring : Ring) (key : Byte)
  | nvcCommandEnd (verifyOk : Bool)
  | erasePhaseEnd (verifyOk : Bool)
  | suspendEffect
  | autosuspResume
  -- switching controllers
  | swCycle (n : Fin 6) (o : SwObs)
  | trimsat (n : Fin 6)
  | fastLimitTrip (n : Fin 6)
  | slowLimit (n : Fin 6)
  | slowLimitRestart (n : Fin 6) (fbCode : Nat)
  | ovpEnter (n : Fin 6)
  | ovpExit (n : Fin 6)
  | swVsysStop (n : Fin 6)
  | swVsysResume (n : Fin 6) (fbCode : Nat)
  | softStartStep (n : Fin 6)
  | softStartDone (n : Fin 6)
  | swCal (n : Fin 6) (ring : Ring) (v : Word)
  | swCalDone (n : Fin 6) (o : SwCalObs)
  | dischargeEnd (rail : Fin 32)
  -- storage and charging
  | idealDiodeOff
  | vsysUv (vstorMv : Nat)
  | reversalExit
  | vstorVlow
  | vstorCutoff
  | scShort
  | scClr (ring : Ring) (v : Word)
  | storeStart (vinMv vstorMv : Nat)
  | startupTimeout
  | chgCtlWrite (ring : Ring) (v : Word) (vstorMv : Nat)
  | chgClr (ring : Ring) (v : Word) (vstorMv : Nat)
  | chgPhaseChange (vstorMv : Nat)
  | chgPhaseTimeout (vstorMv : Nat)
  | chgTerminate
  | ntcSample (m0 m1 : Byte) (vstorMv : Nat)
  | presenceTest (vstorMv : Nat)
  | presencePhaseEnd (deltaMv : Nat) (vstorMv : Nat)
  | cellBalance (bottomMv topMv : Nat)
  | vbakSourceChange (coinMv : Nat) (ldobak : LdobakObs)
  -- rails, supervision and LULL
  | railRampEnd (rail : Fin 32)
  | lsOverload (n : Fin 6)
  | supervisorAssert (rail : Fin 32) (o : SupObs)
  | powerGoodRise (rail : Fin 32)
  | lullGo (ring : Ring) (v : Word)
  | lullFramesDone
  | lullNvcFlushDone
  | lullRailOff (elapsedMs : Nat) (vbakMv : Nat)
  | lullBudgetCut (vbakMv : Nat)
  -- meter-bus ports
  | portModeWrite (p : Fin 2) (ring : Ring) (v : Word)
  | ibaseTrack (p : Fin 2) (mean : Nat)
  | lineLost (p : Fin 2)
  | lineReturn (p : Fin 2)
  | txholdRelease (p : Fin 2)
  | portBreach (p : Fin 2) (samples : List LedgSample)
  | portMeas (p : Fin 2) (ring : Ring) (v : Word)
  | measPhaseEnd (p : Fin 2) (o : MeasObs) (lineBelow12V : Bool)
  | measokExpire (p : Fin 2)
  | portRampEnd (p : Fin 2)
  | portCal (p : Fin 2) (ring : Ring) (v : Word) (atMark : Bool)
  | portCalDone (p : Fin 2) (samples : List Nat)
  -- telegram engines
  | exchangeStart (p : Fin 2)
  | requestSent (p : Fin 2)
  | replyReceived (p : Fin 2) (cs : List RxChar)
  | replyTimeout (p : Fin 2)
  | rxGapTimeout (p : Fin 2)
  | engineResync (p : Fin 2)
  | engDoorbell (p : Fin 2) (ring : Ring) (v : Word)
  | engCqRead (p : Fin 2) (t : Tid) (gd : Gpr)
  | targetFrame (p : Fin 2) (cs : List RxChar)
  | targetAnswer (p : Fin 2)
  | tselAccept (p : Fin 2) (ring : Ring)
  | tselReject (p : Fin 2) (ring : Ring)
  | selectionTimeout (p : Fin 2)
  -- host windows
  | twAddress (i : Fin 2) (addr : Byte)
  | twWriteFrame (i : Fin 2) (addr : BitVec 7) (bytes : List Byte) (e : TwEnd)
  | twRead (i : Fin 2) (addr : BitVec 7) (r : TwReading)
  | sclTimeout (i : Fin 2)
  | uartCommandFrame (u : Fin 3) (bytes : List Byte) (badAt : Option Nat)
  | uartFrameGap (u : Fin 3)
  | poll (u : Fin 3) (crc : Byte)
  | commandDispatch (w : Fin 4)
  | getstat
  | bootrep
  | otpread
  | sqread
  | reset
  | tickread
  | railget
  | railset (e : Sense)
  | epread
  | eppoll
  | logread
  | verify (vioPresent : Bool)
  | install (vioPresent : Bool)
  | serviceCommand (w : Fin 4)
  | serviceTimeout (w : Fin 4)
  | portPayRead (p : ExecPort) (t : Tid) (gd : Gpr)
  | portRdatWrite (p : ExecPort) (ring : Ring) (v : Word)
  | portDoneWrite (p : ExecPort) (ring : Ring) (v : Word)
  -- UARTs
  | uartRxChar (u : Fin 5) (bits : List (List Bool))
  | uartDataRead (u : Fin 5) (t : Tid) (gd : Gpr)
  | uartDataWrite (u : Fin 5) (ring : Ring) (v : Word)
  | uartTxChar (u : Fin 5)
  | uartRxflush (u : Fin 5) (ring : Ring)
  | uartTxflush (u : Fin 5) (ring : Ring)
  | uartTxbrk (u : Fin 5) (ring : Ring) (on : Bool)
  | uartDivWrite (u : Fin 5) (ring : Ring) (v : Word)
  | uartCfgWrite (u : Fin 5) (ring : Ring) (v : Word)
  | uartRxIdle (u : Fin 5)
  -- ADC and THERM
  | adcRun (ring : Ring)
  | adcStop (ring : Ring)
  | adcFifoclr (ring : Ring)
  | adcCalgo (ring : Ring)
  | adcCalDone (o : AdcCalObs)
  | adcSlotResult (conversions : List Int)
  | adcFifoRead (t : Tid) (gd : Gpr)
  | adcResRead (k : Fin 32) (t : Tid) (gd : Gpr)
  | thermScan (r : TsReadings) (vbakMv : Nat)
  | thermalCut (sensor : Fin 8)
  | thermSuspClear (ring : Ring) (v : Word)
  -- backup domain
  | trimCorrection
  | bakRcFallback
  | bakXtalReturn
  | ticklRead (t : Tid) (gd : Gpr)
  | eventInputEdge (i : Fin 6) (o : EdgeObs)
  | evf0Read (t : Tid) (gd : Gpr)
  | billcmpArm (ring : Ring) (v : Word)
  | billcmpFire (vstorMv : Nat)
  | wdkick (ring : Ring) (v : Word)
  | wdcfgWrite (ring : Ring) (v : Word)
  | wdEarly
  | wdExpire
  | recclr (ring : Ring) (v : Word)
  | calSplit (t : Tid)
  | calJoin (t : Tid)
  | calNow (t : Tid)
  | calSet (t : Tid)
  -- PWM
  | pwmWrap (n : Fin 6)
  | pwmFaultTrip (n : Fin 6) (flt0 flt1 : FltPin)
  | pwmWindowEnd (n : Fin 6)
  | pwmStart (ring : Ring) (v : Word)
  | pwmLatchRelease (n : Fin 6) (ring : Ring) (v : Word) (flt0 flt1 : FltPin)
  -- rows added at the end of the table
  | crystalCycle
  | uartBreakEnd (u : Fin 5)
  | storeStartStop
  | balanceEnd (bottomMv topMv : Nat)
  | supervisorRelease (rail : Fin 32) (ov : Bool)
  | cutComparatorRelease (sensor : Fin 8)
  deriving DecidableEq, Repr

end Sys2Proof
end

