-- ==== Sys2Proof/Decode.lean ====
section
/-!
DEFINITION. Words to commands. The opcode table gives no row any bits, so `decodeTableWord` spells none. The halfwords
of the Ramtan instruction stream, which a thread fetches, are decoded here by the maps of R110 to R116; a reserved
encoding decodes to nothing (R111).
-/

namespace Sys2Proof

/-- The command a word of the table's bits spells: the table gives none. -/
def decodeTableWord (_nbits _w : Nat) : Option Instr := none

/-- Bits [lo + w − 1 : lo] of a halfword. -/
def hb (h : Half) (lo w : Nat) : BitVec w := h.extractLsb' lo w

/-- A register field. -/
def hr (h : Half) (lo : Nat) : Gpr := ⟨h.toNat / 2 ^ lo % 16, Nat.mod_lt _ (by decide)⟩

/-- A number field. -/
def hn (h : Half) (lo w : Nat) : Nat := h.toNat / 2 ^ lo % 2 ^ w

/-- The branch conditions by code (R117); 0xF is reserved. -/
def condOf (n : Nat) : Option Cond :=
  match n with
  | 0x0 => some .al
  | 0x1 => some .eq
  | 0x2 => some .ne
  | 0x3 => some .ult
  | 0x4 => some .uge
  | 0x5 => some .ugt
  | 0x6 => some .ule
  | 0x7 => some .slt
  | 0x8 => some .sge
  | 0x9 => some .sgt
  | 0xA => some .sle
  | 0xB => some .neg
  | 0xC => some .pos
  | 0xD => some .ovf
  | 0xE => some .nov
  | _ => none

/-- op6 values that R115 assigns. -/
def op6Assigned (n : Nat) : Bool :=
  decide (n ≤ 0x1A) || (decide (0x20 ≤ n) && decide (n ≤ 0x22)) || n == 0x24 || n == 0x25 ||
    (decide (0x28 ≤ n) && decide (n ≤ 0x2A)) || n == 0x2C || (decide (0x30 ≤ n) && decide (n ≤ 0x33))

/-- A first halfword begins a 32-bit instruction (R110). -/
def isLong (h0 : Half) : Bool := h0.toNat / 2 ^ 14 == 3

/-- op6 of a first halfword. -/
def op6 (h0 : Half) : Nat := hn h0 8 6

/-- How many bytes are fetched before the instruction is judged (R110). -/
def fetchLen (h0 : Half) : Nat := if isLong h0 && op6Assigned (op6 h0) then 4 else 2

/-- sub 0x0 of op4 0x0. -/
def decodeMisc (t : Tid) (n : Nat) : Option Instr :=
  match n with
  | 0x00 => some (.nop t)
  | 0x01 => some (.yield t)
  | 0x02 => some (.halt t)
  | 0x03 => some (.ret t)
  | 0x04 => some (.retg t)
  | 0x05 => some (.rete t)
  | 0x08 => some (.fenceS t)
  | 0x09 => some (.fenceA t)
  | 0x0A => some (.fenceI t)
  | 0x0B => some (.fenceP t)
  | _ => none

/-- op4 0x0. -/
def decodeSub (t : Tid) (h : Half) : Option Instr :=
  match hn h 8 4 with
  | 0x0 => decodeMisc t (hn h 0 8)
  | 0x1 => if hn h 6 2 = 0 ∧ 32 ≤ hn h 0 6 then some (.signal t (Fin.ofNat 32 (hn h 0 6))) else none
  | 0x2 => if hn h 4 4 = 0 then some (.jr t (hr h 0)) else none
  | 0x3 => if hn h 4 4 = 0 then some (.jalr t (hr h 0)) else none
  | 0x4 => if hn h 4 4 = 0 ∧ hn h 0 1 = 0 then some (.wait t (hr h 0)) else none
  | 0x5 => if hn h 4 4 = 0 ∧ hn h 0 1 = 0 then some (.tick t (hr h 0)) else none
  | _ => none

/-- op4 0x1: the two-register ALU of R119; every func is assigned. -/
def decodeAlu2 (t : Tid) (h : Half) : Option Instr :=
  let gd := hr h 4
  let gs := hr h 0
  match hn h 8 4 with
  | 0x0 => some (.mov t gd gs)
  | 0x1 => some (.add t (.short gd gs))
  | 0x2 => some (.sub t (.short gd gs))
  | 0x3 => some (.adc t (.short gd gs))
  | 0x4 => some (.sbc t (.short gd gs))
  | 0x5 => some (.cmp t gd gs)
  | 0x6 => some (.and t (.short gd gs))
  | 0x7 => some (.or t (.short gd gs))
  | 0x8 => some (.xor t (.short gd gs))
  | 0x9 => some (.tst t gd gs)
  | 0xA => some (.shl t (.short gd gs))
  | 0xB => some (.shr t (.short gd gs))
  | 0xC => some (.sar t (.short gd gs))
  | 0xD => some (.neg t gd gs)
  | 0xE => some (.not t gd gs)
  | _ => some (.mul t (.short gd gs))

/-- op4 0x5: immediate shifts. -/
def decodeShift (t : Tid) (h : Half) : Option Instr :=
  if hn h 4 1 ≠ 0 then none
  else
    match hn h 10 2 with
    | 0 => some (.shli t (hr h 0) (hb h 5 5))
    | 1 => some (.shri t (hr h 0) (hb h 5 5))
    | 2 => some (.sari t (hr h 0) (hb h 5 5))
    | _ => none

/-- The 16-bit map of R114. -/
def decode16 (t : Tid) (h : Half) : Option Instr :=
  match hn h 12 4 with
  | 0x0 => decodeSub t h
  | 0x1 => decodeAlu2 t h
  | 0x2 => some (.movi t (.short (hr h 8) (hb h 0 8)))
  | 0x3 => some (.addi t (.short (hr h 8) (hb h 0 8)))
  | 0x4 => some (.cmpi t (.short (hr h 8) (hb h 0 8)))
  | 0x5 => decodeShift t h
  | 0x6 => some (.ldW t (.u4 (hr h 8) (hr h 4) (hb h 0 4)))
  | 0x7 => some (.stW t (.u4 (hr h 8) (hr h 4) (hb h 0 4)))
  | 0x8 => some (.ldW t (.sp (hr h 8) (hb h 0 8)))
  | 0x9 => some (.stW t (.sp (hr h 8) (hb h 0 8)))
  | 0xA => (condOf (hn h 8 4)).map (fun c => .bCond t c (.short (hb h 0 8)))
  | 0xB => some (.br t (.short (hb h 0 12)))
  | _ => none

/-- op6 0x00: the three-register ALU of R119. -/
def decodeAlu3 (t : Tid) (h0 h1 : Half) : Option Instr :=
  let gd := hr h0 4
  let gs := hr h0 0
  let gt := hr h1 12
  if hn h1 5 7 ≠ 0 then none
  else
    match hn h1 0 5 with
    | 0x00 => some (.add t (.long gd gs gt))
    | 0x01 => some (.sub t (.long gd gs gt))
    | 0x02 => some (.adc t (.long gd gs gt))
    | 0x03 => some (.sbc t (.long gd gs gt))
    | 0x04 => some (.and t (.long gd gs gt))
    | 0x05 => some (.or t (.long gd gs gt))
    | 0x06 => some (.xor t (.long gd gs gt))
    | 0x07 => some (.shl t (.long gd gs gt))
    | 0x08 => some (.shr t (.long gd gs gt))
    | 0x09 => some (.sar t (.long gd gs gt))
    | 0x0A => some (.mul t (.long gd gs gt))
    | 0x0B => some (.mulh t gd gs gt)
    | 0x0C => some (.mulhu t gd gs gt)
    | 0x0D => some (.div t gd gs gt)
    | 0x0E => some (.divu t gd gs gt)
    | 0x0F => some (.rem t gd gs gt)
    | 0x10 => some (.remu t gd gs gt)
    | 0x11 => some (.ror t gd gs gt)
    | 0x12 => if hn h1 12 4 = 0 then some (.sextB t gd gs) else none
    | 0x13 => if hn h1 12 4 = 0 then some (.sextH t gd gs) else none
    | _ => none

/-- A format A operand; region 3 is reserved. -/
def absForm (h0 h1 : Half) : Option MemForm :=
  if hn h0 2 2 = 3 then none else some (.abs (hr h0 4) (Fin.ofNat 4 (hn h0 2 2)) (hb h0 0 2 ++ h1))

/-- A format I memory operand. -/
def baseForm (h0 h1 : Half) : MemForm := .base (hr h0 4) (hr h0 0) h1

/-- Formats T with func 0: gd, gs, gt. -/
def tForm (h0 h1 : Half) (f : Gpr → Gpr → Gpr → Instr) : Option Instr :=
  if hn h1 0 12 = 0 then some (f (hr h0 4) (hr h0 0) (hr h1 12)) else none

/-- The rail field of setv, ramp and rail; [23:21] is 0. -/
def railField (h0 : Half) (f : Fin 32 → Option Instr) : Option Instr :=
  if hn h0 5 3 = 0 then f (Fin.ofNat 32 (hn h0 0 5)) else none

/-- The 32-bit map of R115, op6 0x00 to 0x1A. -/
def decode32a (t : Tid) (h0 h1 : Half) : Option Instr :=
  match op6 h0 with
  | 0x00 => decodeAlu3 t h0 h1
  | 0x01 => some (.addi t (.long (hr h0 4) (hr h0 0) h1))
  | 0x02 => some (.andi t (hr h0 4) (hr h0 0) h1)
  | 0x03 => some (.ori t (hr h0 4) (hr h0 0) h1)
  | 0x04 => some (.xori t (hr h0 4) (hr h0 0) h1)
  | 0x05 => if hn h0 0 4 = 0 then some (.movhi t (hr h0 4) h1) else none
  | 0x06 => if hn h0 4 4 = 0 then some (.cmpi t (.long (hr h0 0) h1)) else none
  | 0x07 => if hn h0 0 4 = 0 then some (.movi t (.long (hr h0 4) h1)) else none
  | 0x08 => some (.ldW t (baseForm h0 h1))
  | 0x09 => some (.ldH t (baseForm h0 h1))
  | 0x0A => some (.ldHs t (baseForm h0 h1))
  | 0x0B => some (.ldB t (baseForm h0 h1))
  | 0x0C => some (.ldBs t (baseForm h0 h1))
  | 0x0D => some (.stW t (baseForm h0 h1))
  | 0x0E => some (.stH t (baseForm h0 h1))
  | 0x0F => some (.stB t (baseForm h0 h1))
  | 0x10 => (absForm h0 h1).map (.ldW t)
  | 0x11 => (absForm h0 h1).map (.ldH t)
  | 0x12 => (absForm h0 h1).map (.ldHs t)
  | 0x13 => (absForm h0 h1).map (.ldB t)
  | 0x14 => (absForm h0 h1).map (.ldBs t)
  | 0x15 => (absForm h0 h1).map (.stW t)
  | 0x16 => (absForm h0 h1).map (.stH t)
  | 0x17 => (absForm h0 h1).map (.stB t)
  | 0x18 => (condOf (hn h0 4 4)).map (fun c => .bCond t c (.long (hb h0 0 4 ++ h1)))
  | 0x19 => some (.br t (.long (hb h0 0 8 ++ h1)))
  | 0x1A => some (.call t (hb h0 0 8 ++ h1))
  | _ => none

/-- op6 0x20 to 0x33. -/
def decode32b (t : Tid) (h0 h1 : Half) : Option Instr :=
  match op6 h0 with
  | 0x20 => tForm h0 h1 (.swap t)
  | 0x21 => tForm h0 h1 (.cas t)
  | 0x22 => tForm h0 h1 (.xadd t)
  | 0x24 => tForm h0 h1 (.bmov t)
  | 0x25 => tForm h0 h1 (.bset t)
  | 0x28 => if hn h0 0 4 = 0 ∧ hn h1 6 10 = 0 then some (.mfc t (hr h0 4) (Fin.ofNat 64 (hn h1 0 6))) else none
  | 0x29 => if hn h0 4 4 = 0 ∧ hn h1 6 10 = 0 then some (.mtc t (Fin.ofNat 64 (hn h1 0 6)) (hr h0 0)) else none
  | 0x2A =>
    if hn h1 0 8 = 0 then
      some (.spawn t (hr h0 4) (hr h0 0) (hr h1 12) (Fin.ofNat 4 (hn h1 10 2)) (Fin.ofNat 4 (hn h1 8 2)))
    else none
  | 0x2C => if hn h0 0 8 = 0 ∧ hn h1 6 10 = 0 then some (.gate t (Fin.ofNat 64 (hn h1 0 6))) else none
  | 0x30 => railField h0 (fun c => if hn h1 0 12 = 0 then some (.setv t c (hr h1 12)) else none)
  | 0x31 => railField h0 (fun c => if hn h1 0 8 = 0 then some (.ramp t c (hr h1 12) (hr h1 8)) else none)
  | 0x32 =>
    railField h0 (fun c =>
      if h : hn h1 2 14 = 0 ∧ hn h1 0 2 < 3 then some (.rail t c ⟨hn h1 0 2, h.2⟩) else none)
  | 0x33 => some (.pgwait t (Fin.ofNat 32 (hn h1 11 5)) (hb h0 0 8) (hb h1 0 11))
  | _ => none

/-- The instruction the halfwords at a thread's PC spell; `h1` counts only for a 32-bit one. None is ILLEGAL. -/
def decodeRamtan (t : Tid) (h0 h1 : Half) : Option Instr :=
  if isLong h0 then (if op6 h0 ≤ 0x1A then decode32a t h0 h1 else decode32b t h0 h1) else decode16 t h0

end Sys2Proof
end

