-- ==== Sys2Proof/Config.lean ====
section
/-!
DEFINITION. What an implementation fixes and the spec leaves open. Every `opaque` here is a free value: it has no
body, so no proof can rest on its value. Each is named in the assumption log (entry 2).
-/

namespace Sys2Proof.Config

/-- The free values of a run, in the order in which the steps take them: the argument is `State.free`. -/
opaque free : Nat → Nat

/-- Free values of one step that needs many at once: the second argument numbers them. -/
opaque freeAt : Nat → Nat → Nat

/-- `SYS.ID.REV`, "Silicon" in the Cold column of spec/02_islands_clocks_states.md. -/
opaque siliconRev : BitVec 8

/-- Halfword address of the ROM kernel's handler for hardware line k (R145: the boot ROM writes the vectors of E1 to
E6). -/
opaque romHandler : Nat → BitVec 15

/-- Halfword address in the boot ROM to which ENTRY returns (R82). -/
opaque romReturn : BitVec 15

/-- Halfword address at which T0 continues in the ROM kernel when the boot sequence has ended. -/
opaque romKernel : BitVec 15

/-- Where the boot ROM's scratch area in the GALE bank holds the header of slot A and of slot B (R74 gives no address). -/
opaque romScratch : Nat → Nat

/-- Whether the check bits of a granule whose 128 data bits are all 1 are themselves all 1, so that a granule
programmed with ones still reads BLANK (R159 names the code, not its matrix). -/
opaque allOnesReadsBlank : Bool

end Sys2Proof.Config
end

