-- ==== Sys2Proof/Machine/State.lean ====
section
/-!
DEFINITION. The state of the CRL-5608 as plain data, the reasons a step can stop, and the state after reset.

Register fields with storage of their own live in `State.regs`, one entry per field (Machine/RegMap.lean lists every
field of the manual's field tables). What the manual describes behind or beside the registers (threads, the store
buffer, landing latches, memories, FIFOs, queues, operations in progress) has a named field here.
-/

namespace Sys2Proof.Machine

/-- What a WAITING thread waits for (R92, R134). -/
inductive WaitKind where
  /-- WAIT with its 64-bit mask. -/
  | event (mask : BitVec 64)
  /-- pgwait: the rail, where it continues, and its label. -/
  | pg (rail : Nat) (next label : Word)
  deriving DecidableEq, Repr

/-- Thread states (R85). -/
inductive TState where
  | halted | ready | waiting (w : WaitKind)
  deriving DecidableEq, Repr

/-- A register-window load whose request has left CORE: address, destination, instruction length, and the writes the
island's landing latch held ahead of it and has not yet applied (R97). -/
structure LoadReq where
  addr : Nat
  gd : Gpr
  len : Nat
  ahead : Nat
  deriving DecidableEq, Repr

/-- What a stalled instruction waits for before it is tried again. -/
inductive Until where
  /-- room for an entry addressed to `a` in the store buffer and its island's latch (R98, R99). -/
  | room (a : Nat)
  /-- every buffered entry to the window of `a` has retired (R101). -/
  | window (a : Nat)
  /-- the store buffer is empty (R105, R106, R155). -/
  | drained
  /-- every write to BAK has been applied. -/
  | bak
  /-- the store buffer and every landing latch are empty (FENCE.A, R106). -/
  | applied
  /-- the buffer is empty, and the engine frames that FENCE.P waits for have ended (R141). -/
  | frames
  /-- buffered stores to protection regions have retired (R140). -/
  | regions
  deriving DecidableEq, Repr

/-- Why a thread stalls (R98 to R101, R106, R108, R140, R161, R393). -/
inductive Stall where
  /-- waits for its condition; the instruction is tried again. -/
  | retry (u : Until)
  /-- instruction fetch waits for a flash granule. -/
  | fetchMiss (granule : Nat)
  /-- a data read waits for a flash granule; the instruction is tried again. -/
  | dataMiss (granule : Nat)
  /-- a partial overlap with buffered stores, until every overlapping entry has retired (R101). -/
  | overlap (addr size : Nat)
  /-- a register-window load whose request has left CORE. -/
  | window (ld : LoadReq)
  /-- the tick instruction's read of TICK, with the BAK writes ahead of it. -/
  | tick (gd : Gpr) (ahead : Nat)
  deriving DecidableEq, Repr

/-- One hardware thread (R85, R89, R90, R149). -/
structure Thread where
  g : Vector Word 16
  pc : Word
  psw : Word
  st : TState
  pend : BitVec 64
  scr : Word
  icnt : Word
  wmask : BitVec 64
  /-- bytes in use below the slice top of each fault stack, rings 0 to 2 (R149). -/
  fsUsed : Vector Nat 3
  stall : Option Stall
  /-- inside the 8 cycles after YIELD (R123). -/
  yielding : Bool
  /-- addresses of buffered stores of this thread that retired into an island that is off, oldest first (R52). -/
  lateDomoff : List Nat
  /-- a division in progress: its address and the steps it has done (R120). -/
  divAt : Option (Word × Nat)
  deriving DecidableEq, Repr

/-- What a store-buffer entry carries to its target (R98, R132). -/
inductive SbOp where
  | store (be : BitVec 4) (data : Word)
  | setv (rail code : Nat)
  | ramp (rail code us : Nat)
  | rail (rail op : Nat)
  deriving DecidableEq, Repr

/-- A store-buffer entry (R98): aligned word address, issuing thread and its ring. -/
structure SbEntry where
  tid : Tid
  ring : Ring
  addr : Nat
  op : SbOp
  deriving DecidableEq, Repr

/-- A write held in an island's landing latch (R99). -/
structure LatchWrite where
  isl : Island
  ent : SbEntry
  deriving DecidableEq, Repr

/-- A flash line buffer (R161): one granule with its data and status. -/
structure Line where
  granule : Nat
  bytes : List Byte
  status : Nat
  deriving DecidableEq, Repr

/-- The GALE handler that runs (R155). -/
structure GaleRun where
  tid : Tid
  line : Nat
  /-- bytes in use of the ring-0 stack just after its frame was pushed. -/
  frameUsed : Nat
  count : Nat
  deriving DecidableEq, Repr

/-- The Ramtan core. -/
structure Core where
  threads : Vector Thread 16
  /-- round-robin pointer per class (R86). -/
  rr : Vector Tid 4
  sb : List SbEntry
  latch : List LatchWrite
  ibuf : Option Line
  dbuf : Option Line
  fstop : Vector Word 3
  fslim : Vector Word 3
  vbase : Word
  gbase : Vector Word 4
  flvl : Nat
  gale : Option GaleRun
  /-- core cycles issued in the present hold of PSW.GM (R146). -/
  gmHold : Nat
  /-- hardware lines raised by an island and not yet pending at CORE (R93). -/
  raised : BitVec 32
  /-- EDDY cause held for entry on T0 (R156). -/
  eddyHeld : Bool
  /-- the present EDDY condition has been reported (R156: once for each time it arises). -/
  eddySeen : Bool
  /-- a SQUALL has stopped the core (R154). -/
  squall : Bool
  /-- instructions have issued since the wake from CALM (R279). -/
  awake : Bool
  /-- a PROT region write retired while an exchange ran, per port: FENCE.P waits for it (R141). -/
  fenceP : Vector Bool 2
  deriving DecidableEq, Repr

/-- Power states (R53). -/
inductive Power where
  | run | doze | calm | backup | off
  deriving DecidableEq, Repr

/-- An orderly or fast stop in progress (R234 to R239). -/
inductive Stop where
  | none
  /-- LULL: step, cause code, latched T_LULL. -/
  | lull (step cause tlull : Nat)
  /-- fast stop: whether the line stages have been opened. -/
  | fast
  deriving DecidableEq, Repr

/-- Power, reset and clock state that no register field holds. -/
structure PowerSt where
  state : Power
  /-- CORE is held in reset until BOOT. -/
  coreHeld : Bool
  /-- wired OTP bits have been delivered since the last COLD or SYSTEM reset (R64). -/
  otpOk : Bool
  /-- the boot ROM has called ENTRY, which has not returned (R82). -/
  inEntry : Bool
  /-- step 6 of the present boot has passed (R78, R80). -/
  sealPass : Bool
  /-- the present boot's action leaves the ports locked off (R69, R80). -/
  portsOff : Bool
  /-- step 9 of the present boot is over, or the service-only state has begun (R81). -/
  booted : Bool
  /-- RST_N reads low and holds a SYSTEM reset (R57). -/
  rstLow : Bool
  stop : Stop
  /-- the stop in progress ends in a SYSTEM reset. -/
  endSys : Bool
  /-- the stop has ended and the SYSTEM reset takes hold next. -/
  sysDue : Bool
  /-- a LULL has begun since the last reset: HOST dispatches nothing to its end, also when a fast stop takes it over
  (R237, R297). -/
  lulled : Bool
  /-- the early rail's moment of this cold start is over (R67). -/
  earlyDone : Bool
  /-- consecutive FLL windows within 0.05 % (R43). -/
  fllGood : Nat
  fllEver : Bool
  fllFrozen : Bool
  /-- FLL trim, in steps of 0.025 %. -/
  fllTrim : Int
  /-- the first 50 µs after a CALM wake (R56). -/
  wake48 : Bool
  /-- an OTP READ, PROGRAM or WPROG in progress. -/
  otpBusy : Option (Nat × Nat × Word)
  /-- a QSPI copy in progress: source, destination, byte count. -/
  qspi : Option (Nat × Nat × Nat)
  deriving DecidableEq, Repr

/-- Phases of a running sector erase (R165 to R167). -/
inductive ErPhase where
  /-- erasing the inactive journal sector before a switch. -/
  | jErase
  /-- verifying it. -/
  | jVerify
  /-- programming record `n` of the switch: the CARRYs, the MARK copy, and the HEADER last. -/
  | jCopy (n : Nat)
  | intent
  | array
  | verify
  | done
  deriving DecidableEq, Repr

/-- What an NVC operation is for. -/
inductive NvGoal where
  | erase (sector : Nat)
  | mark (value : Word)
  deriving DecidableEq, Repr

/-- An erase or a MARK with its journal phases. -/
structure NvErase where
  goal : NvGoal
  phase : ErPhase
  suspended : Bool
  /-- TICK when the record of the present phase was built (R164). -/
  tick : BitVec 48
  deriving DecidableEq, Repr

/-- A command of the NVC that has no phases. -/
inductive NvCmd where
  | program (addr : Nat) (bytes : List Byte)
  /-- a MARK record, with TICK when it was built (R164). -/
  | mark (value : Word) (tick : BitVec 48)
  | checkread (addr : Nat)
  | scan
  deriving DecidableEq, Repr

/-- The NVC beside its registers. -/
structure Nvc where
  cmd : Option NvCmd
  er : Option NvErase
  /-- a suspended erase put aside while a MARK's journal switch runs. -/
  held : Option NvErase
  /-- a SUSPEND was accepted and has not taken effect (R168). -/
  suspReq : Bool
  /-- the present suspension is an automatic one (R170). -/
  autoSusp : Bool
  /-- an automatic suspension was requested by a flash miss. -/
  autoReq : Bool
  /-- LULL step 3 has begun: PROGRAM, ERASE and MARK are refused (R237). -/
  flushing : Bool
  deriving DecidableEq, Repr

/-- One switching controller beside its registers. -/
structure SwSt where
  /-- soft-start in progress. -/
  ss : Bool
  /-- ramp in progress: target code and step time. -/
  ramp : Option (Nat × Nat)
  lockRun : Nat
  satRun : Nat
  yieldLen : Nat
  yieldQuiet : Nat
  /-- consecutive continuous cycles in diode emulation (R189). -/
  contRun : Nat
  skipping : Bool
  ssTrips : Nat
  /-- the on-time last started has ended in a fast trip (R191). -/
  tripped : Bool
  /-- ring-oscillator counts since the last overload or restart (R193). -/
  cleanRun : Nat
  /-- stopped by an overload, waiting for its restart (R193). -/
  restart : Bool
  /-- stopped because VSYS fell below 7.4 V (R195). -/
  vsysStop : Bool
  ovpHold : Bool
  /-- re-add of SW2: on-times done, 64 at full fraction, 65 balanced (R200). -/
  readd : Nat
  /-- the discharge path is closed. -/
  dis : Bool
  /-- phase error of the last cycle, in thousandths of a degree (R188). -/
  phase : Int
  /-- the loop moves the phase back after a yield: the error at the start of the present four cycles, and how many of
  them are over (R188). -/
  relock : Option (Nat × Nat)
  /-- a 200 ns LGn pulse goes before the next on-time (R190, R200). -/
  lgPulse : Bool
  /-- the next cycle of the gang is the follower's (R197). -/
  mateNext : Bool
  /-- the reference has moved downward under ramp or setv since the enable (R226). -/
  fell : Bool
  deriving DecidableEq, Repr

/-- The charger's view of one NTC input: zone, candidate zone, consecutive samples. -/
structure NtcSt where
  zone : Nat
  cand : Nat
  count : Nat
  deriving DecidableEq, Repr

/-- SC and CHG beside their registers. -/
structure StoreSt where
  /-- the ideal-diode MOSFET conducts (R203). -/
  diodeOn : Bool
  /-- the latched fault of CHG, 0 for none, while D15 is off (R216). -/
  fault : Nat
  /-- the SC short latch while D15 is off (R211). -/
  short : Bool
  /-- VCOIN is the source of VBAK (R221). -/
  vbakCoin : Bool
  /-- a presence test was broken off by a reversal and runs after the next charge start (Corners of spec/09). -/
  testDue : Bool
  /-- after a cutoff SC does not reverse until VSTOR has risen (R210). -/
  cutHold : Bool
  /-- a SYSTEM reset came while SC was reversed: the SC registers return to Cold when the reversal ends. -/
  coldAfter : Bool
  ntc0 : NtcSt
  ntc1 : NtcSt
  /-- presence test phase: 0 none, 1 pause, 2 sink, 3 source (R218). -/
  presence : Nat
  deriving DecidableEq, Repr

/-- SEQ beside its registers. -/
structure SeqSt where
  /-- rise order, first riser first (R230). -/
  rise : List Nat
  /-- UV comparators asserted now, by rail code. -/
  uvNow : BitVec 32
  /-- OV comparators asserted now. -/
  ovNow : BitVec 32
  /-- discharge paths of LDOs and load switches closed now, by rail code. -/
  disNow : BitVec 32
  /-- CUT comparators tripped now, by sensor (R333). -/
  cutNow : BitVec 8
  deriving DecidableEq, Repr

/-- A completion-queue entry (R273). -/
structure CqEntry where
  index : Nat
  tgt : Bool
  status : Nat
  deriving DecidableEq, Repr

/-- Steps of an exchange as master (R271). -/
inductive ExStep where
  | nke | select | request
  deriving DecidableEq, Repr

/-- An exchange in progress. -/
structure Exch where
  index : Nat
  door : Bool
  step : ExStep
  tries : Nat
  /-- periods skipped, added to NEXT when served (R269). -/
  k : Nat
  /-- the request's last stop bit has been sent. -/
  sent : Bool
  /-- the entry's INIT and FCB as this exchange leaves them. -/
  init : Bool
  fcb : Bool
  deriving DecidableEq, Repr

/-- The energy ledger of a port (R249 to R251). Energies count products of millivolts and units of 10 µA, one for each
sample of 250 ns: 2.5 fJ each. -/
structure Ledger where
  /-- the last buckets of 1 ms, newest first, at most 1,000 (R250). -/
  buckets : List Nat
  /-- the bucket in progress, and the samples in it. -/
  bucket : Nat
  count : Nat
  /-- the energy of a fault episode in progress (R251). -/
  episode : Option Nat
  /-- the largest episode since LEDGS.EPIS was last cleared. -/
  largest : Nat
  /-- the last sample's voltage in mV and line current in 10 µA. -/
  mv : Nat
  line : Nat
  deriving DecidableEq, Repr

/-- A port beside its registers. -/
structure PortSt where
  /-- stored-energy measurement: phase 1 to 3 (R254), 0 none. -/
  meas : Nat
  t1 : Nat
  /-- the boot ROM enables this port when its measurement passes (R258). -/
  bootEnable : Bool
  /-- ramp of the mark in progress: target and step time. -/
  ramp : Option (Nat × Nat)
  exch : Option Exch
  door : Option Nat
  cq : List CqEntry
  /-- run conditions failed since the last exchange: resynchronise first (R260). -/
  resync : Bool
  /-- ignoring the line until it has been idle for GAP (R263). -/
  ignoring : Bool
  /-- the line has not yet held mark for 11 bit times since the enable or the line's return (R246). -/
  txWait : Bool
  /-- a target's line has been below 12 V for 1 ms and has not returned (R247). -/
  lineGone : Bool
  /-- target answer waiting for TDLY: bytes and the result code to report. -/
  answer : Option (List Byte × Nat)
  /-- CORE reset: halt at the end of the exchange (R60). -/
  haltAfter : Bool
  /-- bytes last sent on the line. -/
  sentBytes : List Byte
  ledger : Ledger
  /-- the mode has changed during the running measurement, whose PASS then allows no enable (R248). -/
  measVoid : Bool
  /-- after an accepted telegram, before the line has been idle for GAP: characters are junk (R263). -/
  junk : Bool
  /-- baud code of the last exchange as master: 300 × 2^code (R265). -/
  baud : Nat
  /-- an entry has left the completion queue, so an empty queue no longer reads Cold. -/
  cqUsed : Bool
  deriving DecidableEq, Repr

/-- A committed window command. -/
structure HostCmd where
  code : Byte
  seq : Byte
  quiet : Bool
  payload : List Byte
  deriving DecidableEq, Repr

/-- The response slot of a window (R285). -/
structure Resp where
  code : Byte
  seq : Byte
  result : Nat
  data : List Byte
  deriving DecidableEq, Repr

/-- One host window beside its registers (R286). -/
structure Win where
  /-- committed commands that have not completed, oldest first (R284). -/
  queue : List HostCmd
  lseq : Byte
  cseq : Byte
  cres : Nat
  lvalid : Bool
  done : Bool
  resetSeen : Bool
  lenExcess : Bool
  busy : Bool
  crcErr : Bool
  fmtErr : Bool
  slot : Option Resp
  deriving DecidableEq, Repr

/-- A command presented at an execution port (R296). -/
structure Presented where
  win : Fin 4
  cmd : HostCmd
  payIdx : Nat
  rdat : List Word
  deriving DecidableEq, Repr

/-- HOST beside its registers. -/
structure HostSt where
  wins : Vector Win 4
  kernel : Option Presented
  svc : Vector (Option Presented) 4
  /-- the window whose turn is next at the kernel port (R284). -/
  turn : Fin 4
  /-- bytes last returned on TW0 and TW1. -/
  twOut : Vector (List Byte) 2
  /-- ACK (true) or NACK of each byte of the last write transfer, address byte included. -/
  twAcks : Vector (List Bool) 2
  /-- answers last sent on U0 to U2 as windows. -/
  uartOut : Vector (List Byte) 3
  /-- the BAUD of each window's descriptor, which a CORE reset compares (R276). -/
  baud : Vector Nat 4
  deriving DecidableEq, Repr

/-- A received UART character (R307, R308). -/
structure RxEntry where
  data : BitVec 9
  pe : Bool
  fe : Bool
  brk : Bool
  nz : Bool
  ovw : Bool
  deriving DecidableEq, Repr

/-- One framer beside its registers. -/
structure UartSt where
  rx : List RxEntry
  tx : List (BitVec 9)
  /-- the transmit shift register. -/
  shift : Option (BitVec 9)
  /-- after FE: no start edge until the line reads 1 (R307). -/
  waitHigh : Bool
  /-- CFG when the character in the shift register started (R310). -/
  shiftCfg : Nat
  /-- the character last sent. -/
  lastTx : Option (BitVec 9)
  /-- the pin levels it was sent with, each with its length in half bits (R303). -/
  lastFrame : List (Bool × Nat)
  /-- the settings of CFG that writes since the last received character have replaced, newest first (R310). -/
  rxOld : List Nat
  /-- a character has been received since the framer left Cold. -/
  used : Bool
  deriving DecidableEq, Repr

/-- A result FIFO entry of the ADC (R319). -/
structure AdcEntry where
  code : BitVec 14
  slot : Nat
  win : Bool
  probe : Bool
  clip : Bool
  deriving DecidableEq, Repr

/-- The settings a slot started with (R321). -/
structure SlotCfg where
  input : Nat
  probe : Bool
  avg : Nat
  fifo : Bool
  wmode : Nat
  lo : Nat
  hi : Nat
  /-- AIN's range bit. -/
  range : Bool
  /-- the probe DAC's code, which a probe slot keeps from its start. -/
  dac : Nat
  deriving DecidableEq, Repr

/-- The ADC beside its registers. -/
structure AdcSt where
  fifo : List AdcEntry
  cfg : SlotCfg
  /-- the last slot of the sequence in progress (R321). -/
  last : Nat
  /-- the factory attenuator trims in force: rows 40 to 63 as the last reset of the island loaded them (R324); none
  while D3 has not been powered. -/
  atten : List Word
  /-- an entry has left the FIFO, so an empty FIFO no longer reads Cold. -/
  used : Bool
  deriving DecidableEq, Repr

/-- Reached and left counters of one THERM threshold (R330). -/
structure ThrSt where
  above : Nat
  below : Nat
  deriving DecidableEq, Repr

/-- THERM beside its registers. -/
structure ThermSt where
  suspRun : Vector Nat 8
  /-- T_J of past scans, newest first, at most 16. -/
  hist : List Int
  warn : ThrSt
  throttle : ThrSt
  lull : ThrSt
  deriving DecidableEq, Repr

/-- An event FIFO entry of BAK (R343). -/
structure EvEntry where
  stamp : BitVec 48
  input : Nat
  rising : Bool
  marker : Bool
  count : Nat
  deriving DecidableEq, Repr

/-- BAK beside its registers. -/
structure BakSt where
  tick : BitVec 48
  /-- the trim accumulator (R339). -/
  acc : Int
  tickhLatch : Vector (BitVec 16) 16
  evf1Latch : Vector Word 16
  fifo : List EvEntry
  wdRun : Bool
  /-- untrimmed ticks since the last kick or start (R346). -/
  wdCount : Nat
  /-- D0 has powered up since the previous COLD (R347). -/
  fresh : Bool
  /-- the window whose RESET the LULL snapshot records (R292, R348). -/
  lullWin : Option (Fin 4)
  /-- an entry has left the event FIFO, so an empty FIFO no longer reads Cold. -/
  evUsed : Bool
  deriving DecidableEq, Repr

/-- One PWM channel beside its registers. -/
structure PwmSt where
  /-- values in force; the registers hold the shadow (R352). -/
  per : Nat
  dutyI : Nat
  dfrac : Nat
  /-- periods the open window has run (R356). -/
  win : Option Nat
  deriving DecidableEq, Repr

/-- The four memories and stores of words, all in the canonical form of Machine/Ops.lean. -/
structure MemSt where
  /-- SRAM, NV flash and backup RAM, by absolute address. -/
  cells : List Host.Cell
  /-- status of each flash granule (R159), by granule address. -/
  gran : List (Nat × Nat)
  /-- the external NOR flash, by offset. -/
  ext : List Host.Cell
  /-- OTP rows (R63). -/
  otp : List (Nat × Nat)
  /-- check status of the SECDED rows. -/
  otpEcc : List (Nat × Nat)
  deriving DecidableEq, Repr

/-- The model's own: what the pins present to the commands that read them and carry no operand for it (log entry 70).
Each such command reads them as they stand and leaves free values in them. -/
structure PinSt where
  vinMv : Nat
  vsysMv : Nat
  vstorMv : Nat
  /-- the external flash is powered: VIO is present (R363). -/
  vio : Bool
  /-- the next cycle of the 32 kHz clocks is one of the internal RC, not of the crystal (R338). -/
  rcCycle : Bool
  deriving DecidableEq, Repr

/-- The machine. -/
structure State where
  /-- commands waiting, first in first out. -/
  pending : List Instr
  /-- register fields that differ from their Cold value, by field key (address × 32 + low bit). -/
  regs : List (Nat × Nat)
  mem : MemSt
  core : Core
  pwr : PowerSt
  nvc : Nvc
  sw : Vector SwSt 6
  store : StoreSt
  seq : SeqSt
  port : Vector PortSt 2
  host : HostSt
  uart : Vector UartSt 5
  adc : AdcSt
  therm : ThermSt
  bak : BakSt
  pwm : Vector PwmSt 6
  /-- the model's own counter: argument of the free values of Config. -/
  free : Nat
  pins : PinSt
  deriving DecidableEq, Repr

/-- Reasons the machine stops in a fault. Every fault of the device is an architectural entry (R147) and so a next
state; the model itself raises none. -/
inductive Fault where
  /-- Raised by no meaning: the device has no stop of its own (a SQUALL is a next state, R154). Safe. -/
  | halted
  deriving DecidableEq, Repr

/-- Reasons the model refuses a command. -/
inductive Refusal where
  /-- Raised by an arm of `exec` whose command has no meaning yet. Safe. -/
  | notModelled (mnemonic : String)
  deriving DecidableEq, Repr

/-- A thread at Cold: HALTED at ring 3, LVL 7 (R89, R85). -/
def Thread.cold : Thread where
  g := Vector.replicate 16 0
  pc := 0
  psw := 0x37
  st := .halted
  pend := 0
  scr := 0
  icnt := 0
  wmask := 0
  fsUsed := Vector.replicate 3 0
  stall := none
  yielding := false
  lateDomoff := []
  divAt := none

/-- T0 at Cold: READY at ring 0, LVL 7 (R88, R89). -/
def Thread.cold0 : Thread := { Thread.cold with psw := 0x07, st := .ready }

/-- The core at Cold (R60; ring registers of spec/06_rings_faults_events.md). -/
def Core.cold : Core where
  threads := (Vector.replicate 16 Thread.cold).set 0 Thread.cold0
  rr := Vector.replicate 4 0
  sb := []
  latch := []
  ibuf := none
  dbuf := none
  fstop := #v[0x200C0000, 0, 0]
  fslim := #v[0x200BE000, 0, 0]
  vbase := 0x200B8000
  gbase := Vector.replicate 4 0
  flvl := 6
  gale := none
  gmHold := 0
  raised := 0
  eddyHeld := false
  eddySeen := false
  squall := false
  awake := true
  fenceP := Vector.replicate 2 false

def Nvc.cold : Nvc := ⟨none, none, none, false, false, false, false⟩

def SwSt.cold : SwSt where
  ss := false
  ramp := none
  lockRun := 0
  satRun := 0
  yieldLen := 0
  yieldQuiet := 0
  contRun := 0
  skipping := false
  ssTrips := 0
  tripped := false
  cleanRun := 0
  restart := false
  vsysStop := false
  ovpHold := false
  readd := 0
  dis := false
  phase := 0
  relock := none
  lgPulse := false
  mateNext := false
  fell := false

/-- CHG.STAT.ZONE is 3 (NORMAL) at Cold. -/
def NtcSt.cold : NtcSt := ⟨3, 3, 0⟩

def StoreSt.cold : StoreSt where
  diodeOn := true
  fault := 0
  short := false
  vbakCoin := false
  testDue := false
  cutHold := false
  coldAfter := false
  ntc0 := NtcSt.cold
  ntc1 := NtcSt.cold
  presence := 0

def SeqSt.cold : SeqSt := ⟨[], 0, 0, 0, 0⟩

def Ledger.cold : Ledger := ⟨[], 0, 0, none, 0, 0, 0⟩

def PortSt.cold : PortSt where
  meas := 0
  t1 := 0
  bootEnable := false
  ramp := none
  exch := none
  door := none
  cq := []
  resync := true
  ignoring := false
  txWait := true
  lineGone := false
  answer := none
  haltAfter := false
  sentBytes := []
  ledger := Ledger.cold
  measVoid := false
  junk := false
  baud := 0
  cqUsed := false

/-- A window at Cold: four credits and RESET_SEEN (HOST.WSTATw Cold 0x0024_0000). -/
def Win.cold : Win where
  queue := []
  lseq := 0
  cseq := 0
  cres := 0
  lvalid := false
  done := false
  resetSeen := true
  lenExcess := false
  busy := false
  crcErr := false
  fmtErr := false
  slot := none

def HostSt.cold : HostSt where
  wins := Vector.replicate 4 Win.cold
  kernel := none
  svc := Vector.replicate 4 none
  turn := 0
  twOut := Vector.replicate 2 []
  twAcks := Vector.replicate 2 []
  uartOut := Vector.replicate 3 []
  baud := Vector.replicate 4 0

def UartSt.cold : UartSt := ⟨[], [], none, false, 0, none, [], [], false⟩

def SlotCfg.cold : SlotCfg := ⟨0x32, false, 0, false, 0, 0, 0, false, 0⟩

def AdcSt.cold : AdcSt := ⟨[], SlotCfg.cold, 0, [], false⟩

def ThermSt.cold : ThermSt := ⟨Vector.replicate 8 0, [], ⟨0, 0⟩, ⟨0, 0⟩, ⟨0, 0⟩⟩

def BakSt.cold : BakSt where
  tick := 0
  acc := 0
  tickhLatch := Vector.replicate 16 0
  evf1Latch := Vector.replicate 16 0
  fifo := []
  wdRun := false
  wdCount := 0
  fresh := false
  lullWin := none
  evUsed := false

def PwmSt.cold : PwmSt := ⟨0xFFFF, 0, 0, none⟩

def PowerSt.cold : PowerSt where
  state := .run
  coreHeld := true
  otpOk := true
  inEntry := false
  sealPass := false
  portsOff := false
  booted := false
  rstLow := false
  stop := .none
  endSys := false
  sysDue := false
  lulled := false
  earlyDone := true
  fllGood := 0
  fllEver := false
  fllFrozen := false
  fllTrim := 0
  wake48 := false
  otpBusy := none
  qspi := none

/-- The machine right after a COLD reset of a new board fed from VIN, at the moment T0 is about to fetch its first
boot ROM instruction: wired OTP bits delivered (a blank array), main oscillator stable, D0, D1 and D2 at power-good.
The two register fields listed are SYS.RSTCAUSE.COLD_VIN and BAKLOST (R347); every other register is at its Cold
value and the memories list nothing. -/
def State.reset : State where
  pending := []
  regs := [(0x40000004 * 32 + 0, 1), (0x40000004 * 32 + 9, 1)]
  mem := ⟨[], [], [], [], []⟩
  core := Core.cold
  pwr := PowerSt.cold
  nvc := Nvc.cold
  sw := Vector.replicate 6 SwSt.cold
  store := StoreSt.cold
  seq := SeqSt.cold
  port := Vector.replicate 2 PortSt.cold
  host := HostSt.cold
  uart := Vector.replicate 5 UartSt.cold
  adc := AdcSt.cold
  therm := ThermSt.cold
  bak := BakSt.cold
  pwm := Vector.replicate 6 PwmSt.cold
  free := 0
  pins := ⟨0, 0, 0, true, false⟩

end Sys2Proof.Machine
end

