-- ==== Sys2Proof/Machine/RegMap.lean ====
section
/-!
DEFINITION. The register map: every field of the manual's field tables (and of its registers given inline), with its
access kind, Ring column, Cold value, reserved encodings and governing LOCK bit, window by window (R6, R12 to R14,
R41). Bits no field lists are reserved: they read 0 and a write does not change them (R11).
-/

namespace Sys2Proof.Machine

/-- Access kinds (R12). `stk` is a LOCK-like bit: a write of 1 sets it and a write of 0 is ignored once it is set.
`w1cAll` clears the whole field on a write with any bit at 1. `view` marks a field computed from other state. -/
inductive Kind where
  | rw | ro | w1c | wo | lk | stk | w1cAll | view
  deriving DecidableEq, Repr

/-- The encodings a field takes; any other is reserved (R10). -/
inductive Legal where
  | any
  | range (lo hi : Nat)
  /-- UVACT and OVACT of VSTOR and VSYS: 1 and 3 are reserved (R228). -/
  | noneOf1
  /-- the INPUT codes of R317. -/
  | adcInput
  /-- BAK.TRIM: a signed 15-bit value within ±8,590 (R339). -/
  | trim
  deriving DecidableEq, Repr

/-- One field of a register: low bit, width, kind, highest writing ring, Cold value, encodings, and the offset and
bit of the LOCK bit that governs it when its kind is LK. -/
structure Field where
  lo : Nat
  width : Nat
  kind : Kind
  ring : Nat
  cold : Nat
  legal : Legal
  lockOff : Nat
  lockBit : Nat
  deriving DecidableEq, Repr

/-- A field's place: register address, low bit, width. -/
structure Fld where
  addr : Nat
  lo : Nat
  width : Nat
  deriving DecidableEq, Repr

/-- The key of a field in `State.regs`. -/
def Fld.key (f : Fld) : Nat := f.addr * 32 + f.lo

/-- Element test of a register array: base, stride, count. -/
def inArray (off base stride n : Nat) : Bool :=
  decide (base ≤ off) && decide (off < base + stride * n) && (off - base) % stride == 0

/-- Fields of the SYS window (spec/02_islands_clocks_states.md, Registers). -/
def sysFields (off : Nat) : List Field :=
  if off == 0x000 then
      [⟨16, 16, .ro, 0, 0x5608, .any, 0x0FC, 0⟩,
       ⟨0, 8, .ro, 0, 0, .any, 0x0FC, 0⟩]
  else if off == 0x004 then
      [⟨0, 1, .w1c, 0, 0, .any, 0x0FC, 0⟩,
       ⟨1, 1, .w1c, 0, 0, .any, 0x0FC, 0⟩,
       ⟨2, 1, .w1c, 0, 0, .any, 0x0FC, 0⟩,
       ⟨3, 1, .w1c, 0, 0, .any, 0x0FC, 0⟩,
       ⟨4, 1, .w1c, 0, 0, .any, 0x0FC, 0⟩,
       ⟨5, 1, .w1c, 0, 0, .any, 0x0FC, 0⟩,
       ⟨6, 2, .ro, 0, 0, .any, 0x0FC, 0⟩,
       ⟨8, 1, .w1c, 0, 0, .any, 0x0FC, 0⟩,
       ⟨9, 1, .w1c, 0, 0, .any, 0x0FC, 0⟩]
  else if off == 0x010 then
      [⟨0, 1, .lk, 0, 0, .any, 0xfc, 0⟩,
       ⟨1, 1, .lk, 0, 0, .any, 0xfc, 0⟩,
       ⟨2, 6, .lk, 0, 2, .range 2 32, 0xfc, 0⟩]
  else if off == 0x014 then
      [⟨0, 1, .ro, 0, 1, .any, 0x0FC, 0⟩,
       ⟨1, 1, .ro, 0, 0, .any, 0x0FC, 0⟩,
       ⟨2, 1, .ro, 0, 0, .any, 0x0FC, 0⟩,
       ⟨3, 1, .w1c, 0, 0, .any, 0x0FC, 0⟩,
       ⟨4, 1, .w1c, 0, 0, .any, 0x0FC, 0⟩]
  else if off == 0x018 then
      [⟨0, 1, .lk, 0, 0, .any, 0xfc, 0⟩,
       ⟨1, 1, .lk, 0, 0, .any, 0xfc, 0⟩,
       ⟨8, 8, .lk, 0, 47, .range 19 239, 0xfc, 0⟩,
       ⟨16, 1, .ro, 0, 0, .any, 0x0FC, 0⟩,
       ⟨17, 1, .w1c, 0, 0, .any, 0x0FC, 0⟩]
  else if off == 0x020 then
      [⟨0, 1, .ro, 0, 1, .any, 0x0FC, 0⟩,
       ⟨1, 1, .ro, 0, 1, .any, 0x0FC, 0⟩,
       ⟨2, 14, .rw, 0, 1, .any, 0x0FC, 0⟩]
  else if off == 0x024 then
      [⟨0, 16, .ro, 0, 7, .any, 0x0FC, 0⟩,
       ⟨16, 1, .w1c, 0, 0, .any, 0x0FC, 0⟩]
  else if off == 0x028 then
      [⟨0, 10, .rw, 0, 0x3ff, .any, 0x0FC, 0⟩,
       ⟨10, 2, .ro, 0, 3, .any, 0x0FC, 0⟩]
  else if off == 0x030 then
      [⟨0, 1, .rw, 0, 0, .any, 0x0FC, 0⟩,
       ⟨8, 6, .ro, 0, 63, .any, 0x0FC, 0⟩]
  else if off == 0x034 then
      [⟨1, 31, .rw, 0, 0, .any, 0x0FC, 0⟩]
  else if off == 0x040 then
      [⟨0, 2, .wo, 0, 0, .any, 0x0FC, 0⟩,
       ⟨8, 8, .wo, 0, 0, .any, 0x0FC, 0⟩,
       ⟨24, 8, .wo, 0, 0, .any, 0x0FC, 0⟩]
  else if off == 0x044 then
      [⟨0, 1, .ro, 0, 0, .any, 0x0FC, 0⟩,
       ⟨1, 1, .w1c, 0, 0, .any, 0x0FC, 0⟩]
  else if off == 0x0FC then
      [⟨0, 1, .stk, 0, 0, .any, 0x0FC, 0⟩]
  else []

/-- Fields of the OTP window (spec/03_otp_and_boot.md, Registers). -/
def otpFields (off : Nat) : List Field :=
  if inArray off 0x000 0x4 4 then
      [⟨0, 32, .ro, 0, 0, .any, 0x0FC, 0⟩]
  else if off == 0x010 then
      [⟨0, 1, .ro, 0, 0, .any, 0x0FC, 0⟩]
  else if inArray off 0x020 0x4 4 then
      [⟨0, 32, .ro, 0, 0, .any, 0x0FC, 0⟩]
  else if off == 0x040 then
      [⟨0, 8, .rw, 0, 0, .any, 0x0FC, 0⟩]
  else if off == 0x044 then
      [⟨0, 32, .ro, 0, 0, .any, 0x0FC, 0⟩]
  else if off == 0x048 then
      [⟨0, 2, .ro, 0, 0, .any, 0x0FC, 0⟩,
       ⟨2, 1, .ro, 0, 0, .any, 0x0FC, 0⟩]
  else if off == 0x04C then
      [⟨0, 32, .rw, 0, 0, .any, 0x0FC, 0⟩]
  else if off == 0x050 then
      [⟨0, 2, .wo, 0, 0, .any, 0x0FC, 0⟩,
       ⟨24, 8, .wo, 0, 0, .any, 0x0FC, 0⟩]
  else if off == 0x054 then
      [⟨0, 1, .ro, 0, 0, .any, 0x0FC, 0⟩,
       ⟨1, 1, .w1c, 0, 0, .any, 0x0FC, 0⟩,
       ⟨2, 1, .w1c, 0, 0, .any, 0x0FC, 0⟩]
  else if off == 0x060 then
      [⟨0, 8, .lk, 0, 0, .any, 0x60, 31⟩,
       ⟨8, 8, .lk, 0, 0, .any, 0x60, 31⟩,
       ⟨16, 2, .lk, 0, 0, .any, 0x60, 31⟩,
       ⟨18, 1, .lk, 0, 0, .any, 0x60, 31⟩,
       ⟨19, 2, .lk, 0, 0, .any, 0x60, 31⟩,
       ⟨21, 1, .lk, 0, 0, .any, 0x60, 31⟩,
       ⟨22, 1, .lk, 0, 0, .any, 0x60, 31⟩,
       ⟨23, 8, .lk, 0, 0, .any, 0x60, 31⟩,
       ⟨31, 1, .stk, 0, 0, .any, 0x0FC, 0⟩]
  else if off == 0x0FC then
      [⟨0, 1, .stk, 0, 0, .any, 0x0FC, 0⟩]
  else []

/-- Fields of the QSPI window (spec/03_otp_and_boot.md, Registers). -/
def qspiFields (off : Nat) : List Field :=
  if off == 0x000 then
      [⟨0, 2, .rw, 0, 0, .any, 0x0FC, 0⟩,
       ⟨4, 4, .rw, 0, 4, .range 1 15, 0x0FC, 0⟩,
       ⟨8, 4, .rw, 0, 0, .any, 0x0FC, 0⟩]
  else if off == 0x004 then
      [⟨0, 24, .rw, 0, 0, .any, 0x0FC, 0⟩]
  else if off == 0x008 then
      [⟨0, 32, .rw, 0, 0, .any, 0x0FC, 0⟩]
  else if off == 0x00C then
      [⟨0, 13, .rw, 0, 0, .any, 0x0FC, 0⟩,
       ⟨31, 1, .wo, 0, 0, .any, 0x0FC, 0⟩]
  else if off == 0x010 then
      [⟨0, 1, .ro, 0, 0, .any, 0x0FC, 0⟩,
       ⟨1, 1, .w1c, 0, 0, .any, 0x0FC, 0⟩,
       ⟨2, 1, .w1c, 0, 0, .any, 0x0FC, 0⟩]
  else []

/-- Fields of the EVT window (spec/04_ramtan_threads_memory.md, Registers). -/
def evtFields (off : Nat) : List Field :=
  if off == 0x000 then
      [⟨0, 16, .view, 0, 0, .any, 0x0FC, 0⟩]
  else if off == 0x004 then
      [⟨0, 16, .view, 0, 0, .any, 0x0FC, 0⟩]
  else if off == 0x008 then
      [⟨0, 16, .view, 0, 0, .any, 0x0FC, 0⟩]
  else if off == 0x010 then
      [⟨0, 32, .wo, 0, 0, .any, 0x0FC, 0⟩]
  else if off == 0x020 then
      [⟨0, 3, .view, 0, 0, .any, 0x0FC, 0⟩,
       ⟨16, 16, .rw, 0, 0, .any, 0x0FC, 0⟩]
  else if inArray off 0x100 0x10 16 then
      [⟨0, 2, .view, 0, 0, .any, 0x0FC, 0⟩,
       ⟨4, 2, .view, 0, 0, .any, 0x0FC, 0⟩,
       ⟨6, 1, .view, 0, 0, .any, 0x0FC, 0⟩]
  else if off == 0x104 then
      [⟨0, 2, .rw, 0, 2, .any, 0x0FC, 0⟩,
       ⟨8, 1, .wo, 0, 0, .any, 0x0FC, 0⟩]
  else if inArray off 0x104 0x10 16 then
      [⟨0, 2, .rw, 0, 0, .any, 0x0FC, 0⟩,
       ⟨8, 1, .wo, 0, 0, .any, 0x0FC, 0⟩]
  else if inArray off 0x108 0x10 16 then
      [⟨0, 32, .view, 0, 0, .any, 0x0FC, 0⟩]
  else if inArray off 0x10C 0x10 16 then
      [⟨0, 32, .view, 0, 0, .any, 0x0FC, 0⟩]
  else if inArray off 0x400 0x4 64 then
      (if 0x404 ≤ off ∧ off ≤ 0x418 then
       [⟨0, 3, .ro, 0, 7, .any, 0x0FC, 0⟩,
       ⟨4, 2, .ro, 0, 3, .any, 0x0FC, 0⟩,
       ⟨8, 4, .rw, 0, 0, .any, 0x0FC, 0⟩]
     else [⟨0, 3, .rw, 0, 0, .any, 0x0FC, 0⟩,
       ⟨4, 2, .rw, 0, 0, .any, 0x0FC, 0⟩,
       ⟨8, 4, .rw, 0, 0, .any, 0x0FC, 0⟩])
  else if inArray off 0x500 0x4 16 then
      [⟨1, 18, .rw, 0, 0, .any, 0x0FC, 0⟩]
  else []

/-- Fields of the PROT window (spec/06_rings_faults_events.md, Registers). -/
def protFields (off : Nat) : List Field :=
  if inArray off 0x000 0x8 4 then
      [⟨0, 4, .lk, 0, 0, .any, 0xfc, 1⟩,
       ⟨8, 24, .lk, 0, 0, .any, 0xfc, 1⟩]
  else if inArray off 0x004 0x8 4 then
      [⟨8, 24, .lk, 0, 0, .any, 0xfc, 1⟩]
  else if off == 0x040 then
      [⟨0, 1, .w1c, 0, 0, .any, 0x0FC, 0⟩,
       ⟨1, 1, .w1c, 0, 0, .any, 0x0FC, 0⟩,
       ⟨2, 1, .w1c, 0, 0, .any, 0x0FC, 0⟩]
  else if off == 0x044 then
      [⟨0, 9, .view, 0, 0, .any, 0x0FC, 0⟩,
       ⟨9, 4, .view, 0, 0, .any, 0x0FC, 0⟩,
       ⟨13, 1, .view, 0, 0, .any, 0x0FC, 0⟩]
  else if off == 0x048 then
      [⟨0, 1, .rw, 0, 1, .any, 0x0FC, 0⟩,
       ⟨1, 1, .stk, 0, 0, .any, 0x0FC, 0⟩]
  else if inArray off 0x080 0x8 4 then
      (if off = 0x080 ∨ off = 0x090 then
       [⟨0, 4, .rw, 0, 7, .any, 0x0FC, 0⟩,
       ⟨8, 24, .rw, 0, 0x200a00, .any, 0x0FC, 0⟩]
     else [⟨0, 4, .rw, 0, 0, .any, 0x0FC, 0⟩,
       ⟨8, 24, .rw, 0, 0, .any, 0x0FC, 0⟩])
  else if inArray off 0x084 0x8 4 then
      (if off = 0x084 ∨ off = 0x094 then [⟨8, 24, .rw, 0, 0x200b7f, .any, 0x0FC, 0⟩] else [⟨8, 24, .rw, 0, 0, .any, 0x0FC, 0⟩])
  else if off == 0x0FC then
      [⟨0, 1, .stk, 0, 0, .any, 0x0FC, 0⟩,
       ⟨1, 1, .stk, 0, 0, .any, 0x0FC, 0⟩]
  else if inArray off 0x100 0x8 16 then
      (if off < 0x108 then
       [⟨0, 4, .lk, 0, 0, .any, 0xfc, 0⟩,
       ⟨8, 24, .lk, 0, 0, .any, 0xfc, 0⟩]
     else [⟨0, 4, .lk, 0, 0, .any, 0xfc, 1⟩,
       ⟨8, 24, .lk, 0, 0, .any, 0xfc, 1⟩])
  else if inArray off 0x104 0x8 16 then
      (if off < 0x108 then
       [⟨8, 24, .lk, 0, 0, .any, 0xfc, 0⟩]
     else [⟨8, 24, .lk, 0, 0, .any, 0xfc, 1⟩])
  else if inArray off 0x200 0x8 16 then
      [⟨0, 4, .rw, 0, 0, .any, 0x0FC, 0⟩,
       ⟨8, 24, .rw, 0, 0, .any, 0x0FC, 0⟩]
  else if inArray off 0x204 0x8 16 then
      [⟨8, 24, .rw, 0, 0, .any, 0x0FC, 0⟩]
  else if inArray off 0x300 0x8 16 then
      [⟨0, 4, .rw, 0, 0, .any, 0x0FC, 0⟩,
       ⟨8, 24, .rw, 0, 0, .any, 0x0FC, 0⟩]
  else if inArray off 0x304 0x8 16 then
      [⟨8, 24, .rw, 0, 0, .any, 0x0FC, 0⟩]
  else if off == 0x600 then
      [⟨0, 16, .ro, 0, 0, .any, 0x0FC, 0⟩]
  else if inArray off 0x700 0x8 16 then
      [⟨0, 32, .ro, 0, 0, .any, 0x0FC, 0⟩]
  else if inArray off 0x704 0x8 16 then
      [⟨0, 32, .ro, 0, 0, .any, 0x0FC, 0⟩]
  else []

/-- Fields of the NVC window (spec/07_nv_memory.md, Registers). -/
def nvcFields (off : Nat) : List Field :=
  if off == 0x000 then
      [⟨0, 1, .rw, 0, 0, .any, 0x0FC, 0⟩,
       ⟨8, 7, .rw, 0, 64, .any, 0x0FC, 0⟩,
       ⟨16, 7, .rw, 0, 0x7d, .range 0 125, 0x0FC, 0⟩]
  else if inArray off 0x010 0x4 4 then
      [⟨0, 32, .lk, 0, 0, .any, 0xfc, 0⟩]
  else if off == 0x020 then
      [⟨0, 7, .lk, 0, 0, .any, 0xfc, 1⟩,
       ⟨8, 7, .lk, 0, 0, .any, 0xfc, 1⟩]
  else if off == 0x024 then
      [⟨0, 32, .rw, 3, 0, .any, 0x0FC, 0⟩]
  else if inArray off 0x030 0x4 4 then
      [⟨0, 32, .rw, 3, 0, .any, 0x0FC, 0⟩]
  else if off == 0x040 then
      [⟨0, 3, .wo, 3, 0, .any, 0x0FC, 0⟩,
       ⟨24, 8, .wo, 3, 0, .any, 0x0FC, 0⟩]
  else if off == 0x044 then
      [⟨0, 1, .ro, 0, 0, .any, 0x0FC, 0⟩,
       ⟨1, 1, .ro, 0, 0, .any, 0x0FC, 0⟩,
       ⟨2, 1, .w1c, 3, 0, .any, 0x0FC, 0⟩,
       ⟨4, 4, .ro, 0, 0, .any, 0x0FC, 0⟩,
       ⟨8, 3, .ro, 0, 0, .any, 0x0FC, 0⟩,
       ⟨16, 7, .ro, 0, 0, .any, 0x0FC, 0⟩]
  else if off == 0x050 then
      [⟨0, 16, .rw, 0, 0, .any, 0x0FC, 0⟩,
       ⟨16, 1, .w1c, 0, 0, .any, 0x0FC, 0⟩,
       ⟨17, 1, .w1c, 2, 0, .any, 0x0FC, 0⟩]
  else if off == 0x054 then
      [⟨0, 32, .ro, 0, 0, .any, 0x0FC, 0⟩]
  else if inArray off 0x060 0x4 4 then
      [⟨0, 32, .ro, 0, 0, .any, 0x0FC, 0⟩]
  else if off == 0x070 then
      [⟨0, 1, .ro, 0, 0, .any, 0x0FC, 0⟩,
       ⟨1, 8, .ro, 0, 0, .any, 0x0FC, 0⟩,
       ⟨9, 1, .ro, 0, 0, .any, 0x0FC, 0⟩,
       ⟨10, 8, .ro, 0, 0, .any, 0x0FC, 0⟩]
  else if off == 0x074 then
      [⟨0, 32, .ro, 0, 0, .any, 0x0FC, 0⟩]
  else if off == 0x078 then
      [⟨0, 32, .ro, 0, 0, .any, 0x0FC, 0⟩]
  else if off == 0x0FC then
      [⟨0, 1, .stk, 0, 0, .any, 0x0FC, 0⟩,
       ⟨1, 1, .stk, 0, 0, .any, 0x0FC, 0⟩]
  else []

/-- Fields of the SW window (spec/08_switching_controllers.md, Registers). -/
def swFields (inst off : Nat) : List Field :=
  if off == 0x000 then
      [⟨0, 1, .rw, 0, 0, .any, 0x0FC, 0⟩,
       ⟨1, 1, .rw, 0, 0, .any, 0x0FC, 0⟩,
       ⟨2, 1, .rw, 0, 0, .any, 0x0FC, 0⟩,
       ⟨5, 1, .rw, 0, 1, .any, 0x0FC, 0⟩,
       ⟨6, 1, .rw, 0, 0, .any, 0x0FC, 0⟩,
       ⟨8, 6, .rw, 0, 0, .any, 0x0FC, 0⟩] ++
      (if inst = 0 ∨ inst = 2 then [⟨3, 1, .lk, 0, 0, .any, 0xfc, 0⟩] else []) ++
      (if inst = 0 then [⟨4, 1, .ro, 0, 0, .any, 0x0FC, 0⟩] else [])
  else if off == 0x004 then
      [⟨0, 11, .rw, 0, 0, .range 0 1250, 0x0FC, 0⟩,
       ⟨16, 11, .ro, 0, 0, .any, 0x0FC, 0⟩,
       ⟨27, 1, .ro, 0, 0, .any, 0x0FC, 0⟩]
  else if off == 0x008 then
      [⟨0, 3, .rw, 0, 2, .any, 0x0FC, 0⟩]
  else if off == 0x00C then
      [⟨0, 6, .lk, 0, 63, .any, 0xfc, 0⟩,
       ⟨8, 7, .lk, 0, 60, .range 0 75, 0xfc, 0⟩,
       ⟨16, 5, .lk, 0, 8, .range 1 31, 0xfc, 0⟩,
       ⟨24, 1, .lk, 0, 0, .any, 0xfc, 0⟩,
       ⟨25, 3, .lk, 0, 3, .any, 0xfc, 0⟩]
  else if off == 0x010 then
      [⟨0, 6, .lk, 0, 8, .range 1 63, 0xfc, 0⟩,
       ⟨8, 4, .lk, 0, 3, .any, 0xfc, 0⟩]
  else if off == 0x014 && inst == 2 then
      [⟨0, 4, .lk, 0, 0, .any, 0xfc, 0⟩]
  else if off == 0x020 then
      [⟨0, 1, .wo, 0, 0, .any, 0x0FC, 0⟩,
       ⟨1, 1, .ro, 0, 0, .any, 0x0FC, 0⟩,
       ⟨4, 3, .ro, 0, 0, .any, 0x0FC, 0⟩,
       ⟨16, 7, .rw, 0, 0, .any, 0x0FC, 0⟩]
  else if off == 0x030 then
      [⟨0, 1, .ro, 0, 0, .any, 0x0FC, 0⟩,
       ⟨1, 1, .ro, 0, 0, .any, 0x0FC, 0⟩,
       ⟨2, 1, .ro, 0, 0, .any, 0x0FC, 0⟩,
       ⟨3, 1, .ro, 0, 0, .any, 0x0FC, 0⟩,
       ⟨4, 1, .w1c, 0, 0, .any, 0x0FC, 0⟩,
       ⟨5, 1, .w1c, 0, 0, .any, 0x0FC, 0⟩,
       ⟨6, 1, .w1c, 0, 0, .any, 0x0FC, 0⟩,
       ⟨7, 1, .w1c, 0, 0, .any, 0x0FC, 0⟩,
       ⟨8, 1, .w1c, 0, 0, .any, 0x0FC, 0⟩,
       ⟨9, 1, .w1c, 0, 0, .any, 0x0FC, 0⟩,
       ⟨10, 3, .ro, 0, 0, .any, 0x0FC, 0⟩,
       ⟨13, 3, .ro, 0, 0, .any, 0x0FC, 0⟩]
  else if off == 0x034 then
      [⟨0, 10, .ro, 0, 0, .any, 0x0FC, 0⟩] ++ (if inst = 0 then [⟨16, 10, .ro, 0, 0, .any, 0x0FC, 0⟩] else [])
  else if off == 0x038 then
      [⟨0, 16, .rw, 0, 0, .any, 0x0FC, 0⟩,
       ⟨16, 16, .rw, 0, 0, .any, 0x0FC, 0⟩]
  else if off == 0x0FC then
      [⟨0, 1, .stk, 0, 0, .any, 0x0FC, 0⟩]
  else []

/-- Fields of the SC window (spec/09_storage_and_charging.md, Registers). -/
def scFields (off : Nat) : List Field :=
  if off == 0x000 then
      [⟨0, 1, .rw, 0, 1, .any, 0x0FC, 0⟩,
       ⟨1, 1, .wo, 0, 0, .any, 0x0FC, 0⟩]
  else if off == 0x004 then
      [⟨0, 8, .lk, 0, 1, .range 0 137, 0xfc, 0⟩,
       ⟨8, 6, .lk, 0, 2, .range 0 38, 0xfc, 0⟩,
       ⟨16, 8, .rw, 0, 0x64, .range 0 200, 0x0FC, 0⟩,
       ⟨24, 8, .rw, 0, 0x73, .range 0 200, 0x0FC, 0⟩]
  else if off == 0x008 then
      [⟨0, 5, .lk, 0, 10, .range 5 30, 0xfc, 0⟩,
       ⟨8, 5, .rw, 0, 10, .range 1 31, 0x0FC, 0⟩]
  else if off == 0x010 then
      [⟨0, 2, .ro, 0, 0, .any, 0x0FC, 0⟩,
       ⟨2, 1, .ro, 0, 0, .any, 0x0FC, 0⟩,
       ⟨3, 1, .ro, 0, 0, .any, 0x0FC, 0⟩,
       ⟨4, 1, .ro, 0, 0, .any, 0x0FC, 0⟩,
       ⟨5, 1, .w1c, 0, 0, .any, 0x0FC, 0⟩,
       ⟨6, 1, .w1c, 0, 0, .any, 0x0FC, 0⟩,
       ⟨7, 1, .w1c, 0, 0, .any, 0x0FC, 0⟩,
       ⟨8, 1, .w1c, 0, 0, .any, 0x0FC, 0⟩]
  else if off == 0x014 then
      [⟨0, 16, .rw, 0, 0, .any, 0x0FC, 0⟩]
  else if off == 0x0FC then
      [⟨0, 1, .stk, 0, 0, .any, 0x0FC, 0⟩]
  else []

/-- Fields of the CHG window (spec/09_storage_and_charging.md, Registers). -/
def chgFields (off : Nat) : List Field :=
  if off == 0x000 then
      [⟨0, 1, .rw, 0, 0, .any, 0x0FC, 0⟩,
       ⟨1, 2, .lk, 0, 0, .range 0 2, 0xfc, 0⟩,
       ⟨3, 1, .rw, 0, 1, .any, 0x0FC, 0⟩,
       ⟨4, 1, .rw, 0, 0, .any, 0x0FC, 0⟩,
       ⟨5, 1, .rw, 0, 0, .any, 0x0FC, 0⟩,
       ⟨8, 1, .wo, 0, 0, .any, 0x0FC, 0⟩]
  else if off == 0x004 then
      [⟨0, 8, .lk, 0, 0xa0, .range 0 220, 0xfc, 0⟩,
       ⟨8, 7, .rw, 0, 20, .range 1 120, 0x0FC, 0⟩,
       ⟨16, 6, .lk, 0, 3, .range 1 63, 0xfc, 0⟩,
       ⟨24, 4, .lk, 0, 10, .any, 0xfc, 0⟩]
  else if off == 0x008 then
      [⟨0, 8, .lk, 0, 0xbe, .any, 0xfc, 0⟩,
       ⟨8, 8, .lk, 0, 0xa6, .any, 0xfc, 0⟩,
       ⟨16, 8, .lk, 0, 84, .any, 0xfc, 0⟩,
       ⟨24, 8, .lk, 0, 66, .any, 0xfc, 0⟩]
  else if off == 0x00C then
      [⟨0, 8, .lk, 0, 60, .range 1 255, 0xfc, 0⟩,
       ⟨8, 8, .lk, 0, 75, .range 0 100, 0xfc, 0⟩]
  else if off == 0x010 then
      [⟨0, 3, .ro, 0, 0, .any, 0x0FC, 0⟩,
       ⟨3, 3, .ro, 0, 3, .any, 0x0FC, 0⟩,
       ⟨6, 1, .ro, 0, 0, .any, 0x0FC, 0⟩,
       ⟨7, 3, .ro, 0, 0, .any, 0x0FC, 0⟩,
       ⟨10, 1, .ro, 0, 0, .any, 0x0FC, 0⟩,
       ⟨11, 1, .ro, 0, 0, .any, 0x0FC, 0⟩,
       ⟨12, 2, .ro, 0, 0, .any, 0x0FC, 0⟩,
       ⟨14, 1, .view, 0, 0, .any, 0x0FC, 0⟩,
       ⟨15, 1, .w1c, 0, 0, .any, 0x0FC, 0⟩,
       ⟨16, 1, .w1c, 0, 0, .any, 0x0FC, 0⟩]
  else if off == 0x014 then
      [⟨0, 8, .ro, 0, 0, .any, 0x0FC, 0⟩,
       ⟨8, 8, .ro, 0, 0, .any, 0x0FC, 0⟩]
  else if off == 0x0FC then
      [⟨0, 1, .stk, 0, 0, .any, 0x0FC, 0⟩]
  else []

/-- Fields of the SEQ window (spec/10_rails_sequencing_supervision.md, Registers). -/
def seqFields (off : Nat) : List Field :=
  if inArray off 0x000 0x4 4 then
      [⟨0, 1, .rw, 0, 0, .any, 0x0FC, 0⟩,
       ⟨1, 1, .rw, 0, 0, .any, 0x0FC, 0⟩,
       ⟨2, 6, .rw, 0, 20, .range 0 50, 0x0FC, 0⟩,
       ⟨8, 1, .ro, 0, 0, .any, 0x0FC, 0⟩,
       ⟨9, 3, .ro, 0, 0, .any, 0x0FC, 0⟩]
  else if inArray off 0x010 0x4 6 then
      [⟨0, 1, .rw, 0, 0, .any, 0x0FC, 0⟩,
       ⟨1, 1, .rw, 0, 0, .any, 0x0FC, 0⟩,
       ⟨2, 3, .rw, 0, 3, .any, 0x0FC, 0⟩,
       ⟨5, 2, .rw, 0, 1, .any, 0x0FC, 0⟩,
       ⟨8, 1, .ro, 0, 0, .any, 0x0FC, 0⟩,
       ⟨9, 3, .ro, 0, 0, .any, 0x0FC, 0⟩]
  else if inArray off 0x040 0x4 20 then
      (if 0x088 ≤ off then
       [⟨0, 5, .lk, 0, 8, .range 4 16, 0xfc, 0⟩,
       ⟨8, 5, .lk, 0, 8, .range 4 16, 0xfc, 0⟩,
       ⟨16, 2, .lk, 0, 0, .any, 0xfc, 0⟩,
       ⟨18, 2, .lk, 0, 1, .any, 0xfc, 0⟩,
       ⟨20, 2, .lk, 0, 0, .noneOf1, 0xfc, 0⟩,
       ⟨22, 2, .lk, 0, 0, .noneOf1, 0xfc, 0⟩]
     else [⟨0, 5, .lk, 0, 8, .range 4 16, 0xfc, 0⟩,
       ⟨8, 5, .lk, 0, 8, .range 4 16, 0xfc, 0⟩,
       ⟨16, 2, .lk, 0, 0, .any, 0xfc, 0⟩,
       ⟨18, 2, .lk, 0, 1, .any, 0xfc, 0⟩,
       ⟨20, 2, .lk, 0, 0, .range 0 2, 0xfc, 0⟩,
       ⟨22, 2, .lk, 0, 0, .range 0 2, 0xfc, 0⟩])
  else if off == 0x100 then
      [⟨1, 20, .ro, 0, 0, .any, 0x0FC, 0⟩]
  else if off == 0x104 then
      [⟨1, 20, .w1c, 0, 0, .any, 0x0FC, 0⟩]
  else if off == 0x108 then
      [⟨1, 20, .w1c, 0, 0, .any, 0x0FC, 0⟩]
  else if off == 0x10C then
      [⟨0, 8, .lk, 0, 80, .range 0 160, 0xfc, 0⟩,
       ⟨16, 8, .lk, 0, 0xa0, .range 0 225, 0xfc, 0⟩]
  else if off == 0x110 then
      [⟨1, 18, .w1c, 0, 0, .any, 0x0FC, 0⟩]
  else if off == 0x114 then
      [⟨0, 1, .w1c, 0, 0, .any, 0x0FC, 0⟩]
  else if inArray off 0x120 0x4 3 then
      [⟨0, 30, .view, 0, 0, .any, 0x0FC, 0⟩]
  else if off == 0x12C then
      [⟨0, 5, .view, 0, 0, .any, 0x0FC, 0⟩]
  else if off == 0x140 then
      [⟨0, 8, .lk, 0, 40, .range 5 200, 0xfc, 0⟩,
       ⟨8, 8, .lk, 0, 10, .range 0 100, 0xfc, 0⟩,
       ⟨16, 8, .lk, 0, 10, .range 1 100, 0xfc, 0⟩]
  else if off == 0x144 then
      [⟨0, 1, .wo, 0, 0, .any, 0x0FC, 0⟩,
       ⟨1, 1, .wo, 0, 0, .any, 0x0FC, 0⟩,
       ⟨24, 8, .wo, 0, 0, .any, 0x0FC, 0⟩]
  else if off == 0x148 then
      [⟨0, 1, .ro, 0, 0, .any, 0x0FC, 0⟩,
       ⟨1, 3, .ro, 0, 0, .any, 0x0FC, 0⟩,
       ⟨4, 3, .ro, 0, 0, .any, 0x0FC, 0⟩,
       ⟨7, 1, .ro, 0, 0, .any, 0x0FC, 0⟩,
       ⟨8, 8, .ro, 0, 0, .any, 0x0FC, 0⟩]
  else if off == 0x0FC then
      [⟨0, 1, .stk, 0, 0, .any, 0x0FC, 0⟩]
  else []

/-- Fields of the P window (spec/11_bus_ports_power_ledger.md, Registers). -/
def pFields (inst off : Nat) : List Field :=
  if off == 0x000 then
      [⟨0, 1, .ro, 0, 0, .any, 0x0FC, 0⟩,
       ⟨1, 2, .rw, 0, 0, .range 0 1, 0x0FC, 0⟩,
       ⟨3, 1, .rw, 0, 1, .any, 0x0FC, 0⟩,
       ⟨4, 1, .rw, 0, 0, .any, 0x0FC, 0⟩]
  else if off == 0x004 then
      [⟨0, 8, .rw, 0, 0x78, .range 0 180, 0x0FC, 0⟩,
       ⟨8, 4, .rw, 0, 4, .range 0 8, 0x0FC, 0⟩,
       ⟨12, 3, .rw, 0, 2, .range 0 5, 0x0FC, 0⟩,
       ⟨16, 8, .rw, 0, 0x64, .range 20 150, 0x0FC, 0⟩]
  else if off == 0x008 then
      [⟨0, 2, .rw, 0, 0, .any, 0x0FC, 0⟩,
       ⟨4, 4, .rw, 0, 4, .range 0 9, 0x0FC, 0⟩,
       ⟨8, 4, .rw, 0, 4, .range 0 8, 0x0FC, 0⟩,
       ⟨16, 5, .rw, 0, 6, .range 0 12, 0x0FC, 0⟩]
  else if off == 0x00C then
      [⟨0, 4, .rw, 0, 4, .range 0 10, 0x0FC, 0⟩,
       ⟨16, 9, .rw, 0, 0x100, .range 1 256, 0x0FC, 0⟩]
  else if off == 0x010 then
      [⟨0, 8, .lk, 0, 0x96, .range 10 255, 0xfc, 0⟩,
       ⟨8, 5, .lk, 0, 20, .range 5 31, 0xfc, 0⟩,
       ⟨16, 7, .lk, 0, 0x64, .range 10 127, 0xfc, 0⟩,
       ⟨24, 4, .lk, 0, 3, .any, 0xfc, 0⟩]
  else if off == 0x014 then
      [⟨0, 6, .lk, 0, 42, .range 0 42, 0xfc, 0⟩]
  else if off == 0x020 then
      [⟨0, 1, .wo, 0, 0, .any, 0x0FC, 0⟩,
       ⟨1, 1, .ro, 0, 0, .any, 0x0FC, 0⟩,
       ⟨2, 3, .ro, 0, 0, .any, 0x0FC, 0⟩,
       ⟨5, 1, .ro, 0, 0, .any, 0x0FC, 0⟩,
       ⟨6, 1, .w1c, 0, 0, .any, 0x0FC, 0⟩,
       ⟨16, 16, .ro, 0, 0, .any, 0x0FC, 0⟩]
  else if off == 0x024 then
      [⟨0, 16, .ro, 0, 0, .any, 0x0FC, 0⟩,
       ⟨16, 16, .ro, 0, 0, .any, 0x0FC, 0⟩]
  else if off == 0x028 then
      [⟨0, 1, .wo, 0, 0, .any, 0x0FC, 0⟩,
       ⟨1, 1, .ro, 0, 0, .any, 0x0FC, 0⟩,
       ⟨2, 3, .ro, 0, 0, .any, 0x0FC, 0⟩,
       ⟨16, 9, .ro, 0, 0, .any, 0x0FC, 0⟩]
  else if off == 0x02C then
      [⟨0, 16, .rw, 0, 0, .any, 0x0FC, 0⟩]
  else if off == 0x030 then
      [⟨0, 1, .ro, 0, 0, .any, 0x0FC, 0⟩,
       ⟨1, 1, .ro, 0, 0, .any, 0x0FC, 0⟩,
       ⟨2, 1, .ro, 0, 0, .any, 0x0FC, 0⟩,
       ⟨3, 1, .w1c, 0, 0, .any, 0x0FC, 0⟩,
       ⟨4, 3, .ro, 0, 0, .any, 0x0FC, 0⟩,
       ⟨7, 1, .w1c, 0, 0, .any, 0x0FC, 0⟩,
       ⟨8, 1, .w1c, 0, 0, .any, 0x0FC, 0⟩,
       ⟨9, 1, .w1c, 0, 0, .any, 0x0FC, 0⟩,
       ⟨10, 1, .w1c, 0, 0, .any, 0x0FC, 0⟩,
       ⟨11, 3, .ro, 0, 0, .any, 0x0FC, 0⟩,
       ⟨14, 1, .w1c, 0, 0, .any, 0x0FC, 0⟩,
       ⟨15, 1, .ro, 0, 0, .any, 0x0FC, 0⟩,
       ⟨16, 1, .w1c, 0, 0, .any, 0x0FC, 0⟩]
  else if off == 0x034 then
      [⟨0, 16, .view, 0, 0, .any, 0x0FC, 0⟩,
       ⟨16, 16, .view, 0, 0, .any, 0x0FC, 0⟩]
  else if off == 0x038 then
      [⟨0, 16, .view, 0, 0, .any, 0x0FC, 0⟩,
       ⟨16, 16, .view, 0, 0, .any, 0x0FC, 0⟩]
  else if off == 0x03C then
      [⟨0, 16, .rw, 0, 0, .any, 0x0FC, 0⟩,
       ⟨16, 16, .rw, 0, 0, .any, 0x0FC, 0⟩]
  else if off == 0x0FC then
      [⟨0, 1, .stk, 0, 0, .any, 0x0FC, 0⟩]
  else if off == 0x100 then
      [⟨0, 1, .rw, 0, 0, .any, 0x0FC, 0⟩]
  else if off == 0x104 then
      [⟨0, 8, .rw, 0, 33, .range 11 255, 0x0FC, 0⟩,
       ⟨8, 8, .rw, 0, 11, .range 11 255, 0x0FC, 0⟩,
       ⟨16, 10, .rw, 0, 50, .range 0 1000, 0x0FC, 0⟩]
  else if off == 0x108 then
      [⟨0, 9, .wo, 1, 0, .any, 0x0FC, 0⟩,
       ⟨31, 1, .ro, 0, 0, .any, 0x0FC, 0⟩]
  else if off == 0x10C then
      [⟨0, 9, .ro, 0, 0, .any, 0x0FC, 0⟩,
       ⟨15, 1, .ro, 0, 0, .any, 0x0FC, 0⟩]
  else if off == 0x110 then
      [⟨0, 9, .view, 0, 0, .any, 0x0FC, 0⟩,
       ⟨9, 1, .view, 0, 0, .any, 0x0FC, 0⟩,
       ⟨16, 8, .view, 0, 0, .any, 0x0FC, 0⟩,
       ⟨31, 1, .view, 0, 0, .any, 0x0FC, 0⟩]
  else if off == 0x114 then
      [⟨0, 1, .w1c, 1, 0, .any, 0x0FC, 0⟩,
       ⟨1, 1, .w1c, 1, 0, .any, 0x0FC, 0⟩,
       ⟨2, 1, .w1c, 1, 0, .any, 0x0FC, 0⟩,
       ⟨8, 5, .view, 0, 0, .any, 0x0FC, 0⟩]
  else if off == 0x118 then
      [⟨0, 16, .rw, 0, 0, .any, 0x0FC, 0⟩,
       ⟨16, 16, .rw, 0, 0, .any, 0x0FC, 0⟩]
  else if off == 0x11C then
      [⟨0, 16, .rw, 0, 0, .any, 0x0FC, 0⟩]
  else if off == 0x120 then
      [⟨0, 8, .rw, 0, 0, .range 0 250, 0x0FC, 0⟩,
       ⟨8, 8, .rw, 0, 11, .range 11 255, 0x0FC, 0⟩,
       ⟨16, 3, .rw, 0, 3, .any, 0x0FC, 0⟩]
  else if off == 0x124 then
      [⟨0, 2, .rw, 1, 0, .any, 0x0FC, 0⟩,
       ⟨8, 24, .rw, 1, 0, .any, 0x0FC, 0⟩]
  else if off == 0x128 then
      [⟨0, 2, .rw, 1, 0, .any, 0x0FC, 0⟩,
       ⟨8, 24, .rw, 1, 0, .any, 0x0FC, 0⟩]
  else if off == 0x12C then
      [⟨0, 1, .wo, 1, 0, .any, 0x0FC, 0⟩,
       ⟨1, 1, .wo, 1, 0, .any, 0x0FC, 0⟩,
       ⟨8, 1, .ro, 0, 0, .any, 0x0FC, 0⟩,
       ⟨9, 1, .ro, 0, 0, .any, 0x0FC, 0⟩]
  else []

/-- Fields of the HOST window (spec/13_host_windows.md, Registers). -/
def hostFields (off : Nat) : List Field :=
  if inArray off 0x000 0x10 4 then
      [⟨0, 1, .lk, 0, 0, .any, 0xfc, 0⟩,
       ⟨1, 3, .lk, 0, 0, .range 0 4, 0xfc, 0⟩,
       ⟨4, 7, .lk, 0, 0, .any, 0xfc, 0⟩,
       ⟨11, 1, .lk, 0, 0, .any, 0xfc, 0⟩,
       ⟨12, 3, .lk, 0, 0, .any, 0xfc, 0⟩,
       ⟨16, 4, .lk, 0, 0, .any, 0xfc, 0⟩,
       ⟨20, 12, .lk, 0, 0, .any, 0xfc, 0⟩]
  else if inArray off 0x004 0x10 4 then
      [⟨1, 18, .lk, 0, 0, .any, 0xfc, 0⟩]
  else if inArray off 0x008 0x10 4 then
      [⟨0, 32, .lk, 0, 0, .any, 0xfc, 0⟩]
  else if inArray off 0x00C 0x10 4 then
      [⟨0, 32, .lk, 0, 0, .any, 0xfc, 0⟩]
  else if inArray off 0x040 0x4 4 then
      [⟨0, 32, .view, 0, 0x240000, .any, 0x0FC, 0⟩]
  else if off == 0x050 then
      [⟨0, 1, .rw, 0, 0, .any, 0x0FC, 0⟩,
       ⟨1, 1, .rw, 0, 0, .any, 0x0FC, 0⟩]
  else if inArray off 0x060 0x4 4 then
      [⟨0, 16, .rw, 0, 0, .any, 0x0FC, 0⟩,
       ⟨16, 16, .rw, 0, 0, .any, 0x0FC, 0⟩]
  else if off == 0x0FC then
      [⟨0, 1, .stk, 0, 0, .any, 0x0FC, 0⟩]
  else if off == 0x200 then
      [⟨0, 32, .view, 0, 0, .any, 0x0FC, 0⟩]
  else if off == 0x204 then
      [⟨0, 32, .view, 0, 0, .any, 0x0FC, 0⟩]
  else if off == 0x208 then
      [⟨0, 32, .wo, 0, 0, .any, 0x0FC, 0⟩]
  else if off == 0x20C then
      [⟨0, 4, .wo, 0, 0, .any, 0x0FC, 0⟩,
       ⟨8, 10, .wo, 0, 0, .any, 0x0FC, 0⟩]
  else if inArray off 0x400 0x100 4 then
      [⟨0, 32, .view, 0, 0, .any, 0x0FC, 0⟩]
  else if inArray off 0x404 0x100 4 then
      [⟨0, 32, .view, 0, 0, .any, 0x0FC, 0⟩]
  else if inArray off 0x408 0x100 4 then
      [⟨0, 32, .wo, 3, 0, .any, 0x0FC, 0⟩]
  else if inArray off 0x40C 0x100 4 then
      [⟨0, 4, .wo, 3, 0, .any, 0x0FC, 0⟩,
       ⟨8, 10, .wo, 3, 0, .any, 0x0FC, 0⟩]
  else []

/-- Fields of the TW window (spec/13_host_windows.md, Registers). -/
def twFields (inst off : Nat) : List Field :=
  if off == 0x000 then
      [⟨0, 1, .rw, 0, 0, .any, 0x0FC, 0⟩,
       ⟨1, 1, .rw, 0, 1, .any, 0x0FC, 0⟩]
  else if off == 0x004 then
      [⟨0, 1, .ro, 0, 0, .any, 0x0FC, 0⟩,
       ⟨1, 1, .w1c, 0, 0, .any, 0x0FC, 0⟩,
       ⟨2, 1, .w1c, 0, 0, .any, 0x0FC, 0⟩]
  else if off == 0x008 then
      [⟨0, 16, .rw, 0, 0, .any, 0x0FC, 0⟩,
       ⟨16, 16, .rw, 0, 0, .any, 0x0FC, 0⟩]
  else []

/-- Fields of the U window (spec/14_uarts.md, Registers). -/
def uFields (inst off : Nat) : List Field :=
  if off == 0x000 then
      [⟨0, 4, .rw, 2, 8, .range 5 9, 0x0FC, 0⟩,
       ⟨4, 3, .rw, 2, 0, .range 0 4, 0x0FC, 0⟩,
       ⟨7, 2, .rw, 2, 0, .range 0 2, 0x0FC, 0⟩,
       ⟨9, 1, .rw, 2, 0, .any, 0x0FC, 0⟩,
       ⟨10, 1, .rw, 2, 0, .any, 0x0FC, 0⟩,
       ⟨11, 1, .rw, 2, 0, .any, 0x0FC, 0⟩,
       ⟨12, 1, .rw, 2, 0, .any, 0x0FC, 0⟩,
       ⟨13, 1, .rw, 2, 0, .any, 0x0FC, 0⟩,
       ⟨14, 1, .rw, 2, 0, .any, 0x0FC, 0⟩,
       ⟨15, 1, .rw, 2, 0, .any, 0x0FC, 0⟩]
  else if off == 0x004 then
      [⟨0, 4, .rw, 2, 0, .any, 0x0FC, 0⟩,
       ⟨4, 12, .rw, 2, 0x4e2, .range 1 4095, 0x0FC, 0⟩]
  else if off == 0x008 then
      [⟨0, 9, .view, 2, 0, .any, 0x0FC, 0⟩,
       ⟨9, 1, .view, 0, 0, .any, 0x0FC, 0⟩,
       ⟨10, 1, .view, 0, 0, .any, 0x0FC, 0⟩,
       ⟨11, 1, .view, 0, 0, .any, 0x0FC, 0⟩,
       ⟨12, 1, .view, 0, 0, .any, 0x0FC, 0⟩,
       ⟨13, 1, .view, 0, 0, .any, 0x0FC, 0⟩,
       ⟨31, 1, .view, 0, 0, .any, 0x0FC, 0⟩]
  else if off == 0x00C then
      [⟨0, 5, .view, 0, 0, .any, 0x0FC, 0⟩,
       ⟨8, 5, .view, 0, 0, .any, 0x0FC, 0⟩,
       ⟨16, 1, .view, 0, 1, .any, 0x0FC, 0⟩,
       ⟨17, 1, .ro, 0, 1, .any, 0x0FC, 0⟩,
       ⟨18, 1, .w1c, 2, 0, .any, 0x0FC, 0⟩,
       ⟨19, 1, .w1c, 2, 0, .any, 0x0FC, 0⟩,
       ⟨20, 1, .w1c, 2, 0, .any, 0x0FC, 0⟩,
       ⟨21, 1, .w1c, 2, 0, .any, 0x0FC, 0⟩,
       ⟨22, 1, .w1c, 2, 0, .any, 0x0FC, 0⟩,
       ⟨23, 1, .w1c, 2, 0, .any, 0x0FC, 0⟩,
       ⟨24, 1, .ro, 0, 1, .any, 0x0FC, 0⟩]
  else if off == 0x010 && decide (inst < 3) then
      [⟨0, 5, .rw, 2, 1, .range 1 16, 0x0FC, 0⟩,
       ⟨8, 5, .rw, 2, 0, .range 0 15, 0x0FC, 0⟩,
       ⟨16, 1, .rw, 2, 0, .any, 0x0FC, 0⟩,
       ⟨17, 1, .rw, 2, 0, .any, 0x0FC, 0⟩,
       ⟨18, 1, .rw, 2, 0, .any, 0x0FC, 0⟩,
       ⟨19, 1, .rw, 2, 0, .any, 0x0FC, 0⟩]
  else if off == 0x014 then
      [⟨0, 1, .wo, 2, 0, .any, 0x0FC, 0⟩,
       ⟨1, 1, .wo, 2, 0, .any, 0x0FC, 0⟩,
       ⟨2, 1, .rw, 2, 0, .any, 0x0FC, 0⟩]
  else if off == 0x018 then
      [⟨0, 16, .rw, 0, 0, .any, 0x0FC, 0⟩,
       ⟨16, 16, .rw, 0, 0, .any, 0x0FC, 0⟩]
  else []

/-- Fields of the ADC window (spec/15_adc_and_thermal.md, Registers). -/
def adcFields (off : Nat) : List Field :=
  if off == 0x000 then
      [⟨0, 5, .rw, 1, 0, .any, 0x0FC, 0⟩,
       ⟨8, 1, .rw, 1, 0, .any, 0x0FC, 0⟩,
       ⟨9, 1, .wo, 1, 0, .any, 0x0FC, 0⟩,
       ⟨16, 1, .wo, 1, 0, .any, 0x0FC, 0⟩]
  else if off == 0x004 then
      [⟨0, 1, .ro, 0, 0, .any, 0x0FC, 0⟩,
       ⟨1, 1, .ro, 0, 0, .any, 0x0FC, 0⟩,
       ⟨2, 2, .ro, 0, 0, .any, 0x0FC, 0⟩,
       ⟨4, 2, .ro, 0, 0, .any, 0x0FC, 0⟩,
       ⟨8, 5, .ro, 0, 0, .any, 0x0FC, 0⟩,
       ⟨16, 16, .ro, 0, 0, .any, 0x0FC, 0⟩]
  else if off == 0x008 then
      [⟨0, 10, .rw, 0, 0, .any, 0x0FC, 0⟩,
       ⟨16, 12, .rw, 0, 0, .any, 0x0FC, 0⟩]
  else if off == 0x010 then
      [⟨0, 14, .view, 0, 0, .any, 0x0FC, 0⟩,
       ⟨16, 5, .view, 0, 0, .any, 0x0FC, 0⟩,
       ⟨21, 1, .view, 0, 0, .any, 0x0FC, 0⟩,
       ⟨22, 1, .view, 0, 0, .any, 0x0FC, 0⟩,
       ⟨23, 1, .view, 0, 0, .any, 0x0FC, 0⟩,
       ⟨31, 1, .view, 0, 0, .any, 0x0FC, 0⟩]
  else if off == 0x014 then
      [⟨0, 6, .view, 0, 0, .any, 0x0FC, 0⟩,
       ⟨8, 1, .w1c, 1, 0, .any, 0x0FC, 0⟩,
       ⟨16, 16, .rw, 1, 0, .any, 0x0FC, 0⟩]
  else if off == 0x018 then
      [⟨0, 6, .rw, 1, 16, .range 1 32, 0x0FC, 0⟩]
  else if off == 0x01C then
      [⟨0, 32, .w1c, 1, 0, .any, 0x0FC, 0⟩]
  else if off == 0x020 then
      [⟨0, 10, .rw, 1, 0, .any, 0x0FC, 0⟩]
  else if inArray off 0x100 0x10 32 then
      [⟨0, 6, .rw, 1, 50, .adcInput, 0x0FC, 0⟩,
       ⟨6, 1, .rw, 1, 0, .any, 0x0FC, 0⟩,
       ⟨7, 1, .rw, 1, 0, .any, 0x0FC, 0⟩,
       ⟨8, 3, .rw, 1, 0, .range 0 6, 0x0FC, 0⟩,
       ⟨11, 1, .rw, 1, 0, .any, 0x0FC, 0⟩,
       ⟨12, 2, .rw, 1, 0, .range 0 2, 0x0FC, 0⟩]
  else if inArray off 0x104 0x10 32 then
      [⟨0, 14, .rw, 1, 0, .any, 0x0FC, 0⟩,
       ⟨16, 14, .rw, 1, 0, .any, 0x0FC, 0⟩]
  else if inArray off 0x108 0x10 32 then
      [⟨0, 14, .ro, 0, 0, .any, 0x0FC, 0⟩,
       ⟨15, 1, .ro, 0, 0, .any, 0x0FC, 0⟩,
       ⟨16, 16, .ro, 0, 0, .any, 0x0FC, 0⟩]
  else []

/-- Fields of the THERM window (spec/15_adc_and_thermal.md, Registers). -/
def thermFields (off : Nat) : List Field :=
  if off == 0x000 then
      [⟨0, 1, .rw, 0, 1, .any, 0x0FC, 0⟩]
  else if off == 0x004 then
      [⟨0, 5, .lk, 0, 0, .any, 0xfc, 0⟩,
       ⟨8, 5, .lk, 0, 0, .any, 0xfc, 0⟩,
       ⟨16, 5, .lk, 0, 0, .any, 0xfc, 0⟩]
  else if off == 0x010 then
      [⟨0, 1, .ro, 0, 0, .any, 0x0FC, 0⟩,
       ⟨1, 1, .ro, 0, 0, .any, 0x0FC, 0⟩,
       ⟨2, 1, .ro, 0, 0, .any, 0x0FC, 0⟩,
       ⟨3, 1, .w1c, 0, 0, .any, 0x0FC, 0⟩,
       ⟨4, 1, .ro, 0, 0, .any, 0x0FC, 0⟩,
       ⟨5, 1, .w1c, 0, 0, .any, 0x0FC, 0⟩,
       ⟨6, 1, .w1c, 0, 0, .any, 0x0FC, 0⟩,
       ⟨7, 1, .w1c, 0, 0, .any, 0x0FC, 0⟩,
       ⟨8, 1, .w1c, 0, 0, .any, 0x0FC, 0⟩,
       ⟨9, 2, .ro, 0, 0, .any, 0x0FC, 0⟩]
  else if off == 0x014 then
      [⟨0, 8, .w1c, 0, 0, .any, 0x0FC, 0⟩]
  else if inArray off 0x040 0x4 8 then
      [⟨0, 12, .ro, 0, 0, .any, 0x0FC, 0⟩,
       ⟨16, 1, .ro, 0, 0, .any, 0x0FC, 0⟩]
  else if off == 0x060 then
      [⟨0, 12, .ro, 0, 0, .any, 0x0FC, 0⟩,
       ⟨12, 3, .ro, 0, 0, .any, 0x0FC, 0⟩,
       ⟨16, 16, .ro, 0, 0, .any, 0x0FC, 0⟩]
  else if off == 0x070 then
      [⟨0, 16, .rw, 0, 0, .any, 0x0FC, 0⟩,
       ⟨16, 16, .rw, 0, 0, .any, 0x0FC, 0⟩]
  else if off == 0x0FC then
      [⟨0, 1, .stk, 0, 0, .any, 0x0FC, 0⟩]
  else []

/-- Fields of the BAK window (spec/16_rtc_backup.md, Registers). -/
def bakFields (off : Nat) : List Field :=
  if off == 0x000 then
      [⟨0, 32, .view, 0, 0, .any, 0x0FC, 0⟩]
  else if off == 0x004 then
      [⟨0, 16, .view, 0, 0, .any, 0x0FC, 0⟩]
  else if off == 0x008 then
      [⟨0, 32, .lk, 1, 0, .any, 0xfc, 1⟩]
  else if off == 0x00C then
      [⟨0, 15, .lk, 1, 0, .trim, 0xfc, 1⟩]
  else if off == 0x010 then
      [⟨0, 32, .rw, 1, 0, .any, 0x0FC, 0⟩]
  else if off == 0x014 then
      [⟨0, 16, .rw, 1, 0, .any, 0x0FC, 0⟩,
       ⟨16, 1, .ro, 0, 0, .any, 0x0FC, 0⟩]
  else if off == 0x018 then
      [⟨0, 6, .rw, 1, 12, .range 0 48, 0x0FC, 0⟩,
       ⟨8, 1, .rw, 1, 1, .any, 0x0FC, 0⟩]
  else if off == 0x020 then
      [⟨0, 1, .ro, 0, 0, .any, 0x0FC, 0⟩,
       ⟨1, 1, .ro, 0, 0, .any, 0x0FC, 0⟩,
       ⟨2, 1, .w1c, 1, 0, .any, 0x0FC, 0⟩,
       ⟨3, 1, .w1c, 1, 0, .any, 0x0FC, 0⟩,
       ⟨4, 1, .w1c, 1, 0, .any, 0x0FC, 0⟩,
       ⟨5, 1, .w1c, 1, 0, .any, 0x0FC, 0⟩,
       ⟨6, 1, .w1c, 1, 0, .any, 0x0FC, 0⟩]
  else if off == 0x030 then
      [⟨0, 12, .rw, 1, 0, .any, 0x0FC, 0⟩]
  else if off == 0x034 then
      [⟨0, 8, .rw, 1, 1, .range 1 255, 0x0FC, 0⟩,
       ⟨8, 8, .rw, 1, 1, .range 1 255, 0x0FC, 0⟩,
       ⟨16, 8, .rw, 1, 1, .range 1 255, 0x0FC, 0⟩,
       ⟨24, 8, .rw, 1, 1, .range 1 255, 0x0FC, 0⟩]
  else if off == 0x038 then
      [⟨0, 8, .rw, 1, 1, .range 1 255, 0x0FC, 0⟩,
       ⟨8, 8, .rw, 1, 1, .range 1 255, 0x0FC, 0⟩]
  else if off == 0x040 then
      [⟨0, 32, .view, 0, 0, .any, 0x0FC, 0⟩]
  else if off == 0x044 then
      [⟨0, 32, .view, 0, 0, .any, 0x0FC, 0⟩]
  else if off == 0x048 then
      [⟨0, 5, .view, 0, 0, .any, 0x0FC, 0⟩]
  else if off == 0x050 then
      [⟨0, 8, .lk, 0, 0, .any, 0xfc, 0⟩,
       ⟨8, 2, .lk, 0, 0, .any, 0xfc, 0⟩,
       ⟨10, 1, .lk, 0, 0, .any, 0xfc, 0⟩,
       ⟨11, 1, .lk, 0, 0, .any, 0xfc, 0⟩]
  else if off == 0x054 then
      [⟨24, 8, .wo, 0, 0, .any, 0x0FC, 0⟩]
  else if off == 0x058 then
      [⟨0, 9, .view, 0, 0, .any, 0x0FC, 0⟩]
  else if off == 0x060 then
      [⟨0, 1, .wo, 0, 0, .any, 0x0FC, 0⟩]
  else if off == 0x0FC then
      [⟨0, 1, .stk, 0, 0, .any, 0x0FC, 0⟩,
       ⟨1, 1, .stk, 1, 0, .any, 0x0FC, 0⟩]
  else []

/-- Fields of the PWM window (spec/17_pwm.md, Registers). -/
def pwmFields (off : Nat) : List Field :=
  if inArray off 0x000 0x20 6 then
      [⟨0, 1, .rw, 2, 0, .any, 0x0FC, 0⟩,
       ⟨1, 1, .rw, 2, 1, .any, 0x0FC, 0⟩,
       ⟨2, 2, .lk, 0, 0, .range 0 2, 0xfc, 0⟩,
       ⟨4, 2, .lk, 0, 0, .any, 0xfc, 0⟩,
       ⟨6, 1, .rw, 0, 0, .any, 0x0FC, 0⟩]
  else if inArray off 0x004 0x20 6 then
      [⟨0, 16, .rw, 2, 0xffff, .range 1 65535, 0x0FC, 0⟩]
  else if inArray off 0x008 0x20 6 then
      [⟨0, 4, .rw, 3, 0, .any, 0x0FC, 0⟩,
       ⟨4, 16, .rw, 3, 0, .any, 0x0FC, 0⟩]
  else if inArray off 0x00C 0x20 6 then
      [⟨0, 8, .lk, 0, 1, .range 1 255, 0xfc, 0⟩,
       ⟨8, 16, .lk, 0, 1, .range 1 65535, 0xfc, 0⟩]
  else if inArray off 0x010 0x20 6 then
      [⟨0, 1, .ro, 0, 0, .any, 0x0FC, 0⟩,
       ⟨1, 1, .ro, 0, 0, .any, 0x0FC, 0⟩,
       ⟨2, 1, .w1c, 2, 0, .any, 0x0FC, 0⟩,
       ⟨3, 1, .w1c, 2, 0, .any, 0x0FC, 0⟩,
       ⟨4, 1, .w1c, 2, 0, .any, 0x0FC, 0⟩,
       ⟨5, 8, .ro, 0, 0, .any, 0x0FC, 0⟩]
  else if inArray off 0x014 0x20 6 then
      [⟨0, 16, .rw, 0, 0, .any, 0x0FC, 0⟩]
  else if inArray off 0x018 0x20 6 then
      [⟨0, 16, .ro, 0, 0, .any, 0x0FC, 0⟩,
       ⟨16, 4, .ro, 0, 0, .any, 0x0FC, 0⟩]
  else if off == 0x0C0 then
      [⟨0, 4, .lk, 0, 0, .any, 0xfc, 0⟩,
       ⟨4, 4, .lk, 0, 0, .any, 0xfc, 0⟩,
       ⟨8, 1, .lk, 0, 0, .any, 0xfc, 0⟩,
       ⟨9, 1, .lk, 0, 0, .any, 0xfc, 0⟩,
       ⟨16, 1, .ro, 0, 0, .any, 0x0FC, 0⟩,
       ⟨17, 1, .ro, 0, 0, .any, 0x0FC, 0⟩]
  else if off == 0x0C4 then
      [⟨0, 6, .wo, 2, 0, .any, 0x0FC, 0⟩]
  else if off == 0x0FC then
      [⟨0, 1, .stk, 0, 0, .any, 0x0FC, 0⟩]
  else []

/-- The fields of the register at an address: window index by R41, then the window's table. -/
def fieldsAt (a : Nat) : List Field :=
  if a < 0x40000000 then []
  else
    let w := (a - 0x40000000) / 0x1000
    let off := a % 0x1000
    if w = 0x00 then sysFields off else
    if w = 0x01 then otpFields off else
    if w = 0x26 then qspiFields off else
    if w = 0x04 then evtFields off else
    if w = 0x03 then protFields off else
    if w = 0x02 then nvcFields off else
    if 0x08 ≤ w ∧ w ≤ 0x0D then swFields (w - 0x08) off else
    if w = 0x0E then scFields off else
    if w = 0x0F then chgFields off else
    if w = 0x10 then seqFields off else
    if 0x14 ≤ w ∧ w ≤ 0x15 then pFields (w - 0x14) off else
    if w = 0x18 then hostFields off else
    if 0x19 ≤ w ∧ w ≤ 0x1A then twFields (w - 0x19) off else
    if 0x1C ≤ w ∧ w ≤ 0x20 then uFields (w - 0x1C) off else
    if w = 0x12 then adcFields off else
    if w = 0x11 then thermFields off else
    if w = 0x24 then bakFields off else
    if w = 0x22 then pwmFields off else
    []

/-- The Cold value of the field with this key (0 where no field lies there). -/
def coldOf (key : Nat) : Nat :=
  match (fieldsAt (key / 32)).find? (fun f => f.lo == key % 32) with
  | some f => f.cold
  | none => 0

end Sys2Proof.Machine
end

