-- ==== Sys2Proof/Machine/RegNames.lean ====
section
/-!
DEFINITION. The places of the register fields under the manual's names: ISLAND_REGISTER_FIELD, with the instance
number first where the manual writes SWn, Px, TWn or Un, then the element number of an indexed register.
-/

namespace Sys2Proof.Machine.F

def SYS_ID_PART : Fld := ⟨0x40000000, 16, 16⟩
def SYS_ID_REV : Fld := ⟨0x40000000, 0, 8⟩
def SYS_RSTCAUSE_COLD_VIN : Fld := ⟨0x40000004, 0, 1⟩
def SYS_RSTCAUSE_COLD_VSTOR : Fld := ⟨0x40000004, 1, 1⟩
def SYS_RSTCAUSE_PIN : Fld := ⟨0x40000004, 2, 1⟩
def SYS_RSTCAUSE_SQUALL : Fld := ⟨0x40000004, 3, 1⟩
def SYS_RSTCAUSE_WDOG : Fld := ⟨0x40000004, 4, 1⟩
def SYS_RSTCAUSE_WINRST : Fld := ⟨0x40000004, 5, 1⟩
def SYS_RSTCAUSE_WIN : Fld := ⟨0x40000004, 6, 2⟩
def SYS_RSTCAUSE_CORE : Fld := ⟨0x40000004, 8, 1⟩
def SYS_RSTCAUSE_BAKLOST : Fld := ⟨0x40000004, 9, 1⟩
def SYS_CLKCFG_CSRC : Fld := ⟨0x40000010, 0, 1⟩
def SYS_CLKCFG_PLLEN : Fld := ⟨0x40000010, 1, 1⟩
def SYS_CLKCFG_CDIV : Fld := ⟨0x40000010, 2, 6⟩
def SYS_OSCSTAT_MOSC_OK : Fld := ⟨0x40000014, 0, 1⟩
def SYS_OSCSTAT_FLL_LOCK : Fld := ⟨0x40000014, 1, 1⟩
def SYS_OSCSTAT_PLL_LOCK : Fld := ⟨0x40000014, 2, 1⟩
def SYS_OSCSTAT_XTAL_FAIL : Fld := ⟨0x40000014, 3, 1⟩
def SYS_OSCSTAT_CLKERR : Fld := ⟨0x40000014, 4, 1⟩
def SYS_SYNC_SOEN : Fld := ⟨0x40000018, 0, 1⟩
def SYS_SYNC_SOSEL : Fld := ⟨0x40000018, 1, 1⟩
def SYS_SYNC_ODIV : Fld := ⟨0x40000018, 8, 8⟩
def SYS_SYNC_SIVALID : Fld := ⟨0x40000018, 16, 1⟩
def SYS_SYNC_SILOST : Fld := ⟨0x40000018, 17, 1⟩
def SYS_DOMCTL_D0 : Fld := ⟨0x40000020, 0, 1⟩
def SYS_DOMCTL_D1 : Fld := ⟨0x40000020, 1, 1⟩
def SYS_DOMCTL_DSW : Fld := ⟨0x40000020, 2, 14⟩
def SYS_DOMSTAT_PG : Fld := ⟨0x40000024, 0, 16⟩
def SYS_DOMSTAT_DOMERR : Fld := ⟨0x40000024, 16, 1⟩
def SYS_SRET_BANKSW : Fld := ⟨0x40000028, 0, 10⟩
def SYS_SRET_BANKAON : Fld := ⟨0x40000028, 10, 2⟩
def SYS_PWRCTL_CALM : Fld := ⟨0x40000030, 0, 1⟩
def SYS_PWRCTL_WAKESRC : Fld := ⟨0x40000030, 8, 6⟩
def SYS_WAKEEN_EN : Fld := ⟨0x40000034, 1, 31⟩
def SYS_RSTSTAT_CORE_PEND : Fld := ⟨0x40000044, 0, 1⟩
def SYS_RSTSTAT_ISL_REFUSED : Fld := ⟨0x40000044, 1, 1⟩
def SYS_LOCK_LOCK : Fld := ⟨0x400000FC, 0, 1⟩
def OTP_WIRED_W (k : Nat) : Fld := ⟨0x40001000 + k * 0x4, 0, 32⟩
def OTP_ALARM_ALARM : Fld := ⟨0x40001010, 0, 1⟩
def OTP_VOTEMAP_V (k : Nat) : Fld := ⟨0x40001020 + k * 0x4, 0, 32⟩
def OTP_ROWADDR_ROW : Fld := ⟨0x40001040, 0, 8⟩
def OTP_ROWDATA_DATA : Fld := ⟨0x40001044, 0, 32⟩
def OTP_ROWSTAT_ECC : Fld := ⟨0x40001048, 0, 2⟩
def OTP_ROWSTAT_BLANK : Fld := ⟨0x40001048, 2, 1⟩
def OTP_PROGDATA_DATA : Fld := ⟨0x4000104C, 0, 32⟩
def OTP_STAT_BUSY : Fld := ⟨0x40001054, 0, 1⟩
def OTP_STAT_PERR : Fld := ⟨0x40001054, 1, 1⟩
def OTP_STAT_REFUSED : Fld := ⟨0x40001054, 2, 1⟩
def OTP_BOOT_IMG : Fld := ⟨0x40001060, 0, 8⟩
def OTP_BOOT_SEAL : Fld := ⟨0x40001060, 8, 8⟩
def OTP_BOOT_FINAL : Fld := ⟨0x40001060, 16, 2⟩
def OTP_BOOT_ALARMSEEN : Fld := ⟨0x40001060, 18, 1⟩
def OTP_BOOT_SLOT : Fld := ⟨0x40001060, 19, 2⟩
def OTP_BOOT_FALLBACK : Fld := ⟨0x40001060, 21, 1⟩
def OTP_BOOT_PORTOFF : Fld := ⟨0x40001060, 22, 1⟩
def OTP_BOOT_DIRTYCNT : Fld := ⟨0x40001060, 23, 8⟩
def OTP_BOOT_LOCKB : Fld := ⟨0x40001060, 31, 1⟩
def OTP_LOCK_PLOCK : Fld := ⟨0x400010FC, 0, 1⟩
def QSPI_CFG_CMD : Fld := ⟨0x40026000, 0, 2⟩
def QSPI_CFG_DIV : Fld := ⟨0x40026000, 4, 4⟩
def QSPI_CFG_DUMMY : Fld := ⟨0x40026000, 8, 4⟩
def QSPI_ADDR_ADDR : Fld := ⟨0x40026004, 0, 24⟩
def QSPI_DST_DST : Fld := ⟨0x40026008, 0, 32⟩
def QSPI_CTL_CNT : Fld := ⟨0x4002600C, 0, 13⟩
def QSPI_STAT_BUSY : Fld := ⟨0x40026010, 0, 1⟩
def QSPI_STAT_DONE : Fld := ⟨0x40026010, 1, 1⟩
def QSPI_STAT_DSTERR : Fld := ⟨0x40026010, 2, 1⟩
def EVT_SBSTAT_OVLSTALL : Fld := ⟨0x40004020, 16, 16⟩
def EVT_TCFG_CLASS (k : Nat) : Fld := ⟨0x40004104 + k * 0x10, 0, 2⟩
def EVT_ROUTE_LEVEL (k : Nat) : Fld := ⟨0x40004400 + k * 0x4, 0, 3⟩
def EVT_ROUTE_CLASS (k : Nat) : Fld := ⟨0x40004400 + k * 0x4, 4, 2⟩
def EVT_ROUTE_TARGET (k : Nat) : Fld := ⟨0x40004400 + k * 0x4, 8, 4⟩
def EVT_RPERM_RAILS (k : Nat) : Fld := ⟨0x40004500 + k * 0x4, 1, 18⟩
def PROT_GUARDA_CTL (k : Nat) : Fld := ⟨0x40003000 + k * 0x8, 0, 4⟩
def PROT_GUARDA_BASE (k : Nat) : Fld := ⟨0x40003000 + k * 0x8, 8, 24⟩
def PROT_GUARDB_LAST (k : Nat) : Fld := ⟨0x40003004 + k * 0x8, 8, 24⟩
def PROT_FSTAT_NOVEC : Fld := ⟨0x40003040, 0, 1⟩
def PROT_FSTAT_FSBUSY : Fld := ⟨0x40003040, 1, 1⟩
def PROT_FSTAT_EDDY : Fld := ⟨0x40003040, 2, 1⟩
def PROT_ECFG_EDDYEN : Fld := ⟨0x40003048, 0, 1⟩
def PROT_ECFG_GALEEN : Fld := ⟨0x40003048, 1, 1⟩
def PROT_ENGA_CTL (k : Nat) : Fld := ⟨0x40003080 + k * 0x8, 0, 4⟩
def PROT_ENGA_BASE (k : Nat) : Fld := ⟨0x40003080 + k * 0x8, 8, 24⟩
def PROT_ENGB_LAST (k : Nat) : Fld := ⟨0x40003084 + k * 0x8, 8, 24⟩
def PROT_LOCK_SEAL : Fld := ⟨0x400030FC, 0, 1⟩
def PROT_LOCK_LOCK : Fld := ⟨0x400030FC, 1, 1⟩
def PROT_RGN1A_CTL (k : Nat) : Fld := ⟨0x40003100 + k * 0x8, 0, 4⟩
def PROT_RGN1A_BASE (k : Nat) : Fld := ⟨0x40003100 + k * 0x8, 8, 24⟩
def PROT_RGN1B_LAST (k : Nat) : Fld := ⟨0x40003104 + k * 0x8, 8, 24⟩
def PROT_RGN2A_CTL (k : Nat) : Fld := ⟨0x40003200 + k * 0x8, 0, 4⟩
def PROT_RGN2A_BASE (k : Nat) : Fld := ⟨0x40003200 + k * 0x8, 8, 24⟩
def PROT_RGN2B_LAST (k : Nat) : Fld := ⟨0x40003204 + k * 0x8, 8, 24⟩
def PROT_RGN3A_CTL (k : Nat) : Fld := ⟨0x40003300 + k * 0x8, 0, 4⟩
def PROT_RGN3A_BASE (k : Nat) : Fld := ⟨0x40003300 + k * 0x8, 8, 24⟩
def PROT_RGN3B_LAST (k : Nat) : Fld := ⟨0x40003304 + k * 0x8, 8, 24⟩
def PROT_EDDYTHR_THR : Fld := ⟨0x40003600, 0, 16⟩
def PROT_EDDYML_M (k : Nat) : Fld := ⟨0x40003700 + k * 0x8, 0, 32⟩
def PROT_EDDYMH_M (k : Nat) : Fld := ⟨0x40003704 + k * 0x8, 0, 32⟩
def NVC_CFG_AUTOSUSP : Fld := ⟨0x40002000, 0, 1⟩
def NVC_CFG_LOGFIRST : Fld := ⟨0x40002000, 8, 7⟩
def NVC_CFG_LOGLAST : Fld := ⟨0x40002000, 16, 7⟩
def NVC_PEN_PEN (k : Nat) : Fld := ⟨0x40002010 + k * 0x4, 0, 32⟩
def NVC_SEAL_FIRST : Fld := ⟨0x40002020, 0, 7⟩
def NVC_SEAL_COUNT : Fld := ⟨0x40002020, 8, 7⟩
def NVC_ADDR_ADDR : Fld := ⟨0x40002024, 0, 32⟩
def NVC_DATA_DATA (k : Nat) : Fld := ⟨0x40002030 + k * 0x4, 0, 32⟩
def NVC_STAT_BUSY : Fld := ⟨0x40002044, 0, 1⟩
def NVC_STAT_ESUSP : Fld := ⟨0x40002044, 1, 1⟩
def NVC_STAT_DONE : Fld := ⟨0x40002044, 2, 1⟩
def NVC_STAT_RESULT : Fld := ⟨0x40002044, 4, 4⟩
def NVC_STAT_RSTAT : Fld := ⟨0x40002044, 8, 3⟩
def NVC_STAT_ESECT : Fld := ⟨0x40002044, 16, 7⟩
def NVC_ECCSTAT_CORRCNT : Fld := ⟨0x40002050, 0, 16⟩
def NVC_ECCSTAT_UNCORR : Fld := ⟨0x40002050, 16, 1⟩
def NVC_ECCSTAT_UNREL : Fld := ⟨0x40002050, 17, 1⟩
def NVC_ECCADDR_ADDR : Fld := ⟨0x40002054, 0, 32⟩
def NVC_DIRTY_D (k : Nat) : Fld := ⟨0x40002060 + k * 0x4, 0, 32⟩
def NVC_JSTAT_ACTIVE : Fld := ⟨0x40002070, 0, 1⟩
def NVC_JSTAT_FREE : Fld := ⟨0x40002070, 1, 8⟩
def NVC_JSTAT_MARKV : Fld := ⟨0x40002070, 9, 1⟩
def NVC_JSTAT_JBAD : Fld := ⟨0x40002070, 10, 8⟩
def NVC_JGEN_GEN : Fld := ⟨0x40002074, 0, 32⟩
def NVC_MARKSEQ_SEQ : Fld := ⟨0x40002078, 0, 32⟩
def NVC_LOCK_LOCK : Fld := ⟨0x400020FC, 0, 1⟩
def NVC_LOCK_SLOCK : Fld := ⟨0x400020FC, 1, 1⟩
def SW_CTL_EN (i : Nat) : Fld := ⟨0x40008000 + i * 0x1000, 0, 1⟩
def SW_CTL_DISCH (i : Nat) : Fld := ⟨0x40008000 + i * 0x1000, 1, 1⟩
def SW_CTL_MODE (i : Nat) : Fld := ⟨0x40008000 + i * 0x1000, 2, 1⟩
def SW_CTL_GANG (i : Nat) : Fld := ⟨0x40008000 + i * 0x1000, 3, 1⟩
def SW_CTL_SHED (i : Nat) : Fld := ⟨0x40008000 + i * 0x1000, 4, 1⟩
def SW_CTL_DCINT (i : Nat) : Fld := ⟨0x40008000 + i * 0x1000, 5, 1⟩
def SW_CTL_LOCKEV (i : Nat) : Fld := ⟨0x40008000 + i * 0x1000, 6, 1⟩
def SW_CTL_PHASE (i : Nat) : Fld := ⟨0x40008000 + i * 0x1000, 8, 6⟩
def SW_REF_TARGET (i : Nat) : Fld := ⟨0x40008004 + i * 0x1000, 0, 11⟩
def SW_REF_NOW (i : Nat) : Fld := ⟨0x40008004 + i * 0x1000, 16, 11⟩
def SW_REF_MOVING (i : Nat) : Fld := ⟨0x40008004 + i * 0x1000, 27, 1⟩
def SW_SS_SST (i : Nat) : Fld := ⟨0x40008008 + i * 0x1000, 0, 3⟩
def SW_LIM_FLIM (i : Nat) : Fld := ⟨0x4000800C + i * 0x1000, 0, 6⟩
def SW_LIM_SLIM (i : Nat) : Fld := ⟨0x4000800C + i * 0x1000, 8, 7⟩
def SW_LIM_SLT (i : Nat) : Fld := ⟨0x4000800C + i * 0x1000, 16, 5⟩
def SW_LIM_SLACT (i : Nat) : Fld := ⟨0x4000800C + i * 0x1000, 24, 1⟩
def SW_LIM_RETRY (i : Nat) : Fld := ⟨0x4000800C + i * 0x1000, 25, 3⟩
def SW_INJ_INJG (i : Nat) : Fld := ⟨0x40008010 + i * 0x1000, 0, 6⟩
def SW_INJ_DTMIN (i : Nat) : Fld := ⟨0x40008010 + i * 0x1000, 8, 4⟩
def SW_DROOP_DRG (i : Nat) : Fld := ⟨0x40008014 + i * 0x1000, 0, 4⟩
def SW_CAL_BUSY (i : Nat) : Fld := ⟨0x40008020 + i * 0x1000, 1, 1⟩
def SW_CAL_RESULT (i : Nat) : Fld := ⟨0x40008020 + i * 0x1000, 4, 3⟩
def SW_CAL_CSOFS (i : Nat) : Fld := ⟨0x40008020 + i * 0x1000, 16, 7⟩
def SW_STAT_RUN (i : Nat) : Fld := ⟨0x40008030 + i * 0x1000, 0, 1⟩
def SW_STAT_SSDONE (i : Nat) : Fld := ⟨0x40008030 + i * 0x1000, 1, 1⟩
def SW_STAT_LOCKED (i : Nat) : Fld := ⟨0x40008030 + i * 0x1000, 2, 1⟩
def SW_STAT_YIELD (i : Nat) : Fld := ⟨0x40008030 + i * 0x1000, 3, 1⟩
def SW_STAT_FTRIP (i : Nat) : Fld := ⟨0x40008030 + i * 0x1000, 4, 1⟩
def SW_STAT_SLOW (i : Nat) : Fld := ⟨0x40008030 + i * 0x1000, 5, 1⟩
def SW_STAT_OVP (i : Nat) : Fld := ⟨0x40008030 + i * 0x1000, 6, 1⟩
def SW_STAT_TRIMSAT (i : Nat) : Fld := ⟨0x40008030 + i * 0x1000, 7, 1⟩
def SW_STAT_GANGIGN (i : Nat) : Fld := ⟨0x40008030 + i * 0x1000, 8, 1⟩
def SW_STAT_CFGERR (i : Nat) : Fld := ⟨0x40008030 + i * 0x1000, 9, 1⟩
def SW_STAT_CAUSE (i : Nat) : Fld := ⟨0x40008030 + i * 0x1000, 10, 3⟩
def SW_STAT_RETRIES (i : Nat) : Fld := ⟨0x40008030 + i * 0x1000, 13, 3⟩
def SW_TRIM_PTRIM (i : Nat) : Fld := ⟨0x40008034 + i * 0x1000, 0, 10⟩
def SW_TRIM_BTRIM (i : Nat) : Fld := ⟨0x40008034 + i * 0x1000, 16, 10⟩
def SW_CNT_FTRIPCNT (i : Nat) : Fld := ⟨0x40008038 + i * 0x1000, 0, 16⟩
def SW_CNT_UNLOCKCNT (i : Nat) : Fld := ⟨0x40008038 + i * 0x1000, 16, 16⟩
def SW_LOCK_LOCK (i : Nat) : Fld := ⟨0x400080FC + i * 0x1000, 0, 1⟩
def SC_CTL_REVEN : Fld := ⟨0x4000E000, 0, 1⟩
def SC_REV_VTRIG : Fld := ⟨0x4000E004, 0, 8⟩
def SC_REV_VHOLD : Fld := ⟨0x4000E004, 8, 6⟩
def SC_REV_VCUT : Fld := ⟨0x4000E004, 16, 8⟩
def SC_REV_VLOW : Fld := ⟨0x4000E004, 24, 8⟩
def SC_CFG_ILIM : Fld := ⟨0x4000E008, 0, 5⟩
def SC_CFG_REVEXIT : Fld := ⟨0x4000E008, 8, 5⟩
def SC_STAT_MODE : Fld := ⟨0x4000E010, 0, 2⟩
def SC_STAT_SHORT : Fld := ⟨0x4000E010, 2, 1⟩
def SC_STAT_VSYSUV : Fld := ⟨0x4000E010, 3, 1⟩
def SC_STAT_LIMIT : Fld := ⟨0x4000E010, 4, 1⟩
def SC_STAT_VLOW : Fld := ⟨0x4000E010, 5, 1⟩
def SC_STAT_CUTOFF : Fld := ⟨0x4000E010, 6, 1⟩
def SC_STAT_REVEV : Fld := ⟨0x4000E010, 7, 1⟩
def SC_STAT_STARTUP : Fld := ⟨0x4000E010, 8, 1⟩
def SC_CNT_REVCNT : Fld := ⟨0x4000E014, 0, 16⟩
def SC_LOCK_LOCK : Fld := ⟨0x4000E0FC, 0, 1⟩
def CHG_CTL_EN : Fld := ⟨0x4000F000, 0, 1⟩
def CHG_CTL_PROF : Fld := ⟨0x4000F000, 1, 2⟩
def CHG_CTL_TB0EN : Fld := ⟨0x4000F000, 3, 1⟩
def CHG_CTL_TB1EN : Fld := ⟨0x4000F000, 4, 1⟩
def CHG_CTL_BALEN : Fld := ⟨0x4000F000, 5, 1⟩
def CHG_SET_VREG : Fld := ⟨0x4000F004, 0, 8⟩
def CHG_SET_ICHG : Fld := ⟨0x4000F004, 8, 7⟩
def CHG_SET_ITERM : Fld := ⟨0x4000F004, 16, 6⟩
def CHG_SET_TFAST : Fld := ⟨0x4000F004, 24, 4⟩
def CHG_ZONE_T_COLD : Fld := ⟨0x4000F008, 0, 8⟩
def CHG_ZONE_T_COOL : Fld := ⟨0x4000F008, 8, 8⟩
def CHG_ZONE_T_WARM : Fld := ⟨0x4000F008, 16, 8⟩
def CHG_ZONE_T_HOT : Fld := ⟨0x4000F008, 24, 8⟩
def CHG_TIM_SCSTIME : Fld := ⟨0x4000F00C, 0, 8⟩
def CHG_TIM_VCELLMAX : Fld := ⟨0x4000F00C, 8, 8⟩
def CHG_STAT_STATE : Fld := ⟨0x4000F010, 0, 3⟩
def CHG_STAT_ZONE : Fld := ⟨0x4000F010, 3, 3⟩
def CHG_STAT_ABSENT : Fld := ⟨0x4000F010, 6, 1⟩
def CHG_STAT_FAULT : Fld := ⟨0x4000F010, 7, 3⟩
def CHG_STAT_DPM : Fld := ⟨0x4000F010, 10, 1⟩
def CHG_STAT_CELLOV : Fld := ⟨0x4000F010, 11, 1⟩
def CHG_STAT_BAL : Fld := ⟨0x4000F010, 12, 2⟩
def CHG_STAT_VBSRC : Fld := ⟨0x4000F010, 14, 1⟩
def CHG_STAT_CFGERR : Fld := ⟨0x4000F010, 15, 1⟩
def CHG_STAT_CHGEV : Fld := ⟨0x4000F010, 16, 1⟩
def CHG_TB_M0 : Fld := ⟨0x4000F014, 0, 8⟩
def CHG_TB_M1 : Fld := ⟨0x4000F014, 8, 8⟩
def CHG_LOCK_LOCK : Fld := ⟨0x4000F0FC, 0, 1⟩
def SEQ_LDO_EN (k : Nat) : Fld := ⟨0x40010000 + k * 0x4, 0, 1⟩
def SEQ_LDO_DISCH (k : Nat) : Fld := ⟨0x40010000 + k * 0x4, 1, 1⟩
def SEQ_LDO_VSET (k : Nat) : Fld := ⟨0x40010000 + k * 0x4, 2, 6⟩
def SEQ_LDO_RAMP (k : Nat) : Fld := ⟨0x40010000 + k * 0x4, 8, 1⟩
def SEQ_LDO_CAUSE (k : Nat) : Fld := ⟨0x40010000 + k * 0x4, 9, 3⟩
def SEQ_LS_EN (k : Nat) : Fld := ⟨0x40010010 + k * 0x4, 0, 1⟩
def SEQ_LS_DISCH (k : Nat) : Fld := ⟨0x40010010 + k * 0x4, 1, 1⟩
def SEQ_LS_SLEW (k : Nat) : Fld := ⟨0x40010010 + k * 0x4, 2, 3⟩
def SEQ_LS_ILT (k : Nat) : Fld := ⟨0x40010010 + k * 0x4, 5, 2⟩
def SEQ_LS_RAMP (k : Nat) : Fld := ⟨0x40010010 + k * 0x4, 8, 1⟩
def SEQ_LS_CAUSE (k : Nat) : Fld := ⟨0x40010010 + k * 0x4, 9, 3⟩
def SEQ_SUP_UV (k : Nat) : Fld := ⟨0x40010040 + k * 0x4, 0, 5⟩
def SEQ_SUP_OV (k : Nat) : Fld := ⟨0x40010040 + k * 0x4, 8, 5⟩
def SEQ_SUP_FILT (k : Nat) : Fld := ⟨0x40010040 + k * 0x4, 16, 2⟩
def SEQ_SUP_PGDLY (k : Nat) : Fld := ⟨0x40010040 + k * 0x4, 18, 2⟩
def SEQ_SUP_UVACT (k : Nat) : Fld := ⟨0x40010040 + k * 0x4, 20, 2⟩
def SEQ_SUP_OVACT (k : Nat) : Fld := ⟨0x40010040 + k * 0x4, 22, 2⟩
def SEQ_PG_PG : Fld := ⟨0x40010100, 1, 20⟩
def SEQ_UVF_UVF : Fld := ⟨0x40010104, 1, 20⟩
def SEQ_OVF_OVF : Fld := ⟨0x40010108, 1, 20⟩
def SEQ_NOMV_VSYS : Fld := ⟨0x4001010C, 0, 8⟩
def SEQ_NOMV_VSTOR : Fld := ⟨0x4001010C, 16, 8⟩
def SEQ_SUPOFF_OFF : Fld := ⟨0x40010110, 1, 18⟩
def SEQ_STAT_REFUSED : Fld := ⟨0x40010114, 0, 1⟩
def SEQ_LULLCFG_TLULL : Fld := ⟨0x40010140, 0, 8⟩
def SEQ_LULLCFG_FRMAX : Fld := ⟨0x40010140, 8, 8⟩
def SEQ_LULLCFG_LSTEP : Fld := ⟨0x40010140, 16, 8⟩
def SEQ_LULLSTAT_RUN : Fld := ⟨0x40010148, 0, 1⟩
def SEQ_LULLSTAT_STEP : Fld := ⟨0x40010148, 1, 3⟩
def SEQ_LULLSTAT_CAUSE : Fld := ⟨0x40010148, 4, 3⟩
def SEQ_LULLSTAT_ENDSYS : Fld := ⟨0x40010148, 7, 1⟩
def SEQ_LULLSTAT_ELAPSED : Fld := ⟨0x40010148, 8, 8⟩
def SEQ_LOCK_LOCK : Fld := ⟨0x400100FC, 0, 1⟩
def P_CTL_EN (i : Nat) : Fld := ⟨0x40014000 + i * 0x1000, 0, 1⟩
def P_CTL_MODE (i : Nat) : Fld := ⟨0x40014000 + i * 0x1000, 1, 2⟩
def P_CTL_TRACK (i : Nat) : Fld := ⟨0x40014000 + i * 0x1000, 3, 1⟩
def P_CTL_ULACT (i : Nat) : Fld := ⟨0x40014000 + i * 0x1000, 4, 1⟩
def P_LINE_MARK (i : Nat) : Fld := ⟨0x40014004 + i * 0x1000, 0, 8⟩
def P_LINE_SPACE (i : Nat) : Fld := ⟨0x40014004 + i * 0x1000, 8, 4⟩
def P_LINE_TRAMP (i : Nat) : Fld := ⟨0x40014004 + i * 0x1000, 12, 3⟩
def P_LINE_IEDGE (i : Nat) : Fld := ⟨0x40014004 + i * 0x1000, 16, 8⟩
def P_TGT_QUL (i : Nat) : Fld := ⟨0x40014008 + i * 0x1000, 0, 2⟩
def P_TGT_IMOD (i : Nat) : Fld := ⟨0x40014008 + i * 0x1000, 4, 4⟩
def P_TGT_RXTH (i : Nat) : Fld := ⟨0x40014008 + i * 0x1000, 8, 4⟩
def P_TGT_TGOOD (i : Nat) : Fld := ⟨0x40014008 + i * 0x1000, 16, 5⟩
def P_RX_DETTH (i : Nat) : Fld := ⟨0x4001400C + i * 0x1000, 0, 4⟩
def P_RX_ULMAX (i : Nat) : Fld := ⟨0x4001400C + i * 0x1000, 16, 9⟩
def P_LEDG_PLIM (i : Nat) : Fld := ⟨0x40014010 + i * 0x1000, 0, 8⟩
def P_LEDG_EFAULT (i : Nat) : Fld := ⟨0x40014010 + i * 0x1000, 8, 5⟩
def P_LEDG_ESTORE (i : Nat) : Fld := ⟨0x40014010 + i * 0x1000, 16, 7⟩
def P_LEDG_IFAULT (i : Nat) : Fld := ⟨0x40014010 + i * 0x1000, 24, 4⟩
def P_LIM_ISHORT (i : Nat) : Fld := ⟨0x40014014 + i * 0x1000, 0, 6⟩
def P_MEAS_BUSY (i : Nat) : Fld := ⟨0x40014020 + i * 0x1000, 1, 1⟩
def P_MEAS_RESULT (i : Nat) : Fld := ⟨0x40014020 + i * 0x1000, 2, 3⟩
def P_MEAS_MEASOK (i : Nat) : Fld := ⟨0x40014020 + i * 0x1000, 5, 1⟩
def P_MEAS_DONE (i : Nat) : Fld := ⟨0x40014020 + i * 0x1000, 6, 1⟩
def P_MEAS_CNF (i : Nat) : Fld := ⟨0x40014020 + i * 0x1000, 16, 16⟩
def P_MEASE_E (i : Nat) : Fld := ⟨0x40014024 + i * 0x1000, 0, 16⟩
def P_MEASE_IL (i : Nat) : Fld := ⟨0x40014024 + i * 0x1000, 16, 16⟩
def P_CAL_BUSY (i : Nat) : Fld := ⟨0x40014028 + i * 0x1000, 1, 1⟩
def P_CAL_RESULT (i : Nat) : Fld := ⟨0x40014028 + i * 0x1000, 2, 3⟩
def P_CAL_UL (i : Nat) : Fld := ⟨0x40014028 + i * 0x1000, 16, 9⟩
def P_IBASE_IBASE (i : Nat) : Fld := ⟨0x4001402C + i * 0x1000, 0, 16⟩
def P_STAT_ON (i : Nat) : Fld := ⟨0x40014030 + i * 0x1000, 0, 1⟩
def P_STAT_RAMPING (i : Nat) : Fld := ⟨0x40014030 + i * 0x1000, 1, 1⟩
def P_STAT_PG (i : Nat) : Fld := ⟨0x40014030 + i * 0x1000, 2, 1⟩
def P_STAT_BREACH (i : Nat) : Fld := ⟨0x40014030 + i * 0x1000, 3, 1⟩
def P_STAT_CAUSE (i : Nat) : Fld := ⟨0x40014030 + i * 0x1000, 4, 3⟩
def P_STAT_OVERUL (i : Nat) : Fld := ⟨0x40014030 + i * 0x1000, 7, 1⟩
def P_STAT_LINELOST (i : Nat) : Fld := ⟨0x40014030 + i * 0x1000, 8, 1⟩
def P_STAT_FOREIGN (i : Nat) : Fld := ⟨0x40014030 + i * 0x1000, 9, 1⟩
def P_STAT_REFUSED (i : Nat) : Fld := ⟨0x40014030 + i * 0x1000, 10, 1⟩
def P_STAT_REFCAUSE (i : Nat) : Fld := ⟨0x40014030 + i * 0x1000, 11, 3⟩
def P_STAT_CFGERR (i : Nat) : Fld := ⟨0x40014030 + i * 0x1000, 14, 1⟩
def P_STAT_TXHOLD (i : Nat) : Fld := ⟨0x40014030 + i * 0x1000, 15, 1⟩
def P_STAT_STATEV (i : Nat) : Fld := ⟨0x40014030 + i * 0x1000, 16, 1⟩
def P_LEDGS_PWIN (i : Nat) : Fld := ⟨0x40014034 + i * 0x1000, 0, 16⟩
def P_LEDGS_EPIS (i : Nat) : Fld := ⟨0x40014034 + i * 0x1000, 16, 16⟩
def P_VI_V (i : Nat) : Fld := ⟨0x40014038 + i * 0x1000, 0, 16⟩
def P_VI_I (i : Nat) : Fld := ⟨0x40014038 + i * 0x1000, 16, 16⟩
def P_CNT_BREACHCNT (i : Nat) : Fld := ⟨0x4001403C + i * 0x1000, 0, 16⟩
def P_CNT_REFUSECNT (i : Nat) : Fld := ⟨0x4001403C + i * 0x1000, 16, 16⟩
def P_LOCK_LOCK (i : Nat) : Fld := ⟨0x400140FC + i * 0x1000, 0, 1⟩
def P_ENG_CTL_RUN (i : Nat) : Fld := ⟨0x40014100 + i * 0x1000, 0, 1⟩
def P_ENG_TIM_GAP (i : Nat) : Fld := ⟨0x40014104 + i * 0x1000, 0, 8⟩
def P_ENG_TIM_POST (i : Nat) : Fld := ⟨0x40014104 + i * 0x1000, 8, 8⟩
def P_ENG_TIM_TRESPX (i : Nat) : Fld := ⟨0x40014104 + i * 0x1000, 16, 10⟩
def P_ENG_DOOR_PEND (i : Nat) : Fld := ⟨0x40014108 + i * 0x1000, 31, 1⟩
def P_ENG_CUR_INDEX (i : Nat) : Fld := ⟨0x4001410C + i * 0x1000, 0, 9⟩
def P_ENG_CUR_ACTIVE (i : Nat) : Fld := ⟨0x4001410C + i * 0x1000, 15, 1⟩
def P_ENG_STAT_CQOVF (i : Nat) : Fld := ⟨0x40014114 + i * 0x1000, 0, 1⟩
def P_ENG_STAT_REGION (i : Nat) : Fld := ⟨0x40014114 + i * 0x1000, 1, 1⟩
def P_ENG_STAT_DOORBUSY (i : Nat) : Fld := ⟨0x40014114 + i * 0x1000, 2, 1⟩
def P_ENG_CNT_EXCH (i : Nat) : Fld := ⟨0x40014118 + i * 0x1000, 0, 16⟩
def P_ENG_CNT_ERRS (i : Nat) : Fld := ⟨0x40014118 + i * 0x1000, 16, 16⟩
def P_ENG_JUNK_JUNK (i : Nat) : Fld := ⟨0x4001411C + i * 0x1000, 0, 16⟩
def P_TSET_TADDR (i : Nat) : Fld := ⟨0x40014120 + i * 0x1000, 0, 8⟩
def P_TSET_TDLY (i : Nat) : Fld := ⟨0x40014120 + i * 0x1000, 8, 8⟩
def P_TSET_TBAUD (i : Nat) : Fld := ⟨0x40014120 + i * 0x1000, 16, 3⟩
def P_TRSP_SIZE (i : Nat) : Fld := ⟨0x40014124 + i * 0x1000, 0, 2⟩
def P_TRSP_BUF (i : Nat) : Fld := ⟨0x40014124 + i * 0x1000, 8, 24⟩
def P_TRCV_SIZE (i : Nat) : Fld := ⟨0x40014128 + i * 0x1000, 0, 2⟩
def P_TRCV_BUF (i : Nat) : Fld := ⟨0x40014128 + i * 0x1000, 8, 24⟩
def P_TSEL_SELECTED (i : Nat) : Fld := ⟨0x4001412C + i * 0x1000, 8, 1⟩
def P_TSEL_DECIDE (i : Nat) : Fld := ⟨0x4001412C + i * 0x1000, 9, 1⟩
def HOST_WCFG_BOUND (k : Nat) : Fld := ⟨0x40018000 + k * 0x10, 0, 1⟩
def HOST_WCFG_PORT (k : Nat) : Fld := ⟨0x40018000 + k * 0x10, 1, 3⟩
def HOST_WCFG_ADDR (k : Nat) : Fld := ⟨0x40018000 + k * 0x10, 4, 7⟩
def HOST_WCFG_RING3 (k : Nat) : Fld := ⟨0x40018000 + k * 0x10, 11, 1⟩
def HOST_WCFG_RIGHTS (k : Nat) : Fld := ⟨0x40018000 + k * 0x10, 12, 3⟩
def HOST_WCFG_SVCTHR (k : Nat) : Fld := ⟨0x40018000 + k * 0x10, 16, 4⟩
def HOST_WCFG_SVCTMO (k : Nat) : Fld := ⟨0x40018000 + k * 0x10, 20, 12⟩
def HOST_WRAIL_RAILS (k : Nat) : Fld := ⟨0x40018004 + k * 0x10, 1, 18⟩
def HOST_WEPL_M (k : Nat) : Fld := ⟨0x40018008 + k * 0x10, 0, 32⟩
def HOST_WEPH_M (k : Nat) : Fld := ⟨0x4001800C + k * 0x10, 0, 32⟩
def HOST_CTL_DISPEN : Fld := ⟨0x40018050, 0, 1⟩
def HOST_CTL_SVC : Fld := ⟨0x40018050, 1, 1⟩
def HOST_CNT_COMMITS (k : Nat) : Fld := ⟨0x40018060 + k * 0x4, 0, 16⟩
def HOST_CNT_DISCARDS (k : Nat) : Fld := ⟨0x40018060 + k * 0x4, 16, 16⟩
def HOST_LOCK_LOCK : Fld := ⟨0x400180FC, 0, 1⟩
def TW_CFG_FMP (i : Nat) : Fld := ⟨0x40019000 + i * 0x1000, 0, 1⟩
def TW_CFG_TOEN (i : Nat) : Fld := ⟨0x40019000 + i * 0x1000, 1, 1⟩
def TW_STAT_ACTIVE (i : Nat) : Fld := ⟨0x40019004 + i * 0x1000, 0, 1⟩
def TW_STAT_TOUT (i : Nat) : Fld := ⟨0x40019004 + i * 0x1000, 1, 1⟩
def TW_STAT_BCLR (i : Nat) : Fld := ⟨0x40019004 + i * 0x1000, 2, 1⟩
def TW_CNT_TOCNT (i : Nat) : Fld := ⟨0x40019008 + i * 0x1000, 0, 16⟩
def TW_CNT_NACKCNT (i : Nat) : Fld := ⟨0x40019008 + i * 0x1000, 16, 16⟩
def U_CFG_DBITS (i : Nat) : Fld := ⟨0x4001C000 + i * 0x1000, 0, 4⟩
def U_CFG_PAR (i : Nat) : Fld := ⟨0x4001C000 + i * 0x1000, 4, 3⟩
def U_CFG_STOP (i : Nat) : Fld := ⟨0x4001C000 + i * 0x1000, 7, 2⟩
def U_CFG_OSR (i : Nat) : Fld := ⟨0x4001C000 + i * 0x1000, 9, 1⟩
def U_CFG_PRESC (i : Nat) : Fld := ⟨0x4001C000 + i * 0x1000, 10, 1⟩
def U_CFG_RXEN (i : Nat) : Fld := ⟨0x4001C000 + i * 0x1000, 11, 1⟩
def U_CFG_TXEN (i : Nat) : Fld := ⟨0x4001C000 + i * 0x1000, 12, 1⟩
def U_CFG_RXINV (i : Nat) : Fld := ⟨0x4001C000 + i * 0x1000, 13, 1⟩
def U_CFG_TXINV (i : Nat) : Fld := ⟨0x4001C000 + i * 0x1000, 14, 1⟩
def U_CFG_LOOP (i : Nat) : Fld := ⟨0x4001C000 + i * 0x1000, 15, 1⟩
def U_DIV_DIVF (i : Nat) : Fld := ⟨0x4001C004 + i * 0x1000, 0, 4⟩
def U_DIV_DIVI (i : Nat) : Fld := ⟨0x4001C004 + i * 0x1000, 4, 12⟩
def U_STAT_RXIDLE (i : Nat) : Fld := ⟨0x4001C00C + i * 0x1000, 17, 1⟩
def U_STAT_PE (i : Nat) : Fld := ⟨0x4001C00C + i * 0x1000, 18, 1⟩
def U_STAT_FE (i : Nat) : Fld := ⟨0x4001C00C + i * 0x1000, 19, 1⟩
def U_STAT_BRK (i : Nat) : Fld := ⟨0x4001C00C + i * 0x1000, 20, 1⟩
def U_STAT_OVR (i : Nat) : Fld := ⟨0x4001C00C + i * 0x1000, 21, 1⟩
def U_STAT_OWNERR (i : Nat) : Fld := ⟨0x4001C00C + i * 0x1000, 22, 1⟩
def U_STAT_CFGERR (i : Nat) : Fld := ⟨0x4001C00C + i * 0x1000, 23, 1⟩
def U_STAT_RXLINE (i : Nat) : Fld := ⟨0x4001C00C + i * 0x1000, 24, 1⟩
def U_EVEN_RXTH (i : Nat) : Fld := ⟨0x4001C010 + i * 0x1000, 0, 5⟩
def U_EVEN_TXTH (i : Nat) : Fld := ⟨0x4001C010 + i * 0x1000, 8, 5⟩
def U_EVEN_RXEV (i : Nat) : Fld := ⟨0x4001C010 + i * 0x1000, 16, 1⟩
def U_EVEN_TXEV (i : Nat) : Fld := ⟨0x4001C010 + i * 0x1000, 17, 1⟩
def U_EVEN_ERREV (i : Nat) : Fld := ⟨0x4001C010 + i * 0x1000, 18, 1⟩
def U_EVEN_IDLEEV (i : Nat) : Fld := ⟨0x4001C010 + i * 0x1000, 19, 1⟩
def U_CTL_TXBRK (i : Nat) : Fld := ⟨0x4001C014 + i * 0x1000, 2, 1⟩
def U_CNT_OVRCNT (i : Nat) : Fld := ⟨0x4001C018 + i * 0x1000, 0, 16⟩
def U_CNT_ERRCNT (i : Nat) : Fld := ⟨0x4001C018 + i * 0x1000, 16, 16⟩
def ADC_CTL_LAST : Fld := ⟨0x40012000, 0, 5⟩
def ADC_CTL_RUN : Fld := ⟨0x40012000, 8, 1⟩
def ADC_STAT_BUSY : Fld := ⟨0x40012004, 0, 1⟩
def ADC_STAT_CALBUSY : Fld := ⟨0x40012004, 1, 1⟩
def ADC_STAT_CALRES : Fld := ⟨0x40012004, 2, 2⟩
def ADC_STAT_CALWHY : Fld := ⟨0x40012004, 4, 2⟩
def ADC_STAT_CUR : Fld := ⟨0x40012004, 8, 5⟩
def ADC_STAT_SEQCNT : Fld := ⟨0x40012004, 16, 16⟩
def ADC_TRIM_OFS : Fld := ⟨0x40012008, 0, 10⟩
def ADC_TRIM_GAIN : Fld := ⟨0x40012008, 16, 12⟩
def ADC_FSTAT_OVF : Fld := ⟨0x40012014, 8, 1⟩
def ADC_FSTAT_LOST : Fld := ⟨0x40012014, 16, 16⟩
def ADC_FCFG_FTH : Fld := ⟨0x40012018, 0, 6⟩
def ADC_WSTAT_W : Fld := ⟨0x4001201C, 0, 32⟩
def ADC_PROBE_CODE : Fld := ⟨0x40012020, 0, 10⟩
def ADC_SLOT_INPUT (k : Nat) : Fld := ⟨0x40012100 + k * 0x10, 0, 6⟩
def ADC_SLOT_PROBE (k : Nat) : Fld := ⟨0x40012100 + k * 0x10, 6, 1⟩
def ADC_SLOT_RANGE (k : Nat) : Fld := ⟨0x40012100 + k * 0x10, 7, 1⟩
def ADC_SLOT_AVG (k : Nat) : Fld := ⟨0x40012100 + k * 0x10, 8, 3⟩
def ADC_SLOT_FIFO (k : Nat) : Fld := ⟨0x40012100 + k * 0x10, 11, 1⟩
def ADC_SLOT_WMODE (k : Nat) : Fld := ⟨0x40012100 + k * 0x10, 12, 2⟩
def ADC_WIN_LO (k : Nat) : Fld := ⟨0x40012104 + k * 0x10, 0, 14⟩
def ADC_WIN_HI (k : Nat) : Fld := ⟨0x40012104 + k * 0x10, 16, 14⟩
def ADC_RES_CODE (k : Nat) : Fld := ⟨0x40012108 + k * 0x10, 0, 14⟩
def ADC_RES_NEW (k : Nat) : Fld := ⟨0x40012108 + k * 0x10, 15, 1⟩
def ADC_RES_COUNT (k : Nat) : Fld := ⟨0x40012108 + k * 0x10, 16, 16⟩
def THERM_CTL_THRCORE : Fld := ⟨0x40011000, 0, 1⟩
def THERM_THR_WARNLOW : Fld := ⟨0x40011004, 0, 5⟩
def THERM_THR_THRLOW : Fld := ⟨0x40011004, 8, 5⟩
def THERM_THR_LULLLOW : Fld := ⟨0x40011004, 16, 5⟩
def THERM_STAT_WARN : Fld := ⟨0x40011010, 0, 1⟩
def THERM_STAT_THROTTLE : Fld := ⟨0x40011010, 1, 1⟩
def THERM_STAT_LULLZ : Fld := ⟨0x40011010, 2, 1⟩
def THERM_STAT_CUTLAT : Fld := ⟨0x40011010, 3, 1⟩
def THERM_STAT_DEGRADED : Fld := ⟨0x40011010, 4, 1⟩
def THERM_STAT_WARNEV : Fld := ⟨0x40011010, 5, 1⟩
def THERM_STAT_THREV : Fld := ⟨0x40011010, 6, 1⟩
def THERM_STAT_LULLEV : Fld := ⟨0x40011010, 7, 1⟩
def THERM_STAT_SUSPEV : Fld := ⟨0x40011010, 8, 1⟩
def THERM_STAT_LULLACT : Fld := ⟨0x40011010, 9, 2⟩
def THERM_SUSP_S : Fld := ⟨0x40011014, 0, 8⟩
def THERM_TS_T (k : Nat) : Fld := ⟨0x40011040 + k * 0x4, 0, 12⟩
def THERM_TS_CUTCMP (k : Nat) : Fld := ⟨0x40011040 + k * 0x4, 16, 1⟩
def THERM_TJ_T : Fld := ⟨0x40011060, 0, 12⟩
def THERM_TJ_HOT : Fld := ⟨0x40011060, 12, 3⟩
def THERM_TJ_SLOPE : Fld := ⟨0x40011060, 16, 16⟩
def THERM_CNT_THRCNT : Fld := ⟨0x40011070, 0, 16⟩
def THERM_CNT_CUTCNT : Fld := ⟨0x40011070, 16, 16⟩
def THERM_LOCK_LOCK : Fld := ⟨0x400110FC, 0, 1⟩
def BAK_EPOCH_S : Fld := ⟨0x40024008, 0, 32⟩
def BAK_TRIM_T : Fld := ⟨0x4002400C, 0, 15⟩
def BAK_BILLCMPL_V : Fld := ⟨0x40024010, 0, 32⟩
def BAK_BILLCMPH_V : Fld := ⟨0x40024014, 0, 16⟩
def BAK_BILLCMPH_ARM : Fld := ⟨0x40024014, 16, 1⟩
def BAK_BILLCFG_RSTV : Fld := ⟨0x40024018, 0, 6⟩
def BAK_BILLCFG_STARTEN : Fld := ⟨0x40024018, 8, 1⟩
def BAK_STAT_XTALOK : Fld := ⟨0x40024020, 0, 1⟩
def BAK_STAT_RCRUN : Fld := ⟨0x40024020, 1, 1⟩
def BAK_STAT_RCUSED : Fld := ⟨0x40024020, 2, 1⟩
def BAK_STAT_BILLF : Fld := ⟨0x40024020, 3, 1⟩
def BAK_STAT_BILLMISS : Fld := ⟨0x40024020, 4, 1⟩
def BAK_STAT_EVOVF : Fld := ⟨0x40024020, 5, 1⟩
def BAK_STAT_WDEARLY : Fld := ⟨0x40024020, 6, 1⟩
def BAK_EVEDGE_EDGE : Fld := ⟨0x40024030, 0, 12⟩
def BAK_EVFILT0_FILT0 : Fld := ⟨0x40024034, 0, 8⟩
def BAK_EVFILT0_FILT1 : Fld := ⟨0x40024034, 8, 8⟩
def BAK_EVFILT0_FILT2 : Fld := ⟨0x40024034, 16, 8⟩
def BAK_EVFILT0_FILT3 : Fld := ⟨0x40024034, 24, 8⟩
def BAK_EVFILT1_FILT4 : Fld := ⟨0x40024038, 0, 8⟩
def BAK_EVFILT1_FILT5 : Fld := ⟨0x40024038, 8, 8⟩
def BAK_WDCFG_PERIOD : Fld := ⟨0x40024050, 0, 8⟩
def BAK_WDCFG_EARLY : Fld := ⟨0x40024050, 8, 2⟩
def BAK_WDCFG_CALMRUN : Fld := ⟨0x40024050, 10, 1⟩
def BAK_WDCFG_EN : Fld := ⟨0x40024050, 11, 1⟩
def BAK_LOCK_WDLOCK : Fld := ⟨0x400240FC, 0, 1⟩
def BAK_LOCK_TLOCK : Fld := ⟨0x400240FC, 1, 1⟩
def PWM_CTL_EN (k : Nat) : Fld := ⟨0x40022000 + k * 0x20, 0, 1⟩
def PWM_CTL_POL (k : Nat) : Fld := ⟨0x40022000 + k * 0x20, 1, 1⟩
def PWM_CTL_SAFE (k : Nat) : Fld := ⟨0x40022000 + k * 0x20, 2, 2⟩
def PWM_CTL_FROUTE (k : Nat) : Fld := ⟨0x40022000 + k * 0x20, 4, 2⟩
def PWM_CTL_TRIPEV (k : Nat) : Fld := ⟨0x40022000 + k * 0x20, 6, 1⟩
def PWM_PER_PER (k : Nat) : Fld := ⟨0x40022004 + k * 0x20, 0, 16⟩
def PWM_DUTY_DFRAC (k : Nat) : Fld := ⟨0x40022008 + k * 0x20, 0, 4⟩
def PWM_DUTY_DUTYI (k : Nat) : Fld := ⟨0x40022008 + k * 0x20, 4, 16⟩
def PWM_TRIP_N (k : Nat) : Fld := ⟨0x4002200C + k * 0x20, 0, 8⟩
def PWM_TRIP_W (k : Nat) : Fld := ⟨0x4002200C + k * 0x20, 8, 16⟩
def PWM_STAT_RUN (k : Nat) : Fld := ⟨0x40022010 + k * 0x20, 0, 1⟩
def PWM_STAT_TRUNC (k : Nat) : Fld := ⟨0x40022010 + k * 0x20, 1, 1⟩
def PWM_STAT_TRIPF (k : Nat) : Fld := ⟨0x40022010 + k * 0x20, 2, 1⟩
def PWM_STAT_LATCH (k : Nat) : Fld := ⟨0x40022010 + k * 0x20, 3, 1⟩
def PWM_STAT_RELERR (k : Nat) : Fld := ⟨0x40022010 + k * 0x20, 4, 1⟩
def PWM_STAT_TCNT (k : Nat) : Fld := ⟨0x40022010 + k * 0x20, 5, 8⟩
def PWM_CNT_TRIPTOT (k : Nat) : Fld := ⟨0x40022014 + k * 0x20, 0, 16⟩
def PWM_CTR_CTR (k : Nat) : Fld := ⟨0x40022018 + k * 0x20, 0, 16⟩
def PWM_CTR_PHASE (k : Nat) : Fld := ⟨0x40022018 + k * 0x20, 16, 4⟩
def PWM_FLTCFG_FILT0 : Fld := ⟨0x400220C0, 0, 4⟩
def PWM_FLTCFG_FILT1 : Fld := ⟨0x400220C0, 4, 4⟩
def PWM_FLTCFG_POL0 : Fld := ⟨0x400220C0, 8, 1⟩
def PWM_FLTCFG_POL1 : Fld := ⟨0x400220C0, 9, 1⟩
def PWM_FLTCFG_FLT0 : Fld := ⟨0x400220C0, 16, 1⟩
def PWM_FLTCFG_FLT1 : Fld := ⟨0x400220C0, 17, 1⟩
def PWM_LOCK_LOCK : Fld := ⟨0x400220FC, 0, 1⟩

end Sys2Proof.Machine.F
end

