-- ==== Sys2Proof/Machine/Ops.lean ====
section
/-!
DEFINITION. The named operations over the state: sparse stores in canonical form, register fields and the write path
of R7 to R14, memory by bytes and words, OTP rows, threads, event lines (R91, R93) and the small bookkeeping that
every family uses.
-/

namespace Sys2Proof.Machine

/-! ## Sparse stores -/

/-- The value at key `a`: the first listed one, else the unlisted value `d a`. -/
def Sparse.get {β : Type} (d : Nat → β) : List (Nat × β) → Nat → β
  | [], a => d a
  | (k, v) :: t, a => if k = a then v else Sparse.get d t a

/-- The list without key `a`. -/
def Sparse.erase {β : Type} (l : List (Nat × β)) (a : Nat) : List (Nat × β) :=
  l.filter (fun p => p.1 != a)

/-- Put `v` at key `a`, keeping keys rising. -/
def Sparse.insert {β : Type} : List (Nat × β) → Nat → β → List (Nat × β)
  | [], a, v => [(a, v)]
  | (k, w) :: t, a, v =>
    if a < k then (a, v) :: (k, w) :: t
    else if k = a then (a, v) :: t
    else (k, w) :: Sparse.insert t a v

/-- Write `v` at key `a`; writing the unlisted value removes the entry, so that equal stores are equal lists. -/
def Sparse.set {β : Type} [DecidableEq β] (d : Nat → β) (l : List (Nat × β)) (a : Nat) (v : β) : List (Nat × β) :=
  if v = d a then Sparse.erase l a else Sparse.insert l a v

/-- The canonical form: keys strictly rising, no entry equal to what an unlisted key reads as. -/
def Sparse.wf {β : Type} [DecidableEq β] (d : Nat → β) (l : List (Nat × β)) : Bool :=
  decide (l.Pairwise (fun p q => p.1 < q.1)) && l.all (fun p => decide (p.2 ≠ d p.1))

/-! ## Register fields -/

namespace State

/-- The present value of a stored field. -/
def get (s : State) (f : Fld) : Nat := Sparse.get coldOf s.regs f.key

/-- Set a stored field; the value is cut to the field's width. -/
def put (s : State) (f : Fld) (v : Nat) : State :=
  { s with regs := Sparse.set coldOf s.regs f.key (v % 2 ^ f.width) }

/-- A one-bit field as a Boolean. -/
def on (s : State) (f : Fld) : Bool := s.get f != 0

/-- Set a one-bit field from a Boolean. -/
def putB (s : State) (f : Fld) (b : Bool) : State := s.put f (if b then 1 else 0)

/-- Bit `i` of a field. -/
def bit (s : State) (f : Fld) (i : Nat) : Bool := (s.get f).testBit i

/-- Set bit `i` of a field. -/
def setBit (s : State) (f : Fld) (i : Nat) : State := s.put f (s.get f ||| 2 ^ i)

/-- Clear bit `i` of a field. -/
def clrBit (s : State) (f : Fld) (i : Nat) : State :=
  if s.bit f i then s.put f (s.get f - 2 ^ i) else s

/-- Add to a counter that stops at its field's highest value. -/
def bump (s : State) (f : Fld) (n : Nat := 1) : State := s.put f (min (s.get f + n) (2 ^ f.width - 1))

/-- The register fields below offset `hi` of one window return to their Cold values, but for those `keep` names. -/
def coldWindow (s : State) (base : Nat) (keep : Nat → Bool) : State :=
  { s with regs := s.regs.filter (fun p => p.1 / 32 / 0x1000 != base / 0x1000 || keep p.1) }

end State

/-- Whether an encoding is assigned (R10). -/
def Legal.ok (l : Legal) (v : Nat) : Bool :=
  match l with
  | .any => true
  | .range lo hi => decide (lo ≤ v) && decide (v ≤ hi)
  | .noneOf1 => v == 0 || v == 2
  | .adcInput =>
    decide (v ≤ 0x0B) || (decide (0x10 ≤ v) && decide (v ≤ 0x15)) || (decide (0x18 ≤ v) && decide (v ≤ 0x1D)) ||
      (decide (0x20 ≤ v) && decide (v ≤ 0x25)) || (decide (0x28 ≤ v) && decide (v ≤ 0x32))
  | .trim => decide (v ≤ 8590) || decide (32768 - 8590 ≤ v)

/-- The bits a store offers to a field. -/
def Field.part (f : Field) (v : Word) : Nat := v.toNat / 2 ^ f.lo % 2 ^ f.width

/-- What one store leaves in one field (R7, R9 to R12, R14): `old` is the present value, `locked` its LOCK bit. -/
def Field.next (f : Field) (locked : Bool) (old : Nat) (ring : Nat) (v : Word) : Nat :=
  if f.ring < ring then old
  else
    match f.kind with
    | .rw => if f.legal.ok (f.part v) then f.part v else old
    | .lk => if locked then old else if f.legal.ok (f.part v) then f.part v else old
    | .w1c => old &&& (2 ^ f.width - 1 - f.part v)
    | .w1cAll => if f.part v = 0 then old else 0
    | .stk => old ||| f.part v
    | .ro | .wo | .view => old

/-- The LOCK bit that governs a field of the register at `a`. -/
def State.locked (s : State) (a : Nat) (f : Field) : Bool :=
  s.on ⟨a - a % 0x1000 + f.lockOff, f.lockBit, 1⟩

/-- A store of `v` from `ring` to the register at `a`, field by field; LOCK bits are judged as they stood before the
store (R9). -/
def State.plainWrite (s : State) (a : Nat) (ring : Nat) (v : Word) : State :=
  (fieldsAt a).foldl
    (fun s' f => s'.put ⟨a, f.lo, f.width⟩ (f.next (s.locked a f) (s.get ⟨a, f.lo, f.width⟩) ring v)) s

/-- The word the stored fields of the register at `a` give; WO fields and reserved bits read 0 (R11, R12). Fields of kind
`view` are computed from other state and add nothing here. -/
def State.storedWord (s : State) (a : Nat) : Word :=
  BitVec.ofNat 32 ((fieldsAt a).foldl
    (fun w f => if f.kind = .view then w else w + s.get ⟨a, f.lo, f.width⟩ * 2 ^ f.lo) 0)

/-- Bit `i` of a word. -/
def bitOf (v : Word) (i : Nat) : Bool := v.getLsbD i

/-- Bits [lo + w − 1 : lo] of a word as a number. -/
def bitsOf (v : Word) (lo w : Nat) : Nat := v.toNat / 2 ^ lo % 2 ^ w

/-- A field read as a signed number. -/
def signedOf (v w : Nat) : Int := if v < 2 ^ (w - 1) then (v : Int) else (v : Int) - 2 ^ w

/-- A signed number as a field of `w` bits. -/
def fieldOfInt (i : Int) (w : Nat) : Nat := (i % (2 ^ w : Int)).toNat

/-- What is sensed where a command needs none of it. -/
def Sense.quiet : Sense := ⟨0, true, false, 0, 0, ⟨false, 0, false⟩, ⟨false, 0, false⟩, 0⟩

/-! ## Register windows -/

/-- The domain of a register-window index (R40, R49); main-section windows have none. -/
def windowDomain (w : Nat) : Option Nat :=
  if w = 0x02 ∨ w = 0x26 then some 2
  else if w = 0x11 ∨ w = 0x12 then some 3
  else if w = 0x18 ∨ w = 0x19 ∨ w = 0x1A ∨ (0x1C ≤ w ∧ w ≤ 0x20) then some 4
  else if w = 0x14 then some 5
  else if w = 0x15 then some 6
  else if 0x08 ≤ w ∧ w ≤ 0x0D then some (w - 1)
  else if w = 0x22 then some 14
  else if w = 0x0E ∨ w = 0x0F then some 15
  else none

/-- The window indices of R41. -/
def windowListed (w : Nat) : Bool :=
  decide (w ≤ 0x04) || (decide (0x08 ≤ w) && decide (w ≤ 0x12)) || w == 0x14 || w == 0x15 ||
    (decide (0x18 ≤ w) && decide (w ≤ 0x1A)) || (decide (0x1C ≤ w) && decide (w ≤ 0x20)) || w == 0x22 ||
    w == 0x24 || w == 0x26

/-- The island whose latch serves a window (R40); PROT and EVT are inside CORE. -/
def windowIsland (w : Nat) : Option Island :=
  if w = 0x00 then some .sys
  else if w = 0x01 then some .otp
  else if w = 0x02 then some .nvc
  else if h : 0x08 ≤ w ∧ w ≤ 0x0D then some (.sw ⟨w - 8, by omega⟩)
  else if w = 0x0E ∨ w = 0x0F then some .sc
  else if w = 0x10 then some .seq
  else if w = 0x11 then some .therm
  else if w = 0x12 then some .adc
  else if w = 0x14 then some (.port 0)
  else if w = 0x15 then some (.port 1)
  else if w = 0x18 ∨ w = 0x19 ∨ w = 0x1A ∨ (0x1C ≤ w ∧ w ≤ 0x20) then some .host
  else if w = 0x22 then some .pwm
  else if w = 0x24 then some .bak
  else if w = 0x26 then some .qspi
  else none

/-- The window index of an address in the register range, if listed. -/
def windowOf (a : Nat) : Option Nat :=
  if 0x40000000 ≤ a ∧ a < 0x40027000 ∧ windowListed ((a - 0x40000000) / 0x1000) then
    some ((a - 0x40000000) / 0x1000)
  else none

/-- The domain that serves an address, for DOMOFF (R52): flash lies in NVC, D2. -/
def addrDomain (a : Nat) : Option Nat :=
  if 0x10000000 ≤ a ∧ a < 0x10080000 then some 2
  else (windowOf a).bind windowDomain

/-- SRAM, every bank (R94). -/
def inSram (a : Nat) : Bool := decide (0x20000000 ≤ a) && decide (a < 0x200C0000)

/-- The island that serves an address in the register range; PROT and EVT have none. -/
def islandOf (a : Nat) : Option Island := (windowOf a).bind windowIsland

/-- Region registers of PROT: guards, engine regions, and the regions of rings 1 to 3. -/
def protRegion (off : Nat) : Bool :=
  decide (off < 0x20) || (decide (0x080 ≤ off) && decide (off < 0x0A0)) ||
    (decide (0x100 ≤ off) && decide (off < 0x400) && decide (off % 0x100 < 0x80))

/-! ## Memory -/

/-- What a byte nothing has written reads as: 0xFF in NV flash (erased, R159); 0 elsewhere (DESIGN CHOICE, log
entry 3). -/
def unlistedByte (a : Nat) : Byte :=
  if 0x10000000 ≤ a ∧ a < 0x10080000 then 0xFF else 0

/-- What a byte of external flash nothing has programmed reads as. -/
def unlistedExt (_ : Nat) : Byte := 0xFF

/-- The status of a granule nothing has programmed: BLANK (R159). -/
def unlistedGran (_ : Nat) : Nat := 3

/-- An unprogrammed OTP row (R63), and the status of a row nothing has disturbed. -/
def unlistedRow (_ : Nat) : Nat := 0

/-- The canonical form of every memory of the device. -/
def MemSt.wf (m : MemSt) : Bool :=
  Sparse.wf unlistedByte m.cells && Sparse.wf unlistedGran m.gran && Sparse.wf unlistedExt m.ext &&
    Sparse.wf unlistedRow m.otp && Sparse.wf unlistedRow m.otpEcc

namespace State

/-- One byte of SRAM, NV flash or backup RAM. -/
def byte (s : State) (a : Nat) : Byte := Sparse.get unlistedByte s.mem.cells a

/-- Write one byte. -/
def setByte (s : State) (a : Nat) (v : Byte) : State :=
  { s with mem := { s.mem with cells := Sparse.set unlistedByte s.mem.cells a v } }

/-- `n` bytes from `a`, ascending. -/
def bytes (s : State) (a : Nat) : Nat → List Byte
  | 0 => []
  | n + 1 => s.byte a :: s.bytes (a + 1) n

/-- Write a list of bytes from `a`. -/
def setBytes (s : State) (a : Nat) : List Byte → State
  | [] => s
  | b :: t => (s.setByte a b).setBytes (a + 1) t

/-- A little-endian word. -/
def word (s : State) (a : Nat) : Word :=
  s.byte (a + 3) ++ s.byte (a + 2) ++ s.byte (a + 1) ++ s.byte a

/-- Write a little-endian word. -/
def setWord (s : State) (a : Nat) (v : Word) : State :=
  s.setBytes a [v.extractLsb' 0 8, v.extractLsb' 8 8, v.extractLsb' 16 8, v.extractLsb' 24 8]

/-- Write the bytes of a word that four byte enables select. -/
def setWordBe (s : State) (a : Nat) (be : BitVec 4) (v : Word) : State :=
  let s0 := if be.getLsbD 0 then s.setByte a (v.extractLsb' 0 8) else s
  let s1 := if be.getLsbD 1 then s0.setByte (a + 1) (v.extractLsb' 8 8) else s0
  let s2 := if be.getLsbD 2 then s1.setByte (a + 2) (v.extractLsb' 16 8) else s1
  if be.getLsbD 3 then s2.setByte (a + 3) (v.extractLsb' 24 8) else s2

/-- Memory between `lo` and `hi` returns to what nothing has written. -/
def forget (s : State) (lo hi : Nat) : State :=
  { s with mem := { s.mem with cells := s.mem.cells.filter (fun c => decide (c.1 < lo) || decide (hi ≤ c.1)) } }

/-- One byte of the external flash; an address wraps at 16 MB, the reach of 3-byte addresses. -/
def extByte (s : State) (a : Nat) : Byte := Sparse.get unlistedExt s.mem.ext (a % 0x1000000)

/-- `n` bytes of external flash. -/
def extBytes (s : State) (a : Nat) : Nat → List Byte
  | 0 => []
  | n + 1 => s.extByte a :: s.extBytes (a + 1) n

/-- A row of the OTP array. -/
def otpRow (s : State) (r : Nat) : Word := BitVec.ofNat 32 (Sparse.get unlistedRow s.mem.otp r)

/-- Set an OTP row. -/
def setOtpRow (s : State) (r : Nat) (v : Word) : State :=
  { s with mem := { s.mem with otp := Sparse.set unlistedRow s.mem.otp r v.toNat } }

/-- The check status of an OTP row: 0 clean, 1 corrected, 2 uncorrectable; always 0 for rows 0 to 11 (R63). -/
def otpStatus (s : State) (r : Nat) : Nat := if r < 12 then 0 else Sparse.get unlistedRow s.mem.otpEcc r

/-- What a block that loads its trims from a row gets: the row, or a free word where its check bits cannot correct it. -/
def otpTrim (s : State) (r : Nat) : Word :=
  if s.otpStatus r = 2 then BitVec.ofNat 32 (Config.freeAt s.free r) else s.otpRow r

/-- The raw status of the granule that holds address `a`, as its check bits give it. -/
def rawGran (s : State) (a : Nat) : Nat := Sparse.get unlistedGran s.mem.gran (a - a % 16)

/-- Set a granule's raw status. -/
def setGran (s : State) (a v : Nat) : State :=
  { s with mem := { s.mem with gran := Sparse.set unlistedGran s.mem.gran (a - a % 16) v } }

/-! ## Threads -/

/-- A thread. -/
def thr (s : State) (t : Tid) : Thread := s.core.threads[t]

/-- Replace a thread. -/
def setThr (s : State) (t : Tid) (x : Thread) : State :=
  { s with core := { s.core with threads := s.core.threads.set t x } }

/-- Change every thread. -/
def mapThr (s : State) (f : Thread → Thread) : State :=
  { s with core := { s.core with threads := s.core.threads.map f } }

end State

/-- A thread's general register. -/
def Thread.reg (x : Thread) (r : Gpr) : Word := x.g[r]

/-- Write a general register. -/
def Thread.setReg (x : Thread) (r : Gpr) (v : Word) : Thread := { x with g := x.g.set r v }

/-- PSW.RING (R89). -/
def Thread.ring (x : Thread) : Nat := bitsOf x.psw 4 2

/-- PSW.LVL. -/
def Thread.lvl (x : Thread) : Nat := bitsOf x.psw 0 3

/-- PSW.GM. -/
def Thread.gm (x : Thread) : Bool := bitOf x.psw 3

/-- A PSW from its fields; `flags` holds Z, N, C, V in bits 0 to 3. -/
def mkPsw (lvl : Nat) (gm : Bool) (ring flags : Nat) : Word :=
  BitVec.ofNat 32 (lvl % 8 + (if gm then 8 else 0) + ring % 4 * 16 + flags % 16 * 256)

/-- The flags Z, N, C, V as one number. -/
def Thread.flags (x : Thread) : Nat := bitsOf x.psw 8 4

/-- Set PSW.RING alone. -/
def Thread.setRing (x : Thread) (r : Nat) : Thread := { x with psw := mkPsw x.lvl x.gm r x.flags }

/-- An entry's bytes overlap `size` bytes at `a`. -/
def SbEntry.overlaps (e : SbEntry) (a size : Nat) : Bool :=
  match e.op with
  | .store be _ => (List.range 4).any (fun i => be.getLsbD i && decide (a ≤ e.addr + i) && decide (e.addr + i < a + size))
  | _ => false

/-- A thread waits (R85). -/
def Thread.isWaiting (x : Thread) : Bool :=
  match x.st with
  | .waiting _ => true
  | _ => false

namespace State

/-- A thread's class, EVT.TCFGn.CLASS: 0 ZEPHYR, 1 BREEZE, 2 GUST, 3 GALE. -/
def cls (s : State) (t : Tid) : Nat := s.get (F.EVT_TCFG_CLASS t)

/-- The writes an island's latch holds. -/
def latchCount (s : State) (isl : Island) : Nat := s.core.latch.countP (fun w => decide (w.isl = isl))

/-- An entry addressed to the window of `a` is buffered (R101). -/
def windowBusy (s : State) (a : Nat) : Bool := s.core.sb.any (fun e => e.addr / 0x1000 == a / 0x1000 && !inSram e.addr)

/-- The store buffer, or the island's share of it, has no room (R98, R99). -/
def storeBlocked (s : State) (a : Nat) : Bool :=
  decide (4 ≤ s.core.sb.length) ||
    (match islandOf a with
     | some isl => decide (4 ≤ s.core.sb.countP (fun e => decide (islandOf e.addr = some isl)) + s.latchCount isl)
     | none => false)

/-- A store to a protection region is buffered: accesses and fetches wait until it has retired (R140). -/
def protPending (s : State) : Bool :=
  s.core.sb.any (fun e => e.addr / 0x1000 == 0x40003 && protRegion (e.addr % 0x1000))

/-- No write to BAK is ahead of a read (R101, R103). -/
def bakSettled (s : State) : Bool := !s.windowBusy 0x40024000 && s.latchCount .bak == 0

/-- Every write has been applied (FENCE.A, R106). -/
def allApplied (s : State) : Bool := s.core.sb.isEmpty && s.core.latch.isEmpty

/-- The buffer is empty and every frame that ran at the latest PROT region write has ended (FENCE.P, R141). -/
def framesOver (s : State) : Bool := s.core.sb.isEmpty && !s.core.fenceP[0] && !s.core.fenceP[1]

/-- What a stalled instruction waits for has come. -/
def holds (s : State) (u : Until) : Bool :=
  match u with
  | .room a => !s.storeBlocked a
  | .window a => !s.windowBusy a
  | .drained => s.core.sb.isEmpty
  | .bak => s.bakSettled
  | .applied => s.allApplied
  | .frames => s.framesOver
  | .regions => !s.protPending

/-- A stall that has lost its reason: its condition holds, or no buffered entry overlaps the load any more (R101,
R102). -/
def stallOver (s : State) (y : Stall) : Bool :=
  match y with
  | .retry u => s.holds u
  | .overlap a n => !s.core.sb.any (fun e => e.overlaps a n)
  | _ => false

/-- Stalls whose reason is gone end here; the instruction is tried again (R102). The other stalled threads stay
stalled, and so not READY (R86). -/
def retryStalls (s : State) : State :=
  s.mapThr (fun x =>
    match x.stall with
    | some y => if s.stallOver y then { x with stall := none } else x
    | none => x)

/-- The model's own free counter moves on. -/
def tickFree (s : State) : State := { s with free := s.free + 1 }

/-- The next free value of the run. -/
def fresh (s : State) : Nat := Config.free s.free

/-- The pins have been read: what they present next is free. -/
def pinsNext (s : State) : State :=
  { s with
    pins := ⟨Config.freeAt s.free 0, Config.freeAt s.free 1, Config.freeAt s.free 2, Config.freeAt s.free 3 % 2 = 1,
      Config.freeAt s.free 4 % 2 = 1⟩
    free := s.free + 1 }

/-- Change one switching controller's own state. -/
def swUpd (s : State) (n : Fin 6) (f : SwSt → SwSt) : State := { s with sw := s.sw.set n (f s.sw[n]) }

/-- Change one port's own state. -/
def portUpd (s : State) (p : Fin 2) (f : PortSt → PortSt) : State := { s with port := s.port.set p (f s.port[p]) }

/-- Change one framer's own state. -/
def uartUpd (s : State) (u : Fin 5) (f : UartSt → UartSt) : State := { s with uart := s.uart.set u (f s.uart[u]) }

/-- Change one PWM channel's own state. -/
def pwmUpd (s : State) (n : Fin 6) (f : PwmSt → PwmSt) : State := { s with pwm := s.pwm.set n (f s.pwm[n]) }

/-- Change one host window's own state. -/
def winUpd (s : State) (w : Fin 4) (f : Win → Win) : State :=
  { s with host := { s.host with wins := s.host.wins.set w (f s.host.wins[w]) } }

/-- Change the backup domain's own state. -/
def bakUpd (s : State) (f : BakSt → BakSt) : State := { s with bak := f s.bak }

/-- Change SEQ's own state. -/
def seqUpd (s : State) (f : SeqSt → SeqSt) : State := { s with seq := f s.seq }

/-- Change power, reset and clock state. -/
def pwrUpd (s : State) (f : PowerSt → PowerSt) : State := { s with pwr := f s.pwr }

/-- Change the core. -/
def coreUpd (s : State) (f : Core → Core) : State := { s with core := f s.core }

/-! ## Event lines -/

/-- An island raises hardware line `k` (R142); it becomes pending at CORE by HW_EVENT_PENDING. -/
def raise (s : State) (k : Nat) : State :=
  { s with core := { s.core with raised := s.core.raised ||| BitVec.twoPow 32 k } }

/-- Set a W1C flag; its line is raised when the flag was 0. -/
def flagRaise (s : State) (f : Fld) (k : Nat) : State :=
  if s.on f then s else (s.put f 1).raise k

end State

/-- The wait mask of a thread in WAIT, 0 otherwise. -/
def Thread.waitMask (x : Thread) : BitVec 64 :=
  match x.st with
  | .waiting (.event m) => m
  | _ => 0

/-- One occurrence of the lines in `m` reaches a thread: its pending bits are set, and a WAIT on one of them ends
(R91, R92). -/
def Thread.pendLines (x : Thread) (m : BitVec 64) : Thread :=
  let y := { x with pend := x.pend ||| m }
  if x.waitMask &&& m = 0 then y else { y with st := .ready }

/-- The mask of one line. -/
def lineMask (k : Nat) : BitVec 64 := BitVec.twoPow 64 k

namespace State

/-- The lines in `m` become pending in every thread (R91). -/
def pendAll (s : State) (m : BitVec 64) : State := s.mapThr (fun x => x.pendLines m)

/-! ## Power and domains -/

/-- Domain `d` is at power-good (SYS.DOMSTAT.PG). -/
def domPg (s : State) (d : Nat) : Bool := s.bit F.SYS_DOMSTAT_PG d

/-- Domain `d` is commanded on (SYS.DOMCTL). -/
def domOn (s : State) (d : Nat) : Bool :=
  if d < 2 then true else s.bit F.SYS_DOMCTL_DSW (d - 2)

/-- Set a domain's power-good bit. -/
def setPg (s : State) (d : Nat) (b : Bool) : State :=
  if b then s.setBit F.SYS_DOMSTAT_PG d else s.clrBit F.SYS_DOMSTAT_PG d

/-- The main section is powered (R49, R53). -/
def powered (s : State) : Bool :=
  match s.pwr.state with
  | .run | .doze | .calm => true
  | .backup | .off => false

/-- The core can act: RUN or DOZE, out of reset, no SQUALL, and no stop that has reached its SYSTEM reset. -/
def coreLive (s : State) : Bool :=
  (s.pwr.state = .run || s.pwr.state = .doze) && !s.pwr.coreHeld && !s.core.squall && !s.pwr.sysDue

/-- A load that waits at an island has no write ahead of it any more. -/
def loadFreed (isl : Island) (x : Thread) : Thread :=
  match x.stall with
  | some (.window ld) => if islandOf ld.addr = some isl then { x with stall := some (.window { ld with ahead := 0 }) } else x
  | some (.tick gd _) => if isl = .bak then { x with stall := some (.tick gd 0) } else x
  | _ => x

/-- Writes an island's landing latch holds are lost (R50, R52); a load that waited behind them waits no longer. -/
def dropLatch (s : State) (isl : Island) : State :=
  ((s.coreUpd (fun c => { c with latch := c.latch.filter (fun w => decide (w.isl ≠ isl)) })).mapThr
    (loadFreed isl)).retryStalls

/-- DOZE ends when a thread has something to run (R53). -/
def dozeExit (s : State) : State :=
  if s.pwr.state = .doze ∧ s.core.threads.toList.any (fun x => decide (x.st = .ready)) then
    s.pwrUpd (fun p => { p with state := .run })
  else s

/-- A LULL runs (R234). -/
def inLull (s : State) : Bool :=
  match s.pwr.stop with
  | .lull .. => true
  | _ => false

/-- A LULL or a fast stop runs. -/
def stopping (s : State) : Bool :=
  match s.pwr.stop with
  | .none => false
  | _ => true

end State

/-- An access to `a` reaches an island whose domain is off. -/
def State.domOff (s : State) (a : Nat) : Bool :=
  match addrDomain a with
  | some d => !s.domPg d
  | none => false

end Sys2Proof.Machine
end

