-- ==== Sys2Proof/Machine/EngineOps.lean ====
section
/-!
DEFINITION. The telegram engines' shared operations (spec/12_telegram_engine.md): FT1.2 frames and their judgement, the
endpoint table, buffers, the engine regions, the completion queue and the end of an exchange.
-/

namespace Sys2Proof.Machine

/-! ## FT1.2 frames (R262) -/

/-- The checksum: the sum modulo 256 of every byte from C to the last data byte. -/
def ckSum (bs : List Byte) : Byte := bs.foldl (· + ·) 0

/-- A short frame. -/
def shortFrame (c a : Byte) : List Byte := [0x10, c, a, c + a, 0x16]

/-- A long frame around C, A, CI and data. -/
def longFrame (body : List Byte) : List Byte :=
  let l := BitVec.ofNat 8 body.length
  [0x68, l, l, 0x68] ++ body ++ [ckSum body, 0x16]

/-- Status codes of R271 and R274. -/
def stOK : Nat := 0x01
def stTRUNC : Nat := 0x02
def stTIMEOUT : Nat := 0x10
def stPARITY : Nat := 0x11
def stFRAME_ERR : Nat := 0x12
def stCKSUM : Nat := 0x13
def stADDR : Nat := 0x14
def stNKE_FAIL : Nat := 0x20
def stSEL_FAIL : Nat := 0x21
def stBUFERR : Nat := 0x30
def stREGION : Nat := 0x31
def stHELD : Nat := 0x32
def stSKIPPED : Nat := 0x33
def stABORT : Nat := 0x34
def stBADENTRY : Nat := 0x40

/-- The form of a received telegram. -/
inductive RxForm where
  | ack | short | long
  deriving DecidableEq, Repr

/-- A judged telegram (R263): `code` 0 when accepted; the bytes received from C on, at most to the last data byte; how
many of them the frame announces, and whether all came; and the characters after it. -/
structure Judged where
  code : Nat
  form : RxForm
  body : List Byte
  len : Nat
  full : Bool
  rest : List RxChar
  deriving DecidableEq, Repr

/-- A telegram rejected before its C byte. -/
def Judged.err (code : Nat) (rest : List RxChar) : Judged := ⟨code, .ack, [], 0, false, rest⟩

/-- A character that decides the outcome by itself, if it does: a gap before it, or an error in it. -/
def rxFault (c : RxChar) : Option Nat :=
  if c.gapBefore then some stFRAME_ERR else if c.bad then some stPARITY else none

/-- What remains of the line after a character that decided the outcome: a character after a gap starts anew. -/
def rxRest (c : RxChar) (t : List RxChar) : List RxChar := if c.gapBefore then c :: t else t

/-- The stop byte and what follows it. -/
def judgeStop (form : RxForm) (body : List Byte) : List RxChar → Judged
  | [] => ⟨stFRAME_ERR, form, body, body.length, true, []⟩
  | c :: t =>
    match rxFault c with
    | some e => ⟨e, form, body, body.length, true, rxRest c t⟩
    | none => ⟨if c.data = 0x16 then 0 else stFRAME_ERR, form, body, body.length, true, t⟩

/-- `need` bytes from C on, then the checksum and the stop byte; `acc` holds the bytes received, newest first. -/
def judgeBody (form : RxForm) : List RxChar → Nat → List Byte → Judged
  | [], need, acc => ⟨stFRAME_ERR, form, acc.reverse, acc.length + need, need == 0, []⟩
  | c :: t, need, acc =>
    match rxFault c with
    | some e => ⟨e, form, acc.reverse, acc.length + need, need == 0, rxRest c t⟩
    | none =>
      match need with
      | n + 1 => judgeBody form t n (c.data :: acc)
      | 0 =>
        if c.data ≠ ckSum acc then ⟨stCKSUM, form, acc.reverse, acc.length, true, t⟩
        else judgeStop form acc.reverse t

/-- The start of a long frame after its first byte: two equal L bytes of at least 3, then 0x68; `seen` holds those that
have come. Each character is examined as it arrives. -/
def judgeLong : List RxChar → List Byte → Judged
  | [], _ => .err stFRAME_ERR []
  | c :: t, seen =>
    match rxFault c with
    | some e => .err e (rxRest c t)
    | none =>
      match seen with
      | [] => if c.data.toNat < 3 then .err stFRAME_ERR t else judgeLong t [c.data]
      | [l] => if c.data ≠ l then .err stFRAME_ERR t else judgeLong t [l, l]
      | l :: _ => if c.data ≠ 0x68 then .err stFRAME_ERR t else judgeBody .long t l.toNat []

/-- The judgement of a telegram, character by character, the first rule that applies deciding (R263). A telegram cut
short ends in its gap. -/
def judge : List RxChar → Judged
  | [] => .err stFRAME_ERR []
  | c :: t =>
    if c.bad then .err stPARITY t
    else if c.data = 0xE5 then ⟨0, .ack, [], 0, true, t⟩
    else if c.data = 0x10 then judgeBody .short t 2 []
    else if c.data = 0x68 then judgeLong t []
    else .err stFRAME_ERR t

/-- The characters up to the next idle period of GAP, and those after it. -/
def beforeGap (cs : List RxChar) : List RxChar := cs.takeWhile (fun c => !c.gapBefore)
def afterGap (cs : List RxChar) : List RxChar := cs.dropWhile (fun c => !c.gapBefore)

/-! ## Endpoint table (R265) -/

/-- Address of entry `i`. -/
def entAddr (i : Nat) : Nat := 0x200A0000 + 32 * i

namespace State

/-- A byte, halfword and word of entry `i`. -/
def ent8 (s : State) (i off : Nat) : Nat := (s.byte (entAddr i + off)).toNat
def ent16 (s : State) (i off : Nat) : Nat := s.ent8 i off + 256 * s.ent8 i (off + 1)
def ent32 (s : State) (i off : Nat) : Nat := (s.word (entAddr i + off)).toNat

def entValid (s : State) (i : Nat) : Bool := (s.ent8 i 0).testBit 0
def entPort (s : State) (i : Nat) : Nat := s.ent8 i 0 / 2 % 2
def entKind (s : State) (i : Nat) : Nat := s.ent8 i 0 / 4 % 4
def entBufsz (s : State) (i : Nat) : Nat := s.ent8 i 0 / 16 % 4
def entNke (s : State) (i : Nat) : Bool := (s.ent8 i 0).testBit 6
def entEv (s : State) (i : Nat) : Bool := (s.ent8 i 0).testBit 7
def entAdr (s : State) (i : Nat) : Nat := s.ent8 i 1
def entRetry (s : State) (i : Nat) : Nat := s.ent8 i 2 / 16 % 4
def entPeriod (s : State) (i : Nat) : Nat := s.ent16 i 4
def entBuf (s : State) (i : Nat) : Nat := s.ent32 i 8
def entSkip (s : State) (i : Nat) : Nat := s.ent16 i 0x1A
def entNext (s : State) (i : Nat) : Nat := s.ent32 i 0x1C

/-- The rules of R265 and R266 for a selected entry. -/
def entOk (s : State) (i : Nat) : Bool :=
  let adr := s.entAdr i
  let kind := s.entKind i
  decide (kind ≠ 3) && decide (s.entBufsz i ≠ 3) &&
  (kind == 1 || decide (adr ≤ 250) || adr == 254 || adr == 255) &&
  decide (s.ent8 i 2 / 64 = 0) && !(s.ent8 i 2).testBit 3 && decide (s.ent8 i 3 = 0) &&
  decide (s.ent16 i 6 = 0) && decide (s.ent32 i 0xC = 0) &&
  !(adr == 255 && kind != 1 && (kind == 0 || s.entNke i)) && !(adr == 254 && kind == 2)

end State

/-- Buffer sizes coded as BUFSZ. -/
def bufSize (code : Nat) : Nat := 64 * 2 ^ code

/-- A buffer lies wholly in the pool and is aligned to its size (R267). -/
def bufOk (a code : Nat) : Bool :=
  decide (code ≤ 2) && a % bufSize code == 0 && decide (0x200A4000 ≤ a) && decide (a + bufSize code ≤ 0x200B8000)

/-- Whole seconds of TICK, taken modulo 2^32: TICK[46:15] (R269). -/
def State.esec (s : State) : Nat := s.bak.tick.toNat / 2 ^ 15 % 2 ^ 32

/-- How long ago a due time passed; 2^31 or more means it has not (R269). -/
def sincePassed (esec next : Nat) : Nat := (esec + 2 ^ 32 - next % 2 ^ 32) % 2 ^ 32

/-! ## Engine regions (R139) -/

/-- Engine region `k` covers a byte and grants R and W as asked. -/
def State.engCovers (s : State) (k a : Nat) (r w : Bool) : Bool :=
  let ctl := s.get (F.PROT_ENGA_CTL k)
  ctl.testBit 0 && (!r || ctl.testBit 1) && (!w || ctl.testBit 2) &&
    decide (s.get (F.PROT_ENGA_BASE k) ≤ a / 256) && decide (a / 256 ≤ s.get (F.PROT_ENGB_LAST k))

/-- Every byte of `n` from `a` is granted to port `p`'s engine by one of its two regions, each permission judged on
its own. Regions have granules of 256 bytes, so the first byte of each granule decides. -/
def State.engAllows (s : State) (p a n : Nat) (r w : Bool) : Bool :=
  (List.range (n / 256 + 2)).all (fun j =>
    let b := min (a / 256 * 256 + 256 * j) (a + n - 1)
    (!r || s.engCovers (2 * p) b true false || s.engCovers (2 * p + 1) b true false) &&
    (!w || s.engCovers (2 * p) b false true || s.engCovers (2 * p + 1) b false true))

/-! ## Completion queue and exchange end -/

/-- Append a result to the completion queue and raise E12 or E13; a full queue drops it and sets CQOVF (R273). -/
def State.cqAppend (s : State) (p : Fin 2) (e : CqEntry) : State :=
  if s.port[p].cq.length < 16 then (s.portUpd p (fun x => { x with cq := x.cq ++ [e] })).raise (12 + p.val)
  else s.put (F.P_ENG_STAT_CQOVF p) 1

/-- Two bytes of a number, little-endian. -/
def le16 (n : Nat) : List Byte := [BitVec.ofNat 8 n, BitVec.ofNat 8 (n / 256)]

/-- Four bytes of a number, little-endian. -/
def le32 (n : Nat) : List Byte :=
  [BitVec.ofNat 8 n, BitVec.ofNat 8 (n / 2 ^ 8), BitVec.ofNat 8 (n / 2 ^ 16), BitVec.ofNat 8 (n / 2 ^ 24)]

/-- Write an entry's STATUS, LSTATE, SKIP and NEXT: its bytes 0x18 to 0x1F. -/
def State.entWrite (s : State) (i status : Nat) (init fcb : Bool) (skip next : Nat) : State :=
  s.setBytes (entAddr i + 0x18)
    ([BitVec.ofNat 8 status, BitVec.ofNat 8 ((if init then 1 else 0) + (if fcb then 2 else 0))] ++
      le16 (min skip 65535) ++ le32 next)

/-- An entry's INIT and FCB (LSTATE). -/
def State.entInit (s : State) (i : Nat) : Bool := (s.ent8 i 0x19).testBit 0
def State.entFcb (s : State) (i : Nat) : Bool := (s.ent8 i 0x19).testBit 1

/-- NEXT after an entry has been served: it moves by whole periods when the entry is served on schedule (R269,
R270). -/
def State.entServed (s : State) (i k : Nat) (door : Bool) : Nat :=
  if door ∨ s.entPeriod i = 0 then s.entNext i else s.entNext i + (k + 1) * s.entPeriod i

/-- What a reply stores: bytes, TRUNC and SHORT. -/
structure Stored where
  bytes : List Byte
  trunc : Bool
  short : Bool
  deriving DecidableEq, Repr

/-- Write a buffer: the data, then the header with NEW = 1 in the last byte written (R267, R268). `keepLen` leaves
LEN and the payload (KIND 2). -/
def State.bufWrite (s : State) (a : Nat) (st : Stored) (keepLen : Bool) (status : Nat) : State :=
  let s1 := if keepLen then s else (s.setBytes (a + 8) st.bytes).setBytes a (le16 st.bytes.length)
  let s2 := (s1.setByte (a + 2) (BitVec.ofNat 8 status)).setBytes (a + 4) (le32 (s.bak.tick.toNat % 2 ^ 32))
  s2.setByte (a + 3) (BitVec.ofNat 8 (1 + (if st.trunc then 2 else 0) + (if st.short then 4 else 0)))

/-- An engine frame has ended: FENCE.P waits for it no longer (R141). -/
def State.frameOver (s : State) (p : Fin 2) : State :=
  (s.coreUpd (fun c => { c with fenceP := c.fenceP.set p false })).retryStalls

/-- A target's answer is sent or dropped; its frame ends. -/
def State.answerOver (s : State) (p : Fin 2) : State :=
  if s.port[p].answer.isSome then
    ((s.put (F.P_STAT_TXHOLD p) 0).portUpd p (fun x => { x with answer := none })).frameOver p
  else s

/-- The engine stops after the exchange when a CORE reset asked for it (R60), and FENCE.P need not wait for this
exchange any more (R141). -/
def State.exchOver (s : State) (p : Fin 2) : State :=
  let s1 := s.portUpd p (fun x => { x with exch := none })
  let s2 := if s1.port[p].haltAfter then
      (s1.put (F.P_ENG_CTL_RUN p) 0).portUpd p (fun x => { x with haltAfter := false, resync := true })
    else s1
  (s2.put (F.P_ENG_CUR_ACTIVE p) 0).frameOver p

/-- One exchange of R261 has ended with a code: the counters of Px.ENG.CNT. -/
def State.exchCount (s : State) (p : Nat) (status : Nat) : State :=
  let s1 := s.bump (F.P_ENG_CNT_EXCH p)
  if 0x10 ≤ status ∧ status ≤ 0x21 then s1.bump (F.P_ENG_CNT_ERRS p) else s1

/-- An exchange ends (R268): data, header, entry, completion queue, event, and the counters of Px.ENG.CNT. -/
def State.exchEnd (s : State) (p : Fin 2) (x : Exch) (status : Nat) (st : Stored) : State :=
  let ok := decide (status = stOK) || decide (status = stTRUNC)
  let s1 := s.bufWrite (s.entBuf x.index) st (s.entKind x.index == 2) status
  let s2 := s1.entWrite x.index status x.init (if ok then !x.fcb else x.fcb) (s.entSkip x.index)
    (s.entServed x.index x.k x.door)
  let s3 := (if s.entEv x.index then s2.cqAppend p ⟨x.index, false, status⟩ else s2).raise (12 + p.val)
  (s3.exchCount p status).exchOver p

/-- An exchange, or a target's answer, is broken off by LULL, a breach, CUT or loss of power-good (R271 ABORT). -/
def State.engAbort (s : State) (p : Fin 2) : State :=
  let s1 := match s.port[p].exch with
    | some x => s.exchEnd p x stABORT ⟨[], false, false⟩
    | none => s
  s1.answerOver p

/-- The engine's run conditions have failed: it resynchronises before it polls again (R260). -/
def State.engStop (s : State) (p : Fin 2) : State :=
  (s.engAbort p).portUpd p (fun x => { x with resync := true })

end Sys2Proof.Machine
end

