-- ==== Sys2Proof/Machine/Power.lean ====
section
/-!
DEFINITION. Power-good, the rise order and the comparators of a rail, shared by every island that switches a rail
(R226 to R230, R134), and the delivered wired bits (R66).
-/

namespace Sys2Proof.Machine

namespace State

/-! ## Wired OTP bits -/

/-- Bits [lo + w − 1 : lo] of the delivered wired bits W[127:0] (R64, R66). -/
def wired (s : State) (lo w : Nat) : Nat :=
  (s.get (F.OTP_WIRED_W 0) + s.get (F.OTP_WIRED_W 1) * 2 ^ 32 + s.get (F.OTP_WIRED_W 2) * 2 ^ 64 +
    s.get (F.OTP_WIRED_W 3) * 2 ^ 96) / 2 ^ lo % 2 ^ w

/-- PA_MODE or PB_MODE: 0 either, 1 master only, 2 target only, 3 disabled. -/
def otpPortMode (s : State) (p : Nat) : Nat := s.wired (32 + 2 * p) 2

/-- MARK_CAP as a MARK code: 180 minus the field, at least 0. -/
def markCap (s : State) : Nat := 180 - min (s.wired 36 8) 180

/-- PLIM_CAP as a PLIM code. -/
def plimCap (s : State) : Nat := 150 - min (s.wired 44 8) 140

/-- ESTORE_CAP as an ESTORE code. -/
def estoreCap (s : State) : Nat := 100 - min (s.wired 52 7) 90

/-- BOOTSRC, QCMD, POLICY, EARLY_SEL and EARLY_REF. -/
def bootSrc (s : State) : Nat := s.wired 59 2
def qcmd (s : State) : Nat := s.wired 61 2
def policy (s : State) : Nat := s.wired 63 8
def earlySel (s : State) : Nat := s.wired 71 3
def earlyRef (s : State) : Nat := s.wired 74 11

/-- The early channel, when EARLY_SEL and EARLY_REF name one (R67). -/
def earlyChannel (s : State) : Option (Fin 6) :=
  if h : 1 ≤ s.earlySel ∧ s.earlySel ≤ 6 then
    if s.earlyRef ≤ 1250 then some ⟨s.earlySel - 1, by omega⟩ else none
  else none

/-! ## Power-good -/

/-- A ganged follower: SW2 while SW1.CTL.GANG is 1, SW4 while SW3.CTL.GANG is 1 (R197, R198). -/
def follower (s : State) (n : Nat) : Bool :=
  (n == 1 && s.on (F.SW_CTL_GANG 0)) || (n == 3 && s.on (F.SW_CTL_GANG 2))

/-- Channel `n` leads an enabled gang. -/
def leads (s : State) (n : Nat) : Bool := (n == 0 || n == 2) && s.on (F.SW_CTL_GANG n)

/-- Power-good of rail `c` (SEQ.PG and its copy in CORE, R227, R134). -/
def pg (s : State) (c : Nat) : Bool := s.bit F.SEQ_PG_PG (c - 1)

/-- Threads in pgwait on rail `c` continue (R134). -/
def pgWake (s : State) (c : Nat) : State :=
  (s.mapThr (fun x =>
    match x.st with
    | .waiting (.pg r nxt _) => if r = c then { x with st := .ready, pc := nxt } else x
    | _ => x)).dozeExit

/-- One power-good bit takes a value; each change raises E8 (R227); a port's engine breaks off when its
power-good is lost (R260). -/
def pgPut (s : State) (c : Nat) (b : Bool) : State :=
  if s.pg c = b then s
  else
    let s1 := if b then s.setBit F.SEQ_PG_PG (c - 1) else s.clrBit F.SEQ_PG_PG (c - 1)
    let s2 := if c = 17 ∨ c = 18 then s1.putB (F.P_STAT_PG (c - 17)) b else s1
    let s3 := s2.raise 8
    if b then s3.pgWake c
    else if c = 17 then s3.engStop 0
    else if c = 18 then s3.engStop 1
    else s3

/-- Power-good of rail `c` changes; the code of a ganged follower reports its leader's (R229). -/
def pgSet (s : State) (c : Nat) (b : Bool) : State :=
  let s1 := s.pgPut c b
  if s.leads (c - 1) then s1.pgPut (c + 1) b else s1

/-- A rail's first rise since its enable appends it to the rise order; SW2 and SW4 of a gang never enter (R229,
R230). -/
def riseAdd (s : State) (c : Nat) : State :=
  if c ≤ 18 ∧ s.follower (c - 1) = false ∧ c ∉ s.seq.rise then
    s.seqUpd (fun q => { q with rise := q.rise ++ [c] })
  else s

/-- A rail that is switched off leaves the rise order. -/
def riseDrop (s : State) (c : Nat) : State :=
  s.seqUpd (fun q => { q with rise := q.rise.filter (fun x => x != c) })

/-- Clear bit `i` of a 32-bit set. -/
def clr32 (v : BitVec 32) (i : Nat) : BitVec 32 := v &&& ~~~(BitVec.twoPow 32 i)

/-- Set bit `i` of a 32-bit set. -/
def set32 (v : BitVec 32) (i : Nat) : BitVec 32 := v ||| BitVec.twoPow 32 i

/-- The comparators of a rail that is switched off, or starts, are blanked (R226). -/
def supBlank (s : State) (c : Nat) : State :=
  s.seqUpd (fun q => { q with uvNow := clr32 q.uvNow c, ovNow := clr32 q.ovNow c })

/-- What every switch-off of a rail shares: power-good falls, the rail leaves the rise order, its comparators are
blanked (R226, R227, R230). -/
def railDown (s : State) (c : Nat) : State := ((s.pgSet c false).riseDrop c).supBlank c

/-- An included CUT comparator is tripped now (R333); suspect sensors are excluded (R328). -/
def cutActive (s : State) : Bool :=
  (s.seq.cutNow &&& ~~~(BitVec.ofNat 8 (s.get F.THERM_SUSP_S))) != 0

/-- An enable was refused: SEQ.STAT.REFUSED (R223, R237). -/
def seqRefuse (s : State) : State := s.put F.SEQ_STAT_REFUSED 1

end State

end Sys2Proof.Machine
end

