-- ==== Sys2Proof/Machine/Sw.lean ====
section
/-!
DEFINITION. The switching controllers SW1 to SW6 (spec/08_switching_controllers.md): enable, soft-start, set-point and
ramp, the phase loop, limits and latches, gangs and the current-sense calibration.
-/

namespace Sys2Proof.Machine

namespace State

/-- Channel `n` (0 for SW1) has power: domains D7 to D12 (R49). -/
def swLive (s : State) (n : Nat) : Bool := s.powered && s.domPg (7 + n)

/-- LOCKED takes a value: a loss counts in UNLOCKCNT, a change raises E9 while LOCKEV is 1 (R186). -/
def swLocked (s : State) (n : Nat) (b : Bool) : State :=
  if s.on (F.SW_STAT_LOCKED n) = b then s
  else
    let s1 := s.putB (F.SW_STAT_LOCKED n) b
    let s2 := if b then s1 else s1.bump (F.SW_CNT_UNLOCKCNT n)
    if s2.on (F.SW_CTL_LOCKEV n) then s2.raise 9 else s2

/-- Both gates of channel `n` stay off: not switching, no soft-start, no ramp, no yield, not locked. -/
def swGatesOff (s : State) (n : Fin 6) : State :=
  let s1 := s.swLocked n false
  let s2 := ((((s1.put (F.SW_STAT_RUN n) 0).put (F.SW_STAT_SSDONE n) 0).put (F.SW_STAT_YIELD n) 0).put
    (F.SW_REF_MOVING n) 0)
  s2.swUpd n (fun x => { x with
    ss := false, ramp := none, lockRun := 0, satRun := 0, yieldLen := 0, yieldQuiet := 0, contRun := 0,
    skipping := false, ssTrips := 0, tripped := false, cleanRun := 0, ovpHold := false, readd := 0, phase := 0,
    relock := none, lgPulse := false, mateNext := false, fell := false })

/-- The gates of a channel and, for a gang leader, of its follower go off (R197, R198). -/
def swStop (s : State) (n : Fin 6) : State :=
  let s1 := s.swGatesOff n
  if h : s.leads n ∧ n.val + 1 < 6 then s1.swGatesOff ⟨n.val + 1, h.2⟩ else s1

/-- Disable: gates off, EN 0, the discharge path as asked, and the rail goes down (R195, R227). -/
def swDisable (s : State) (n : Fin 6) (dis : Bool) : State :=
  let s1 := ((s.swStop n).put (F.SW_CTL_EN n) 0).putB (F.SW_CTL_DISCH n) dis
  let s2 := s1.swUpd n (fun x => { x with restart := false, vsysStop := false, dis := dis })
  s2.railDown (n.val + 1)

/-- One channel's part of a latch: EN 0, CAUSE recorded, and the discharge path as CTL.DISCH has it. -/
def swLatchOne (s : State) (n : Fin 6) (cause : Nat) : State :=
  let s1 := ((s.swGatesOff n).put (F.SW_CTL_EN n) 0).put (F.SW_STAT_CAUSE n) cause
  let s2 := s1.swUpd n (fun x => { x with restart := false, vsysStop := false, dis := s.on (F.SW_CTL_DISCH n) })
  s2.railDown (n.val + 1)

/-- The other channel of an enabled gang. -/
def gangMate (s : State) (n : Fin 6) : Option (Fin 6) :=
  match n with
  | 0 => if s.on (F.SW_CTL_GANG 0) then some 1 else none
  | 1 => if s.on (F.SW_CTL_GANG 0) then some 0 else none
  | 2 => if s.on (F.SW_CTL_GANG 2) then some 3 else none
  | 3 => if s.on (F.SW_CTL_GANG 2) then some 2 else none
  | _ => none

/-- A latch: gates off, EN cleared, CAUSE recorded, E9 raised; a latch on either phase of a gang latches both and
each records the cause (R195, R197). -/
def swLatch (s : State) (n : Fin 6) (cause : Nat) : State :=
  let s1 := s.swLatchOne n cause
  let s2 := match s.gangMate n with
    | some m => s1.swLatchOne m cause
    | none => s1
  s2.raise 9

/-- A running calibration ends with ENABLED when its channel starts to switch (R201). -/
def swCalAbort (s : State) (n : Nat) : State :=
  if s.on (F.SW_CAL_BUSY n) then (((s.put (F.SW_CAL_BUSY n) 0).put (F.SW_CAL_RESULT n) 4).raise 9) else s

/-- The gang follower that switches with `n`: none outside a gang, and none while SW2 is shed (R197 to R199). -/
def swMate (s : State) (n : Fin 6) : Option (Fin 6) :=
  match s.gangMate n with
  | some m => if s.follower n || (s.on (F.SW_CTL_SHED 0) && m == 1) then none else some m
  | none => none

/-- Begin a soft-start: the reference starts at the code nearest FBn, clamped between 0 and the target, and MOVING
is 1 (R196). A gang's follower switches too, and a calibration it runs is aborted (R197, R201). -/
def softStartBegin (s : State) (n : Fin 6) (fb : Nat) : State :=
  let s1 := ((((s.put (F.SW_REF_NOW n) (min fb (s.get (F.SW_REF_TARGET n)))).put (F.SW_REF_MOVING n) 1).put
    (F.SW_STAT_SSDONE n) 0).put (F.SW_STAT_RUN n) 1)
  let s2 := s1.swUpd n (fun x => { x with
    ss := true, ramp := none, restart := false, vsysStop := false, ssTrips := 0, tripped := false, cleanRun := 0 })
  let s3 := match s.swMate n with
    | some m => (s2.swCalAbort m).put (F.SW_STAT_RUN m) 1
    | none => s2
  s3.supBlank (n.val + 1)

/-- Enable channel `n` with FBn at code `fb` (R196, R195): refused while LULL or the fast stop runs (R237); a fresh
soft-start, with CAUSE cleared in every channel that starts; cut again at once while an included CUT comparator stays
tripped (R333). A channel that is enabled already is not started again. -/
def swEnable (s : State) (n : Fin 6) (fb : Nat) : State :=
  if s.stopping then s.seqRefuse
  else if s.on (F.SW_CTL_EN n) then s
  else
    let s1 := s.swCalAbort n
    let s2 := (((s1.put (F.SW_CTL_EN n) 1).put (F.SW_STAT_CAUSE n) 0).put (F.SW_STAT_RETRIES n) 0)
    let s3 := match s.gangMate n with
      | some m => s2.put (F.SW_STAT_CAUSE m) 0
      | none => s2
    let s4 := (s3.swUpd n (fun x => { x with dis := false })).softStartBegin n fb
    if s4.cutActive then s4.swLatch n 3 else s4

/-- rail sw2 in a balanced gang: op 0 or 2 sheds SW2, op 1 adds it back; the re-add precharges BST2 and starts with
BTRIM 0 and a quarter of the on-time while SW1 switches (R199, R200). -/
def sw2Shed (s : State) (op : Nat) : State :=
  if op = 1 then
    if s.on (F.SW_CTL_SHED 0) then
      let s1 := (s.put (F.SW_CTL_SHED 0) 0).put (F.SW_TRIM_BTRIM 0) 0
      if s1.on (F.SW_STAT_RUN 0) then
        ((s1.swCalAbort 1).put (F.SW_STAT_RUN 1) 1).swUpd 1 (fun x => { x with readd := 1, lgPulse := true })
      else s1
    else s
  else (s.swGatesOff 1).put (F.SW_CTL_SHED 0) 1

/-- The reference of channel `n` begins to move downward: OVP is not active (R194) and, under ramp or setv, the OV
comparator of the rail is blanked (R226). -/
def swFall (s : State) (n : Fin 6) : State :=
  (s.swUpd n (fun x => { x with ovpHold := false, fell := !x.ss || x.fell })).seqUpd (fun q =>
    { q with ovNow := clr32 q.ovNow (n.val + 1) })

/-- A change of the target to `code` from the present reference: a downward one begins a fall. -/
def swFallTo (s : State) (n : Fin 6) (code : Nat) : State :=
  if code < s.get (F.SW_REF_NOW n) then s.swFall n else s

/-- Only the target changes: in soft-start (R196) and in a latched channel (the Corners of spec/08). -/
def swTargetOnly (s : State) (n : Fin 6) : Bool := s.sw[n].ss || s.get (F.SW_STAT_CAUSE n) != 0

/-- setv reaching SWn (R132, R196, R199): the code applies at once and a ramp in progress ends; in soft-start and in a
latched channel only the target changes; a ganged follower ignores it. -/
def swSetv (s : State) (n : Fin 6) (code : Nat) : State :=
  if s.follower n then s.put (F.SW_STAT_GANGIGN n) 1
  else
    let s1 := s.put (F.SW_REF_TARGET n) code
    if s.sw[n].ss then s1.swFallTo n code
    else if s.swTargetOnly n then s1
    else (((s1.swFallTo n code).put (F.SW_REF_NOW n) code).put (F.SW_REF_MOVING n) 0).swUpd n
      (fun x => { x with ramp := none })

/-- ramp reaching SWn: one code per step of `us` microseconds from the present reference (R132); a step time of 0
acts as setv; in soft-start and in a latched channel only the target changes. -/
def swRamp (s : State) (n : Fin 6) (code us : Nat) : State :=
  if us = 0 ∨ s.follower n ∨ s.swTargetOnly n then s.swSetv n code
  else
    let s1 := s.put (F.SW_REF_TARGET n) code
    if s.get (F.SW_REF_NOW n) = code then
      (s1.put (F.SW_REF_MOVING n) 0).swUpd n (fun x => { x with ramp := none })
    else ((s1.swFallTo n code).put (F.SW_REF_MOVING n) 1).swUpd n (fun x => { x with ramp := some (code, us) })

/-- rail reaching SWn: op 0 off, 1 on, 2 off with its discharge path; op 0 and 1 open that path (R132, R199). -/
def swRail (s : State) (n : Fin 6) (op fb : Nat) : State :=
  if s.follower n then
    if n = 1 then s.sw2Shed op else s.put (F.SW_STAT_GANGIGN n) 1
  else if op = 1 then
    if s.stopping then s.seqRefuse
    else ((s.put (F.SW_CTL_DISCH n) 0).swUpd n (fun x => { x with dis := false })).swEnable n fb
  else s.swDisable n (op == 2)

/-- One code toward a target. -/
def toward (a b : Nat) : Nat := if a < b then a + 1 else if b < a then a - 1 else a

/-- One step of a ramp in progress (R132): the ramp ends when the reference reaches the target. -/
def swRampStep (s : State) (n : Fin 6) : State :=
  match s.sw[n].ramp with
  | none => s
  | some (code, _) =>
    let now := toward (s.get (F.SW_REF_NOW n)) code
    let s1 := s.put (F.SW_REF_NOW n) now
    if now = code then (s1.put (F.SW_REF_MOVING n) 0).swUpd n (fun x => { x with ramp := none }) else s1

/-- A store to SWn.CTL (R199): GANG keeps its value, and CFGERR sets, when a store would change it while either
channel of the pair is enabled; EN switches the channel on or off, and is only stored in a ganged follower, which its
leader starts and stops; DISCH closes the discharge path while EN is 0. -/
def swCtlWrite (s : State) (n : Fin 6) (ring : Nat) (v : Word) (fb : Nat) : State :=
  if ring ≠ 0 then s
  else
    let en := s.on (F.SW_CTL_EN n)
    let gang := s.get (F.SW_CTL_GANG n)
    let s1 := (s.plainWrite (F.SW_CTL_EN n).addr ring v).putB (F.SW_CTL_EN n) en
    let busy := en || (n.val + 1 < 6 && s.on (F.SW_CTL_EN (n.val + 1)))
    let s2 := if s1.get (F.SW_CTL_GANG n) ≠ gang ∧ busy then
        (s1.put (F.SW_CTL_GANG n) gang).put (F.SW_STAT_CFGERR n) 1
      else s1
    if s2.follower n then s2.putB (F.SW_CTL_EN n) (bitOf v 0)
    else if bitOf v 0 && !en then s2.swEnable n fb
    else if !bitOf v 0 && en then s2.swDisable n (bitOf v 1)
    else s2.swUpd n (fun x => { x with dis := bitOf v 1 && !en })

/-- A store to SWn.REF: the TARGET it leaves applies as setv does; in a ganged follower it is only stored. -/
def swRefWrite (s : State) (n : Fin 6) (ring : Nat) (v : Word) : State :=
  if ring ≠ 0 ∨ 1250 < bitsOf v 0 11 then s
  else if s.follower n then s.put (F.SW_REF_TARGET n) (bitsOf v 0 11)
  else s.swSetv n (bitsOf v 0 11)

/-- A store to SWn.CAL: CSOFS is written, and GO starts a calibration, is refused, or is ignored while one runs
(R201). -/
def swCalWrite (s : State) (n : Fin 6) (ring : Nat) (v : Word) : State :=
  let s1 := s.plainWrite (F.SW_CAL_BUSY n).addr ring v
  if ring ≠ 0 ∨ bitOf v 0 = false then s1
  else if s1.on (F.SW_CAL_BUSY n) then s1
  else if s1.on (F.SW_CTL_EN n) ∨ s1.on (F.SW_STAT_RUN n) ∨ s1.get (F.SW_STAT_CAUSE n) ≠ 0 then
    (s1.put (F.SW_CAL_RESULT n) 3).raise 9
  else s1.put (F.SW_CAL_BUSY n) 1

/-! ## The phase loop -/

/-- A free value in [−m, m]. -/
def freeMove (s : State) (m : Nat) : Int := (s.fresh % (2 * m + 1) : Nat) - (m : Int)

/-- Add a free move of at most `m` to a signed field, kept within ±`lim` (R186, R197: the loop laws are not stated,
only their bounds). -/
def moveTrim (s : State) (f : Fld) (m lim : Nat) : State :=
  let t := signedOf (s.get f) f.width + s.freeMove m
  (s.put f (fieldOfInt (max (-(lim : Int)) (min (lim : Int) t)) f.width)).tickFree

/-- The channel that governs `n`: its leader in an enabled gang, else `n` itself (R197, R198). -/
def swGov (s : State) (n : Nat) : Nat := if s.follower n then n - 1 else n

/-- Diode emulation is in force: MODE = 1, or the channel still in soft-start (R190, R196). -/
def swDiode (s : State) (n : Nat) : Bool :=
  !s.on (F.SW_STAT_SSDONE (s.swGov n)) || s.on (F.SW_CTL_MODE (s.swGov n))

/-- A yield begins, with `len` of its cycles over (R187). -/
def swYieldBegin (s : State) (n : Fin 6) (len : Nat) : State :=
  if s.on (F.SW_STAT_YIELD n) then s
  else (s.put (F.SW_STAT_YIELD n) 1).swUpd n (fun x => { x with yieldLen := len, yieldQuiet := 0 })

/-- The yield state after a cycle (R187): a cycle with a trigger is the first of a yield; a yield ends after 2
consecutive cycles with a period within ±25 %, and with its 8th cycle unless cycles are being skipped in diode
emulation (R189). -/
def swYield (s : State) (n : Fin 6) (o : SwObs) : State :=
  if s.on (F.SW_STAT_YIELD n) then
    let near := decide (3 * o.refPeriod ≤ 4 * o.period) && decide (4 * o.period ≤ 5 * o.refPeriod)
    let quiet := if near then s.sw[n].yieldQuiet + 1 else 0
    let len := s.sw[n].yieldLen + 1
    let s1 := s.swUpd n (fun x => { x with yieldLen := len, yieldQuiet := quiet })
    if 2 ≤ quiet ∨ (8 ≤ len ∧ s.sw[n].skipping = false) then s1.put (F.SW_STAT_YIELD n) 0 else s1
  else if 4 * o.period < 3 * o.refPeriod ∨ o.offAtMin then s.swYieldBegin n 1
  else s

/-- Skipping in diode emulation (R189): a discontinuous cycle starts it, 16 consecutive continuous cycles end it. -/
def swSkip (s : State) (n : Fin 6) (o : SwObs) : State :=
  let run := if o.continuous then s.sw[n].contRun + 1 else 0
  let skip := s.swDiode n && (!o.continuous || (s.sw[n].skipping && decide (run < 16)))
  s.swUpd n (fun x => { x with contRun := run, skipping := skip })

/-- PTRIM stands at a limit (R186). -/
def atTrimLimit (s : State) (n : Nat) : Bool :=
  signedOf (s.get (F.SW_TRIM_PTRIM n)) 10 == 256 || signedOf (s.get (F.SW_TRIM_PTRIM n)) 10 == -256

/-- The phase loop does not move the phase in this cycle: it yields, skips cycles, or runs at the minimum on-time
(R182, R187, R189). -/
def phaseIdle (s : State) (n : Fin 6) (o : SwObs) : Bool :=
  s.on (F.SW_STAT_YIELD n) || s.sw[n].skipping || o.onTimeBelow40ns

end State

/-- The size of the phase error after a cycle of the way back (R188): it shrinks by at most 5.625° in a cycle and by at
least 5.625° in four. `prev` and `base` are its size a cycle ago and at the start of the four, `k` the cycles of the four
that are over, `seen` what the island measures. -/
def relockSize (prev base k seen : Nat) : Nat :=
  max (prev - 5625) (min (if 3 ≤ k then min prev (base - 5625) else prev) seen)

/-- The phase error a cycle leaves on the way back toward the target: on the side where it was. -/
def relockErr (prev : Int) (base k : Nat) (seen : Int) : Int :=
  if prev < 0 then -(relockSize prev.natAbs base k seen.natAbs : Int) else relockSize prev.natAbs base k seen.natAbs

namespace State

/-- The phase error of a cycle in which the loop is `idle` or works: as measured, and on the way back after a yield
within R188. -/
def swErr (s : State) (n : Fin 6) (o : SwObs) (idle : Bool) : Int :=
  match s.sw[n].relock with
  | some (b, k) => if idle || s.atTrimLimit n then o.phaseErr else relockErr s.sw[n].phase b k o.phaseErr
  | none => o.phaseErr

/-- The period of a cycle equals the reference period: as measured, and on the way back when the phase did not move. -/
def swOnPeriod (s : State) (n : Fin 6) (o : SwObs) (idle : Bool) : Bool :=
  match s.sw[n].relock with
  | some _ => if idle || s.atTrimLimit n then o.period == o.refPeriod else s.swErr n o idle == s.sw[n].phase
  | none => o.period == o.refPeriod

/-- The phase after a cycle: its error is kept, and the way back toward the target starts where the loop was kept from
moving it, and ends with the lock (R187 to R189). -/
def swPhaseStep (s : State) (n : Fin 6) (o : SwObs) (idle : Bool) : State :=
  let e := s.swErr n o idle
  let back := if s.on (F.SW_STAT_LOCKED n) then none
    else match s.sw[n].relock with
      | some (b, k) => if 3 ≤ k || idle || s.atTrimLimit n then some (e.natAbs, 0) else some (b, k + 1)
      | none => if s.on (F.SW_STAT_YIELD n) || s.sw[n].skipping then some (e.natAbs, 0) else none
  s.swUpd n (fun x => { x with phase := e, relock := back })

/-- LOCKED after a cycle (R186): 16 consecutive cycles in the window and at the reference period lock; an error
beyond ±11.25° unlocks; a channel at its minimum on-time (R182) or skipping cycles (R189) is not locked. -/
def swLockStep (s : State) (n : Fin 6) (o : SwObs) (idle : Bool) : State :=
  if o.onTimeBelow40ns ∨ s.sw[n].skipping then
    (s.swLocked n false).swUpd n (fun x => { x with lockRun := 0 })
  else
    let e := s.swErr n o idle
    let run := if decide (e.natAbs ≤ 5625) && s.swOnPeriod n o idle then s.sw[n].lockRun + 1 else 0
    let s1 := s.swUpd n (fun x => { x with lockRun := run })
    if 16 ≤ run then s1.swLocked n true
    else if 11250 < e.natAbs then s1.swLocked n false
    else s1

/-- PTRIM after a cycle: frozen while the loop is `idle`, that is it yields, skips cycles or runs at the minimum
on-time, else moved by at most 4 units within ±256; the run of cycles at a limit is counted (R186, R187, R189). R183 has
PTRIM frozen while the channel is not locked, and R186 and R188 have the loop find its lock by moving it: the loop moves
PTRIM toward a lock in the cycles in which it works (DEDUCED, log entry 24). -/
def swTrimStep (s : State) (n : Fin 6) (idle : Bool) : State :=
  let s1 := if idle then s else s.moveTrim (F.SW_TRIM_PTRIM n) 4 256
  s1.swUpd n (fun x => { x with satRun := if s1.atTrimLimit n then x.satRun + 1 else 0 })

/-- BTRIM after a cycle of SW1 in a balanced pair: the balance loop moves it within ±128; it is held at 0 during a
re-add and while SW2 is shed (R197, R200). -/
def swBalanceStep (s : State) (n : Fin 6) : State :=
  if n = 0 ∧ s.on (F.SW_CTL_GANG 0) then
    if s.on (F.SW_CTL_SHED 0) ∨ (1 ≤ s.sw[1].readd ∧ s.sw[1].readd < 65) then s.put (F.SW_TRIM_BTRIM 0) 0
    else s.moveTrim (F.SW_TRIM_BTRIM 0) 256 128
  else s

/-- The re-add of SW2 counts its on-times: 25 % at the first, 100 % at the 64th, balance from the 65th (R200). -/
def swReaddStep (s : State) (n : Fin 6) : State :=
  if n = 1 ∧ 1 ≤ s.sw[1].readd ∧ s.sw[1].readd < 65 then s.swUpd 1 (fun x => { x with readd := x.readd + 1 })
  else s

/-- One millisecond in counts of the ring oscillator, which runs at 256 MHz within ±3 % (R183, R390): a free value of
that band. -/
def ringMs (s : State) : Nat := 248320 + s.fresh % 15361

/-- The clean period: SLT milliseconds without the average above the slow limit return RETRIES to 0 (R193). -/
def swCleanStep (s : State) (n : Fin 6) (o : SwObs) : State :=
  if s.on (F.SW_STAT_SSDONE n) then
    let run := if o.overSlow then 0 else s.sw[n].cleanRun + o.period
    let s1 := s.swUpd n (fun x => { x with cleanRun := run })
    (if s.get (F.SW_LIM_SLT n) * s.ringMs ≤ run then s1.put (F.SW_STAT_RETRIES n) 0 else s1).tickFree
  else s

/-- The pulse on LGn before the next on-time (R190). -/
def swPulseStep (s : State) (n : Fin 6) (o : SwObs) : State := s.swUpd n (fun x => { x with lgPulse := o.bstLow })

/-- The channel whose cycle comes next in the gang of `n`: the leader's comparator starts them alternately (R197,
R198). -/
def swTurn (s : State) (n : Fin 6) : Bool :=
  match s.gangMate n with
  | some m =>
    if s.on (F.SW_STAT_RUN m) then
      if s.follower n then s.sw[m].mateNext else !s.sw[n].mateNext
    else true
  | none => true

/-- The turn passes to the other channel of the gang. -/
def swPassTurn (s : State) (n : Fin 6) : State :=
  match s.gangMate n with
  | some m =>
    if s.follower n then s.swUpd m (fun x => { x with mateNext := false })
    else s.swUpd n (fun x => { x with mateNext := true })
  | none => s

/-- OVP holds HGn off and LGn on: in a gang the leader's FBn decides (R194, R197). -/
def ovpHeld (s : State) (n : Fin 6) : Bool :=
  match s.gangMate n with
  | some m => if s.follower n then s.sw[m].ovpHold else s.sw[n].ovpHold
  | none => s.sw[n].ovpHold

/-- The fast-trip run of a soft-start breaks at an on-time that ended without a trip (R191). -/
def swTripRun (s : State) (n : Fin 6) : State :=
  s.swUpd n (fun x => { x with ssTrips := if x.tripped then x.ssTrips else 0, tripped := false })

/-- What one cycle does to channel `n` (R181 to R190, R193, R200). -/
def swCycleWork (s : State) (n : Fin 6) (o : SwObs) : State :=
  let s1 := ((s.swTripRun n).swSkip n o).swYield n o
  let idle := s.on (F.SW_STAT_YIELD n) || s1.phaseIdle n o
  let s2 := ((s1.swLockStep n o idle).swPhaseStep n o idle).swTrimStep n idle
  (((s2.swBalanceStep n).swReaddStep n).swCleanStep n o).swPulseStep n o

/-- One switching cycle of channel `n`, in a gang when its turn has come (R197). -/
def swCycle (s : State) (n : Fin 6) (o : SwObs) : State :=
  if s.swLive n ∧ s.on (F.SW_STAT_RUN n) ∧ s.ovpHeld n = false ∧ s.swTurn n then
    (s.swCycleWork n o).swPassTurn n
  else s

/-! ## Limits -/

/-- Soft-start of the channel that governs `n`. -/
def swInSs (s : State) (n : Fin 6) : Bool :=
  if s.follower n then
    match s.gangMate n with
    | some m => s.sw[m].ss
    | none => false
  else s.sw[n].ss

/-- A fast trip (R187, R191, R192): the first while FTRIP is 0 sets it and raises E1, later ones count; the loop
yields; four consecutive trips in soft-start latch SS_SHORT. -/
def fastTrip (s : State) (n : Fin 6) : State :=
  if s.swLive n ∧ s.on (F.SW_STAT_RUN n) then
    let s1 := if s.on (F.SW_STAT_FTRIP n) then s.bump (F.SW_CNT_FTRIPCNT n)
      else (s.put (F.SW_STAT_FTRIP n) 1).raise 1
    let s2 := s1.swYieldBegin n 0
    if s.swInSs n then
      let k := s.sw[n].ssTrips + 1
      let s3 := s2.swUpd n (fun x => { x with ssTrips := k, tripped := true })
      if 4 ≤ k then s3.swLatch n 1 else s3
    else s2.swUpd n (fun x => { x with tripped := true })
  else s

/-- The slow limit acts (R193): blanked until SSDONE. With SLACT 0, or after RETRY restarts, the channel latches
OVERLOAD; else it stops and waits for its restart. -/
def slowLimit (s : State) (n : Fin 6) : State :=
  if s.swLive n ∧ s.on (F.SW_STAT_RUN n) ∧ s.on (F.SW_STAT_SSDONE n) ∧ s.follower n = false then
    let s1 := s.put (F.SW_STAT_SLOW n) 1
    if s.on (F.SW_LIM_SLACT n) ∧ s.get (F.SW_STAT_RETRIES n) < s.get (F.SW_LIM_RETRY n) then
      let s2 := ((s1.swStop n).raise 9).swUpd n (fun x => { x with restart := true })
      (s2.pgSet (n.val + 1) false).supBlank (n.val + 1)
    else s1.swLatch n 2
  else s

/-- 64 ms after an overload stop (R193): the channel restarts; with VSYS still below its level the start waits for it
(R195). -/
def slowRestart (s : State) (n : Fin 6) (fb : Nat) : State :=
  if s.swLive n ∧ s.sw[n].restart ∧ s.on (F.SW_CTL_EN n) then
    let s1 := s.put (F.SW_STAT_RETRIES n) (s.get (F.SW_STAT_RETRIES n) + 1)
    if s.sw[n].vsysStop then s1.swUpd n (fun x => { x with restart := false }) else s1.softStartBegin n fb
  else s

/-- The reference moves downward (R194, R226). -/
def swFalling (s : State) (n : Nat) : Bool :=
  s.on (F.SW_REF_MOVING n) && decide (s.get (F.SW_REF_TARGET n) < s.get (F.SW_REF_NOW n))

/-- FBn above 115 % of the reference (R194): not while the reference moves downward, and not on the FBn of a ganged
follower, which governs nothing (R197, R198). -/
def ovpEnter (s : State) (n : Fin 6) : State :=
  if s.swLive n ∧ s.on (F.SW_STAT_RUN n) ∧ s.swFalling n = false ∧ s.sw[n].ovpHold = false ∧ s.follower n = false then
    (s.put (F.SW_STAT_OVP n) 1).swUpd n (fun x => { x with ovpHold := true })
  else s

/-- FBn below 105 % of the reference (R194). -/
def ovpExit (s : State) (n : Fin 6) : State :=
  if s.swLive n ∧ s.sw[n].ovpHold then s.swUpd n (fun x => { x with ovpHold := false }) else s

/-- VSYS below 7.4 V (R195): the channel stops without a latch, and one that waits for its restart will not start. -/
def swVsysStop (s : State) (n : Fin 6) : State :=
  if s.swLive n ∧ (s.on (F.SW_STAT_RUN n) ∨ s.sw[n].restart) ∧ s.follower n = false then
    let s1 := (s.swStop n).swUpd n (fun x => { x with vsysStop := true })
    (s1.pgSet (n.val + 1) false).supBlank (n.val + 1)
  else s

/-- VSYS above 7.8 V again (R195): a soft-start from the output voltage present; a restart that is still due keeps its
64 ms. -/
def swVsysResume (s : State) (n : Fin 6) (fb : Nat) : State :=
  if s.swLive n ∧ s.sw[n].vsysStop ∧ s.on (F.SW_CTL_EN n) then
    if s.sw[n].restart then s.swUpd n (fun x => { x with vsysStop := false }) else s.softStartBegin n fb
  else s

/-- One step of a soft-start (R196). -/
def softStartStep (s : State) (n : Fin 6) : State :=
  if s.swLive n ∧ s.sw[n].ss then
    s.put (F.SW_REF_NOW n) (toward (s.get (F.SW_REF_NOW n)) (s.get (F.SW_REF_TARGET n)))
  else s

/-- The reference has reached the target: SSDONE rises and MODE takes effect (R196). -/
def softStartDone (s : State) (n : Fin 6) : State :=
  if s.swLive n ∧ s.sw[n].ss ∧ s.get (F.SW_REF_NOW n) = s.get (F.SW_REF_TARGET n) then
    ((s.put (F.SW_STAT_SSDONE n) 1).put (F.SW_REF_MOVING n) 0).swUpd n
      (fun x => { x with ss := false, cleanRun := 0 })
  else s

/-- PTRIM has sat at a limit for 4,096 consecutive cycles (R186). -/
def trimSat (s : State) (n : Fin 6) : State :=
  if s.swLive n ∧ 4096 ≤ s.sw[n].satRun then
    (s.put (F.SW_STAT_TRIMSAT n) 1).swUpd n (fun x => { x with satRun := 0 })
  else s

/-- A calibration ends (R201): a sample above 1.5 mV gives CURRENT, an offset beyond ±4 mV gives RANGE, else the
negated mean goes to CSOFS; every end raises E9. `offset` is in units of CSOFS (62.5 µV); the one value within
±4 mV whose negation CSOFS cannot hold, −4 mV, leaves a free value (log entry 24). -/
def swCalDone (s : State) (n : Fin 6) (o : SwCalObs) : State :=
  if s.swLive n ∧ s.on (F.SW_CAL_BUSY n) then
    let s1 := (s.put (F.SW_CAL_BUSY n) 0).raise 9
    if 1500 < o.peakSense then s1.put (F.SW_CAL_RESULT n) 1
    else if 64 < o.offset.natAbs then s1.put (F.SW_CAL_RESULT n) 2
    else
      let s2 := s1.put (F.SW_CAL_RESULT n) 0
      if o.offset = -64 then (s2.put (F.SW_CAL_CSOFS n) s2.fresh).tickFree
      else s2.put (F.SW_CAL_CSOFS n) (fieldOfInt (-o.offset) 7)
  else s

/-- The discharge path of a switching controller opens (R225 and the Corners of spec/08). -/
def swDischargeEnd (s : State) (n : Fin 6) : State :=
  if s.sw[n].dis then s.swUpd n (fun x => { x with dis := false }) else s

end State

/-! ## Meanings -/

abbrev Answer := Host.Outcome State Fault Refusal

def execSwCycle (n : Fin 6) (o : SwObs) (s : State) : Answer := .next (s.swCycle n o)
def execTrimsat (n : Fin 6) (s : State) : Answer := .next (s.trimSat n)
def execFastLimitTrip (n : Fin 6) (s : State) : Answer := .next (s.fastTrip n)
def execSlowLimit (n : Fin 6) (s : State) : Answer := .next (s.slowLimit n)
def execSlowLimitRestart (n : Fin 6) (fbCode : Nat) (s : State) : Answer := .next (s.slowRestart n fbCode)
def execOvpEnter (n : Fin 6) (s : State) : Answer := .next (s.ovpEnter n)
def execOvpExit (n : Fin 6) (s : State) : Answer := .next (s.ovpExit n)
def execSwVsysStop (n : Fin 6) (s : State) : Answer := .next (s.swVsysStop n)
def execSwVsysResume (n : Fin 6) (fbCode : Nat) (s : State) : Answer := .next (s.swVsysResume n fbCode)
def execSoftStartStep (n : Fin 6) (s : State) : Answer := .next (s.softStartStep n)
def execSoftStartDone (n : Fin 6) (s : State) : Answer := .next (s.softStartDone n)
def execSwCalDone (n : Fin 6) (o : SwCalObs) (s : State) : Answer := .next (s.swCalDone n o)

/-- SW_CAL: a store to SWn.CAL takes effect in a powered island (R201). -/
def execSwCal (n : Fin 6) (ring : Ring) (v : Word) (s : State) : Answer :=
  .next (if s.swLive n then s.swCalWrite n ring v else s)

end Sys2Proof.Machine
end

