-- ==== Sys2Proof/Machine/Port.lean ====
section
/-!
DEFINITION. The meter-bus ports' line stages (spec/11_bus_ports_power_ledger.md): mode, mark, enable and disable, the
breach path, stored-energy measurement, idle-current calibration and target-line events.
-/

namespace Sys2Proof.Machine

/-- The ceiling a port breached (R252). -/
inductive BreachKind where
  | short | efault | plim | bridge
  deriving DecidableEq, Repr

/-- A rational rounded to a whole number where the spec states no rounding: the choice between the two neighbours is
a free value (log entry 6). -/
def State.roundOpen (s : State) (num den : Nat) : Nat :=
  num / den + (if num % den = 0 then 0 else s.fresh % 2)

/-- A rational rounded to the nearest whole number; at a tie the choice is a free value. -/
def State.roundNearest (s : State) (num den : Nat) : Nat :=
  let r := num % den
  num / den + (if 2 * r < den then 0 else if den < 2 * r then 1 else s.fresh % 2)

namespace State

/-- Port `p` has power: domains D5 and D6 (R49). -/
def portLive (s : State) (p : Nat) : Bool := s.powered && s.domPg (5 + p)

/-- STATEV sets; set from 0 it raises E14 or E15. -/
def portEvent (s : State) (p : Nat) : State := s.flagRaise (F.P_STAT_STATEV p) (14 + p)

/-- The framer of port `p`, U3 or U4, takes 8E1 at OSR 8 and the rate of a baud code (R260, R302); its registers have
power with D4. -/
def engineRate (s : State) (p : Fin 2) (code : Nat) : State :=
  let u := 3 + p.val
  let d := if code = 0 then 10000 else 16 * 12000000 / (8 * (300 * 2 ^ code))
  let s1 := s.portUpd p (fun x => { x with baud := code })
  if s.domPg 4 then
    let s2 := ((s1.put (F.U_CFG_DBITS u) 8).put (F.U_CFG_PAR u) 1).putB (F.U_CFG_PRESC u) (code == 0)
    (s2.put (F.U_DIV_DIVI u) (d / 16)).put (F.U_DIV_DIVF u) (d % 16)
  else s1

/-- Target mode. -/
def isTarget (s : State) (p : Nat) : Bool := s.get (F.P_CTL_MODE p) == 1

/-- The OTP restriction forbids the port's present mode (R240). -/
def modeForbidden (s : State) (p : Nat) (mode : Nat) : Bool :=
  let o := s.otpPortMode p
  o == 3 || (o == 1 && mode == 1) || (o == 2 && mode == 0)

/-- LULL, a CUT or a disable ends a running measurement with ABORT (R255). -/
def measAbort (s : State) (p : Fin 2) : State :=
  if s.on (F.P_MEAS_BUSY p) then
    ((((s.put (F.P_MEAS_BUSY p) 0).put (F.P_MEAS_RESULT p) 7).put (F.P_MEAS_DONE p) 1).portEvent p).portUpd p
      (fun x => { x with meas := 0, bootEnable := false, measVoid := false })
  else s

/-- The line opens or the bridge disconnects: EN, MEASOK, ON and RAMPING clear and power-good falls. -/
def portOpen (s : State) (p : Fin 2) : State :=
  let s1 := ((((s.put (F.P_CTL_EN p) 0).put (F.P_MEAS_MEASOK p) 0).put (F.P_STAT_ON p) 0).put
    (F.P_STAT_RAMPING p) 0).put (F.P_STAT_TXHOLD p) 0
  let s2 := s1.portUpd p (fun x => { x with txWait := true, lineGone := false })
  (s2.railDown (17 + p.val)).engStop p

/-- `rail px, off` (R256). -/
def portOff (s : State) (p : Fin 2) : State := (s.measAbort p).portOpen p

/-- A disable for a cause that STAT.CAUSE records. -/
def portOffFor (s : State) (p : Fin 2) (cause : Nat) : State :=
  (s.portOff p).put (F.P_STAT_CAUSE p) cause

/-- An enable is refused: REFUSED and REFCAUSE, counted, with its event (R256). -/
def portRefuse (s : State) (p : Nat) (cause : Nat) : State :=
  (((s.put (F.P_STAT_REFUSED p) 1).put (F.P_STAT_REFCAUSE p) cause).bump (F.P_CNT_REFUSECNT p)).portEvent p

/-- UL: IBASE / 1.5 mA, rounded to the nearest whole number (R244). -/
def unitLoads (s : State) (p : Nat) : Nat := s.roundNearest (s.get (F.P_IBASE_IBASE p)) 150

/-- OVERUL sets whenever UL exceeds ULMAX, and disables the port while ULACT is 1 (R244). -/
def checkUl (s : State) (p : Fin 2) : State :=
  if s.get (F.P_RX_ULMAX p) < s.unitLoads p then
    let s1 := ((s.put (F.P_STAT_OVERUL p) 1).portEvent p).tickFree
    if s1.on (F.P_CTL_ULACT p) ∧ s1.on (F.P_CTL_EN p) then s1.portOffFor p 6 else s1
  else s.tickFree

/-- The conditions an enable fails, by REFCAUSE code (R256, R70, R237). -/
def portFails (s : State) (p : Nat) (lineBelow12V : Bool) : List Nat :=
  (if s.on F.OTP_BOOT_PORTOFF then [2] else []) ++ (if s.stopping then [5] else []) ++
  (if !s.isTarget p && !lineBelow12V then [4] else []) ++ (if s.on (F.P_MEAS_MEASOK p) then [] else [1])

/-- The stage comes on (R256): ramp, and the wait of R246; a target ignores a frame in progress. While an included CUT
comparator stays tripped the port is cut again at once (R333). -/
def portOn (s : State) (p : Fin 2) : State :=
  let s1 := ((s.put (F.P_CTL_EN p) 1).put (F.P_STAT_ON p) 1).put (F.P_STAT_RAMPING p) 1
  let s2 := (s1.portUpd p (fun x => { x with
    txWait := true, lineGone := false, ignoring := s.isTarget p, junk := false })).supBlank (17 + p.val)
  let s3 := if s.isTarget p then s2.engineRate p (s.get (F.P_TSET_TBAUD p)) else s2
  if s3.cutActive then s3.portOffFor p 4 else s3.checkUl p

/-- Enable port `p` (R256). A port that is enabled already is not started again. A mode the OTP forbids refuses with
cause 3 (R240); where several other conditions fail, which of them REFCAUSE names is a free value. During LULL SEQ
refuses too and sets its own REFUSED (R237). -/
def portEnable (s : State) (p : Fin 2) (lineBelow12V : Bool) : State :=
  if s.on (F.P_CTL_EN p) then s
  else
    let s0 := if s.stopping then s.seqRefuse else s
    if s.modeForbidden p (s.get (F.P_CTL_MODE p)) then s0.portRefuse p 3
    else
      match s.portFails p lineBelow12V with
      | [] => s.portOn p
      | [c] => s0.portRefuse p c
      | cs => (s0.portRefuse p (cs.getD (s.fresh % cs.length) 0)).tickFree

/-- The mark set-point in force: LINE.MARK, limited by MARK_CAP, its Cold value too (R241). -/
def markCode (s : State) (p : Nat) : Nat := min (s.get (F.P_LINE_MARK p)) s.markCap

/-- MARK takes a code, at most the cap; a higher code than before clears MEASOK (R132, R241, R255). -/
def setMark (s : State) (p : Nat) (code : Nat) : State :=
  let c := min code s.markCap
  let s1 := if s.markCode p < c then s.put (F.P_MEAS_MEASOK p) 0 else s
  s1.put (F.P_LINE_MARK p) c

/-- setv reaching PA or PB: the code applies at once and a ramp in progress ends (R132). -/
def portSetv (s : State) (p : Fin 2) (code : Nat) : State :=
  (s.setMark p code).portUpd p (fun x => { x with ramp := none })

/-- ramp reaching PA or PB (R132). -/
def portRamp (s : State) (p : Fin 2) (code us : Nat) : State :=
  if us = 0 then s.portSetv p code
  else
    let c := min code s.markCap
    s.portUpd p (fun x => { x with ramp := if s.markCode p = c then none else some (c, us) })

/-- One step of a mark ramp (R132). -/
def portRampStep (s : State) (p : Fin 2) : State :=
  match s.port[p].ramp with
  | none => s
  | some (code, _) =>
    let now := toward (s.markCode p) code
    let s1 := s.setMark p now
    if now = code then s1.portUpd p (fun x => { x with ramp := none }) else s1

/-! ## Stores to the port's registers -/

/-- A store to Px.CTL (R240, R248). -/
def portCtlWrite (s : State) (p : Fin 2) (ring : Nat) (v : Word) : State :=
  if ring ≠ 0 then s
  else
    let old := s.get (F.P_CTL_MODE p)
    let mode := bitsOf v 1 2
    let s1 := (s.plainWrite (F.P_CTL_EN p).addr ring v).put (F.P_CTL_MODE p) old
    if s.otpPortMode p = 3 then s1.put (F.P_STAT_CFGERR p) 1
    else if 1 < mode then s1
    else if s.modeForbidden p mode then s1.put (F.P_STAT_CFGERR p) 1
    else if mode = old then s1
    else if s.on (F.P_CTL_EN p) then s1.put (F.P_STAT_CFGERR p) 1
    else (((s1.put (F.P_CTL_MODE p) mode).put (F.P_MEAS_MEASOK p) 0).portUpd p
      (fun x => { x with resync := true, measVoid := true })).answerOver p

/-- A store to Px.LINE: MARK as setv, capped; the other fields plainly. -/
def portLineWrite (s : State) (p : Fin 2) (ring : Nat) (v : Word) : State :=
  let mark := s.get (F.P_LINE_MARK p)
  let s1 := (s.plainWrite (F.P_LINE_MARK p).addr ring v).put (F.P_LINE_MARK p) mark
  if ring ≠ 0 ∨ 180 < bitsOf v 0 8 then s1 else s1.portSetv p (bitsOf v 0 8)

/-- A store to Px.LIM: ISHORT is lowered, and never raised (R244). -/
def portLimWrite (s : State) (p : Fin 2) (ring : Nat) (v : Word) : State :=
  if s.get (F.P_LIM_ISHORT p) < bitsOf v 0 6 then s else s.plainWrite (F.P_LIM_ISHORT p).addr ring v

/-- A store to Px.LEDGS with a bit of EPIS at 1 clears it as a whole: the largest episode is taken anew. -/
def portLedgsWrite (s : State) (p : Fin 2) (ring : Nat) (v : Word) : State :=
  if ring = 0 ∧ bitsOf v 16 16 ≠ 0 then s.portUpd p (fun x => { x with ledger := { x.ledger with largest := 0 } }) else s

/-- A store to Px.LEDG: a code above a ceiling's cap or range takes the cap (R24, R253). -/
def portLedgWrite (s : State) (p : Fin 2) (ring : Nat) (v : Word) : State :=
  let s1 := s.plainWrite (F.P_LEDG_PLIM p).addr ring v
  let cap (f : Fld) (c : Nat) (s : State) : State := if c < s.get f then s.put f c else s
  cap (F.P_LEDG_ESTORE p) s.estoreCap (cap (F.P_LEDG_EFAULT p) 20 (cap (F.P_LEDG_PLIM p) s.plimCap s1))

/-- The ledger ceilings take the delivered caps when the island leaves reset (Cold column "OTP: cap code"). -/
def portColdCaps (s : State) (p : Fin 2) : State :=
  (s.put (F.P_LEDG_PLIM p) s.plimCap).put (F.P_LEDG_ESTORE p) s.estoreCap

/-- A measurement starts with its discharge phase (R254). An earlier PASS counts no longer: an enable needs the energy
of the present measurement within E_STORE_MAX (R25; DEDUCED, log entry 57). -/
def measBegin (s : State) (p : Fin 2) (boot : Bool) : State :=
  ((s.put (F.P_MEAS_BUSY p) 1).put (F.P_MEAS_MEASOK p) 0).portUpd p
    (fun x => { x with meas := 1, t1 := 0, bootEnable := boot, measVoid := false })

/-- GO of Px.MEAS (R254, R255, R240): ignored while BUSY; refused while EN or PORTOFF is 1 or the OTP mode forbids
the port; a measurement begun while a stop runs ends with ABORT. -/
def measGo (s : State) (p : Fin 2) (boot : Bool) : State :=
  if s.on (F.P_MEAS_BUSY p) then s
  else if s.modeForbidden p (s.get (F.P_CTL_MODE p)) then
    (((s.put (F.P_MEAS_RESULT p) 6).put (F.P_STAT_REFCAUSE p) 3).put (F.P_MEAS_DONE p) 1).portEvent p
  else if s.on (F.P_CTL_EN p) ∨ s.on F.OTP_BOOT_PORTOFF then
    ((s.put (F.P_MEAS_RESULT p) 6).put (F.P_MEAS_DONE p) 1).portEvent p
  else if s.stopping then (s.measBegin p boot).measAbort p
  else s.measBegin p boot

/-- A store to Px.MEAS. -/
def portMeasWrite (s : State) (p : Fin 2) (ring : Nat) (v : Word) : State :=
  let s1 := s.plainWrite (F.P_MEAS_BUSY p).addr ring v
  if ring = 0 ∧ bitOf v 0 then s1.measGo p false else s1

/-- The result of a measurement; PASS sets MEASOK and, when the boot ROM waits for it, enables the port (R254, R255,
R258). -/
def measResult (s : State) (p : Fin 2) (code : Nat) (lineBelow12V : Bool) : State :=
  let boot := s.port[p].bootEnable
  let s1 := ((s.put (F.P_MEAS_BUSY p) 0).put (F.P_MEAS_RESULT p) code).put (F.P_MEAS_DONE p) 1
  let s2 := if code = 1 ∧ s.port[p].measVoid = false then s1.put (F.P_MEAS_MEASOK p) 1 else s1
  let s3 := if code = 5 then s2.put (F.P_STAT_FOREIGN p) 1 else s2
  let s4 := (s3.portEvent p).portUpd p (fun x => { x with meas := 0, bootEnable := false, measVoid := false })
  if boot ∧ code = 1 then s4.portEnable p lineBelow12V else s4

/-- The voltage of R254 step 5 in tenths of a volt: the mark set-point, or 42 V in target mode. -/
def measVolt (s : State) (p : Nat) : Nat := if s.isTarget p then 420 else 240 + s.markCode p

/-- Steps 4 and 5 of R254 from the two charging times in nanoseconds. C is 5·t1·t2 / (t1 − t2) pF; I_L is
10 mA · (t1 − 2·t2) / (t1 − t2), at least 8 mA exactly when t1 ≥ 6·t2. Where t1 does not exceed t2 the formulas give
no value: C, E, I_L and the result other than PASS are free. -/
def measCalc (s : State) (p : Fin 2) (t1 t2 : Nat) (lineBelow12V : Bool) : State :=
  if t1 ≤ t2 then
    let k := s.free
    let s1 := ((s.put (F.P_MEAS_CNF p) (Config.freeAt k 0)).put (F.P_MEASE_E p) (Config.freeAt k 1)).put
      (F.P_MEASE_IL p) (Config.freeAt k 2)
    (s1.measResult p (2 + 2 * (Config.freeAt k 3 % 2)) lineBelow12V).tickFree
  else
    let num := 5 * t1 * t2
    let den := t1 - t2
    let v := s.measVolt p
    let e := (105 * num + 2000000 * den) * (v * v)
    let s1 := s.put (F.P_MEAS_CNF p) (min 65535 (s.roundOpen num (10000 * den)))
    let s2 := s1.put (F.P_MEASE_E p) (min 65535 (s.roundOpen e (20000000000 * den)))
    let s3 := s2.put (F.P_MEASE_IL p)
      (if 2 * t2 ≤ t1 then min 65535 (s.roundOpen (1000 * (t1 - 2 * t2)) den) else s.fresh)
    let code := if 6 * t2 ≤ t1 then 4
      else if e ≤ s.get (F.P_LEDG_ESTORE p) * 2000000000000 * den then 1 else 2
    (s3.measResult p code lineBelow12V).tickFree

/-- A phase of the measurement ends (R254); a step that took more than 50 ms is a TIMEOUT. -/
def measPhaseEnd (s : State) (p : Fin 2) (o : MeasObs) (lineBelow12V : Bool) : State :=
  if s.portLive p ∧ s.on (F.P_MEAS_BUSY p) then
    match s.port[p].meas, o with
    | 1, .discharged mv =>
      if 12000 < mv then s.measResult p 5 lineBelow12V
      else if 3000 < mv then s.measResult p 3 lineBelow12V
      else s.portUpd p (fun x => { x with meas := 2 })
    | 2, .stepped ns =>
      if 50000000 < ns then s.measResult p 3 lineBelow12V else s.portUpd p (fun x => { x with meas := 3, t1 := ns })
    | 2, .late => s.measResult p 3 lineBelow12V
    | 3, .stepped ns =>
      if 50000000 < ns then s.measResult p 3 lineBelow12V else s.measCalc p s.port[p].t1 ns lineBelow12V
    | 3, .late => s.measResult p 3 lineBelow12V
    | _, _ => s
  else s

/-- 100 ms after PASS without an accepted enable (R255). -/
def measokExpire (s : State) (p : Nat) : State :=
  if s.portLive p ∧ s.on (F.P_MEAS_MEASOK p) ∧ s.on (F.P_CTL_EN p) = false then s.put (F.P_MEAS_MEASOK p) 0 else s

/-- The enable ramp ends (R256). -/
def portRampEnd (s : State) (p : Nat) : State :=
  if s.portLive p ∧ s.on (F.P_CTL_EN p) ∧ s.on (F.P_STAT_RAMPING p) then s.put (F.P_STAT_RAMPING p) 0 else s

/-- GO of Px.CAL (R257): ignored while BUSY; accepted in master mode while enabled, at power-good, at a frame boundary
and at mark; else REFUSED, with REFCAUSE 3 in a mode the OTP forbids (R240). -/
def calGo (s : State) (p : Fin 2) (atMark : Bool) : State :=
  if s.on (F.P_CAL_BUSY p) then s
  else if s.modeForbidden p (s.get (F.P_CTL_MODE p)) then
    ((s.put (F.P_CAL_RESULT p) 4).put (F.P_STAT_REFCAUSE p) 3).portEvent p
  else if s.isTarget p = false ∧ s.on (F.P_CTL_EN p) ∧ s.pg (17 + p.val) ∧ s.port[p].exch = none ∧ atMark then
    s.put (F.P_CAL_BUSY p) 1
  else (s.put (F.P_CAL_RESULT p) 4).portEvent p

/-- A store to Px.CAL. -/
def portCalWrite (s : State) (p : Fin 2) (ring : Nat) (v : Word) (atMark : Bool) : State :=
  if ring = 0 ∧ bitOf v 0 then s.calGo p atMark else s

/-- A calibration ends with a result. -/
def calEnd (s : State) (p : Nat) (code : Nat) : State :=
  ((s.put (F.P_CAL_BUSY p) 0).put (F.P_CAL_RESULT p) code).portEvent p

/-- The 64 samples of an idle-current calibration, in units of 10 µA (R257). -/
def calDone (s : State) (p : Fin 2) (samples : List Nat) : State :=
  if s.portLive p ∧ s.on (F.P_CAL_BUSY p) ∧ samples.length = 64 then
    let hi := samples.foldl max 0
    let lo := samples.foldl min hi
    if 400 < hi - lo then s.calEnd p 2
    else
      let s1 := (s.put (F.P_IBASE_IBASE p) (min 65535 (s.roundOpen samples.sum 64))).tickFree
      let s2 := (s1.put (F.P_CAL_UL p) (s1.unitLoads p)).calEnd p 1
      s2.checkUl p
  else s

/-- TRACK moves IBASE toward the mean of an idle mark, by at most 0.25 mA (R243); how far within that is a free
value. -/
def ibaseTrack (s : State) (p : Fin 2) (mean : Nat) : State :=
  if s.portLive p ∧ s.isTarget p = false ∧ s.on (F.P_CTL_EN p) ∧ s.on (F.P_CTL_TRACK p) then
    let i := s.get (F.P_IBASE_IBASE p)
    let d := if i ≤ mean then mean - i else i - mean
    let m := s.fresh % (min 25 d + 1)
    ((s.put (F.P_IBASE_IBASE p) (min 65535 (if i ≤ mean then i + m else i - m))).tickFree).checkUl p
  else s

/-! ## The energy ledger (R249 to R252) -/

/-- A quarter of a port bit time in nanoseconds (R251), at the rate of the port's last exchange. -/
def quarterBitNs (s : State) (p : Fin 2) : Nat := 1000000000 / (4 * (300 * 2 ^ s.port[p].baud))

/-- IBASE + IFAULT, in units of 10 µA (R251). -/
def faultLevel (s : State) (p : Nat) : Nat := s.get (F.P_IBASE_IBASE p) + 2500 + 500 * s.get (F.P_LEDG_IFAULT p)

/-- The episode after a sample (R251): a running one goes on until the current falls below the level; none begins
during an edge that may still reach mark − 1 V in time; an edge that is late begins one. -/
def episodeNext (s : State) (p : Fin 2) (x : LedgSample) : Option Nat :=
  let add := x.mv * (x.line - s.get (F.P_IBASE_IBASE p))
  match s.port[p].ledger.episode with
  | some e => if x.line < s.faultLevel p then none else some (e + add)
  | none =>
    match x.edgeNs with
    | some t => if t < s.quarterBitNs p then none else some add
    | none => if s.faultLevel p < x.line then some add else none

/-- The window sum of R250. -/
def windowSum (s : State) (p : Fin 2) : Nat := s.port[p].ledger.buckets.sum + s.port[p].ledger.bucket

/-- The ledger takes one sample; a bucket of 1 ms holds 4,000 of them, and 1,000 buckets are kept. -/
def ledgerTake (s : State) (p : Fin 2) (x : LedgSample) : State :=
  let e := s.episodeNext p x
  s.portUpd p (fun y =>
    let l := y.ledger
    let b := l.bucket + x.mv * x.line
    let full := decide (4000 ≤ l.count + 1)
    { y with ledger := { l with
      buckets := if full then (b :: l.buckets).take 1000 else l.buckets, bucket := if full then 0 else b,
      count := if full then 0 else l.count + 1, episode := e, largest := max l.largest (e.getD 0), mv := x.mv,
      line := x.line } })

/-- E_TRIP in the ledger's units: 0.97 × E_FAULT − 0.101 mJ (R251). -/
def eTrip (s : State) (p : Nat) : Nat := 19400000000 * s.get (F.P_LEDG_EFAULT p) - 40400000000

/-- The limits that the state after a sample reaches (R249 to R252): each ceiling at 97 %. -/
def breaches (s : State) (p : Fin 2) (x : LedgSample) : List BreachKind :=
  (if 97 * (10000 + 1000 * s.get (F.P_LIM_ISHORT p)) ≤ 100 * x.line then [.short] else []) ++
  (match s.port[p].ledger.episode with
   | some e => if s.eTrip p ≤ e then [.efault] else []
   | none => []) ++
  (if 38800000000000 * s.get (F.P_LEDG_PLIM p) ≤ s.windowSum p then [.plim] else []) ++
  (if s.isTarget p && decide (4000 < x.bridge) then [.bridge] else [])

/-- CAUSE of a breach. -/
def breachCause : BreachKind → Nat
  | .short => 1
  | .efault => 2
  | .plim => 3
  | .bridge => 1

/-- A breach (R252): the line opens and the port latches. The line E3 or E4 is raised when BREACH is set from 0: it is
re-armed by clearing BREACH (R259; DEDUCED, log entry 58). -/
def portBreach (s : State) (p : Fin 2) (k : BreachKind) : State :=
  let s1 := s.portOffFor p (breachCause k)
  (s1.flagRaise (F.P_STAT_BREACH p) (3 + p.val)).bump (F.P_CNT_BREACHCNT p)

/-- One sample of the ledger. It runs whether or not the stage is enabled; a breach opens an enabled line. Which cause is
recorded when a sample reaches several limits is a free value. -/
def ledgerSample (s : State) (p : Fin 2) (x : LedgSample) : State :=
  let s1 := s.ledgerTake p x
  if s1.on (F.P_CTL_EN p) then
    match s1.breaches p x with
    | [] => s1
    | [k] => s1.portBreach p k
    | k :: ks => (s1.portBreach p ((k :: ks).getD (s1.fresh % (ks.length + 1)) k)).tickFree
  else s1

/-- The ledger's samples up to the one that reaches a ceiling, ISHORT or the target's bridge limit. -/
def ledgerRun (s : State) (p : Fin 2) (xs : List LedgSample) : State :=
  if s.portLive p then xs.foldl (fun x y => x.ledgerSample p y) s else s

/-- LEDGS: PWIN in mW and EPIS in µJ, each stopping at 65,535 (R250, R251). -/
def ledgsView (s : State) (p : Fin 2) : Nat :=
  min 65535 (s.roundOpen (s.windowSum p) 400000000000) +
    min 65535 (s.roundOpen s.port[p].ledger.largest 400000000) * 2 ^ 16

/-- VI: the last sample, in units of 10 mV and 10 µA. -/
def viView (s : State) (p : Fin 2) : Nat :=
  min 65535 (s.roundOpen s.port[p].ledger.mv 10) + min 65535 s.port[p].ledger.line * 2 ^ 16

/-- A thermal CUT opens the line (R252, R333). -/
def portCut (s : State) (p : Fin 2) : State :=
  let s1 := s.measAbort p
  if s1.on (F.P_CTL_EN p) then s1.portOffFor p 4 else s1

/-- A target's line has stayed below 12 V for 1 ms (R247). -/
def lineLost (s : State) (p : Fin 2) : State :=
  if s.portLive p ∧ s.isTarget p ∧ s.on (F.P_CTL_EN p) ∧ s.port[p].lineGone = false then
    let s1 := (s.put (F.P_STAT_LINELOST p) 1).portEvent p
    let s2 := (s1.portUpd p (fun x => { x with lineGone := true, txWait := true })).answerOver p
    s2.pgSet (17 + p.val) false
  else s

/-- The target's line returns (R247). -/
def lineReturn (s : State) (p : Fin 2) : State :=
  if s.portLive p ∧ s.isTarget p ∧ s.on (F.P_CTL_EN p) ∧ s.port[p].lineGone then
    s.portUpd p (fun x => { x with lineGone := false, txWait := true })
  else s

/-- The line has held mark for 11 bit times (R246). -/
def txholdRelease (s : State) (p : Fin 2) : State :=
  if s.portLive p ∧ s.isTarget p ∧ s.on (F.P_CTL_EN p) ∧ s.port[p].lineGone = false then
    (s.put (F.P_STAT_TXHOLD p) 0).portUpd p (fun x => { x with txWait := false, ignoring := false })
  else s

end State

/-! ## Meanings -/

/-- PORT_MODE_WRITE: a store to Px.CTL (R248). -/
def execPortModeWrite (p : Fin 2) (ring : Ring) (v : Word) (s : State) : Answer :=
  .next (if s.portLive p then s.portCtlWrite p ring v else s)
def execIbaseTrack (p : Fin 2) (mean : Nat) (s : State) : Answer := .next (s.ibaseTrack p mean)
def execLineLost (p : Fin 2) (s : State) : Answer := .next (s.lineLost p)
def execLineReturn (p : Fin 2) (s : State) : Answer := .next (s.lineReturn p)
def execTxholdRelease (p : Fin 2) (s : State) : Answer := .next (s.txholdRelease p)
/-- PORT_BREACH: the samples that lead to a breach. -/
def execPortBreach (p : Fin 2) (samples : List LedgSample) (s : State) : Answer := .next (s.ledgerRun p samples)
/-- PORT_MEAS: a store to Px.MEAS (R254). -/
def execPortMeas (p : Fin 2) (ring : Ring) (v : Word) (s : State) : Answer :=
  .next (if s.portLive p then s.portMeasWrite p ring v else s)
def execMeasPhaseEnd (p : Fin 2) (o : MeasObs) (lineBelow12V : Bool) (s : State) : Answer :=
  .next (s.measPhaseEnd p o lineBelow12V)
def execMeasokExpire (p : Fin 2) (s : State) : Answer := .next (s.measokExpire p)
def execPortRampEnd (p : Fin 2) (s : State) : Answer := .next (s.portRampEnd p)
/-- PORT_CAL: a store to Px.CAL (R257). -/
def execPortCal (p : Fin 2) (ring : Ring) (v : Word) (atMark : Bool) (s : State) : Answer :=
  .next (if s.portLive p then s.portCalWrite p ring v atMark else s)
def execPortCalDone (p : Fin 2) (samples : List Nat) (s : State) : Answer := .next (s.calDone p samples)

end Sys2Proof.Machine
end

