-- ==== Sys2Proof/Machine/Store.lean ====
section
/-!
DEFINITION. The storage converter SC, the charger CHG and the power path (spec/09_storage_and_charging.md).
-/

namespace Sys2Proof.Machine

namespace State

/-- SC and CHG have power: D15, held on while SC runs in start-up or reverse (R49, R212). -/
def scLive (s : State) : Bool := s.powered && s.domPg 15

/-- SC.STAT.MODE: 0 idle, 1 forward, 2 reverse, 3 start-up. -/
def scMode (s : State) : Nat := s.get F.SC_STAT_MODE

/-- VCUT, VLOW and VTRIG in millivolts. -/
def vcutMv (s : State) : Nat := 1000 + 20 * s.get F.SC_REV_VCUT

/-! ## The charger's conditions -/

/-- A temperature zone of R217 for a sample. -/
def zoneOf (s : State) (m : Byte) : Nat :=
  let x := m.toNat
  if x < 13 then 0
  else if x ≤ s.get F.CHG_ZONE_T_HOT then 1
  else if x ≤ s.get F.CHG_ZONE_T_WARM then 2
  else if x < s.get F.CHG_ZONE_T_COOL then 3
  else if x < s.get F.CHG_ZONE_T_COLD then 4
  else if x < 243 then 5
  else 6

/-- The zones of the enabled inputs. -/
def chgZones (s : State) : List Nat :=
  (if s.on F.CHG_CTL_TB0EN then [s.store.ntc0.zone] else []) ++
  (if s.on F.CHG_CTL_TB1EN then [s.store.ntc1.zone] else [])

/-- A zone permits charging in a profile (R217). -/
def zonePermits (prof z : Nat) : Bool :=
  if prof ≤ 1 then decide (2 ≤ z) && decide (z ≤ 4) else decide (2 ≤ z) && decide (z ≤ 5)

/-- No TBn input is enabled while the profile needs one (R214). -/
def noNtc (s : State) : Bool :=
  decide (s.get F.CHG_CTL_PROF ≤ 1) && !s.on F.CHG_CTL_TB0EN && !s.on F.CHG_CTL_TB1EN

/-- A latched fault of R216: SHORTED, PRETIMEOUT or FASTTIMEOUT. -/
def chgLatched (s : State) : Bool :=
  let f := s.get F.CHG_STAT_FAULT
  f == 1 || f == 2 || f == 3

/-- The conditions of R214 under which CHG charges. A CUT that persists holds SC off (R333). -/
def chgPermitted (s : State) : Bool :=
  s.on F.CHG_CTL_EN && s.scLive && decide (s.scMode ≤ 1) && !s.on F.SC_STAT_SHORT && !s.chgLatched &&
    !s.on F.CHG_STAT_ABSENT && s.chgZones.all (zonePermits (s.get F.CHG_CTL_PROF)) && !s.noNtc && !s.cutActive

/-- VSHORT, VPRE and the highest VREG of R215, in millivolts. -/
def vshortMv (s : State) : Nat :=
  match s.get F.CHG_CTL_PROF with
  | 0 => 2000
  | 1 => 1500
  | _ => 1000
def vpreMv (s : State) : Nat :=
  match s.get F.CHG_CTL_PROF with
  | 0 => 3000
  | 1 => 2500
  | _ => 1000
def vregMaxMv (s : State) : Nat :=
  match s.get F.CHG_CTL_PROF with
  | 0 => 4350
  | 1 => 3650
  | _ => 5400

/-- VREG in force, in millivolts: capped by the profile, and 100 mV lower in WARM for the cell profiles (R215,
R217). -/
def vregMv (s : State) : Nat :=
  let v := min (1000 + 20 * s.get F.CHG_SET_VREG) s.vregMaxMv
  if s.get F.CHG_CTL_PROF ≤ 1 ∧ 2 ∈ s.chgZones then v - 100 else v

/-- The phase that VSTOR selects: 1 QUAL, 2 PRE, 3 CC, 4 CV (R215). -/
def chgPhase (s : State) (vstorMv : Nat) : Nat :=
  if vstorMv < s.vshortMv then 1
  else if vstorMv < s.vpreMv then 2
  else if vstorMv < s.vregMv then 3
  else 4

/-- SC runs forward exactly while a charging phase draws current and no presence test or cell pause holds it
(R204, R214, R218, R220). -/
def scForward (s : State) : State :=
  if s.scMode ≤ 1 then
    let st := s.get F.CHG_STAT_STATE
    let run := (st == 1 || st == 2 || st == 3 || st == 4 || st == 6) && s.store.presence == 0 &&
      !s.on F.CHG_STAT_CELLOV
    s.put F.SC_STAT_MODE (if run then 1 else 0)
  else s

/-- Change SC's and CHG's own state. -/
def storeUpd (s : State) (f : StoreSt → StoreSt) : State := { s with store := f s.store }

/-- A charge start runs the presence test that a reversal broke off, where VSTOR allows one (Corners of spec/09,
R218). -/
def testAgain (s : State) (vstorMv : Nat) : State :=
  if s.store.testDue ∧ 1000 ≤ vstorMv ∧ s.store.presence = 0 then
    s.storeUpd (fun q => { q with presence := 1, testDue := false })
  else s

/-- VSTOR is seen at a level: above VCUT + 0.2 V SC may reverse again after a cutoff (R210), and below 1.0 V no cell
bleeds (R220). -/
def vstorSeen (s : State) (vstorMv : Nat) : State :=
  let s1 := if s.vcutMv + 200 < vstorMv then s.storeUpd (fun q => { q with cutHold := false }) else s
  if vstorMv < 1000 then s1.put F.CHG_STAT_BAL 0 else s1

/-- STATE follows the conditions of R214: BLOCKED or OFF when they fail; a charger that was not charging starts in
the phase VSTOR selects. The NONTC code is not latched. -/
def chgEval (s : State) (vstorMv : Nat) : State :=
  let s0 := if s.chgLatched then s else s.put F.CHG_STAT_FAULT (if s.noNtc then 4 else 0)
  let st := s0.get F.CHG_STAT_STATE
  let s1 :=
    if s0.chgPermitted then
      if st = 0 ∨ st = 7 then (s0.put F.CHG_STAT_STATE (s0.chgPhase vstorMv)).testAgain vstorMv else s0
    else s0.put F.CHG_STAT_STATE (if s0.on F.CHG_CTL_EN then 7 else 0)
  s1.scForward

/-- CHGEV: set, with E10 when set from 0, when STATE, ZONE, ABSENT or FAULT differs from before. -/
def chgWatch (old s : State) : State :=
  if s.get F.CHG_STAT_STATE ≠ old.get F.CHG_STAT_STATE ∨ s.get F.CHG_STAT_ZONE ≠ old.get F.CHG_STAT_ZONE ∨
      s.get F.CHG_STAT_ABSENT ≠ old.get F.CHG_STAT_ABSENT ∨ s.get F.CHG_STAT_FAULT ≠ old.get F.CHG_STAT_FAULT
  then s.flagRaise F.CHG_STAT_CHGEV 10
  else s

/-- Charging stops because SC reverses, is latched or is cut: BLOCKED while EN is 1; a presence test is discarded and
due again at the next charge start; no cell bleeds (R214, R220, and the Corners of spec/09). -/
def chgHalt (s : State) : State :=
  let s1 := s.storeUpd (fun q => { q with presence := 0, testDue := q.testDue || q.presence != 0 })
  let s2 := s1.put F.CHG_STAT_BAL 0
  chgWatch s (if s2.on F.CHG_CTL_EN then s2.put F.CHG_STAT_STATE 7 else s2)

/-! ## D15 and the end of a reversal -/

/-- The SC window returns to Cold. -/
def scCold (s : State) : State :=
  (s.coldWindow 0x4000E000 (fun _ => false))

/-- The CHG window and the charger's own state return to Cold. -/
def chgCold (s : State) : State :=
  (s.coldWindow 0x4000F000 (fun _ => false)).storeUpd (fun q => { q with
    ntc0 := NtcSt.cold, ntc1 := NtcSt.cold, presence := 0, testDue := false })

/-- The latches of R211 and R216 that a loss of D15 does not clear. -/
def latchesHeld (s : State) : State :=
  s.storeUpd (fun q => { q with
    fault := if s.chgLatched then s.get F.CHG_STAT_FAULT else q.fault, short := q.short || s.on F.SC_STAT_SHORT })

/-- D15 comes back: the held latches stand in their registers again. -/
def latchesBack (s : State) : State :=
  ((s.putB F.SC_STAT_SHORT s.store.short).put F.CHG_STAT_FAULT s.store.fault).storeUpd
    (fun q => { q with fault := 0, short := false })

/-- D15 loses power: SC and CHG lose their registers and their landing latch (R50, R212); the latches that only firmware
or a reset clears are held. -/
def scLose (s : State) : State :=
  ((((s.latchesHeld).scCold).chgCold.setPg 15 false).dropLatch .sc).storeUpd (fun q => { q with
    cutHold := false, coldAfter := false })

/-- SC leaves reverse or start-up: its registers return to Cold when a SYSTEM reset had come meanwhile; D15 goes off
when its DOMCTL bit is 0 (R212 and the Corners of spec/09). -/
def scRevEnd (s : State) : State :=
  let s1 := s.put F.SC_STAT_MODE 0
  let s2 := if s1.store.coldAfter then
      { s1.scCold with store := { s1.store with coldAfter := false } }
    else s1
  if s2.domOn 15 then s2 else s2.scLose

/-- Charging resumes under R214 where D15 is still on. -/
def chgResume (s : State) (vstorMv : Nat) : State :=
  if s.scLive then chgWatch s ((s.vstorSeen vstorMv).chgEval vstorMv) else s

/-! ## SC events -/

/-- VSYS falls below VTRIG (R207): E5 at every crossing; SC reverses when it is armed. After a cutoff it stays off
until VSTOR has risen above VCUT + 0.2 V (R210). -/
def vsysUv (s : State) (vstorMv : Nat) : State :=
  if s.powered then
    let s1 := s.raise 5
    if s1.scLive then
      let s2 := (s1.put F.SC_STAT_VSYSUV 1).vstorSeen vstorMv
      if s2.on F.SC_CTL_REVEN ∧ s2.on F.SC_STAT_SHORT = false ∧ s2.get F.CHG_STAT_FAULT ≠ 1 ∧
          s2.vcutMv < vstorMv ∧ s2.store.cutHold = false ∧ s2.scMode ≤ 1 ∧ s2.cutActive = false then
        let s3 := ((s2.put F.SC_STAT_MODE 2).put F.SC_STAT_REVEV 1).bump F.SC_CNT_REVCNT
        s3.chgHalt
      else s2
    else s1
  else s

/-- VIN has held VTRIG + 0.5 V for REVEXIT (R209): SC leaves reverse, the ideal-diode MOSFET carries VSYS, charging
resumes. -/
def reversalExit (s : State) (vstorMv : Nat) : State :=
  if s.scLive ∧ s.scMode = 2 then
    let s1 := ((s.put F.SC_STAT_VSYSUV 0).scRevEnd).storeUpd (fun q => { q with diodeOn := true })
    s1.chgResume vstorMv
  else s

/-- The ideal-diode comparators at VIN and VSYS (R203): off when VSYS exceeds VIN by 10 mV or VIN exceeds 42.0 V; the
MOSFET conducts again when VIN feeds VSYS, that is with VIN at least at VSYS. -/
def idealDiode (s : State) (vinMv vsysMv : Nat) : State :=
  if s.powered then
    s.storeUpd (fun q => { q with
      diodeOn := if vinMv + 10 < vsysMv ∨ 42000 < vinMv then false else if vsysMv ≤ vinMv then true else q.diodeOn })
  else s

/-- VSTOR falls below VLOW while SC is reversed (R210). -/
def vstorVlow (s : State) : State :=
  if s.scLive ∧ s.scMode = 2 then s.flagRaise F.SC_STAT_VLOW 10 else s

/-- VSTOR falls below VCUT while SC is reversed (R210): reverse switching stops. The charger's conditions hold again,
at a VSTOR of VCUT (R214); no current flows while VSYS stays low (R205). -/
def vstorCutoff (s : State) : State :=
  if s.scLive ∧ s.scMode = 2 then
    let s1 := s.flagRaise F.SC_STAT_CUTOFF 10
    ((s1.storeUpd (fun q => { q with cutHold := true })).scRevEnd).chgResume s.vcutMv
  else s

/-- A switch current above 5.0 A (R211): off in both directions, latched, E2. -/
def scShort (s : State) : State :=
  if s.scMode ≠ 0 then
    let s1 := if 2 ≤ s.scMode then s.scRevEnd else s.put F.SC_STAT_MODE 0
    ((if s1.powered ∧ s1.scLive = false then s1.storeUpd (fun q => { q with short := true })
      else s1.put F.SC_STAT_SHORT 1).raise 2).chgHalt
  else s

/-- A store to SC.CTL: REVEN, and CLR clears the short latch (R211). -/
def scCtlWrite (s : State) (ring : Nat) (v : Word) : State :=
  let s1 := s.plainWrite F.SC_CTL_REVEN.addr ring v
  if ring = 0 ∧ bitOf v 1 then s1.put F.SC_STAT_SHORT 0 else s1

/-- SC starts the device from VSTOR out of OFF (R213): VIN below 8.0 V and VSTOR above 3.0 V; a SHORTED store and an SC
short refuse it (R211, R216). -/
def storeStart (s : State) (vinMv vstorMv : Nat) : State :=
  if s.pwr.state = .off ∧ s.scMode = 0 ∧ s.on F.SC_STAT_SHORT = false ∧ s.store.short = false ∧ s.store.fault ≠ 1 ∧
      vinMv < 8000 ∧ 3000 < vstorMv then
    s.put F.SC_STAT_MODE 3
  else s

/-- A start-up that has not reached 7.5 V after 50 ms stops (R213). -/
def startupTimeout (s : State) : State :=
  if s.powered = false ∧ s.scMode = 3 then s.put F.SC_STAT_MODE 0 else s

/-- VSTOR falls below 2.8 V during a start-up from OFF (R213). -/
def storeStartStop (s : State) : State :=
  if s.pwr.state = .off ∧ s.scMode = 3 then s.put F.SC_STAT_MODE 0 else s

/-- A thermal CUT switches SC off (R333). -/
def scCut (s : State) : State :=
  if s.scMode = 0 then s.chgHalt
  else (if 2 ≤ s.scMode then s.scRevEnd else s.put F.SC_STAT_MODE 0).chgHalt

/-! ## CHG -/

/-- The presence test begins (R218): VSTOR at least 1.0 V, SC neither reversed nor starting. -/
def presenceBegin (s : State) (vstorMv : Nat) : State :=
  if s.scLive ∧ s.scMode ≤ 1 ∧ s.store.presence = 0 ∧ 1000 ≤ vstorMv then
    ({ s with store := { s.store with presence := 1 } }).scForward
  else s

/-- The periodic presence test (R218): in DONE, in FLOAT and while ABSENT. -/
def presencePeriodic (s : State) (vstorMv : Nat) : State :=
  if s.get F.CHG_STAT_STATE = 5 ∨ s.get F.CHG_STAT_STATE = 6 ∨ s.on F.CHG_STAT_ABSENT then
    (if s.scLive then s.vstorSeen vstorMv else s).presenceBegin vstorMv
  else s

/-- A store to CHG.CTL (R222): PROF keeps its value, with CFGERR, when a write would change it while EN is 1; CLR
clears the latched faults (R216); setting EN starts the presence test (R218); without BALEN or the supercap profile no
cell bleeds (R220). -/
def chgCtlWrite (s : State) (ring : Nat) (v : Word) (vstorMv : Nat) : State :=
  if ring ≠ 0 then s
  else
    let en := s.on F.CHG_CTL_EN
    let prof := s.get F.CHG_CTL_PROF
    let s1 := s.plainWrite F.CHG_CTL_EN.addr ring v
    let s2 := if en ∧ s1.get F.CHG_CTL_PROF ≠ prof then
        (s1.put F.CHG_CTL_PROF prof).put F.CHG_STAT_CFGERR 1
      else s1
    let s2b := if s2.on F.CHG_CTL_BALEN && s2.get F.CHG_CTL_PROF == 2 then s2 else s2.put F.CHG_STAT_BAL 0
    let s3 := (if bitOf v 8 ∧ s2b.chgLatched then s2b.put F.CHG_STAT_FAULT 0 else s2b).vstorSeen vstorMv
    let s4 := if !en && s3.on F.CHG_CTL_EN then
        if 1000 ≤ vstorMv ∧ s3.scMode ≤ 1 then s3.presenceBegin vstorMv else s3.chgEval vstorMv
      else if s3.store.presence = 0 ∨ s3.on F.CHG_CTL_EN = false then s3.chgEval vstorMv
      else s3
    chgWatch s s4

/-- VSTOR crosses a phase threshold (R215). -/
def chgPhaseChange (s : State) (vstorMv : Nat) : State :=
  if s.chgPermitted ∧ s.store.presence = 0 then
    let st := s.get F.CHG_STAT_STATE
    let ph := s.chgPhase vstorMv
    let nxt :=
      if st = 0 ∨ st = 7 then ph
      else if (st = 1 ∨ st = 2 ∨ st = 3) ∧ st < ph then ph
      else if st = 5 ∧ vstorMv + 100 < s.vregMv then min ph 3
      else st
    chgWatch s (((s.vstorSeen vstorMv).put F.CHG_STAT_STATE nxt).scForward)
  else s

/-- A phase timer reaches its limit (R215, R216, R219). TFAST = 0 is no limit; the supercap profile has none in CC and
CV. -/
def chgPhaseTimeout (s : State) (vstorMv : Nat) : State :=
  let st := s.get F.CHG_STAT_STATE
  let fault :=
    if st = 1 ∧ vstorMv < s.vshortMv then 1
    else if st = 2 then 2
    else if (st = 3 ∨ st = 4) ∧ s.get F.CHG_CTL_PROF ≤ 1 ∧ s.get F.CHG_SET_TFAST ≠ 0 then 3
    else 0
  if s.chgPermitted ∧ s.store.presence = 0 ∧ fault ≠ 0 then
    chgWatch s (((s.put F.CHG_STAT_FAULT fault).put F.CHG_STAT_STATE 7).scForward)
  else s

/-- The CV current has stayed below ITERM for 64 ms (R215). -/
def chgTerminate (s : State) : State :=
  if s.chgPermitted ∧ s.store.presence = 0 ∧ s.get F.CHG_STAT_STATE = 4 then
    chgWatch s ((s.put F.CHG_STAT_STATE (if s.get F.CHG_CTL_PROF = 2 then 6 else 5)).scForward)
  else s

/-- One sample of an input: the zone changes after 3 consecutive samples in a new zone (R217). -/
def ntcStep (x : NtcSt) (z : Nat) : NtcSt :=
  if z = x.zone then ⟨x.zone, z, 0⟩
  else
    let k := if z = x.cand then x.count + 1 else 1
    if 3 ≤ k then ⟨z, z, 0⟩ else ⟨x.zone, z, k⟩

/-- CHG.STAT.ZONE: 7 with no input enabled; with two inputs in different zones, which one reads is a free value. -/
def zoneField (s : State) : Nat :=
  match s.chgZones with
  | [] => 7
  | [z] => z
  | z :: w :: _ => if z = w then z else if s.fresh % 2 = 0 then z else w

/-- The 10 ms NTC sample (R217). An enabled input that enters NTC_OPEN starts the presence test (R218). -/
def ntcSample (s : State) (m0 m1 : Byte) (vstorMv : Nat) : State :=
  if s.scLive then
    let e0 := s.on F.CHG_CTL_TB0EN
    let e1 := s.on F.CHG_CTL_TB1EN
    let n0 := if e0 then ntcStep s.store.ntc0 (s.zoneOf m0) else s.store.ntc0
    let n1 := if e1 then ntcStep s.store.ntc1 (s.zoneOf m1) else s.store.ntc1
    let opened := (n0.zone == 6 && s.store.ntc0.zone != 6) || (n1.zone == 6 && s.store.ntc1.zone != 6)
    let s1 := if e0 then s.put F.CHG_TB_M0 m0.toNat else s
    let s2 := if e1 then s1.put F.CHG_TB_M1 m1.toNat else s1
    let s3 := { s2 with store := { s2.store with ntc0 := n0, ntc1 := n1 } }
    let s4 := ((s3.put F.CHG_STAT_ZONE s3.zoneField).tickFree).vstorSeen vstorMv
    let s5 := if s4.store.presence = 0 then s4.chgEval vstorMv else s4
    chgWatch s (if opened then s5.presenceBegin vstorMv else s5)
  else s

/-- The store is judged: ABSENT blocks charging, a store present again restarts at the phase VSTOR selects (R218). -/
def presenceJudge (s : State) (absent : Bool) (vstorMv : Nat) : State :=
  let was := s.on F.CHG_STAT_ABSENT
  let s1 := { s with store := { s.store with presence := 0 } }
  let s2 := s1.putB F.CHG_STAT_ABSENT absent
  let s3 := if was && !absent then s2.put F.CHG_STAT_STATE 7 else s2
  chgWatch s (s3.chgEval vstorMv)

/-- A phase of the presence test ends (R218): 1 the pause, 2 the sink, 3 the source. -/
def presencePhaseEnd (s : State) (deltaMv vstorMv : Nat) : State :=
  if s.scLive then
    match s.store.presence with
    | 1 => { s with store := { s.store with presence := 2 } }
    | 2 =>
      if 300 < deltaMv then s.presenceJudge true vstorMv
      else { s with store := { s.store with presence := 3 } }
    | 3 => s.presenceJudge (decide (300 < deltaMv)) vstorMv
    | _ => s
  else s

/-- VCELLMAX in millivolts. -/
def vcellMaxMv (s : State) : Nat := 2000 + 10 * s.get F.CHG_TIM_VCELLMAX

/-- The conditions of R220 for balance. -/
def balancing (s : State) (bottomMv topMv : Nat) : Bool :=
  s.get F.CHG_CTL_PROF == 2 && s.on F.CHG_CTL_BALEN && decide (s.scMode ≤ 1) && decide (1000 ≤ bottomMv + topMv)

/-- A cell bleeds (R220): it is above VCELLMAX, or `high` holds it; it is more than 20 mV above the other; or it bleeds
already and is not within 5 mV of the other. -/
def bleeds (s : State) (was high : Bool) (cellMv otherMv : Nat) : Bool :=
  decide (s.vcellMaxMv < cellMv) || decide (otherMv + 20 < cellMv) ||
    (was && (high || decide (otherMv + 5 ≤ cellMv)))

/-- The cells are compared (R220): a cell above VCELLMAX sets CELLOV, which pauses charging until both are below
VCELLMAX − 50 mV. BAL bit 0 is the top cell, bit 1 the bottom. Outside the conditions of R220 no cell bleeds. -/
def cellsJudge (s : State) (bottomMv topMv : Nat) : State :=
  let low := decide (bottomMv + 50 < s.vcellMaxMv) && decide (topMv + 50 < s.vcellMaxMv)
  let high := decide (s.vcellMaxMv < bottomMv) || decide (s.vcellMaxMv < topMv) || (s.on F.CHG_STAT_CELLOV && !low)
  if s.balancing bottomMv topMv then
    let top := s.bleeds (s.bit F.CHG_STAT_BAL 0) high topMv bottomMv
    let bot := s.bleeds (s.bit F.CHG_STAT_BAL 1) high bottomMv topMv
    ((s.putB F.CHG_STAT_CELLOV high).put F.CHG_STAT_BAL ((if top then 1 else 0) + (if bot then 2 else 0))).scForward
  else ((s.putB F.CHG_STAT_CELLOV (s.on F.CHG_STAT_CELLOV && !low)).put F.CHG_STAT_BAL 0).scForward

/-- The cells have come to differ by more than 20 mV, or one has passed VCELLMAX (R220). -/
def cellBalance (s : State) (bottomMv topMv : Nat) : State :=
  if s.scLive ∧ s.balancing bottomMv topMv then s.cellsJudge bottomMv topMv else s

/-- Bleeding ends (R220): within 5 mV of each other, or, after CELLOV, both below VCELLMAX − 50 mV. -/
def balanceEnd (s : State) (bottomMv topMv : Nat) : State :=
  if s.scLive then s.cellsJudge bottomMv topMv else s

/-- What LDOBAK gives, in millivolts, for the voltage it shows: 3.3 V within ±3 % while VSTOR is at least 3.5 V,
VSTOR − 0.2 V from 2.0 V on, nothing below (R221). -/
def ldobakLaw (shownMv vstorMv : Nat) : Nat :=
  if 3500 ≤ vstorMv then max 3201 (min 3399 shownMv)
  else if 2000 ≤ vstorMv then vstorMv - 200
  else 0

/-- VBAK passes to the higher of VCOIN and LDOBAK, in every state (R221). -/
def vbakSource (s : State) (coinMv shownMv vstorMv : Nat) : State :=
  let ldobakMv := ldobakLaw shownMv vstorMv
  if ldobakMv < coinMv then s.storeUpd (fun q => { q with vbakCoin := true })
  else if coinMv < ldobakMv then s.storeUpd (fun q => { q with vbakCoin := false })
  else s

end State

/-! ## Meanings -/

/-- IDEAL_DIODE_OFF: the comparators of R203 at VIN and VSYS as the pins present them. -/
def execIdealDiodeOff (s : State) : Answer := .next (s.idealDiode s.pins.vinMv s.pins.vsysMv).pinsNext
def execVsysUv (vstorMv : Nat) (s : State) : Answer := .next (s.vsysUv vstorMv)
/-- REVERSAL_EXIT, with VSTOR as the pin presents it. -/
def execReversalExit (s : State) : Answer := .next (s.reversalExit s.pins.vstorMv).pinsNext
def execVstorVlow (s : State) : Answer := .next s.vstorVlow
def execVstorCutoff (s : State) : Answer := .next s.vstorCutoff
def execScShort (s : State) : Answer := .next s.scShort
/-- SC_CLR: a store to SC.CTL (R211). -/
def execScClr (ring : Ring) (v : Word) (s : State) : Answer :=
  .next (if s.scLive then s.scCtlWrite ring v else s)
def execStoreStart (vinMv vstorMv : Nat) (s : State) : Answer := .next (s.storeStart vinMv vstorMv)
def execStartupTimeout (s : State) : Answer := .next s.startupTimeout
def execStoreStartStop (s : State) : Answer := .next s.storeStartStop
/-- CHG_CTL_WRITE: a store to CHG.CTL (R222). -/
def execChgCtlWrite (ring : Ring) (v : Word) (vstorMv : Nat) (s : State) : Answer :=
  .next (if s.scLive then s.chgCtlWrite ring v vstorMv else s)
/-- CHG_CLR: a store to CHG.CTL with CLR (R216). -/
def execChgClr (ring : Ring) (v : Word) (vstorMv : Nat) (s : State) : Answer :=
  .next (if s.scLive then s.chgCtlWrite ring v vstorMv else s)
def execChgPhaseChange (vstorMv : Nat) (s : State) : Answer := .next (s.chgPhaseChange vstorMv)
def execChgPhaseTimeout (vstorMv : Nat) (s : State) : Answer := .next (s.chgPhaseTimeout vstorMv)
def execChgTerminate (s : State) : Answer := .next s.chgTerminate
def execNtcSample (m0 m1 : Byte) (vstorMv : Nat) (s : State) : Answer := .next (s.ntcSample m0 m1 vstorMv)
def execPresenceTest (vstorMv : Nat) (s : State) : Answer := .next (s.presencePeriodic vstorMv)
def execPresencePhaseEnd (deltaMv : Nat) (vstorMv : Nat) (s : State) : Answer :=
  .next (s.presencePhaseEnd deltaMv vstorMv)
def execCellBalance (bottomMv topMv : Nat) (s : State) : Answer := .next (s.cellBalance bottomMv topMv)
def execBalanceEnd (bottomMv topMv : Nat) (s : State) : Answer := .next (s.balanceEnd bottomMv topMv)
def execVbakSourceChange (coinMv : Nat) (o : LdobakObs) (s : State) : Answer :=
  .next (s.vbakSource coinMv o.shownMv o.vstorMv)

end Sys2Proof.Machine
end

