-- ==== Sys2Proof/Machine/Nvc.lean ====
section
/-!
DEFINITION. The NV memory controller: granules and their status, the intent journal, the commands with their refusals,
suspension, SCAN and the LULL flush (spec/07_nv_memory.md).
-/

namespace Sys2Proof.Machine

/-- First address of sector `k`. -/
def sectorAddr (k : Nat) : Nat := 0x10000000 + 0x1000 * k

/-- The sector of a flash address. -/
def sectorOf (a : Nat) : Nat := (a - 0x10000000) / 0x1000

/-- An address lies in the flash. -/
def inFlash (a : Nat) : Bool := decide (0x10000000 ≤ a) && decide (a < 0x10080000)

/-- Results of R163. -/
def nvOK : Nat := 0
def nvBUSY : Nat := 1
def nvKEY : Nat := 2
def nvRANGE : Nat := 3
def nvSEALED : Nat := 4
def nvPERM : Nat := 5
def nvDIRTY : Nat := 6
def nvNOTBLANK : Nat := 7
def nvSUSPENDED : Nat := 8
def nvNOSUSP : Nat := 9
def nvVERIFY : Nat := 10

namespace State

/-- The NVC has power: D2 (R49). -/
def nvcLive (s : State) : Bool := s.powered && s.domPg 2

/-- Sector `k` is DIRTY (R171). -/
def dirty (s : State) (k : Nat) : Bool := s.bit (F.NVC_DIRTY_D (k / 32)) (k % 32)

/-- Mark a sector DIRTY or clean. -/
def setDirty (s : State) (k : Nat) (b : Bool) : State :=
  if b then s.setBit (F.NVC_DIRTY_D (k / 32)) (k % 32) else s.clrBit (F.NVC_DIRTY_D (k / 32)) (k % 32)

/-- The status a read of the granule at `a` yields (R159): UNRELIABLE in a DIRTY sector. -/
def granStatus (s : State) (a : Nat) : Nat := if s.dirty (sectorOf a) then 4 else s.rawGran a

/-- All granules of sector `k` read BLANK. -/
def sectorBlank (s : State) (k : Nat) : Bool :=
  s.mem.gran.all (fun g => decide (g.1 < sectorAddr k) || decide (sectorAddr k + 0x1000 ≤ g.1))

/-- Line buffers that hold a granule in [lo, hi) are discarded (R162). -/
def dropLines (s : State) (lo hi : Nat) : State :=
  let keep (l : Option Line) : Option Line :=
    match l with
    | some x => if lo ≤ x.granule ∧ x.granule < hi then none else l
    | none => none
  s.coreUpd (fun c => { c with ibuf := keep c.ibuf, dbuf := keep c.dbuf })

/-- Program a granule: its bytes, and the status its check bits give. -/
def progGran (s : State) (a : Nat) (bs : List Byte) : State :=
  let st := if bs.all (fun b => b == 0xFF) then (if Config.allOnesReadsBlank then 3 else 0) else 0
  ((s.setBytes a bs).setGran a st).dropLines a (a + 16)

/-- A granule whose programming was cut short or failed: free data and a status of CLEAN, CORRECTED or UNCORRECTABLE
(Corners of spec/07). -/
def tearGran (s : State) (a : Nat) : State :=
  let bs := (List.range 16).map (fun i => BitVec.ofNat 8 (Config.freeAt s.free (a + i)))
  (((s.setBytes a bs).setGran a (Config.freeAt s.free (a + 16) % 3)).dropLines a (a + 16)).tickFree

/-- Erase sector `k`. -/
def eraseSector (s : State) (k : Nat) : State :=
  let lo := sectorAddr k
  let s1 := s.forget lo (lo + 0x1000)
  let s2 := { s1 with mem := { s1.mem with
    gran := s1.mem.gran.filter (fun g => decide (g.1 < lo) || decide (lo + 0x1000 ≤ g.1)) } }
  s2.dropLines lo (lo + 0x1000)

/-- A sector whose erase was cut short: every granule is free, BLANK included. -/
def tearSector (s : State) (k : Nat) : State :=
  ((List.range 256).foldl (fun s' i =>
    let a := sectorAddr k + 16 * i
    let bs := (List.range 16).map (fun j => BitVec.ofNat 8 (Config.freeAt s.free (a + j)))
    (s'.setBytes a bs).setGran a (Config.freeAt s.free (a + 16) % 4)) (s.eraseSector k)).tickFree

/-! ## The journal -/

/-- The active journal sector, 126 or 127 (JSTAT.ACTIVE). -/
def jActive (s : State) : Nat := 126 + s.get F.NVC_JSTAT_ACTIVE

/-- The other one. -/
def jInactive (s : State) : Nat := 127 - s.get F.NVC_JSTAT_ACTIVE

/-- A journal exists: JGEN is the generation of the active sector, at least 1; 0 when neither HEADER is valid. -/
def jExists (s : State) : Bool := s.get F.NVC_JGEN_GEN != 0

/-- Free record granules of the active sector; none without a journal. -/
def jFree (s : State) : Nat := if s.jExists then s.get F.NVC_JSTAT_FREE else 0

/-- A journal record built at `tick` (R164). -/
def jRecord (tick : BitVec 48) (type sector value : Nat) : List Byte :=
  [BitVec.ofNat 8 type, BitVec.ofNat 8 sector, 0, 0] ++ le32 value ++
    [tick.extractLsb' 0 8, tick.extractLsb' 8 8, tick.extractLsb' 16 8, tick.extractLsb' 24 8, tick.extractLsb' 32 8,
     tick.extractLsb' 40 8, ~~~(BitVec.ofNat 8 type), ~~~(BitVec.ofNat 8 sector)]

/-- The next free granule of the active sector. -/
def jNext (s : State) : Nat := sectorAddr s.jActive + 16 * (256 - s.get F.NVC_JSTAT_FREE)

/-- A granule holds a valid record (R164). -/
def jValid (s : State) (a : Nat) : Bool :=
  let t := s.byte a
  (s.rawGran a == 0 || s.rawGran a == 1) &&
    (t == 1 || t == 2 || t == 3 || t == 4 || t == 0x4A) && s.byte (a + 14) == ~~~t &&
    s.byte (a + 15) == ~~~(s.byte (a + 1))

/-- A journal record whose programming was cut short or failed: free data that is no valid record (Corners of spec/07:
such an INTENT is not valid; R174: an erase whose DONE was cut short is reported DIRTY). -/
def tearRecord (s : State) (a : Nat) : State :=
  let s1 := s.tearGran a
  if s1.jValid a then s1.setGran a 2 else s1

/-- Append a record built at `tick` to the active sector; with `good = false` its granule is spent and left torn. -/
def jAppend (s : State) (good : Bool) (tick : BitVec 48) (type sector value : Nat) : State :=
  let s1 := if good then s.progGran s.jNext (jRecord tick type sector value) else s.tearRecord s.jNext
  s1.put F.NVC_JSTAT_FREE (s.get F.NVC_JSTAT_FREE - 1)

/-- The generation of a journal sector's HEADER, 0 when it is not valid (R165). -/
def jHeaderGen (s : State) (k : Nat) : Nat :=
  let a := sectorAddr k
  if s.jValid a ∧ s.byte a = 0x4A then (s.word (a + 4)).toNat else 0

/-- One record of the walk of SCAN (R171). -/
def scanRecord (s : State) (a : Nat) (x : State) : State :=
  if s.rawGran a = 3 then x
  else if s.jValid a then
    let t := (s.byte a).toNat
    let sec := (s.byte (a + 1)).toNat
    if (t = 1 ∨ t = 3) ∧ sec < 126 then x.setDirty sec true
    else if t = 2 ∧ sec < 126 then x.setDirty sec false
    else if t = 4 then (x.put F.NVC_MARKSEQ_SEQ (s.word (a + 4)).toNat).put F.NVC_JSTAT_MARKV 1
    else x
  else x.bump F.NVC_JSTAT_JBAD

/-- The number of granules after the last one that is not BLANK, in a sector. -/
def jTail (s : State) (k : Nat) : Nat :=
  255 - (List.range 256).foldl (fun m i => if s.rawGran (sectorAddr k + 16 * i) = 3 then m else i) 0

/-- SCAN (R171): select the active sector, walk its records, fill the journal status registers. -/
def scan (s : State) : State :=
  let g0 := s.jHeaderGen 126
  let g1 := s.jHeaderGen 127
  let act := if g0 < g1 then 1 else 0
  let s1 := (List.range 4).foldl (fun x k => x.put (F.NVC_DIRTY_D k) 0) s
  let s2 := (((s1.put F.NVC_MARKSEQ_SEQ 0).put F.NVC_JSTAT_MARKV 0).put F.NVC_JSTAT_JBAD 0).put F.NVC_JSTAT_ACTIVE act
  let s3 := s2.put F.NVC_JGEN_GEN (max g0 g1)
  if max g0 g1 = 0 then s3.put F.NVC_JSTAT_FREE 0
  else
    let s4 := s3.put F.NVC_JSTAT_FREE (s.jTail (126 + act))
    (List.range 255).foldl (fun x i => s.scanRecord (sectorAddr (126 + act) + 16 * (i + 1)) x) s4

/-- The journal sector that the next switch fills. -/
def jTarget (s : State) : Nat := if s.jExists then s.jInactive else 126

/-- What step 2 of a switch copies (R167): a CARRY for each DIRTY sector and the latest MARK, as type, sector and
value. -/
def jCopies (s : State) : List (Nat × Nat × Nat) :=
  ((List.range 126).filter (fun i => s.dirty i)).map (fun i => (3, i, 0)) ++
    (if s.on F.NVC_JSTAT_MARKV then [(4, 0xFF, s.get F.NVC_MARKSEQ_SEQ)] else [])

/-- The granule of record `n` of a switch; the HEADER, the last, is granule 0. -/
def jCopyAddr (s : State) (n : Nat) : Nat :=
  sectorAddr s.jTarget + (if n < s.jCopies.length then 16 * (n + 1) else 0)

/-- Record `n` of a switch, built at `tick`, is in place: a copy, or the HEADER, which makes the sector active (R165,
R167). -/
def jCopyStep (s : State) (tick : BitVec 48) (n : Nat) : State :=
  match s.jCopies[n]? with
  | some (ty, sec, v) => s.progGran (s.jCopyAddr n) (jRecord tick ty sec v)
  | none =>
    let gen := s.get F.NVC_JGEN_GEN + 1
    let s1 := s.progGran (sectorAddr s.jTarget) (jRecord tick 0x4A 0xFF gen)
    ((s1.put F.NVC_JSTAT_ACTIVE (s.jTarget - 126)).put F.NVC_JSTAT_FREE (255 - s.jCopies.length)).put F.NVC_JGEN_GEN gen

/-- A whole switch at once, for a DONE that finds no free granule (log entry 31). -/
def jSwitch (s : State) : State :=
  (List.range (s.jCopies.length + 1)).foldl (fun x n => x.jCopyStep x.bak.tick n)
    (if s.sectorBlank s.jTarget then s else s.eraseSector s.jTarget)

/-! ## Commands -/

/-- DONE and E16. -/
def nvcDone (s : State) : State := (s.put F.NVC_STAT_DONE 1).raise 16

/-- BUSY: a command or erase runs or is suspended. -/
def nvcBusyUpd (s : State) : State :=
  s.putB F.NVC_STAT_BUSY (s.nvc.cmd.isSome || s.nvc.er.isSome || s.nvc.held.isSome)

/-- A command ends with a result. -/
def nvcResult (s : State) (code : Nat) : State := ((s.put F.NVC_STAT_RESULT code).nvcDone).nvcBusyUpd

/-- Change the NVC's own state. -/
def nvcUpd (s : State) (f : Nvc → Nvc) : State := { s with nvc := f s.nvc }

/-- An erase is suspended. -/
def erSuspended (s : State) : Bool :=
  match s.nvc.er with
  | some e => e.suspended
  | none => false

/-- An erase runs. -/
def erRunning (s : State) : Bool :=
  match s.nvc.er with
  | some e => !e.suspended
  | none => false

/-- A suspended journal-sector erase. -/
def erJournal (s : State) : Bool :=
  match s.nvc.er with
  | some e => e.suspended && e.phase == .jErase
  | none => false

/-- Sector `k` is that of a suspended user erase, one put aside included. -/
def erHolds (s : State) (k : Nat) : Bool :=
  [s.nvc.er, s.nvc.held].any (fun o =>
    match o with
    | some e => e.suspended && decide (e.goal = .erase k)
    | none => false)

/-- Sector `k` lies in the range locked by NVC.SEAL (R79). -/
def nvcSealed (s : State) (k : Nat) : Bool :=
  decide (s.get F.NVC_SEAL_FIRST ≤ k) && decide (k < s.get F.NVC_SEAL_FIRST + s.get F.NVC_SEAL_COUNT)

/-- Ring 1 or 2 without the sector's PEN bit. -/
def nvcNoPerm (s : State) (ring k : Nat) : Bool := ring != 0 && !s.bit (F.NVC_PEN_PEN (k / 32)) (k % 32)

/-- The first phase of an operation that needs a journal switch, or the phase after it. -/
def erStart (s : State) (goal : NvGoal) (need : Nat) (after : ErPhase) : NvErase :=
  if need ≤ s.jFree then ⟨goal, after, false, s.bak.tick⟩
  else if s.sectorBlank s.jTarget then ⟨goal, .jCopy 0, false, s.bak.tick⟩
  else ⟨goal, .jErase, false, s.bak.tick⟩

/-- A flash miss waits while AUTOSUSP is 1: it acts as SUSPEND on an erase that runs (R170). -/
def missWaits (s : State) : Bool :=
  s.on F.NVC_CFG_AUTOSUSP && s.core.threads.toList.any (fun x =>
    match x.stall with
    | some (.fetchMiss _) => true
    | some (.dataMiss _) => true
    | _ => false)

/-- The granule address that NVC.ADDR names. -/
def nvcAddr (s : State) : Nat := s.get F.NVC_ADDR_ADDR

/-- DATA0 to DATA3 as 16 bytes. -/
def nvcData (s : State) : List Byte :=
  le32 (s.get (F.NVC_DATA_DATA 0)) ++ le32 (s.get (F.NVC_DATA_DATA 1)) ++ le32 (s.get (F.NVC_DATA_DATA 2)) ++
    le32 (s.get (F.NVC_DATA_DATA 3))

/-- PROGRAM: refusals in table order, else the programming starts (R163). -/
def nvcProgram (s : State) (ring : Nat) (key : Byte) : State :=
  if 2 < ring then s
  else
    let a := s.nvcAddr
    let k := sectorOf a
    if s.nvc.cmd.isSome ∨ s.erRunning ∨ s.nvc.flushing then s.nvcResult nvBUSY
    else if key ≠ 0xC3 then s.nvcResult nvKEY
    else if inFlash a = false ∨ a % 16 ≠ 0 ∨ 126 ≤ k then s.nvcResult nvRANGE
    else if s.nvcSealed k then s.nvcResult nvSEALED
    else if s.nvcNoPerm ring k then s.nvcResult nvPERM
    else if s.dirty k then s.nvcResult nvDIRTY
    else if s.granStatus a ≠ 3 then s.nvcResult nvNOTBLANK
    else if s.erHolds k then s.nvcResult nvSUSPENDED
    else (s.nvcUpd (fun n => { n with cmd := some (.program a s.nvcData) })).nvcBusyUpd

/-- ERASE: refusals in table order, else the journaled erase starts (R163, R165, R166). -/
def nvcErase (s : State) (ring : Nat) (key : Byte) : State :=
  if 2 < ring then s
  else
    let a := s.nvcAddr
    let k := sectorOf a
    if s.nvc.cmd.isSome ∨ s.erRunning ∨ s.nvc.flushing then s.nvcResult nvBUSY
    else if key ≠ 0xC3 then s.nvcResult nvKEY
    else if inFlash a = false ∨ a % 0x1000 ≠ 0 ∨ 126 ≤ k then s.nvcResult nvRANGE
    else if s.nvcSealed k then s.nvcResult nvSEALED
    else if s.nvcNoPerm ring k then s.nvcResult nvPERM
    else if s.erSuspended then s.nvcResult nvSUSPENDED
    else
      let e := s.erStart (.erase k) 2 .intent
      ((s.nvcUpd (fun n => { n with er := some e, suspReq := false, autoSusp := false, autoReq := s.missWaits })).put
        F.NVC_STAT_ESECT k).nvcBusyUpd

/-- SUSPEND (R168): refused with NOSUSP when no erase runs, also while a command runs inside a suspended erase (DEDUCED,
log entry 67). -/
def nvcSuspend (s : State) (ring : Nat) : State :=
  if 2 < ring then s
  else if s.nvc.er = none ∧ s.nvc.cmd.isSome then s.nvcResult nvBUSY
  else if s.erRunning then
    (s.nvcUpd (fun n => { n with suspReq := true, autoReq := false })).put F.NVC_STAT_RESULT nvOK
  else s.nvcResult nvNOSUSP

/-- An erase resumes; a miss that waits asks for its suspension again (R170). -/
def erResume (s : State) : State :=
  (s.nvcUpd (fun n => { n with
    er := n.er.map (fun e => { e with suspended := false }), suspReq := false, autoSusp := false,
    autoReq := s.missWaits })).put F.NVC_STAT_ESUSP 0

/-- RESUME (R168): refused with NOSUSP when no erase is suspended; it is accepted while a command runs inside the
suspended erase (DEDUCED, log entry 67). -/
def nvcResume (s : State) (ring : Nat) : State :=
  if 2 < ring then s
  else if s.nvc.er = none ∧ s.nvc.cmd.isSome then s.nvcResult nvBUSY
  else if s.erSuspended then s.erResume.nvcResult nvOK
  else s.nvcResult nvNOSUSP

/-- MARK (R163, R167, R168, R177). -/
def nvcMark (s : State) (ring : Nat) (key : Byte) : State :=
  if 1 < ring then s
  else
    let v := BitVec.ofNat 32 (s.get (F.NVC_DATA_DATA 0))
    if s.nvc.cmd.isSome ∨ s.erRunning ∨ s.nvc.flushing then s.nvcResult nvBUSY
    else if key ≠ 0xC3 then s.nvcResult nvKEY
    else if s.erJournal then s.nvcResult nvSUSPENDED
    else if 1 ≤ s.jFree then (s.nvcUpd (fun n => { n with cmd := some (.mark v s.bak.tick) })).nvcBusyUpd
    else
      let e := s.erStart (.mark v) 1 .done
      (s.nvcUpd (fun n => { n with held := n.er, er := some e })).nvcBusyUpd

/-- CHECKREAD (R163): of the granule that holds ADDR; refused with BUSY while another command runs (DEDUCED, log entry
67). -/
def nvcCheckread (s : State) : State :=
  let a := s.nvcAddr
  if s.nvc.cmd.isSome then s.nvcResult nvBUSY
  else if inFlash a = false ∨ 126 ≤ sectorOf a then s.nvcResult nvRANGE
  else (s.nvcUpd (fun n => { n with cmd := some (.checkread (a - a % 16)) })).nvcBusyUpd

/-- SCAN by command (R171). -/
def nvcScan (s : State) (ring : Nat) : State :=
  if 0 < ring then s
  else if s.nvc.cmd.isSome ∨ s.nvc.er.isSome then s.nvcResult nvBUSY
  else (s.nvcUpd (fun n => { n with cmd := some .scan })).nvcBusyUpd

/-- A store to NVC.CMD (R163): OP 0 is reserved. -/
def nvcCmdWrite (s : State) (ring : Nat) (v : Word) : State :=
  let key := v.extractLsb' 24 8
  match bitsOf v 0 3 with
  | 1 => s.nvcProgram ring key
  | 2 => s.nvcErase ring key
  | 3 => s.nvcSuspend ring
  | 4 => s.nvcResume ring
  | 5 => s.nvcMark ring key
  | 6 => s.nvcCheckread
  | 7 => s.nvcScan ring
  | _ => s

/-- A MARK record is in place (R177). -/
def markDone (s : State) (v : Word) : State := (s.put F.NVC_MARKSEQ_SEQ v.toNat).put F.NVC_JSTAT_MARKV 1

/-- The effect of a command that has run to its end. -/
def nvcFinish (s : State) (c : NvCmd) (verifyOk : Bool) : State :=
  let s0 := s.nvcUpd (fun n => { n with cmd := none })
  match c with
  | .program a bs =>
    (if verifyOk then s0.progGran a bs else s0.tearGran a).nvcResult (if verifyOk then nvOK else nvVERIFY)
  | .mark v tick =>
    let s1 := s0.jAppend verifyOk tick 4 0xFF v.toNat
    (if verifyOk then s1.markDone v else s1).nvcResult (if verifyOk then nvOK else nvVERIFY)
  | .checkread a =>
    let s1 := (List.range 4).foldl (fun x i => x.put (F.NVC_DATA_DATA i) (s.word (a + 4 * i)).toNat) s0
    (s1.put F.NVC_STAT_RSTAT (s.granStatus a)).nvcResult nvOK
  | .scan => s0.scan.nvcResult nvOK

/-- NVC_COMMAND_END (R163): `verifyOk` is the outcome of the read-back. -/
def nvcCommandEnd (s : State) (verifyOk : Bool) : State :=
  match s.nvc.cmd with
  | some c => if s.nvcLive then s.nvcFinish c verifyOk else s
  | none => s

/-- An erase or a MARK with a switch ends; a suspended erase that was put aside comes back (R168). -/
def erEnd (s : State) (code : Nat) : State :=
  let s1 := s.nvcUpd (fun n => { n with er := n.held, held := none, suspReq := false, autoReq := false })
  (s1.putB F.NVC_STAT_ESUSP s1.erSuspended).nvcResult code

/-- The erase goes on with a phase, whose record is built now. -/
def erTo (s : State) (e : NvErase) (p : ErPhase) : State :=
  s.nvcUpd (fun n => { n with er := some { e with phase := p, tick := s.bak.tick } })

/-- An erase whose verify failed: the sector is not BLANK (R163, R166); its granules are free but for one at least. -/
def failErase (s : State) (k : Nat) : State :=
  let i := Config.freeAt s.free 4000 % 256
  (s.tearSector k).setGran (sectorAddr k + 16 * i) (Config.freeAt s.free 4001 % 3)

/-- A phase of an erase or of a MARK's switch ends and the next begins (R166, R167). An INTENT whose read-back fails ends
the erase before its sector is touched (DEDUCED, log entry 68). -/
def erPhaseEnd (s : State) (e : NvErase) (verifyOk : Bool) : State :=
  match e.phase with
  | .jErase => (s.eraseSector s.jTarget).erTo e .jVerify
  | .jVerify => if verifyOk then s.erTo e (.jCopy 0) else (s.failErase s.jTarget).erEnd nvVERIFY
  | .jCopy n =>
    if n < s.jCopies.length then (s.jCopyStep e.tick n).erTo e (.jCopy (n + 1))
    else
      match e.goal with
      | .erase _ => (s.jCopyStep e.tick n).erTo e .intent
      | .mark _ => (s.jCopyStep e.tick n).erTo e .done
  | .intent =>
    match e.goal with
    | .erase k =>
      if verifyOk then ((s.jAppend true e.tick 1 k 0).setDirty k true).erTo e .array
      else (s.jAppend false e.tick 1 k 0).erEnd nvVERIFY
    | .mark _ => s
  | .array =>
    match e.goal with
    | .erase k => (s.eraseSector k).erTo e .verify
    | .mark _ => s
  | .verify =>
    match e.goal with
    | .erase k => if verifyOk then s.erTo e .done else (s.failErase k).erEnd nvVERIFY
    | .mark _ => s
  | .done =>
    match e.goal with
    | .erase k =>
      let s1 := if s.jFree = 0 then s.jSwitch else s
      ((s1.jAppend true e.tick 2 k 0).setDirty k false).erEnd nvOK
    | .mark v =>
      let s1 := s.jAppend verifyOk e.tick 4 0xFF v.toNat
      (if verifyOk then s1.markDone v else s1).erEnd (if verifyOk then nvOK else nvVERIFY)

/-- ERASE_PHASE_END. -/
def erasePhaseEnd (s : State) (verifyOk : Bool) : State :=
  match s.nvc.er with
  | some e => if s.nvcLive ∧ e.suspended = false ∧ s.nvc.cmd = none then s.erPhaseEnd e verifyOk else s
  | none => s

/-- A suspension takes effect on an array erase (R168, R170). -/
def suspendEffect (s : State) : State :=
  match s.nvc.er with
  | some e =>
    if s.nvcLive ∧ e.suspended = false ∧ (e.phase = .array ∨ e.phase = .jErase) ∧ (s.nvc.suspReq ∨ s.nvc.autoReq) then
      (((s.nvcUpd (fun n => { n with
        er := some { e with suspended := true }, autoSusp := !n.suspReq, suspReq := false, autoReq := false })).put
        F.NVC_STAT_ESUSP 1).nvcDone)
    else s
  | none => s

/-- An automatic suspension ends 100 µs after the last flash miss (R170). -/
def autosuspResume (s : State) : State :=
  if s.nvcLive ∧ s.erSuspended ∧ s.nvc.autoSusp then s.erResume else s

/-- With AUTOSUSP = 1 a flash miss during a running erase acts as SUSPEND (R170). -/
def autoSuspend (s : State) : State :=
  if s.on F.NVC_CFG_AUTOSUSP ∧ s.erRunning ∧ s.nvc.suspReq = false then
    s.nvcUpd (fun n => { n with autoReq := true })
  else s

/-- The array can serve a read: nothing is being programmed and no erase runs (R161, R168). -/
def flashReadable (s : State) : Bool :=
  s.nvcLive && !s.erRunning &&
    (match s.nvc.cmd with
     | some (.program _ _) => false
     | some (.mark _ _) => false
     | some (.checkread _) => true
     | some .scan => true
     | none => true)

/-- LULL step 3 (R173): a running PROGRAM, MARK or journal record completes; an erase whose array phase has ended
completes; any other erase stops with its INTENT open. -/
def nvcFlush (s : State) : State :=
  let s1 := match s.nvc.cmd with
    | some c => s.nvcFinish c true
    | none => s
  let stop (x : State) : State :=
    ((x.nvcUpd (fun n => { n with er := none, held := none, suspReq := false, autoSusp := false, autoReq := false })).put
      F.NVC_STAT_ESUSP 0).nvcBusyUpd
  match s1.nvc.er with
  | none => stop s1
  | some e =>
    match e.phase, e.goal with
    | .verify, .erase k =>
      let s2 := if s1.jFree = 0 then s1.jSwitch else s1
      stop (((s2.jAppend true s2.bak.tick 2 k 0).setDirty k false).nvcResult nvOK)
    | .done, .erase k =>
      let s2 := if s1.jFree = 0 then s1.jSwitch else s1
      stop (((s2.jAppend true e.tick 2 k 0).setDirty k false).nvcResult nvOK)
    | .done, .mark v => stop (((s1.jAppend true e.tick 4 0xFF v.toNat).markDone v).nvcResult nvOK)
    | .intent, .erase k => stop ((s1.jAppend true e.tick 1 k 0).setDirty k true)
    | .jErase, _ => stop (s1.tearSector s1.jTarget)
    | .jCopy n, _ => stop (s1.jCopyStep e.tick n)
    | .array, .erase k => stop (s1.tearSector k)
    | _, _ => stop s1

/-- A reset or a loss of supply abandons the operation in progress: what it was programming or erasing is torn
(R174 and the Corners of spec/07). -/
def nvcAbandon (s : State) : State :=
  let s1 := match s.nvc.cmd with
    | some (.program a _) => s.tearGran a
    | some (.mark _ _) => s.tearRecord s.jNext
    | _ => s
  let tear (x : State) (e : Option NvErase) : State :=
    match e with
    | none => x
    | some e =>
      match e.phase, e.goal with
      | .jErase, _ => x.tearSector x.jTarget
      | .jCopy n, _ => x.tearRecord (x.jCopyAddr n)
      | .intent, _ => x.tearRecord x.jNext
      | .done, _ => if x.jFree = 0 then x else x.tearRecord x.jNext
      | .array, .erase k => x.tearSector k
      | _, _ => x
  let s2 := tear (tear s1 s.nvc.er) s.nvc.held
  { s2 with nvc := Nvc.cold }

/-- NVC.SEAL and NVC.LOCK.SLOCK are held in the main section (R79). -/
def keepSeal (key : Nat) : Bool := key / 32 == 0x40002020 || key == 0x400020FC * 32 + 1

/-- The NVC's registers return to Cold but SEAL and SLOCK, and its line buffers are lost with D2. The refusals of LULL
step 3 outlast it (R237). -/
def nvcColdRegs (s : State) : State :=
  let s1 := s.coldWindow 0x40002000 keepSeal
  (s1.nvcUpd (fun n => { Nvc.cold with flushing := n.flushing })).coreUpd (fun c => { c with ibuf := none, dbuf := none })

/-- The NVC leaves reset: SCAN by itself, before it serves any read or command (R171). -/
def nvcUp (s : State) : State := s.nvcColdRegs.scan

end State

/-! ## Meanings -/

def execNvcProgram (ring : Ring) (key : Byte) (s : State) : Answer :=
  .next (if s.nvcLive then s.nvcProgram ring key else s)
def execNvcErase (ring : Ring) (key : Byte) (s : State) : Answer :=
  .next (if s.nvcLive then s.nvcErase ring key else s)
/-- NVC_SUSPEND: SUSPEND needs no key (R163). -/
def execNvcSuspend (ring : Ring) (_key : Byte) (s : State) : Answer :=
  .next (if s.nvcLive then s.nvcSuspend ring else s)
/-- NVC_RESUME: RESUME needs no key (R163). -/
def execNvcResume (ring : Ring) (_key : Byte) (s : State) : Answer :=
  .next (if s.nvcLive then s.nvcResume ring else s)
def execNvcMark (ring : Ring) (key : Byte) (s : State) : Answer :=
  .next (if s.nvcLive then s.nvcMark ring key else s)
/-- NVC_CHECKREAD: any ring, no key (R163). -/
def execNvcCheckread (_ring : Ring) (_key : Byte) (s : State) : Answer :=
  .next (if s.nvcLive then s.nvcCheckread else s)
/-- NVC_SCAN: ring 0, no key (R163). -/
def execNvcScan (ring : Ring) (_key : Byte) (s : State) : Answer :=
  .next (if s.nvcLive then s.nvcScan ring else s)
def execNvcCommandEnd (verifyOk : Bool) (s : State) : Answer := .next (s.nvcCommandEnd verifyOk)
def execErasePhaseEnd (verifyOk : Bool) (s : State) : Answer := .next (s.erasePhaseEnd verifyOk)
def execSuspendEffect (s : State) : Answer := .next s.suspendEffect
def execAutosuspResume (s : State) : Answer := .next s.autosuspResume

end Sys2Proof.Machine
end

