-- ==== Sys2Proof/Machine/Bak.lean ====
section
/-!
DEFINITION. The backup domain (spec/16_rtc_backup.md): TICK and its trim, the fallback oscillator, event stamps,
BILLCMP, the kernel watchdog, backup RAM and its records.
-/

namespace Sys2Proof.Machine

namespace State

/-- D0 has power: every state but OFF. -/
def bakOn (s : State) : Bool := s.pwr.state ≠ .off

/-! ## TICK -/

/-- The signed trim t. -/
def trimT (s : State) : Int := signedOf (s.get F.BAK_TRIM_T) 15

/-- The accumulator crosses ±2^24 on the next crystal cycle (R339); the trim does not act on the RC (R338). -/
def trimCrosses (s : State) : Bool :=
  let a := s.bak.acc + s.trimT
  !s.on F.BAK_STAT_RCRUN && (decide ((2 ^ 24 : Int) ≤ a) || decide (a ≤ -(2 ^ 24 : Int)))

/-- TICK and the trim accumulator after one cycle (R336, R338, R339). -/
def tickStep (s : State) : State :=
  if s.on F.BAK_STAT_RCRUN then s.bakUpd (fun b => { b with tick := b.tick + 1 })
  else
    let a := s.bak.acc + s.trimT
    if (2 ^ 24 : Int) ≤ a then s.bakUpd (fun b => { b with tick := b.tick + 2, acc := a - 2 ^ 24 })
    else if a ≤ -(2 ^ 24 : Int) then s.bakUpd (fun b => { b with acc := a + 2 ^ 24 })
    else s.bakUpd (fun b => { b with tick := b.tick + 1, acc := a })

/-- The watchdog counts in this power state (R346). -/
def wdCounts (s : State) : Bool :=
  s.bak.wdRun && s.on F.BAK_WDCFG_EN &&
    (match s.pwr.state with
     | .run | .doze => true
     | .calm => s.on F.BAK_WDCFG_CALMRUN
     | .backup | .off => false)

/-- A cycle of the clock that counts: TICK, and the watchdog untrimmed. -/
def countedCycle (s : State) : State :=
  let s1 := s.tickStep
  if s.wdCounts then s1.bakUpd (fun b => { b with wdCount := b.wdCount + 1 }) else s1

/-- A crystal edge arrives: XTALOK (R338). -/
def xtalEdge (s : State) : State := s.put F.BAK_STAT_XTALOK 1

/-- One cycle of the crystal, or of the 32 kHz RC (R336, R338): the clock that RCRUN selects counts; an edge of the
crystal sets XTALOK whichever counts. -/
def crystalCycle (s : State) (rc : Bool) : State :=
  if s.bakOn then
    let s1 := if rc then s else s.xtalEdge
    if rc = s.on F.BAK_STAT_RCRUN then s1.countedCycle else s1
  else s

/-- A cycle on which the accumulator crosses ±2^24. -/
def trimCorrection (s : State) : State := if s.trimCrosses then s.crystalCycle false else s

/-- No crystal edge for 4 RC cycles (R338). -/
def rcFallback (s : State) : State :=
  if s.bakOn then ((s.put F.BAK_STAT_RCRUN 1).put F.BAK_STAT_RCUSED 1).put F.BAK_STAT_XTALOK 0 else s

/-- 256 consecutive crystal edges have come (R338). -/
def xtalReturn (s : State) : State :=
  if s.bakOn ∧ s.on F.BAK_STAT_RCRUN then (s.put F.BAK_STAT_RCRUN 0).xtalEdge else s

/-! ## Event stamps (R342, R343) -/

/-- EDGEi: 1 rising, 2 falling, 3 both. -/
def edgeSel (s : State) (i : Nat) (rising : Bool) : Bool :=
  (s.get F.BAK_EVEDGE_EDGE).testBit (2 * i + (if rising then 0 else 1))

/-- The filter of R342: the new level has held for FILTi samples; a FILTi of 0 is reserved and never stored. -/
def edgeHeld (s : State) (i : Fin 6) (held : Nat) : Bool :=
  decide ((if i.val < 4 then bitsOf (s.storedWord 0x40024034) (8 * i.val) 8
    else bitsOf (s.storedWord 0x40024038) (8 * (i.val - 4)) 8) ≤ held)

/-- An accepted edge meets the FIFO. The COUNT of an entry that is no marker and a marker's input fields have no
stated value (log entry 8). -/
def eventEdge (s : State) (i : Nat) (rising : Bool) : State :=
  if s.bakOn ∧ s.edgeSel i rising then
    let q := s.bak.fifo
    if q.length < 16 then
      ((s.bakUpd (fun b => { b with fifo := q ++ [⟨b.tick, i, rising, false, s.fresh % 1024⟩] })).tickFree).raise 22
    else
      match q.getLast? with
      | some e =>
        if e.marker then
          s.bakUpd (fun b => { b with fifo := q.dropLast ++ [{ e with count := min 1023 (e.count + 1) }] })
        else
          let m : EvEntry := ⟨e.stamp, Config.freeAt s.free 0 % 8, Config.freeAt s.free 1 % 2 == 1, true, 2⟩
          (((s.bakUpd (fun b => { b with fifo := q.dropLast ++ [m] })).put F.BAK_STAT_EVOVF 1).tickFree).raise 22
      | none => s
  else s

/-- EVF1's word for an entry. -/
def evf1Word (e : EvEntry) : Word :=
  BitVec.ofNat 32 (e.stamp.toNat / 2 ^ 32 + e.input % 8 * 2 ^ 16 + (if e.rising then 2 ^ 19 else 0) +
    (if e.marker then 2 ^ 20 else 0) + e.count % 1024 * 2 ^ 21 + 2 ^ 31)

/-- A load of EVF0 by thread `t`: the oldest stamp, which leaves the FIFO; EVF1 is latched for the thread. With an
empty FIFO the latched VALID is 0; the rest is Cold 0 until the first entry has left the FIFO, and free after. -/
def evf0Read (s : State) (t : Tid) : Word × State :=
  match s.bak.fifo with
  | e :: q =>
    (BitVec.ofNat 32 e.stamp.toNat,
     s.bakUpd (fun b => { b with fifo := q, evUsed := true, evf1Latch := b.evf1Latch.set t (evf1Word e) }))
  | [] =>
    (if s.bak.evUsed then BitVec.ofNat 32 (Config.freeAt s.free 0) else 0,
     (s.bakUpd (fun b => { b with
        evf1Latch := b.evf1Latch.set t
          (if b.evUsed then BitVec.ofNat 32 (Config.freeAt s.free 1 % 2 ^ 31) else 0) })).tickFree)

/-- A load of TICKL by thread `t` latches the upper half for it (R337). -/
def ticklRead (s : State) (t : Tid) : Word × State :=
  (BitVec.ofNat 32 s.bak.tick.toNat,
   s.bakUpd (fun b => { b with tickhLatch := b.tickhLatch.set t (b.tick.extractLsb' 32 16) }))

/-! ## BILLCMP (R344, R345) -/

/-- The compare value. -/
def billcmp (s : State) : Nat := s.get F.BAK_BILLCMPL_V + s.get F.BAK_BILLCMPH_V * 2 ^ 32

/-- A store to BILLCMPH arms the compare. -/
def billArm (s : State) (ring : Nat) (v : Word) : State :=
  let s1 := s.plainWrite F.BAK_BILLCMPH_V.addr ring v
  if ring ≤ 1 then s1.put F.BAK_BILLCMPH_ARM 1 else s1

/-- BILLCMP fires; in BACKUP it starts the device through SC, or sets BILLMISS; a SHORTED store and an SC short refuse
the start (R211, R216). -/
def billFire (s : State) (vstorMv : Nat) : State :=
  if s.bakOn ∧ s.on F.BAK_BILLCMPH_ARM ∧ s.billcmp ≤ s.bak.tick.toNat then
    let s1 := ((s.put F.BAK_BILLCMPH_ARM 0).put F.BAK_STAT_BILLF 1).raise 23
    if s.pwr.state = .backup then
      if 3000 + 50 * s.get F.BAK_BILLCFG_RSTV ≤ vstorMv ∧ s.on F.BAK_BILLCFG_STARTEN ∧ s.store.fault ≠ 1 ∧
          s.store.short = false then s1.put F.SC_STAT_MODE 3
      else s1.put F.BAK_STAT_BILLMISS 1
    else s1
  else s

/-! ## Watchdog (R346) -/

/-- The period in untrimmed ticks. -/
def wdPeriod (s : State) : Nat := (s.get F.BAK_WDCFG_PERIOD + 1) * 32768

/-- The watchdog starts, or is kicked, with its count at 0. -/
def wdStart (s : State) : State := s.bakUpd (fun b => { b with wdRun := true, wdCount := 0 })

/-- The watchdog stops with its count cleared: the first trigger of a COLD or SYSTEM reset (R60). -/
def wdStop (s : State) : State := s.bakUpd (fun b => { b with wdRun := false, wdCount := 0 })

/-- A kick: ring 0 and key 0x6B. -/
def wdKick (s : State) (ring : Nat) (v : Word) : State :=
  if ring = 0 ∧ bitsOf v 24 8 = 0x6B then s.bakUpd (fun b => { b with wdCount := 0 }) else s

/-- A store to WDCFG: EN from 0 to 1 starts the watchdog. -/
def wdCfgWrite (s : State) (ring : Nat) (v : Word) : State :=
  let was := s.on F.BAK_WDCFG_EN
  let s1 := s.plainWrite F.BAK_WDCFG_EN.addr ring v
  if s1.on F.BAK_WDCFG_EN then (if was then s1 else s1.wdStart) else s1.bakUpd (fun b => { b with wdRun := false })

/-- The count at which WDEARLY comes: ½, ¾ or ⅞ of the period. -/
def wdEarlyAt (s : State) : Option Nat :=
  match s.get F.BAK_WDCFG_EARLY with
  | 1 => some (s.wdPeriod / 2)
  | 2 => some (s.wdPeriod * 3 / 4)
  | 3 => some (s.wdPeriod * 7 / 8)
  | _ => none

/-- The count reaches the EARLY fraction. -/
def wdEarly (s : State) : State :=
  if s.bakOn ∧ s.bak.wdRun ∧ s.wdEarlyAt = some s.bak.wdCount then (s.put F.BAK_STAT_WDEARLY 1).raise 24 else s

/-! ## Records in backup RAM (R347, R348) -/

/-- Words from `a` on. -/
def setWords (s : State) (a : Nat) : List Nat → State
  | [] => s
  | w :: t => (s.setWord a (BitVec.ofNat 32 w)).setWords (a + 4) t

/-- TICK's two words. -/
def tickLo (s : State) : Nat := s.bak.tick.toNat % 2 ^ 32
def tickHi (s : State) : Nat := s.bak.tick.toNat / 2 ^ 32

/-- The SQUALL record: cause, thread and detail; it counts the SQUALLs since RECCLR. -/
def squallRecord (s : State) (cause : Nat) (t : Tid) (detail : Nat) : State :=
  let n := min 255 (bitsOf (s.word 0x40024100) 16 8 + 1)
  let x := s.thr t
  s.setWords 0x40024100
    [cause + t.val * 2 ^ 8 + n * 2 ^ 16 + 2 ^ 31, x.pc.toNat, s.tickLo, s.tickHi, x.psw.toNat, detail,
     (x.reg 15).toNat, 0]

/-- The thermal stop word: T_J and slope as the registers code them. -/
def thermRecord (s : State) : State :=
  s.setWords 0x40024140
    [s.get F.THERM_TJ_T + 2 ^ 31, s.get F.THERM_TJ_SLOPE, s.tickLo, s.tickHi]

/-- The LULL snapshot as step 4 writes it, or with STEP4 = 0 as the cut writes it: outcome 0, words 1 to 4. -/
def lullRecord (s : State) (cause : Nat) (step4 : Bool) (openErase : Option Nat) : State :=
  let w : Option (Fin 4) := if cause = 5 then some (Fin.ofNat 4 (s.get F.SYS_RSTCAUSE_WIN)) else none
  (s.bakUpd (fun b => { b with lullWin := w })).setWords 0x40024120
    [cause + (if s.pwr.endSys then 2 ^ 3 else 0) + (if step4 then 2 ^ 6 else 0) + 2 ^ 31, s.tickLo, s.tickHi, 0,
     match openErase with
     | some k => k % 128 + 128
     | none => 0]

/-- The end of a LULL writes OUTCOME (1 DONE, 2 CUT), END as it now stands, and the time to step 6. -/
def lullOutcome (s : State) (outcome ms : Nat) : State :=
  let w := (s.word 0x40024120).toNat
  let w1 := w - bitsOf (s.word 0x40024120) 3 3 * 8 + (if s.pwr.endSys then 8 else 0) + outcome * 16
  (s.setWord 0x40024120 (BitVec.ofNat 32 w1)).setWord 0x4002412C (BitVec.ofNat 32 ms)

/-- END of a snapshot that step 4 has written follows a change of the LULL's end. -/
def lullEndBit (s : State) : State :=
  if bitOf (s.word 0x40024120) 31 ∧ s.pwr.endSys then
    s.setWord 0x40024120 (s.word 0x40024120 ||| 8)
  else s

/-- RECCLR: the device records and the boot word. -/
def recclr (s : State) (ring : Nat) (v : Word) : State :=
  if ring = 0 ∧ bitOf v 0 then
    (s.forget 0x40024100 0x40024180).forget 0x40024180 0x40024184
  else s

/-! ## Power of D0 -/

/-- D0's registers and memory start from Cold at power-up. -/
def bakCold (s : State) : State :=
  let s1 := (s.coldWindow 0x40024000 (fun _ => false)).forget 0x40024100 0x40025000
  s1.bakUpd (fun _ => { BakSt.cold with fresh := true })

end State

/-! ## Meanings -/

/-- CRYSTAL_CYCLE: a cycle of the 32 kHz clock that the pins present. -/
def execCrystalCycle (s : State) : Answer := .next (s.crystalCycle s.pins.rcCycle).pinsNext
def execTrimCorrection (s : State) : Answer := .next s.trimCorrection
def execBakRcFallback (s : State) : Answer := .next s.rcFallback
def execBakXtalReturn (s : State) : Answer := .next s.xtalReturn
/-- EVENT_INPUT_EDGE: input `i` has shown its new level for `o.held` samples (R342). -/
def execEventInputEdge (i : Fin 6) (o : EdgeObs) (s : State) : Answer :=
  .next (if s.edgeHeld i o.held then s.eventEdge i o.rising else s)
def execBillcmpArm (ring : Ring) (v : Word) (s : State) : Answer :=
  .next (if s.bakOn then s.billArm ring v else s)
def execWdkick (ring : Ring) (v : Word) (s : State) : Answer :=
  .next (if s.bakOn then s.wdKick ring v else s)
def execWdcfgWrite (ring : Ring) (v : Word) (s : State) : Answer :=
  .next (if s.bakOn then s.wdCfgWrite ring v else s)
def execWdEarly (s : State) : Answer := .next s.wdEarly
def execRecclr (ring : Ring) (v : Word) (s : State) : Answer :=
  .next (if s.bakOn then s.recclr ring v else s)
/-- BAK_POWER_UP: D0 powers up out of OFF (R336, R347). -/
def execBakPowerUp (s : State) : Answer := .next (if s.bakOn then s else s.bakCold)

end Sys2Proof.Machine
end

