-- ==== Sys2Proof/Machine/Otp.lean ====
section
/-!
DEFINITION. The OTP array's vote and programming (R63 to R65, R83) and the QSPI copy (R72), of
spec/03_otp_and_boot.md.
-/

namespace Sys2Proof.Machine

/-- The majority of three words, bit by bit (R64). -/
def majority (a b c : Word) : Word := (a &&& b) ||| (a &&& c) ||| (b &&& c)

/-- The bits on which three words disagree (R65). -/
def disagree (a b c : Word) : Word := (a ^^^ b) ||| (a ^^^ c)

namespace State

/-! ## The vote -/

/-- One word of the vote. -/
def voteWord (s x : State) (k : Nat) : State :=
  let a := s.otpRow k
  let b := s.otpRow (4 + k)
  let c := s.otpRow (8 + k)
  (x.put (F.OTP_WIRED_W k) (majority a b c).toNat).put (F.OTP_VOTEMAP_V k) (disagree a b c).toNat

/-- OTP delivers the majority of each wired bit and reports disagreements (R64, R65). The OTP registers are at Cold
then (R60). -/
def otpVote (s : State) : State :=
  if s.powered ∧ s.pwr.otpOk = false ∧ s.pwr.rstLow = false ∧ s.pwr.otpBusy = none then
    let s0 := s.coldWindow 0x40001000 (fun _ => false)
    let s1 := (List.range 4).foldl (fun x k => s.voteWord x k) s0
    let s2 := s1.putB F.OTP_ALARM_ALARM ((List.range 4).any (fun k => s1.get (F.OTP_VOTEMAP_V k) != 0))
    s2.pwrUpd (fun p => { p with otpOk := true })
  else s

/-! ## Row commands (R83) -/

/-- A refused command: REFUSED and E27. -/
def otpRefuse (s : State) : State := (s.put F.OTP_STAT_REFUSED 1).raise 27

/-- The row that ROWADDR names. -/
def otpRowAddr (s : State) : Nat := s.get F.OTP_ROWADDR_ROW

/-- An operation starts. -/
def otpStart (s : State) (op : Nat) : State :=
  (s.pwrUpd (fun p => { p with
    otpBusy := some (op, s.otpRowAddr, BitVec.ofNat 32 (s.get F.OTP_PROGDATA_DATA)) })).put F.OTP_STAT_BUSY 1

/-- PROGRAM and WPROG are refused while PLOCK is 1, VSYS is below 8.5 V or the key is wrong. -/
def otpProgRefused (s : State) (key : Byte) (vsysMv : Nat) : Bool :=
  s.on F.OTP_LOCK_PLOCK || decide (vsysMv < 8500) || key != 0x5A

/-- A row reads blank: data and check bits all 0. -/
def otpBlank (s : State) (r : Nat) : Bool := s.otpRow r == 0 && s.otpStatus r == 0

/-- READ. -/
def otpRead (s : State) (ring : Nat) : State :=
  if ring ≠ 0 then s
  else if s.pwr.otpBusy.isSome then s.otpRefuse
  else s.otpStart 1

/-- PROGRAM of a blank SECDED row. -/
def otpProgram (s : State) (ring : Nat) (key : Byte) (vsysMv : Nat) : State :=
  if ring ≠ 0 then s
  else if s.pwr.otpBusy.isSome ∨ s.otpProgRefused key vsysMv ∨ s.otpRowAddr < 12 ∨ s.otpBlank s.otpRowAddr = false then
    s.otpRefuse
  else s.otpStart 2

/-- WPROG of a wired word. -/
def otpWprog (s : State) (ring : Nat) (key : Byte) (vsysMv : Nat) : State :=
  if ring ≠ 0 then s
  else if s.pwr.otpBusy.isSome ∨ s.otpProgRefused key vsysMv ∨ 3 < s.otpRowAddr then s.otpRefuse
  else s.otpStart 3

/-- A store to OTP.CMD; OP 0 is reserved. -/
def otpCmdWrite (s : State) (ring : Nat) (v : Word) (vsysMv : Nat) : State :=
  let key := v.extractLsb' 24 8
  match bitsOf v 0 2 with
  | 1 => s.otpRead ring
  | 2 => s.otpProgram ring key vsysMv
  | 3 => s.otpWprog ring key vsysMv
  | _ => s

/-- Set a row's check status. -/
def setOtpEcc (s : State) (r v : Nat) : State :=
  { s with mem := { s.mem with otpEcc := Sparse.set unlistedRow s.mem.otpEcc r v } }

/-- A SECDED row whose programming failed or was cut short: bits never return to 0; which were set, and what the check
bits report, is free (Corners of spec/03). -/
def otpTorn (s : State) (r : Nat) : State :=
  ((s.setOtpRow r (s.otpRow r ||| BitVec.ofNat 32 (Config.freeAt s.free r))).setOtpEcc r
    (Config.freeAt s.free (256 + r) % 3)).tickFree

/-- A wired word whose programming failed or was cut short: each copy takes some of the bits. -/
def otpTornWord (s : State) (w : Nat) (d : Word) : State :=
  ([w, 4 + w, 8 + w].foldl (fun x r => x.setOtpRow r (x.otpRow r ||| (d &&& BitVec.ofNat 32 (Config.freeAt s.free r))))
    s).tickFree

/-- An operation completes with its read-back and raises E27. -/
def otpOpDone (s : State) (readbackOk : Bool) : State :=
  match s.pwr.otpBusy with
  | none => s
  | some (op, r, d) =>
    if s.powered then
      let s0 := ((s.pwrUpd (fun p => { p with otpBusy := none })).put F.OTP_STAT_BUSY 0).raise 27
      if op = 1 then
        ((s0.put F.OTP_ROWDATA_DATA (s.otpRow r).toNat).put F.OTP_ROWSTAT_ECC (s.otpStatus r)).putB
          F.OTP_ROWSTAT_BLANK (s.otpBlank r)
      else if op = 2 then
        if readbackOk then s0.setOtpRow r d else (s0.otpTorn r).put F.OTP_STAT_PERR 1
      else if readbackOk then
        [r, 4 + r, 8 + r].foldl (fun x k => x.setOtpRow k (x.otpRow k ||| d)) s0
      else (s0.otpTornWord r d).put F.OTP_STAT_PERR 1
    else s

/-- A loss of VSYS interrupts an operation (Corners of spec/03). -/
def otpAbandon (s : State) : State :=
  let s0 := s.pwrUpd (fun p => { p with otpBusy := none })
  match s.pwr.otpBusy with
  | some (2, r, _) => s0.otpTorn r
  | some (3, r, d) => s0.otpTornWord r d
  | _ => s0

/-! ## QSPI (R72 and its registers) -/

/-- QSPI has power: D2. -/
def qspiLive (s : State) : Bool := s.powered && s.domPg 2

/-- CFG matches the flash's command: dummy clocks as R72 gives them, the mode byte's two clocks included for 0xEB. -/
def qspiFits (s : State) : Bool :=
  match s.get F.QSPI_CFG_CMD with
  | 0 => s.get F.QSPI_CFG_DUMMY == 0
  | 1 => s.get F.QSPI_CFG_DUMMY == 8
  | 2 => s.get F.QSPI_CFG_DUMMY == 8
  | _ => s.get F.QSPI_CFG_DUMMY == 6

/-- A destination the copy can reach: SRAM below the GALE bank, whose port serves only the core (R96). -/
def qspiDstOk (dst cnt : Nat) : Bool := decide (0x20000000 ≤ dst) && decide (dst + cnt ≤ 0x200B8000)

/-- A store to QSPI.CTL: CNT, and GO starts a copy; GO is ignored while one runs (log entry 32). -/
def qspiCtlWrite (s : State) (ring : Nat) (v : Word) : State :=
  let s1 := if s.pwr.qspi.isSome then s else s.plainWrite F.QSPI_CTL_CNT.addr ring v
  if ring = 0 ∧ bitOf v 31 ∧ s.pwr.qspi = none then
    let cnt := s1.get F.QSPI_CTL_CNT
    let dst := s1.get F.QSPI_DST_DST
    if cnt < 1 ∨ 4096 < cnt ∨ qspiDstOk dst cnt = false then s1.put F.QSPI_STAT_DSTERR 1
    else
      (s1.pwrUpd (fun p => { p with qspi := some (s1.get F.QSPI_ADDR_ADDR, dst, cnt) })).put F.QSPI_STAT_BUSY 1
  else s1

/-- The copy ends. With dummy clocks that do not fit the command, what the flash returns is free; without VIO every bit
reads 1 (R363). -/
def qspiCopyDone (s : State) (vio : Bool) : State :=
  match s.pwr.qspi with
  | some (src, dst, cnt) =>
    if s.qspiLive then
      let bs := if vio = false then List.replicate cnt 0xFF
        else if s.qspiFits then s.extBytes src cnt
        else (List.range cnt).map (fun i => BitVec.ofNat 8 (Config.freeAt s.free i))
      ((((s.pwrUpd (fun p => { p with qspi := none })).setBytes dst bs).put F.QSPI_STAT_BUSY 0).put
        F.QSPI_STAT_DONE 1).tickFree.raise 17
    else s
  | none => s

/-- QSPI's registers return to Cold and a copy is broken off; what it had copied of its bytes is free. -/
def qspiCold (s : State) : State :=
  let s1 := match s.pwr.qspi with
    | some (src, dst, cnt) =>
      let n := Config.freeAt s.free 0 % (cnt + 1)
      (s.setBytes dst (s.extBytes src n)).tickFree
    | none => s
  (s1.pwrUpd (fun p => { p with qspi := none })).coldWindow 0x40026000 (fun _ => false)

end State

/-! ## Meanings -/

def execOtpVote (s : State) : Answer := .next s.otpVote
/-- OTP_READ: a store to OTP.CMD with OP 1 (R83). -/
def execOtpRead (ring : Ring) (s : State) : Answer := .next (if s.powered then s.otpRead ring else s)
def execOtpProgram (ring : Ring) (key : Byte) (vsysMv : Nat) (s : State) : Answer :=
  .next (if s.powered then s.otpProgram ring key vsysMv else s)
def execOtpWprog (ring : Ring) (key : Byte) (vsysMv : Nat) (s : State) : Answer :=
  .next (if s.powered then s.otpWprog ring key vsysMv else s)
def execOtpOpDone (readbackOk : Bool) (s : State) : Answer := .next (s.otpOpDone readbackOk)
/-- QSPI_COPY: a store to QSPI.CTL. -/
def execQspiCopy (ring : Ring) (v : Word) (s : State) : Answer :=
  .next (if s.qspiLive then s.qspiCtlWrite ring v else s)
/-- QSPI_COPY_DONE, with VIO as the pins present it. -/
def execQspiCopyDone (s : State) : Answer := .next (s.qspiCopyDone s.pins.vio).pinsNext

end Sys2Proof.Machine
end

