-- ==== Sys2Proof/Machine/Seq.lean ====
section
/-!
DEFINITION. SEQ's own rails, the dispatch of the rail instructions to their islands, ramps and power-good
(spec/10_rails_sequencing_supervision.md).
-/

namespace Sys2Proof.Machine

namespace State

/-! ## LDOs and load switches: k = 0 to 3 for LDO1 to LDO4, 4 to 9 for LS1 to LS6 -/

def linEN (k : Nat) : Fld := if k < 4 then F.SEQ_LDO_EN k else F.SEQ_LS_EN (k - 4)
def linDISCH (k : Nat) : Fld := if k < 4 then F.SEQ_LDO_DISCH k else F.SEQ_LS_DISCH (k - 4)
def linRAMP (k : Nat) : Fld := if k < 4 then F.SEQ_LDO_RAMP k else F.SEQ_LS_RAMP (k - 4)
def linCAUSE (k : Nat) : Fld := if k < 4 then F.SEQ_LDO_CAUSE k else F.SEQ_LS_CAUSE (k - 4)

/-- The discharge path of rail `c` closes or opens. -/
def linDis (s : State) (c : Nat) (b : Bool) : State :=
  s.seqUpd (fun q => { q with disNow := if b then set32 q.disNow c else clr32 q.disNow c })

/-- An LDO or load switch goes off (R225, R227). -/
def linOff (s : State) (k : Nat) (dis : Bool) : State :=
  ((((s.put (linEN k) 0).put (linRAMP k) 0).putB (linDISCH k) dis).linDis (7 + k) dis).railDown (7 + k)

/-- It goes off for a cause. -/
def linOffFor (s : State) (k : Nat) (dis : Bool) (cause : Nat) : State :=
  (s.linOff k dis).put (linCAUSE k) cause

/-- It goes off for a cause, the discharge path as DISCH has it. -/
def linTripFor (s : State) (k : Nat) (cause : Nat) : State := s.linOffFor k (s.on (linDISCH k)) cause

/-- A load switch that a lasting overload has latched off (R225). -/
def lsLatched (s : State) (k : Nat) : Bool := decide (4 ≤ k) && !s.on (linEN k) && s.get (linCAUSE k) == 5

/-- An LDO or load switch is enabled (R223 to R225): refused during a stop and, for an LDO, while D13 is off; cut again
at once while a CUT comparator stays tripped (R333). -/
def linOn (s : State) (k : Nat) : State :=
  if s.stopping then s.seqRefuse
  else if k < 4 ∧ s.domPg 13 = false then ((s.put (linEN k) 0).put (linCAUSE k) 2).seqRefuse
  else
    let s0 := s.linDis (7 + k) false
    if s.on (linEN k) then s0
    else
      let s1 := (((s0.put (linEN k) 1).put (linRAMP k) 1).put (linCAUSE k) 0).supBlank (7 + k)
      if s1.cutActive then s1.linTripFor k 4 else s1

/-- rail reaching an LDO or load switch: op 0 off, 1 on, 2 off with the discharge path; op 0 and 1 open that path. -/
def linRail (s : State) (k op : Nat) : State :=
  if op = 1 then (if s.stopping then s else s.put (linDISCH k) 0).linOn k else s.linOff k (op == 2)

/-- A store to SEQ.LDOn or SEQ.LSn: settings plainly, EN as rail on or off, DISCH the discharge path while off. A store
does not enable a latched load switch: the enable is refused, and only the next rail on starts it (R225). -/
def linWrite (s : State) (k : Nat) (ring : Nat) (v : Word) : State :=
  if ring ≠ 0 then s
  else
    let en := s.on (linEN k)
    let s1 := (s.plainWrite (linEN k).addr ring v).putB (linEN k) en
    if bitOf v 0 && !en then (if s1.lsLatched k then (s1.linDis (7 + k) (bitOf v 1)).seqRefuse else s1.linOn k)
    else if !bitOf v 0 && en then s1.linOff k (bitOf v 1)
    else s1.linDis (7 + k) (bitOf v 1 && !en)

/-- D13 goes off: an enabled LDO loses EN with CAUSE 2, and E8 is raised (R223). -/
def ldoDomainOff (s : State) : State :=
  (List.range 4).foldl (fun x k =>
    if x.on (linEN k) then (x.linOffFor k (x.on (linDISCH k)) 2).raise 8 else x) s

/-! ## Rail instructions at their island (R132, R223) -/

/-- A rail code as a switching controller. -/
def swOfRail (c : Nat) : Option (Fin 6) := if h : 1 ≤ c ∧ c ≤ 6 then some ⟨c - 1, by omega⟩ else none

/-- A rail code as a port. -/
def portOfRail (c : Nat) : Option (Fin 2) := if h : 17 ≤ c ∧ c ≤ 18 then some ⟨c - 17, by omega⟩ else none

/-- setv takes effect. -/
def applySetv (s : State) (c code : Nat) : State :=
  match swOfRail c, portOfRail c with
  | some n, _ => s.swSetv n code
  | _, some p => s.portSetv p code
  | _, _ => if 7 ≤ c ∧ c ≤ 10 then s.put (F.SEQ_LDO_VSET (c - 7)) code else s

/-- ramp takes effect. -/
def applyRamp (s : State) (c code us : Nat) : State :=
  match swOfRail c, portOfRail c with
  | some n, _ => s.swRamp n code us
  | _, some p => s.portRamp p code us
  | _, _ => s

/-- rail takes effect; `e` is what the island senses. -/
def applyRail (s : State) (c op : Nat) (e : Sense) : State :=
  match swOfRail c, portOfRail c with
  | some n, _ => s.swRail n op e.fbCode
  | _, some p => if op = 1 then s.portEnable p e.lineBelow12V else s.portOff p
  | _, _ => if 7 ≤ c ∧ c ≤ 16 then s.linRail (c - 7) op else s

/-- A rail is switched off with its discharge path (R228, R235), ports by opening the line. -/
def railOffDis (s : State) (c : Nat) : State := s.applyRail c 2 Sense.quiet

/-- A rail is enabled. -/
def railEn (s : State) (c : Nat) : Bool :=
  if 1 ≤ c ∧ c ≤ 6 then s.on (F.SW_CTL_EN (c - 1))
  else if 7 ≤ c ∧ c ≤ 16 then s.on (linEN (c - 7))
  else if c = 17 ∨ c = 18 then s.on (F.P_CTL_EN (c - 17))
  else c == 19 || c == 20

/-- A rail's start has ended (R226): SSDONE, the end of RAMP, the end of the enable procedure. -/
def railStarted (s : State) (c : Nat) : Bool :=
  if 1 ≤ c ∧ c ≤ 6 then s.on (F.SW_STAT_SSDONE (c - 1))
  else if 7 ≤ c ∧ c ≤ 16 then !s.on (linRAMP (c - 7))
  else if c = 17 ∨ c = 18 then !s.on (F.P_STAT_RAMPING (c - 17))
  else true

/-- The rail's island has power. -/
def railLive (s : State) (c : Nat) : Bool :=
  s.powered &&
    (if 1 ≤ c ∧ c ≤ 6 then s.domPg (6 + c) else if c = 17 ∨ c = 18 then s.domPg (c - 12) else true)

/-- One step of a ramp in progress. -/
def rampStep (s : State) (c : Nat) : State :=
  if s.railLive c then
    match swOfRail c, portOfRail c with
    | some n, _ => s.swRampStep n
    | _, some p => s.portRampStep p
    | _, _ => s
  else s

/-- The start ramp of an LDO or load switch ends. -/
def railRampEnd (s : State) (c : Nat) : State :=
  if s.powered ∧ 7 ≤ c ∧ c ≤ 16 ∧ s.on (linEN (c - 7)) then s.put (linRAMP (c - 7)) 0 else s

/-- A load switch has limited its current for ILT (R225). -/
def lsOverload (s : State) (n : Nat) : State :=
  if s.powered ∧ s.on (linEN (4 + n)) then s.linTripFor (4 + n) 5 else s

/-- An output under discharge falls below 100 mV. -/
def dischargeEnd (s : State) (c : Nat) : State :=
  match swOfRail c with
  | some n => s.swDischargeEnd n
  | none => if 7 ≤ c ∧ c ≤ 16 then s.linDis c false else s

/-- The conditions of power-good (R227) hold for a rail now; in target mode the line is present (R247). A ganged
follower has no power-good of its own (R229). -/
def pgReady (s : State) (c : Nat) : Bool :=
  s.railLive c && s.railEn c && s.railStarted c && !s.seq.uvNow.getLsbD c && !s.seq.ovNow.getLsbD c &&
    !s.follower (c - 1) && decide (1 ≤ c ∧ c ≤ 20) &&
    (match portOfRail c with
     | some p => !(s.isTarget p && s.port[p].lineGone)
     | none => true)

/-- Power-good rises after PGDLY (R227), and the rail's first rise enters the rise order (R230). -/
def powerGoodRise (s : State) (c : Nat) : State :=
  if s.pgReady c ∧ s.pg c = false then (s.pgSet c true).riseAdd c else s

end State

/-! ## Meanings -/

def execRampStep (rail : Fin 32) (s : State) : Answer := .next (s.rampStep rail)
def execRailRampEnd (rail : Fin 32) (s : State) : Answer := .next (s.railRampEnd rail)
def execLsOverload (n : Fin 6) (s : State) : Answer := .next (s.lsOverload n)
def execDischargeEnd (rail : Fin 32) (s : State) : Answer := .next (s.dischargeEnd rail)
def execPowerGoodRise (rail : Fin 32) (s : State) : Answer := .next (s.powerGoodRise rail)

end Sys2Proof.Machine
end

