-- ==== Sys2Proof/Machine/Stop.lean ====
section
/-!
DEFINITION. Supervisors, LULL, the fast stop, the thermal CUT and the loss of the main section (R53, R226 to R239,
R333 and the Corners of spec/10).
-/

namespace Sys2Proof.Machine

namespace State

/-! ## Loss of the main section (R53, R60) -/

/-- What BAK holds survives in BACKUP; everything else of the register space is lost. -/
def bakKeep (key : Nat) : Bool := key / 32 / 0x1000 == 0x40024

/-- What SC and CHG keep without the main section: the held latches and the source of VBAK (R211, R216, R221). -/
def storeDown (s : State) : StoreSt :=
  { StoreSt.cold with fault := s.store.fault, short := s.store.short, vbakCoin := s.store.vbakCoin }

/-- The device enters BACKUP or OFF. Flash, OTP and external flash keep their content, operations in progress are
abandoned (R174), SRAM and every register outside D0 are lost; OFF loses D0 as well. -/
def enterDown (s : State) (toBackup : Bool) : State :=
  let s1 := (s.nvcAbandon.otpAbandon).wdStop
  let s2 := { s1 with
    regs := s1.regs.filter (fun p => bakKeep p.1), core := Core.cold, nvc := Nvc.cold,
    pwr := { PowerSt.cold with state := if toBackup then .backup else .off, otpOk := false },
    sw := Vector.replicate 6 SwSt.cold, store := s1.latchesHeld.storeDown, seq := SeqSt.cold,
    port := Vector.replicate 2 PortSt.cold, host := HostSt.cold, uart := Vector.replicate 5 UartSt.cold,
    adc := AdcSt.cold, therm := ThermSt.cold, pwm := Vector.replicate 6 PwmSt.cold }
  let s3 := s2.forget 0x20000000 0x200C0000
  if toBackup then s3 else s3.bakCold

/-- VSYS falls below 7.0 V (R53): BACKUP with VBAK of at least 1.7 V, else OFF. -/
def vsysBackupFall (s : State) (vbakMv : Nat) : State :=
  if s.powered then s.enterDown (decide (1700 ≤ vbakMv)) else s

/-- VBAK falls below 1.7 V in BACKUP. -/
def vbakLoss (s : State) : State := if s.pwr.state = .backup then s.enterDown false else s

/-! ## Order of a stop (R230, R235) -/

/-- Both line stages, then the rise order backwards, then the other enabled rails in ascending order: the first that
is still enabled. -/
def stopNext (s : State) : Option Nat :=
  ([17, 18] ++ s.seq.rise.reverse ++ (List.range 16).map (· + 1)).find? (fun c => s.railEn c && !s.follower (c - 1))

/-- A stop switches a rail off; LDOs and load switches record CAUSE 3, ports CAUSE 5. -/
def stopRailOff (s : State) (c : Nat) : State :=
  match portOfRail c with
  | some p => s.portOffFor p 5
  | none => if 7 ≤ c ∧ c ≤ 16 then s.linOffFor (c - 7) true 3 else s.railOffDis c

/-- Both line stages open. -/
def stopLines (s : State) : State :=
  [(0 : Fin 2), (1 : Fin 2)].foldl
    (fun x (p : Fin 2) => if x.on (F.P_CTL_EN p) then x.portOffFor p 5 else x.measAbort p) s

/-- Every rail still on is switched off at once, at most 18 of them. -/
def stopAll (s : State) : State :=
  (List.range 18).foldl (fun x c => if x.railEn (c + 1) && !x.follower c then x.stopRailOff (c + 1) else x) s.stopLines

/-- The end of a stop (R234): a SYSTEM reset, or BACKUP with VBAK of at least 1.8 V, or OFF. -/
def stopEnd (s : State) (vbakMv : Nat) : State :=
  if s.pwr.endSys then s.pwrUpd (fun p => { p with sysDue := true }) else s.enterDown (decide (1800 ≤ vbakMv))

/-! ## LULL (R234 to R237) -/

/-- A LULL starts, or a trigger meets a running stop: a running LULL goes on, and `reset` (SQUALL, window RESET) turns
its end into a SYSTEM reset; a fast stop goes on unchanged. A reset trigger stops the watchdog (R60). Step 1 is done
with the start. -/
def lullStart (s : State) (cause : Nat) (endSys reset : Bool) : State :=
  let s0 := if reset then s.wdStop else s
  match s0.pwr.stop with
  | .none =>
    if s0.powered then
      let s1 := s0.pwrUpd (fun p => { p with
        stop := .lull 2 cause (s.get F.SEQ_LULLCFG_TLULL), endSys := endSys || reset, sysDue := false, lulled := true })
      let s2 := (((s1.put F.SEQ_LULLSTAT_RUN 1).put F.SEQ_LULLSTAT_STEP 2).put F.SEQ_LULLSTAT_CAUSE cause).putB
        F.SEQ_LULLSTAT_ENDSYS (endSys || reset)
      ((s2.raise 28).measAbort 0).measAbort 1
    else s0
  | .lull n _ _ =>
    if reset then
      let s1 := (s0.pwrUpd (fun p => { p with endSys := true })).put F.SEQ_LULLSTAT_ENDSYS 1
      if 5 ≤ n then s1.lullEndBit else s1
    else s0
  | .fast => s0

/-- The LULL moves to a step. -/
def lullTo (s : State) (n : Nat) : State :=
  match s.pwr.stop with
  | .lull _ c t => (s.pwrUpd (fun p => { p with stop := .lull n c t })).put F.SEQ_LULLSTAT_STEP n
  | _ => s

/-- A write of SEQ.LULL (R234). -/
def lullGo (s : State) (ring : Nat) (v : Word) : State :=
  if ring = 0 ∧ bitOf v 0 ∧ bitsOf v 24 8 = 0x4C then s.lullStart 1 (bitOf v 1) false else s

/-- Step 2 ends: frames have finished, or FRMAX breaks them off; the NVC flush begins. -/
def lullFramesDone (s : State) : State :=
  match s.pwr.stop with
  | .lull 2 _ _ => (((s.engAbort 0).engAbort 1).nvcUpd (fun n => { n with flushing := true })).lullTo 3
  | _ => s

/-- The sector whose erase the flush leaves open (R173): its INTENT is written, its array phase has not ended. -/
def openErase (s : State) : Option Nat :=
  let open1 (e : Option NvErase) : Option Nat :=
    match e with
    | some ⟨.erase k, .intent, _, _⟩ => some k
    | some ⟨.erase k, .array, _, _⟩ => some k
    | _ => none
  match open1 s.nvc.er with
  | some k => some k
  | none => open1 s.nvc.held

/-- Steps 3 and 4 end: the flush is done and the snapshot is written. -/
def lullFlushDone (s : State) : State :=
  match s.pwr.stop with
  | .lull 3 cause _ =>
    let k := s.openErase
    let s1 := if s.nvcLive then s.nvcFlush else s
    (s1.lullRecord cause true k).lullTo 5
  | _ => s

/-- The LULL ends: OUTCOME and its time go to the snapshot (R236). -/
def lullEnd (s : State) (outcome ms vbakMv : Nat) : State :=
  (((s.lullOutcome outcome ms).lullTo 6).put F.SEQ_LULLSTAT_RUN 0).stopEnd vbakMv

/-- Step 5: the next rail goes off; with none left the LULL ends. -/
def lullRailOff (s : State) (elapsedMs vbakMv : Nat) : State :=
  match s.pwr.stop with
  | .lull 5 _ _ =>
    match s.stopNext with
    | some c => s.stopRailOff c
    | none => s.lullEnd 1 elapsedMs vbakMv
  | _ => s

/-- T_LULL expires (R236). -/
def lullBudgetCut (s : State) (vbakMv : Nat) : State :=
  match s.pwr.stop with
  | .lull n cause t =>
    if n = 6 then s
    else
      let s1 := s.stopAll
      let s2 := if n < 5 then s1.lullRecord cause false none else s1
      s2.lullEnd 2 t vbakMv
  | _ => s

/-! ## Fast stop (R57, R239) -/

/-- One rail of the fast stop goes off; when none is left the stop ends. -/
def fastNext (s : State) (vbakMv : Nat) : State :=
  let s1 := match s.stopNext with
    | some c => s.stopRailOff c
    | none => s
  if s1.stopNext = none then s1.stopEnd vbakMv else s1

/-- The fast stop begins, or takes over a running LULL for the rails still on; the line stages open and the first rail
goes off at once. A LULL that was to end in a SYSTEM reset keeps that end. -/
def fastStop (s : State) (endSys : Bool) (vbakMv : Nat) : State :=
  let s0 := if endSys then s.wdStop else s
  let go (x : State) (e : Bool) : State :=
    ((x.pwrUpd (fun p => { p with stop := .fast, endSys := e, sysDue := false })).stopLines).fastNext vbakMv
  match s0.pwr.stop with
  | .none => if s0.powered then go s0 endSys else s0
  | .lull n _ _ => if n = 6 then s0 else go (s0.put F.SEQ_LULLSTAT_RUN 0) (endSys || s0.pwr.endSys)
  | .fast => s0

/-- The 1 ms spacing of the fast stop expires. -/
def fastStopRailOff (s : State) (vbakMv : Nat) : State :=
  match s.pwr.stop with
  | .fast => if s.pwr.sysDue then s else s.fastNext vbakMv
  | _ => s

/-! ## Supervisors (R226 to R229) -/

/-- The OV comparator of rail `c` is blanked after a downward move of a SWn reference: while it moves, and for 1 ms
after its end, `sinceFallUs` microseconds ago (R226). -/
def fallBlank (s : State) (c sinceFallUs : Nat) : Bool :=
  match swOfRail c with
  | some n => s.swFalling n || (s.sw[n].fell && decide (sinceFallUs < 1000))
  | none => false

/-- A comparator of rail `c` is not blanked and the rail is supervised. -/
def supWatches (s : State) (c : Nat) (ov : Bool) (sinceFallUs : Nat) : Bool :=
  s.railLive c && s.railEn c && s.railStarted c && !s.follower (c - 1) && decide (1 ≤ c ∧ c ≤ 20) &&
    (match portOfRail c with
     | some p => !s.isTarget p
     | none => true) &&
    !(ov && s.fallBlank c sinceFallUs)

/-- UVACT or OVACT. -/
def supAction (s : State) (c : Nat) (ov : Bool) : Nat :=
  if ov then s.get (F.SEQ_SUP_OVACT (c - 1)) else s.get (F.SEQ_SUP_UVACT (c - 1))

/-- The flag of an asserting comparator: E7 when set from 0 (R228). -/
def supFlag (s : State) (c : Nat) (ov : Bool) : State :=
  let f := if ov then F.SEQ_OVF_OVF else F.SEQ_UVF_UVF
  if s.bit f (c - 1) then s else (s.setBit f (c - 1)).raise 7

/-- Rail `c` is the line of a port in target mode, whose power-good stands on TGOOD and not on SEQ's window (R247). -/
def tgoodRail (s : State) (c : Nat) : Bool :=
  match portOfRail c with
  | some p => s.isTarget p && s.railLive c && s.railEn c
  | none => false

/-- UV or OV asserts after FILT (R227, R228). For a port in target mode the lower comparator is TGOOD: power-good falls
and SEQ takes no action (R247). -/
def supervisorAssert (s : State) (c : Nat) (ov : Bool) (sinceFallUs : Nat) : State :=
  if s.tgoodRail c then
    if ov then s else (s.seqUpd (fun q => { q with uvNow := set32 q.uvNow c })).pgSet c false
  else if s.supWatches c ov sinceFallUs then
    let s1 := s.seqUpd (fun q => if ov then { q with ovNow := set32 q.ovNow c } else { q with uvNow := set32 q.uvNow c })
    let s2 := (s1.supFlag c ov).pgSet c false
    match s.supAction c ov with
    | 1 =>
      if c ≤ 18 then
        let s3 := (s2.railOffDis c).setBit F.SEQ_SUPOFF_OFF (c - 1)
        if 7 ≤ c ∧ c ≤ 16 then s3.put (linCAUSE (c - 7)) 1 else s3
      else s2
    | 2 => s2.lullStart 2 false false
    | _ => s2
  else s

/-- UV or OV deasserts (R226). -/
def supervisorRelease (s : State) (c : Nat) (ov : Bool) : State :=
  if s.powered then
    s.seqUpd (fun q => if ov then { q with ovNow := clr32 q.ovNow c } else { q with uvNow := clr32 q.uvNow c })
  else s

/-! ## Thermal CUT (R333, R334) -/

/-- Every rail, SC and both line stages are cut, each block recording cause CUT. -/
def cutAll (s : State) : State :=
  let s1 := (List.finRange 6).foldl (fun x (n : Fin 6) => if x.on (F.SW_CTL_EN n) then x.swLatch n 3 else x) s
  let s2 := (List.range 10).foldl (fun x k => if x.on (linEN k) then x.linTripFor k 4 else x) s1
  (((s2.portCut 0).portCut 1)).scCut

/-- A CUT comparator trips (R333): CUTCMP shows it; that of an excluded sensor cuts nothing. THERM's counter moves only
while D3 is on. -/
def thermalCut (s : State) (i : Fin 8) : State :=
  if s.powered = false then s
  else
    let s1 := s.seqUpd (fun q => { q with cutNow := q.cutNow ||| BitVec.twoPow 8 i })
    if s.bit F.THERM_SUSP_S i then s1
    else
    let s2 := (s1.raise 6).put F.THERM_STAT_CUTLAT 1
    let s3 := if s2.domPg 3 then s2.bump F.THERM_CNT_CUTCNT else s2
    s3.cutAll

/-- A CUT comparator stops tripping. -/
def cutRelease (s : State) (i : Fin 8) : State :=
  s.seqUpd (fun q => { q with cutNow := q.cutNow &&& ~~~(BitVec.twoPow 8 i) })

/-! ## Reset triggers (R57) -/

/-- RST_N has read low on 288 consecutive cycles. VBAK decides nothing here, since the stop ends in a SYSTEM reset. -/
def rstNAssert (s : State) : State :=
  if s.powered ∧ s.on F.SYS_OSCSTAT_MOSC_OK then
    ((s.put F.SYS_RSTCAUSE_PIN 1).pwrUpd (fun p => { p with rstLow := true })).fastStop true 0
  else s

/-- RST_N rises. -/
def rstNRelease (s : State) : State := s.pwrUpd (fun p => { p with rstLow := false })

/-- The watchdog's count reaches PERIOD (R346). -/
def wdExpire (s : State) : State :=
  if s.powered ∧ s.bak.wdRun ∧ s.on F.BAK_WDCFG_EN ∧ s.wdPeriod ≤ s.bak.wdCount then
    (s.put F.SYS_RSTCAUSE_WDOG 1).fastStop true 0
  else s

end State

/-! ## Meanings -/

def execFastStopRailOff (vbakMv : Nat) (s : State) : Answer := .next (s.fastStopRailOff vbakMv)
def execVsysBackupFall (vbakMv : Nat) (s : State) : Answer := .next (s.vsysBackupFall vbakMv)
def execVbakLoss (s : State) : Answer := .next s.vbakLoss
def execSupervisorAssert (rail : Fin 32) (o : SupObs) (s : State) : Answer :=
  .next (s.supervisorAssert rail o.ov o.sinceFallUs)
def execSupervisorRelease (rail : Fin 32) (ov : Bool) (s : State) : Answer := .next (s.supervisorRelease rail ov)
def execLullGo (ring : Ring) (v : Word) (s : State) : Answer := .next (if s.powered then s.lullGo ring v else s)
def execLullFramesDone (s : State) : Answer := .next s.lullFramesDone
def execLullNvcFlushDone (s : State) : Answer := .next s.lullFlushDone
def execLullRailOff (elapsedMs : Nat) (vbakMv : Nat) (s : State) : Answer := .next (s.lullRailOff elapsedMs vbakMv)
def execLullBudgetCut (vbakMv : Nat) (s : State) : Answer := .next (s.lullBudgetCut vbakMv)
def execThermalCut (sensor : Fin 8) (s : State) : Answer := .next (s.thermalCut sensor)
def execCutComparatorRelease (sensor : Fin 8) (s : State) : Answer := .next (s.cutRelease sensor)
def execRstNAssert (s : State) : Answer := .next s.rstNAssert
def execRstNRelease (s : State) : Answer := .next s.rstNRelease
def execWdExpire (s : State) : Answer := .next s.wdExpire

end Sys2Proof.Machine
end

