-- ==== Sys2Proof/Machine/Adc.lean ====
section
/-!
DEFINITION. The converter: sequence, results, FIFO, windows and calibration (spec/15_adc_and_thermal.md, R315 to R326).
-/

namespace Sys2Proof.Machine

namespace State

/-- The ADC has power: D3 (R49). -/
def adcLive (s : State) : Bool := s.powered && s.domPg 3

/-- Change the converter's own state. -/
def adcUpd (s : State) (f : AdcSt → AdcSt) : State := { s with adc := f s.adc }

/-! ## The sequence -/

/-- The settings that slot `k` starts with (R321). -/
def slotCfg (s : State) (k : Nat) : SlotCfg where
  input := s.get (F.ADC_SLOT_INPUT k)
  probe := s.on (F.ADC_SLOT_PROBE k)
  avg := s.get (F.ADC_SLOT_AVG k)
  fifo := s.on (F.ADC_SLOT_FIFO k)
  wmode := s.get (F.ADC_SLOT_WMODE k)
  lo := s.get (F.ADC_WIN_LO k)
  hi := s.get (F.ADC_WIN_HI k)
  range := s.on (F.ADC_SLOT_RANGE k)
  dac := s.get F.ADC_PROBE_CODE

/-- Slot `k` starts. -/
def slotStart (s : State) (k : Nat) : State :=
  ((s.put F.ADC_STAT_CUR k).put F.ADC_STAT_BUSY 1).adcUpd (fun a => { a with cfg := s.slotCfg k })

/-- The sequence starts at slot 0 with the present LAST. -/
def seqStart (s : State) : State := (s.adcUpd (fun a => { a with last := s.get F.ADC_CTL_LAST })).slotStart 0

/-- The slot after the present one starts; after the last one the sequence wraps, SEQCNT counts and LAST takes effect
(R316, R321). -/
def slotNext (s : State) : State :=
  let k := s.get F.ADC_STAT_CUR
  if s.adc.last ≤ k then (s.put F.ADC_STAT_SEQCNT (s.get F.ADC_STAT_SEQCNT + 1)).seqStart else s.slotStart (k + 1)

/-- RUN = 1: a sequence that does not run starts at slot 0 (R315); during a calibration it starts when that ends. -/
def adcRun (s : State) : State :=
  if s.on F.ADC_CTL_RUN then s
  else
    let s1 := s.put F.ADC_CTL_RUN 1
    if s1.on F.ADC_STAT_CALBUSY then s1.put F.ADC_STAT_BUSY 0 else s1.seqStart

/-- RUN = 0: the converter stops after the conversion in progress. -/
def adcStop (s : State) : State := s.put F.ADC_CTL_RUN 0

/-- FIFOCLR. -/
def adcFifoClr (s : State) : State := s.adcUpd (fun a => { a with fifo := [], used := a.used || !a.fifo.isEmpty })

/-- CALGO: ignored while a calibration runs (R326). -/
def adcCalGo (s : State) : State := s.put F.ADC_STAT_CALBUSY 1

/-- A store to ADC.CTL: LAST takes effect at the next wrap, or after the slot in progress when that lies above it. -/
def adcCtlWrite (s : State) (ring : Nat) (v : Word) : State :=
  if 1 < ring then s
  else
    let s1 := s.put F.ADC_CTL_LAST (bitsOf v 0 5)
    let s2 := if bitsOf v 0 5 < s1.get F.ADC_STAT_CUR ∧ s1.on F.ADC_STAT_BUSY then
        s1.adcUpd (fun a => { a with last := s1.get F.ADC_STAT_CUR })
      else s1
    let s3 := if bitOf v 8 then s2.adcRun else s2.adcStop
    let s4 := if bitOf v 9 then s3.adcFifoClr else s3
    if bitOf v 16 then s4.adcCalGo else s4

/-- Inputs whose Probe column of R317 reads "No". -/
def noProbe (input : Nat) : Bool := input == 0x21 || input == 0x23 || decide (0x28 ≤ input)

/-- A store to ADC.SLOTk: PROBE stays 0 for an input without a probe (R322). -/
def adcSlotWrite (s : State) (k ring : Nat) (v : Word) : State :=
  let s1 := s.plainWrite (F.ADC_SLOT_INPUT k).addr ring v
  if noProbe (s1.get (F.ADC_SLOT_INPUT k)) then s1.put (F.ADC_SLOT_PROBE k) 0 else s1

/-! ## Results (R316 to R320) -/

/-- Signed inputs of R317. -/
def adcSigned (input : Nat) : Bool := decide (0x18 ≤ input) && decide (input ≤ 0x1D)

/-- The ends of an input's range. -/
def adcLo (input : Nat) : Int := if adcSigned input then -8192 else 0
def adcHi (input : Nat) : Int := if adcSigned input then 8191 else 16383

/-- A reading under the trims of ADC.TRIM, in units of 2^−17 code: OFS, in quarter codes, is added, then the sum grows
by GAIN × 2^−15. R325 gives the units and says that every result uses them; adding the offset first is how its step 6
finds GAIN (DEDUCED, log entry 60). -/
def adcTrimmed (s : State) (x : Int) : Int :=
  (4 * x + signedOf (s.get F.ADC_TRIM_OFS) 10) * (32768 + signedOf (s.get F.ADC_TRIM_GAIN) 12)

/-- One code in the units of `adcTrimmed`. -/
def adcUnit : Int := 131072

/-- A trimmed reading held within its input's range (R317). -/
def adcSat (input : Nat) (x : Int) : Int := max (adcLo input * adcUnit) (min (adcHi input * adcUnit) x)

/-- A trimmed reading lies beyond either end. -/
def adcClips (input : Nat) (x : Int) : Bool := decide (x < adcLo input * adcUnit) || decide (adcHi input * adcUnit < x)

/-- The mean of the kept conversions in codes, rounded half up (R316). -/
def adcMean (s : State) (input : Nat) (cs : List Int) : Int :=
  let n : Int := cs.length * adcUnit
  (2 * (cs.map (fun x => adcSat input (s.adcTrimmed x))).sum + n) / (2 * n)

/-- A window bound or result as a number of its input. -/
def adcNum (input code : Nat) : Int := if adcSigned input then signedOf (code % 2 ^ 14) 14 else (code : Int)

/-- The window rule (R320). -/
def adcMatch (c : SlotCfg) (x : Int) : Bool :=
  let lo := adcNum c.input c.lo
  let hi := adcNum c.input c.hi
  if c.wmode = 1 then decide (lo ≤ x) && decide (x ≤ hi)
  else if c.wmode = 2 then decide (x < lo) || decide (hi < x)
  else false

/-- An entry meets the result FIFO (R319): E18 when the count rises to FTH; a full FIFO keeps its oldest 32. -/
def adcPush (s : State) (e : AdcEntry) : State :=
  if s.adc.fifo.length < 32 then
    let s1 := s.adcUpd (fun a => { a with fifo := a.fifo ++ [e] })
    if s.adc.fifo.length + 1 = s.get F.ADC_FCFG_FTH then s1.raise 18 else s1
  else (s.put F.ADC_FSTAT_OVF 1).bump F.ADC_FSTAT_LOST

/-- A match sets the slot's bit, with E19 when it was 0 (R320). -/
def adcWindow (s : State) (k : Nat) (hit : Bool) : State :=
  if hit && !s.bit F.ADC_WSTAT_W k then (s.setBit F.ADC_WSTAT_W k).raise 19 else s

/-- The result registers, the FIFO and the window of slot `k`, in the order of R318. -/
def adcResult (s : State) (k : Nat) (cs : List Int) : State :=
  let c := s.adc.cfg
  let x := s.adcMean c.input cs
  let hit := adcMatch c x
  let clip := cs.any (fun y => adcClips c.input (s.adcTrimmed y))
  let s1 := ((s.put (F.ADC_RES_CODE k) (fieldOfInt x 14)).put (F.ADC_RES_NEW k) 1).put (F.ADC_RES_COUNT k)
    (s.get (F.ADC_RES_COUNT k) + 1)
  let s2 := if c.fifo then s1.adcPush ⟨BitVec.ofInt 14 x, k, hit, c.probe, clip⟩ else s1
  s2.adcWindow k hit

/-- A slot's last kept conversion ends (R318); `cs` are the 2^AVG readings kept, in codes, before the trims and before
saturation. -/
def adcSlotResult (s : State) (cs : List Int) : State :=
  if s.adcLive ∧ s.on F.ADC_STAT_BUSY ∧ s.on F.ADC_STAT_CALBUSY = false ∧ cs.length = 2 ^ s.adc.cfg.avg then
    let s1 := s.adcResult (s.get F.ADC_STAT_CUR) cs
    if s1.on F.ADC_CTL_RUN then s1.slotNext else s1.put F.ADC_STAT_BUSY 0
  else s

/-! ## Calibration (R325, R326) -/

/-- A sum of 16 readings under the present trims, in units of 2^−17 code. -/
def adcTrimSum (s : State) (sum : Int) : Int :=
  (4 * sum + 16 * signedOf (s.get F.ADC_TRIM_OFS) 10) * (32768 + signedOf (s.get F.ADC_TRIM_GAIN) 12)

/-- The first check that fails: 1 GND, 2 REF, 3 DAC, 0 none; exact on the sums of 16 readings under the present trims. -/
def adcCalCause (s : State) (o : AdcCalObs) : Nat :=
  let u : Int := 16 * adcUnit
  let gnd := s.adcTrimSum o.gnd
  let ref := s.adcTrimSum o.ref
  if 128 * u < gnd.natAbs then 1
  else if 32 * u < (s.adcTrimSum o.dac0 - gnd).natAbs then 3
  else if 546 * u < (ref - 13653 * u).natAbs then 2
  else if 820 * u < (5 * s.adcTrimSum o.dac512 - 3 * ref).natAbs then 3
  else 0

/-- An exact quotient, or one of the two whole numbers beside it: the spec states no rounding (log entry 6). -/
def eitherSide (s : State) (k : Nat) (n d : Int) : Int :=
  n / d + (if n % d = 0 then 0 else (Config.freeAt s.free k % 2 : Nat))

/-- Step 5: OFS = −mean in quarter codes, from the sum of 64 readings without trims; a value the field cannot hold is
free. -/
def adcOfs (s : State) (o : AdcCalObs) : Nat :=
  let q := s.eitherSide 3 (-o.gnd64) 16
  if -512 ≤ q ∧ q ≤ 511 then fieldOfInt q 10 else Config.freeAt s.free 0

/-- Step 6: GAIN = 13,653 / mean − 1 in units of 2^−15, the mean of 64 readings with the new OFS; a value the field
cannot hold is free. -/
def adcGain (s : State) (o : AdcCalObs) : Nat :=
  let sum := o.ref64 + 16 * signedOf (s.adcOfs o % 2 ^ 10) 10
  if 0 < sum then
    let q := s.eitherSide 1 ((64 * 13653 - sum) * 32768) sum
    if -2048 ≤ q ∧ q ≤ 2047 then fieldOfInt q 12 else Config.freeAt s.free 2
  else Config.freeAt s.free 2

/-- A calibration ends: trims or cause, E18, and the sequence resumes with the next slot or stays stopped. -/
def adcCalDone (s : State) (o : AdcCalObs) : State :=
  if s.adcLive ∧ s.on F.ADC_STAT_CALBUSY then
    let why := s.adcCalCause o
    let s1 := ((s.put F.ADC_STAT_CALBUSY 0).put F.ADC_STAT_CALRES (if why = 0 then 1 else 2)).put F.ADC_STAT_CALWHY why
    let s2 := if why = 0 then
        ((s1.put F.ADC_TRIM_OFS (s.adcOfs o)).put F.ADC_TRIM_GAIN (s.adcGain o)).tickFree
      else s1
    let s3 := s2.raise 18
    if s3.on F.ADC_CTL_RUN then (if s3.on F.ADC_STAT_BUSY then s3.slotNext else s3.seqStart)
    else s3.put F.ADC_STAT_BUSY 0
  else s

/-! ## Reads that change the island -/

/-- A FIFO entry's word. -/
def adcEntryWord (e : AdcEntry) : Word :=
  BitVec.ofNat 32 (e.code.toNat + e.slot % 32 * 2 ^ 16 + (if e.win then 2 ^ 21 else 0) + (if e.probe then 2 ^ 22 else 0) +
    (if e.clip then 2 ^ 23 else 0) + 2 ^ 31)

/-- A load of ADC.FIFO: VALID 0 when it is empty. Its other bits are then Cold 0 until the first entry has left it, and
free after. -/
def adcFifoRead (s : State) : Word × State :=
  match s.adc.fifo with
  | e :: q => (adcEntryWord e, s.adcUpd (fun a => { a with fifo := q, used := true }))
  | [] => (if s.adc.used then BitVec.ofNat 32 (s.fresh % 2 ^ 24) &&& 0x00FF3FFF else 0, s.tickFree)

/-- A load of ADC.RESk clears NEW. -/
def adcResRead (s : State) (k : Nat) : Word × State :=
  (s.storedWord (F.ADC_RES_CODE k).addr, s.put (F.ADC_RES_NEW k) 0)

/-- A reset of the island loads the factory attenuator trims (R324). -/
def adcLoad (s : State) : State :=
  (s.adcUpd (fun a => { a with atten := (List.range 24).map (fun k => s.otpTrim (40 + k)) })).tickFree

/-- The ADC's registers return to Cold. -/
def adcCold (s : State) : State := (s.coldWindow 0x40012000 (fun _ => false)).adcUpd (fun _ => AdcSt.cold)

end State

/-! ## Meanings -/

/-- ADC_RUN: a store to ADC.CTL that sets RUN (ring 0 or 1). -/
def execAdcRun (ring : Ring) (s : State) : Answer := .next (if s.adcLive ∧ ring.val ≤ 1 then s.adcRun else s)
def execAdcStop (ring : Ring) (s : State) : Answer := .next (if s.adcLive ∧ ring.val ≤ 1 then s.adcStop else s)
def execAdcFifoclr (ring : Ring) (s : State) : Answer := .next (if s.adcLive ∧ ring.val ≤ 1 then s.adcFifoClr else s)
def execAdcCalgo (ring : Ring) (s : State) : Answer := .next (if s.adcLive ∧ ring.val ≤ 1 then s.adcCalGo else s)
def execAdcCalDone (o : AdcCalObs) (s : State) : Answer := .next (s.adcCalDone o)
def execAdcSlotResult (conversions : List Int) (s : State) : Answer := .next (s.adcSlotResult conversions)

end Sys2Proof.Machine
end

