-- ==== Sys2Proof/Machine/Therm.lean ====
section
/-!
DEFINITION. THERM: scans, suspect sensors, thresholds and their actions (spec/15_adc_and_thermal.md, R327 to R334).
Temperatures are in units of 0.25 °C.
-/

namespace Sys2Proof.Machine

/-- The eight readings as a list. -/
def tsList (r : TsReadings) : List Int := [r.t0, r.t1, r.t2, r.t3, r.t4, r.t5, r.t6, r.t7]

/-- Reading i, the ring of R327. -/
def tsAt (ts : List Int) (i : Nat) : Int := ts.getD (i % 8) 0

/-- Sensor i meets the suspect condition in a scan (R328). -/
def suspectNow (ts : List Int) (i : Nat) : Bool :=
  let a := tsAt ts (i + 7)
  let b := tsAt ts (i + 1)
  let x := tsAt ts i
  decide (32 < (x - a).natAbs) && decide (32 < (x - b).natAbs) && decide ((a - b).natAbs ≤ 16)

/-- A threshold's counters and whether it is reached, after a scan (R330): reached by 2 scans at or above it, left by
8 scans more than 5 °C below it. -/
def thrStep (x : ThrSt) (reached : Bool) (tj thr : Int) : ThrSt × Bool :=
  let up := if thr ≤ tj then x.above + 1 else 0
  let dn := if tj < thr - 20 then x.below + 1 else 0
  if reached then
    if 8 ≤ dn then (⟨0, 0⟩, false) else (⟨min up 2, dn⟩, true)
  else if 2 ≤ up then (⟨0, 0⟩, true)
  else (⟨up, min dn 8⟩, false)

namespace State

/-- Change THERM's own state. -/
def thermUpd (s : State) (f : ThermSt → ThermSt) : State := { s with therm := f s.therm }

/-- DEGRADED is set, with SUSPEV and E11 (R329). -/
def degrade (s : State) : State :=
  if s.on F.THERM_STAT_DEGRADED then s else (s.put F.THERM_STAT_DEGRADED 1).flagRaise F.THERM_STAT_SUSPEV 11

/-- The sensors included in T_J and CUT. -/
def included (s : State) : List Nat := (List.range 8).filter (fun i => !s.bit F.THERM_SUSP_S i)

/-- Sensor i after a scan (R328): four scans in a row make it suspect, unless fewer than four would stay included. -/
def suspStep (s : State) (ts : List Int) (i : Fin 8) : State :=
  let run := if suspectNow ts i then min 4 (s.therm.suspRun[i] + 1) else 0
  let s1 := s.thermUpd (fun t => { t with suspRun := t.suspRun.set i run })
  if 4 ≤ run ∧ s1.bit F.THERM_SUSP_S i = false then
    if s1.included.length ≤ 4 then s1.degrade
    else (s1.setBit F.THERM_SUSP_S i).flagRaise F.THERM_STAT_SUSPEV 11
  else s1

/-- Two adjacent sensors are suspect (R329). -/
def suspAdjacent (s : State) : Bool :=
  (List.range 8).any (fun i => s.bit F.THERM_SUSP_S i && s.bit F.THERM_SUSP_S ((i + 1) % 8))

/-- WARN, THROTTLE and LULL thresholds in force. -/
def thrTemp (s : State) (base : Nat) (low : Fld) : Int :=
  4 * ((base : Int) - (if s.on F.THERM_STAT_DEGRADED then 10 else 0) - s.get low)

/-- The hottest included reading. -/
def hottest (s : State) (ts : List Int) : Int :=
  (s.included.map (tsAt ts)).foldl max (tsAt ts (s.included.getD 0 0))

/-- T_J, HOT and SLOPE after a scan. Which of several equally hot sensors HOT names, and the slope before 16 scans
have been made, have no stated value: they are free. -/
def tjUpdate (s : State) (ts : List Int) : State :=
  let tj := s.hottest ts
  let hots := s.included.filter (fun i => tsAt ts i == tj)
  let slope : Nat := match s.therm.hist[15]? with
    | some old => fieldOfInt (tj - old) 16
    | none => Config.freeAt s.free 1
  let s1 := ((s.put F.THERM_TJ_T (fieldOfInt tj 12)).put F.THERM_TJ_HOT
    (hots.getD (Config.freeAt s.free 0 % hots.length) 0)).put F.THERM_TJ_SLOPE slope
  (s1.thermUpd (fun t => { t with hist := (tj :: t.hist).take 16 })).tickFree

/-- T_J as a number. -/
def tjNow (s : State) : Int := signedOf (s.get F.THERM_TJ_T) 12

/-- The projection of R332 exceeds TLULL: s ≤ 0, or 4 ms · (CUT − T_J) / s beyond it. -/
def lullFits (s : State) (cut : Int) : Bool :=
  let sl := signedOf (s.get F.THERM_TJ_SLOPE) 16
  decide (sl ≤ 0) || decide (s.get F.SEQ_LULLCFG_TLULL * sl < 4 * (cut - s.tjNow))

/-- The LULL threshold is reached (R332). -/
def thermLull (s : State) (cut : Int) (vbakMv : Nat) : State :=
  if s.lullFits cut then (s.put F.THERM_STAT_LULLACT 1).lullStart 3 false false
  else ((s.put F.THERM_STAT_LULLACT 2).thermRecord).fastStop false vbakMv

/-- One threshold after a scan: its STAT bit, and its event flag with E11 when it is reached. -/
def thrFlag (s : State) (was now : Bool) (st ev : Fld) : State :=
  let s1 := s.putB st now
  if now && !was then s1.flagRaise ev 11 else s1

/-- WARN, THROTTLE and LULL after a scan (R330). -/
def thresholds (s : State) (warn thr lull cut : Int) (vbakMv : Nat) : State :=
  let tj := s.tjNow
  let w := thrStep s.therm.warn (s.on F.THERM_STAT_WARN) tj warn
  let h := thrStep s.therm.throttle (s.on F.THERM_STAT_THROTTLE) tj thr
  let l := thrStep s.therm.lull (s.on F.THERM_STAT_LULLZ) tj lull
  let s1 := s.thermUpd (fun t => { t with warn := w.1, throttle := h.1, lull := l.1 })
  let s2 := s1.thrFlag (s.on F.THERM_STAT_WARN) w.2 F.THERM_STAT_WARN F.THERM_STAT_WARNEV
  let s3 := s2.thrFlag (s.on F.THERM_STAT_THROTTLE) h.2 F.THERM_STAT_THROTTLE F.THERM_STAT_THREV
  let s4 := if h.2 && !s.on F.THERM_STAT_THROTTLE then s3.bump F.THERM_CNT_THRCNT else s3
  let s5 := s4.thrFlag (s.on F.THERM_STAT_LULLZ) l.2 F.THERM_STAT_LULLZ F.THERM_STAT_LULLEV
  if l.2 && !s.on F.THERM_STAT_LULLZ then s5.thermLull cut vbakMv else s5

/-- One scan (R327 to R332). The thresholds are those in force before the scan; a DEGRADED set by it lowers them from
the next. -/
def thermScan (s : State) (r : TsReadings) (vbakMv : Nat) : State :=
  if s.adcLive then
    let ts := tsList r
    let warn := s.thrTemp 105 F.THERM_THR_WARNLOW
    let thr := s.thrTemp 115 F.THERM_THR_THRLOW
    let lull := s.thrTemp 125 F.THERM_THR_LULLLOW
    let cut : Int := if s.on F.THERM_STAT_DEGRADED then 520 else 560
    let s1 := (List.range 8).foldl (fun x i => x.put (F.THERM_TS_T i) (fieldOfInt (tsAt ts i) 12)) s
    let s2 := (List.finRange 8).foldl (fun x (i : Fin 8) => x.suspStep ts i) s1
    let s3 := if s2.suspAdjacent then s2.degrade else s2
    (s3.tjUpdate ts).thresholds warn thr lull cut vbakMv
  else s

/-- A store to THERM.SUSP: a sensor whose bit is cleared is judged afresh (R328). -/
def suspClear (s : State) (ring : Nat) (v : Word) : State :=
  let s1 := s.plainWrite F.THERM_SUSP_S.addr ring v
  (List.finRange 8).foldl (fun x (i : Fin 8) =>
    if s.bit F.THERM_SUSP_S i && !x.bit F.THERM_SUSP_S i then
      x.thermUpd (fun t => { t with suspRun := t.suspRun.set i 0 })
    else x) s1

/-- A store to THERM.STAT: CUTLAT cannot be cleared while T_J is at or above WARN. -/
def thermStatWrite (s : State) (ring : Nat) (v : Word) : State :=
  let s1 := s.plainWrite F.THERM_STAT_WARN.addr ring v
  if s.thrTemp 105 F.THERM_THR_WARNLOW ≤ s.tjNow then s1.put F.THERM_STAT_CUTLAT (s.get F.THERM_STAT_CUTLAT) else s1

/-- CUTLAT lies in the main section; only COLD and SYSTEM clear it. -/
def keepCutlat (key : Nat) : Bool := key == F.THERM_STAT_CUTLAT.key

/-- THERM's registers return to Cold, but CUTLAT and what `keep` names. -/
def thermCold (s : State) (keep : Nat → Bool) : State :=
  (s.coldWindow 0x40011000 (fun k => keepCutlat k || keep k)).thermUpd (fun _ => ThermSt.cold)

end State

/-! ## Meanings -/

def execThermScan (r : TsReadings) (vbakMv : Nat) (s : State) : Answer := .next (s.thermScan r vbakMv)
/-- THERM_SUSP_CLEAR: a store to THERM.SUSP (R328). -/
def execThermSuspClear (ring : Ring) (v : Word) (s : State) : Answer :=
  .next (if s.adcLive then s.suspClear ring v else s)

end Sys2Proof.Machine
end

