-- ==== Sys2Proof/Machine/Uart.lean ====
section
/-!
DEFINITION. The framers U0 to U4 (spec/14_uarts.md): owners, reception and its flags, FIFOs, transmission and events.
-/

namespace Sys2Proof.Machine

/-- A character format: data bits, parity kind as CFG.PAR, samples judged per bit. -/
structure UFmt where
  dbits : Nat
  par : Nat
  samples : Nat
  deriving DecidableEq, Repr

/-- What a received character is judged to be (R303 to R307). -/
structure Judge where
  start : Bool
  data : Nat
  pe : Bool
  fe : Bool
  brk : Bool
  nz : Bool
  deriving DecidableEq, Repr

/-- The majority of a bit's samples; at OSR 3 its one sample (R304). -/
def bitMajority : List Bool → Bool
  | [a, b, c] => (a && b) || (a && c) || (b && c)
  | [a] => a
  | _ => true

/-- Bits, least significant first, as a number. -/
def bitsNum : List Bool → Nat
  | [] => 0
  | b :: t => (if b then 1 else 0) + 2 * bitsNum t

/-- The parity bit a format expects: 1 even, 2 odd, 3 mark, 4 space. -/
def parityBit (par : Nat) (ds : List Bool) : Bool :=
  let odd := ds.foldl xor false
  match par with
  | 1 => odd
  | 2 => !odd
  | 3 => true
  | _ => false

/-- Start, data, parity and first stop bit, judged. -/
def judgeChar (f : UFmt) (bits : List (List Bool)) : Judge :=
  let js := bits.map bitMajority
  let ds := (js.drop 1).take f.dbits
  let ps := (js.drop (1 + f.dbits)).take (if f.par = 0 then 0 else 1)
  let stop := (js.getLast?).getD true
  { start := js.headD true
    data := bitsNum ds
    pe := ps.any (fun b => b != parityBit f.par ds)
    fe := !stop
    brk := !stop && (ds ++ ps).all (fun b => !b)
    nz := bits.any (fun b => b.any id && b.any (fun x => !x)) }

/-- A format from a CFG word. -/
def fmtOf (cfg : Nat) : UFmt := ⟨cfg % 16, cfg / 16 % 8, if (cfg.testBit 9) then 1 else 3⟩

/-- The levels of a character: start, data, parity, first stop bit (R303). -/
def charBits (f : UFmt) (c : Nat) : List Bool :=
  let ds := (List.range f.dbits).map (fun i => c.testBit i)
  [false] ++ ds ++ (if f.par = 0 then [] else [parityBit f.par ds]) ++ [true]

/-- Stop time of a CFG word in half bits: 1, 1.5 or 2 bits, 1.5 sent as 2 at OSR 3 (R303). -/
def stopHalves (cfg : Nat) : Nat :=
  match cfg / 128 % 4 with
  | 0 => 2
  | 1 => if cfg.testBit 9 then 4 else 3
  | _ => 4

/-- A character as it stands at the pin: levels with their length in half bits, inverted by TXINV (R303). -/
def txFrame (cfg c : Nat) : List (Bool × Nat) :=
  let bs := charBits (fmtOf cfg) c
  (bs.dropLast.map (fun b => (xor b (cfg.testBit 14), 2))) ++ [(!cfg.testBit 14, stopHalves cfg)]

/-- A frame's samples have the shape the format gives. -/
def UFmtFits (f : UFmt) (bits : List (List Bool)) : Bool :=
  bits.length == f.dbits + 2 + (if f.par = 0 then 0 else 1) && bits.all (fun b => b.length == f.samples)

namespace State

/-- HOST, the two-wire interfaces and the framers have power: D4 (R49). -/
def hostLive (s : State) : Bool := s.powered && s.domPg 4

/-- The window bound to a port number (0, 1 for TW0, TW1; 2 to 4 for U0 to U2) with an address. -/
def winBound (s : State) (w : Nat) : Bool := s.on (F.HOST_WCFG_BOUND w)

/-- The window that holds framer `u`. -/
def uartWindow (s : State) (u : Nat) : Option (Fin 4) :=
  (List.finRange 4).find? (fun (w : Fin 4) => s.winBound w && s.get (F.HOST_WCFG_PORT w) == u + 2)

/-- Firmware owns framer `u` (R299). -/
def fwOwns (s : State) (u : Nat) : Bool := decide (u < 3) && s.uartWindow u == none

/-- CFG as one number. -/
def cfgWord (s : State) (u : Nat) : Nat := (s.storedWord (F.U_CFG_DBITS u).addr).toNat

/-- The format in force for a character that completes now. After CFG writes a character that was under way keeps the
settings it began with; when it began is free (R310). U3 and U4 take FT1.2's 8E1 at OSR 8 (R260, R302). -/
def rxFmt (s : State) (u : Fin 5) : UFmt :=
  if 3 ≤ u.val then ⟨8, 1, 3⟩
  else
    let old := s.uart[u].rxOld
    fmtOf (old.getD (s.fresh % (old.length + 1)) (s.cfgWord u))

/-! ## Events (R311) -/

/-- The four conditions of R311. -/
def uartConds (s : State) (u : Fin 5) : List (Fld × Bool) :=
  [(F.U_EVEN_RXEV u, decide (s.get (F.U_EVEN_RXTH u) ≤ s.uart[u].rx.length)),
   (F.U_EVEN_TXEV u, decide (s.uart[u].tx.length ≤ s.get (F.U_EVEN_TXTH u))),
   (F.U_EVEN_ERREV u,
    s.on (F.U_STAT_PE u) || s.on (F.U_STAT_FE u) || s.on (F.U_STAT_BRK u) || s.on (F.U_STAT_OVR u)),
   (F.U_EVEN_IDLEEV u, s.on (F.U_STAT_RXIDLE u))]

/-- E21 when an enabled condition of a framer that firmware owns has changed from false to true. -/
def uartWatch (old s : State) (u : Fin 5) : State :=
  if s.fwOwns u ∧
      ((old.uartConds u).zip (s.uartConds u)).any (fun p => !p.1.2 && p.2.2 && s.on p.2.1) = true then
    s.raise 21
  else s

/-! ## Reception -/

/-- A character enters the receive FIFO (R308); one that finds it full replaces the newest. -/
def rxPush (s : State) (u : Fin 5) (e : RxEntry) : State :=
  if s.uart[u].rx.length < 16 then s.uartUpd u (fun x => { x with rx := x.rx ++ [e], used := true })
  else
    ((s.uartUpd u (fun x => { x with rx := x.rx.dropLast ++ [{ e with ovw := true }] })).put (F.U_STAT_OVR u) 1).bump
      (F.U_CNT_OVRCNT u)

/-- The sticky flags and the error count of a character (R307). -/
def rxFlags (s : State) (u : Fin 5) (j : Judge) : State :=
  let s1 := if j.pe then (s.put (F.U_STAT_PE u) 1).bump (F.U_CNT_ERRCNT u) else s
  let s2 := if j.fe then (s1.put (F.U_STAT_FE u) 1).bump (F.U_CNT_ERRCNT u) else s1
  if j.brk then s2.put (F.U_STAT_BRK u) 1 else s2

/-- The receiver runs: RXEN, or the port's power for the engines' framers. -/
def rxOn (s : State) (u : Fin 5) : Bool :=
  if 3 ≤ u.val then s.portLive (u.val - 3) else s.on (F.U_CFG_RXEN u)

/-- In LOOP the receiver hears the transmitter: the character in the shift register with its parity and stop bit, or a
break. -/
def loopHears (s : State) (u : Fin 5) (bits : List (List Bool)) : Bool :=
  !(s.on (F.U_CFG_LOOP u) && decide (u.val < 3)) ||
    (match s.uart[u].shift with
     | some c => bits.map bitMajority == charBits (fmtOf s.uart[u].shiftCfg) c.toNat
     | none => s.on (F.U_CTL_TXBRK u) && (bits.map bitMajority).all (fun b => !b))

/-- The receiver is deaf: U3 and U4 are blanked while their port sends as master (R243); a framer no window has taken
discards its characters before step 9 of the boot (R81). -/
def rxBlanked (s : State) (u : Fin 5) : Bool :=
  if h : 3 ≤ u.val then
    let p : Fin 2 := ⟨u.val - 3, by omega⟩
    !s.isTarget p && (match s.port[p].exch with
      | some x => !x.sent
      | none => false)
  else s.fwOwns u && !s.pwr.booted

/-- A received character, its samples already past any inversion. A framer that HOST or an engine owns passes it on and
keeps no FIFO of it. -/
def uartRx (s : State) (u : Fin 5) (bits : List (List Bool)) : State :=
  let f := s.rxFmt u
  let j := judgeChar f bits
  if s.hostLive ∧ s.rxOn u ∧ s.uart[u].waitHigh = false ∧ UFmtFits f bits ∧ j.start = false ∧ s.loopHears u bits ∧
      s.rxBlanked u = false then
    let s1 := ((s.rxFlags u j).put (F.U_STAT_RXIDLE u) 0).uartUpd u (fun x => { x with waitHigh := j.fe, rxOld := [] })
    let s2 := if s1.fwOwns u then s1.rxPush u ⟨BitVec.ofNat 9 j.data, j.pe, j.fe, j.brk, j.nz, false⟩ else s1
    uartWatch s s2.tickFree u
  else s

/-- The line reads 1 again after a frame error (R307). -/
def uartBreakEnd (s : State) (u : Fin 5) : State :=
  if s.hostLive then s.uartUpd u (fun x => { x with waitHigh := false }) else s

/-- The line has been 1 for one character time (R311). -/
def uartIdle (s : State) (u : Fin 5) : State :=
  if s.hostLive ∧ s.uart[u].waitHigh = false then uartWatch s (s.put (F.U_STAT_RXIDLE u) 1) u else s

/-- A load of Un.DATA (R299, R308): the oldest entry leaves the FIFO; a party that does not own the framer reads 0.
From an empty FIFO VALID is 0; before the first character the other fields read their Cold value 0, later they are
free. -/
def uartDataRead (s : State) (u : Fin 5) : Word × State :=
  if s.fwOwns u then
    match s.uart[u].rx with
    | e :: q =>
      (BitVec.ofNat 32 (e.data.toNat + (if e.pe then 2 ^ 9 else 0) + (if e.fe then 2 ^ 10 else 0) +
        (if e.brk then 2 ^ 11 else 0) + (if e.nz then 2 ^ 12 else 0) + (if e.ovw then 2 ^ 13 else 0) + 2 ^ 31),
       s.uartUpd u (fun x => { x with rx := q }))
    | [] => (BitVec.ofNat 32 (if s.uart[u].used then s.fresh % 2 ^ 14 else 0), s.tickFree)
  else (0, s)

/-! ## Transmission (R309) -/

/-- The transmitter takes the next character when it may. -/
def uartKick (s : State) (u : Fin 5) : State :=
  if s.on (F.U_CFG_TXEN u) ∧ s.on (F.U_CTL_TXBRK u) = false ∧ s.uart[u].shift = none then
    match s.uart[u].tx with
    | c :: q => s.uartUpd u (fun x => { x with shift := some c, shiftCfg := s.cfgWord u, tx := q })
    | [] => s
  else s

/-- The framer's owner refuses a write: OWNERR. -/
def ownErr (s : State) (u : Nat) : State := s.put (F.U_STAT_OWNERR u) 1

/-- A write of Un.DATA. -/
def uartDataWrite (s : State) (u : Fin 5) (ring : Nat) (v : Word) : State :=
  if s.fwOwns u = false then s.ownErr u
  else if 2 < ring then s
  else if 16 ≤ s.uart[u].tx.length then s.ownErr u
  else
    let c := BitVec.ofNat 9 (v.toNat % 2 ^ s.get (F.U_CFG_DBITS u))
    uartWatch s ((s.uartUpd u (fun x => { x with tx := x.tx ++ [c] })).uartKick u) u

/-- A character has been sent. -/
def uartTx (s : State) (u : Fin 5) : State :=
  match s.uart[u].shift with
  | some c =>
    if s.hostLive then
      uartWatch s ((s.uartUpd u (fun x => { x with
        shift := none, lastTx := some c, lastFrame := txFrame x.shiftCfg c.toNat })).uartKick u) u
    else s
  | none => s

/-- Un.CTL's actions. -/
def uartRxFlush (s : State) (u : Fin 5) : State := s.uartUpd u (fun x => { x with rx := [] })
def uartTxFlush (s : State) (u : Fin 5) : State := uartWatch s (s.uartUpd u (fun x => { x with tx := [] })) u
def uartBrk (s : State) (u : Fin 5) (on : Bool) : State :=
  uartWatch s ((s.putB (F.U_CTL_TXBRK u) on).uartKick u) u

/-- A store by firmware that only the owner may make: of a framer it does not own every attempt sets OWNERR, from any
ring (R299, R314); of its own, rings 0 to 2 write. -/
def owned (s : State) (u ring : Nat) (f : State → State) : State :=
  if s.fwOwns u = false then s.ownErr u else if 2 < ring then s else f s

/-- A store to Un.CTL. -/
def uartCtlWrite (s : State) (u : Fin 5) (ring : Nat) (v : Word) : State :=
  s.owned u ring (fun x =>
    let x1 := if bitOf v 0 then x.uartRxFlush u else x
    let x2 := if bitOf v 1 then x1.uartTxFlush u else x1
    x2.uartBrk u (bitOf v 2))

/-- A store to Un.DIV: a divider that gives a rate above the highest is refused with CFGERR (R300): a D below 1, or
below 1/8 while PRESC divides the clock by 8. -/
def uartDivWrite (s : State) (u : Fin 5) (ring : Nat) (v : Word) : State :=
  s.owned u ring (fun x =>
    if bitsOf v 0 16 < (if x.on (F.U_CFG_PRESC u) then 2 else 16) then x.put (F.U_STAT_CFGERR u) 1
    else x.plainWrite (F.U_DIV_DIVF u).addr ring v)

/-- A store to Un.CFG (R310): a character under way keeps its settings; RXEN = 0 discards it. -/
def uartCfgWrite (s : State) (u : Fin 5) (ring : Nat) (v : Word) : State :=
  s.owned u ring (fun x =>
    let old := x.cfgWord u
    let x1 := x.plainWrite (F.U_CFG_DBITS u).addr ring v
    uartWatch x ((x1.uartUpd u (fun y => { y with
      rxOld := if x1.on (F.U_CFG_RXEN u) = false then [] else if x.on (F.U_CFG_RXEN u) then old :: y.rxOld else [] })).uartKick u) u)

/-- The level of the transmit pin (R303, R309 and the CFG table); none while a character is being sent. -/
def txPin (s : State) (u : Fin 5) : Option Bool :=
  let inv := s.on (F.U_CFG_TXINV u)
  if s.on (F.U_CFG_LOOP u) || !s.on (F.U_CFG_TXEN u) then some (!inv)
  else if s.uart[u].shift.isSome then none
  else some (xor (!s.on (F.U_CTL_TXBRK u)) inv)

/-- A store to Un.EVEN. At U3 and U4, where the register is reserved, R299's rule for a bound framer is applied: OWNERR
sets (DESIGN CHOICE, log entry 59). -/
def uartEvenWrite (s : State) (u : Fin 5) (ring : Nat) (v : Word) : State :=
  s.owned u ring (fun x => uartWatch x (x.plainWrite (F.U_EVEN_RXTH u).addr ring v) u)

end State

/-! ## Meanings -/

def execUartRxChar (u : Fin 5) (bits : List (List Bool)) (s : State) : Answer := .next (s.uartRx u bits)
def execUartDataWrite (u : Fin 5) (ring : Ring) (v : Word) (s : State) : Answer :=
  .next (if s.hostLive then s.uartDataWrite u ring v else s)
def execUartTxChar (u : Fin 5) (s : State) : Answer := .next (s.uartTx u)
def execUartRxflush (u : Fin 5) (ring : Ring) (s : State) : Answer :=
  .next (if s.hostLive then s.owned u ring (fun x => x.uartRxFlush u) else s)
def execUartTxflush (u : Fin 5) (ring : Ring) (s : State) : Answer :=
  .next (if s.hostLive then s.owned u ring (fun x => x.uartTxFlush u) else s)
def execUartTxbrk (u : Fin 5) (ring : Ring) (on : Bool) (s : State) : Answer :=
  .next (if s.hostLive then s.owned u ring (fun x => x.uartBrk u on) else s)
def execUartDivWrite (u : Fin 5) (ring : Ring) (v : Word) (s : State) : Answer :=
  .next (if s.hostLive then s.uartDivWrite u ring v else s)
def execUartCfgWrite (u : Fin 5) (ring : Ring) (v : Word) (s : State) : Answer :=
  .next (if s.hostLive then s.uartCfgWrite u ring v else s)
def execUartRxIdle (u : Fin 5) (s : State) : Answer := .next (s.uartIdle u)
def execUartBreakEnd (u : Fin 5) (s : State) : Answer := .next (s.uartBreakEnd u)

end Sys2Proof.Machine
end

