-- ==== Sys2Proof/Machine/Pwm.lean ====
section
/-!
DEFINITION. The pulse-width outputs (spec/17_pwm.md): periods, dither, trips, windows, latches and release.
-/

namespace Sys2Proof.Machine

/-- The 4-bit bit-reversal of R351. -/
def rev4 (p : Nat) : Nat :=
  (if p.testBit 0 then 8 else 0) + (if p.testBit 1 then 4 else 0) + (if p.testBit 2 then 2 else 0) +
    (if p.testBit 3 then 1 else 0)

/-- The effective duty count in dither phase `p` (R351). -/
def effDuty (dutyI dfrac p : Nat) : Nat := if rev4 (p % 16) < dfrac then dutyI + 1 else dutyI

/-- A channel's output level (R350, R353). -/
inductive PwmOut where
  | active | inactive | low | high | highZ
  deriving DecidableEq, Repr

namespace State

/-- The PWM island has power: D14. -/
def pwmLive (s : State) : Bool := s.powered && s.domPg 14

/-- The channel runs: enabled and not latched. -/
def pwmRuns (s : State) (n : Nat) : Bool := s.on (F.PWM_CTL_EN n) && !s.on (F.PWM_STAT_LATCH n)

/-- The level of output `n` with the counter at `ctr`. -/
def pwmOut (s : State) (n : Fin 6) (ctr : Nat) : PwmOut :=
  if s.pwmLive = false then .low
  else if s.pwmRuns n then
    if s.on (F.PWM_STAT_TRUNC n) = false ∧ ctr < effDuty s.pwm[n].dutyI s.pwm[n].dfrac (s.get (F.PWM_CTR_PHASE n))
    then .active else .inactive
  else
    match s.get (F.PWM_CTL_SAFE n) with
    | 0 => .low
    | 1 => .high
    | _ => .highZ

/-- The shadow registers take effect (R352). -/
def pwmLoad (s : State) (n : Fin 6) : State :=
  s.pwmUpd n (fun x => { x with
    per := s.get (F.PWM_PER_PER n), dutyI := s.get (F.PWM_DUTY_DUTYI n), dfrac := s.get (F.PWM_DUTY_DFRAC n) })

/-- The window closes. -/
def pwmClose (s : State) (n : Fin 6) : State :=
  (s.put (F.PWM_STAT_TCNT n) 0).pwmUpd n (fun x => { x with win := none })

/-- A channel starts its counter and dither phase from 0 with no window open. -/
def pwmBegin (s : State) (n : Fin 6) : State :=
  (((s.pwmLoad n).pwmClose n).put (F.PWM_CTR_PHASE n) 0).put (F.PWM_STAT_TRUNC n) 0 |>.put (F.PWM_STAT_RUN n) 1

/-- A channel stops. -/
def pwmHalt (s : State) (n : Fin 6) : State :=
  ((s.pwmClose n).put (F.PWM_STAT_TRUNC n) 0).put (F.PWM_STAT_RUN n) 0

/-- The counter wraps to 0 (R350 to R352, R355). -/
def pwmWrap (s : State) (n : Fin 6) : State :=
  if s.pwmLive ∧ s.pwmRuns n then
    let s1 := ((s.pwmLoad n).put (F.PWM_CTR_PHASE n) (s.get (F.PWM_CTR_PHASE n) + 1)).put (F.PWM_STAT_TRUNC n) 0
    s1.pwmUpd n (fun x => { x with win := x.win.map (· + 1) })
  else s

/-- The open window has run its W periods. -/
def pwmWinDone (s : State) (n : Fin 6) : Bool :=
  match s.pwm[n].win with
  | some k => decide (s.get (F.PWM_TRIP_W n) ≤ k)
  | none => false

/-- The window ends (R356). -/
def pwmWindowEnd (s : State) (n : Fin 6) : State :=
  if s.pwmLive ∧ s.pwmWinDone n then s.pwmClose n else s

/-- The filter of a fault input passes a level that has held for FILT + 1 cycles; POL selects the one that asserts
(R354). -/
def fltAsserted (s : State) (filt pol : Fld) (x : FltPin) : Bool :=
  (if s.get filt < x.held then x.level else x.filtered) == s.on pol

/-- A routed input is asserted after its filter. -/
def pwmRouted (s : State) (n : Nat) (flt0 flt1 : FltPin) : Bool :=
  (s.bit (F.PWM_CTL_FROUTE n) 0 && s.fltAsserted F.PWM_FLTCFG_FILT0 F.PWM_FLTCFG_POL0 flt0) ||
    (s.bit (F.PWM_CTL_FROUTE n) 1 && s.fltAsserted F.PWM_FLTCFG_FILT1 F.PWM_FLTCFG_POL1 flt1)

/-- The trip count reaches N: the channel latches to SAFE with E26 (R356, R357). -/
def pwmLatch (s : State) (n : Fin 6) : State := ((s.pwmHalt n).put (F.PWM_STAT_LATCH n) 1).raise 26

/-- A trip of a period (R355 to R357). -/
def pwmTrip (s : State) (n : Fin 6) (flt0 flt1 : FltPin) : State :=
  if s.pwmLive ∧ s.pwmRuns n ∧ s.on (F.PWM_STAT_TRUNC n) = false ∧ s.pwmRouted n flt0 flt1 then
    let s1 := (s.put (F.PWM_STAT_TRUNC n) 1).bump (F.PWM_CNT_TRIPTOT n)
    let s2 := if s.on (F.PWM_STAT_TRIPF n) then s1
      else if s.on (F.PWM_CTL_TRIPEV n) then (s1.put (F.PWM_STAT_TRIPF n) 1).raise 26
      else s1.put (F.PWM_STAT_TRIPF n) 1
    let s3 := if s2.pwmWinDone n then s2.pwmClose n else s2
    let s4 := if s3.pwm[n].win = none then
        (s3.put (F.PWM_STAT_TCNT n) 1).pwmUpd n (fun x => { x with win := some 0 })
      else s3.put (F.PWM_STAT_TCNT n) (s3.get (F.PWM_STAT_TCNT n) + 1)
    if s4.get (F.PWM_TRIP_N n) ≤ s4.get (F.PWM_STAT_TCNT n) then s4.pwmLatch n else s4
  else s

/-- A write of PWM.START (R352). -/
def pwmStart (s : State) (ring : Nat) (v : Word) : State :=
  if 2 < ring then s
  else
    (List.finRange 6).foldl (fun x (n : Fin 6) =>
      if bitOf v n ∧ x.pwmRuns n then
        ((x.pwmLoad n).put (F.PWM_CTR_PHASE n) 0).put (F.PWM_STAT_TRUNC n) 0
      else x) s

/-- A write of PWM.STATn: TRIPF and RELERR clear on 1; a 1 to LATCH releases the channel unless a routed input is
asserted (R358). -/
def pwmStatWrite (s : State) (n : Fin 6) (ring : Nat) (v : Word) (flt0 flt1 : FltPin) : State :=
  if 2 < ring then s
  else
    let latched := s.on (F.PWM_STAT_LATCH n)
    let s1 := (s.plainWrite (F.PWM_STAT_RUN n).addr ring v).putB (F.PWM_STAT_LATCH n) latched
    if bitOf v 3 ∧ latched then
      if s1.pwmRouted n flt0 flt1 then s1.put (F.PWM_STAT_RELERR n) 1
      else
        let s2 := s1.put (F.PWM_STAT_LATCH n) 0
        if s2.on (F.PWM_CTL_EN n) then s2.pwmBegin n else s2
    else s1

/-- The counter of a channel whose EN falls stops at a count that no event names (R350): free, and so the dither phase of
one that was latched. -/
def pwmPark (s : State) (n : Fin 6) (latched : Bool) : State :=
  let s1 := s.tickFree.put (F.PWM_CTR_CTR n) (Config.freeAt s.free 0)
  if latched then s1.put (F.PWM_CTR_PHASE n) (Config.freeAt s.free 1) else s1

/-- A write of PWM.CTLn: EN starts or stops the channel. -/
def pwmCtlWrite (s : State) (n : Fin 6) (ring : Nat) (v : Word) : State :=
  let was := s.pwmRuns n
  let s1 := s.plainWrite (F.PWM_CTL_EN n).addr ring v
  if s1.pwmRuns n then (if was then s1 else s1.pwmBegin n)
  else
    let s2 := if was then s1.pwmHalt n else s1
    if s.on (F.PWM_CTL_EN n) && !s1.on (F.PWM_CTL_EN n) then s2.pwmPark n (!was) else s2

/-- The PWM registers return to Cold, but what `keep` names. -/
def pwmCold (s : State) (keep : Nat → Bool) : State :=
  { s.coldWindow 0x40022000 keep with pwm := Vector.replicate 6 PwmSt.cold }

end State

/-! ## Meanings -/

def execPwmWrap (n : Fin 6) (s : State) : Answer := .next (s.pwmWrap n)
def execPwmFaultTrip (n : Fin 6) (flt0 flt1 : FltPin) (s : State) : Answer := .next (s.pwmTrip n flt0 flt1)
def execPwmWindowEnd (n : Fin 6) (s : State) : Answer := .next (s.pwmWindowEnd n)
def execPwmStart (ring : Ring) (v : Word) (s : State) : Answer :=
  .next (if s.pwmLive then s.pwmStart ring v else s)
/-- PWM_LATCH_RELEASE: a store to PWM.STATn (R358). -/
def execPwmLatchRelease (n : Fin 6) (ring : Ring) (v : Word) (flt0 flt1 : FltPin) (s : State) : Answer :=
  .next (if s.pwmLive then s.pwmStatWrite n ring v flt0 flt1 else s)

end Sys2Proof.Machine
end

