-- ==== Sys2Proof/Machine/Engine.lean ====
section
/-!
DEFINITION. The telegram engines' commands (spec/12_telegram_engine.md): the scheduler, an exchange as master, the
doorbell and the completion queue, and the target's answers.
-/

namespace Sys2Proof.Machine

namespace State

/-- The run conditions of R260. -/
def engLive (s : State) (p : Fin 2) : Bool :=
  s.portLive p && s.on (F.P_ENG_CTL_RUN p) && s.on (F.P_CTL_EN p) && s.pg (17 + p.val)

/-! ## Scheduler (R269) -/

/-- An entry the scheduler of port `p` may select: VALID, this port, PERIOD not 0, NEXT passed. -/
def entDue (s : State) (p i : Nat) : Bool :=
  s.entValid i && s.entPort i == p && s.entPeriod i != 0 && decide (sincePassed s.esec (s.entNext i) < 2 ^ 31)

/-- Whole periods since the entry came due. -/
def entLate (s : State) (i : Nat) : Nat := sincePassed s.esec (s.entNext i) / s.entPeriod i

/-- The due entry with the earliest NEXT, the lowest index first among equal ones. -/
def entFirst (s : State) (p : Nat) : Option Nat :=
  (List.range 512).foldl (fun best i =>
    if s.entDue p i then
      match best with
      | none => some i
      | some b => if sincePassed s.esec (s.entNext b) < sincePassed s.esec (s.entNext i) then some i else best
    else best) none

/-- An entry that ends without an exchange: STATUS is written, the entry counts as served. -/
def entUnserved (s : State) (i status k : Nat) (door : Bool) : State :=
  s.entWrite i status (s.entInit i) (s.entFcb i) (s.entSkip i) (s.entServed i k door)

/-- The request frame of one step of an exchange (R262, R271). For KIND 2 with a LEN outside 1 to the capacity the
frame's content is a free value. -/
def requestFrame (s : State) (i : Nat) (step : ExStep) (fcb : Bool) : List Byte :=
  let a := BitVec.ofNat 8 (if s.entKind i = 1 then 253 else s.entAdr i)
  match step with
  | .nke => shortFrame 0x40 a
  | .select => longFrame ([0x53, 253, 0x52] ++ s.bytes (entAddr i + 0x10) 8)
  | .request =>
    if s.entKind i = 2 then
      let buf := s.entBuf i
      let len := (s.byte buf).toNat + 256 * (s.byte (buf + 1)).toNat
      let data := if 1 ≤ len ∧ len ≤ bufSize (s.entBufsz i) - 8 then s.bytes (buf + 8) len
        else (List.range (1 + Config.freeAt s.free 0 % 248)).map (fun j => BitVec.ofNat 8 (Config.freeAt s.free (j + 1)))
      longFrame ([if fcb then 0x73 else 0x53, a] ++ data)
    else shortFrame (if fcb then 0x7B else 0x5B) a

/-- Send the request of the exchange's present step. -/
def sendRequest (s : State) (p : Fin 2) (x : Exch) : State :=
  (s.portUpd p (fun y => { y with
    exch := some { x with sent := false }, sentBytes := s.requestFrame x.index x.step x.fcb, junk := false,
    ignoring := false })).tickFree

/-- The step an exchange of entry `i` begins with (R271). -/
def firstStep (s : State) (i : Nat) : ExStep :=
  if s.entNke i ∧ s.entInit i = false then .nke else if s.entKind i = 1 then .select else .request

/-- The exchange begins: ENG.CUR names it, and a running idle-current calibration ends with result 3 (R257). -/
def exchBegin (s : State) (p : Fin 2) (i k : Nat) (door : Bool) : State :=
  let s0 := if s.on (F.P_CAL_BUSY p) then s.calEnd p 3 else s
  let s1 := ((s0.put (F.P_ENG_CUR_INDEX p) i).put (F.P_ENG_CUR_ACTIVE p) 1).engineRate p (s.ent8 i 2 % 8)
  s1.sendRequest p
    { index := i, door := door, step := s.firstStep i, tries := 0, k := k, sent := false,
      init := s.entInit i, fcb := s.entFcb i }

/-- A REGION result (R272). -/
def entRegion (s : State) (p : Fin 2) (i k : Nat) (door : Bool) : State :=
  ((s.entUnserved i stREGION k door).put (F.P_ENG_STAT_REGION p) 1).cqAppend p ⟨i, false, stREGION⟩

/-- Every byte that a frame of entry `i` accesses is granted (R139, R272). -/
def frameAllowed (s : State) (p i : Nat) : Bool :=
  s.engAllows p (entAddr i + 0x18) 8 true true && s.engAllows p (s.entBuf i) (bufSize (s.entBufsz i)) true true

/-- Serve a selected entry of this port (R266 to R272). Missed periods are counted first and reported as SKIPPED; a
poll whose buffer's NEW is 1 is skipped with HELD. -/
def entServe (s : State) (p : Fin 2) (i : Nat) (door : Bool) : State :=
  let k := if door ∨ s.entPeriod i = 0 then 0 else s.entLate i
  let s1 := if k = 0 then s else
    (s.entWrite i stSKIPPED (s.entInit i) (s.entFcb i) (s.entSkip i + k) (s.entNext i)).cqAppend p ⟨i, false, stSKIPPED⟩
  if s.engAllows p (entAddr i) 0x18 true false = false then s1.entRegion p i k door
  else if s.entOk i = false then (s1.entUnserved i stBADENTRY k door).cqAppend p ⟨i, false, stBADENTRY⟩
  else if bufOk (s.entBuf i) (s.entBufsz i) = false then s1.entUnserved i stBUFERR k door
  else if s.frameAllowed p i = false then s1.entRegion p i k door
  else if s.entKind i ≠ 2 ∧ (s.byte (s.entBuf i + 3)).getLsbD 0 then
    s1.entWrite i stHELD (s.entInit i) (s.entFcb i) (s1.entSkip i + 1) (s.entServed i k door)
  else s1.exchBegin p i k door

/-- EXCHANGE_START: at an exchange boundary of a running master the doorbell's entry, else the earliest due entry, is
selected (R261, R269, R270). No exchange starts while a stop runs (R235). -/
def exchangeStart (s : State) (p : Fin 2) : State :=
  if s.engLive p ∧ s.isTarget p = false ∧ s.port[p].exch = none ∧ s.port[p].resync = false ∧ s.stopping = false then
    match s.port[p].door with
    | some i =>
      let s1 := (s.put (F.P_ENG_DOOR_PEND p) 0).portUpd p (fun x => { x with door := none })
      if s1.engAllows p (entAddr i) 0x18 true false = false then s1.entRegion p i 0 true
      else if s1.entValid i ∧ s1.entPort i = p.val then s1.entServe p i true
      else (s1.entUnserved i stBADENTRY 0 true).cqAppend p ⟨i, false, stBADENTRY⟩
    | none =>
      match s.entFirst p with
      | some i => s.entServe p i false
      | none => s
  else s

/-- One due entry at a resynchronisation: NEXT moves past the present; an entry outside the engine regions gets REGION
(R269, R272). -/
def entResync (s : State) (p : Fin 2) (i : Nat) : State :=
  if s.entDue p i = false then s
  else if s.engAllows p (entAddr i) 0x18 true false && s.engAllows p (entAddr i + 0x18) 8 true true then
    s.setBytes (entAddr i + 0x1C) (le32 (s.entServed i (s.entLate i) false))
  else s.entRegion p i (s.entLate i) false

/-- ENGINE_RESYNC: due entries move past the present without being polled and without counting skips (R260, R269). -/
def engineResync (s : State) (p : Fin 2) : State :=
  if s.engLive p ∧ s.isTarget p = false ∧ s.port[p].resync then
    ((List.range 512).foldl (fun x i => x.entResync p i) s).portUpd p (fun x => { x with resync := false })
  else s

/-! ## An exchange as master (R271) -/

/-- The request has been sent; to address 255 no reply is expected. -/
def requestSent (s : State) (p : Fin 2) : State :=
  match s.port[p].exch with
  | some x =>
    if x.sent then s
    else if x.step = .request ∧ s.entKind x.index = 2 ∧ s.entAdr x.index = 255 then
      s.exchEnd p x stOK ⟨[], false, false⟩
    else s.portUpd p (fun y => { y with exch := some { x with sent := true } })
  | none => s

/-- What a judged telegram stores in a buffer of `size` bytes (R264): with more announced than the capacity, the first
capacity bytes of what came, and TRUNC; else every byte from C to the last data byte, when all have come. -/
def storedOf (j : Judged) (size : Nat) : Stored :=
  if size - 8 < j.len then ⟨j.body.take (size - 8), true, false⟩
  else ⟨if j.full then j.body else [], false, decide (j.form = .short) && j.full && !j.body.isEmpty⟩

/-- A try failed. A retry is a new exchange (R261): the failed one is counted and its frame ends, and the same request
is sent again while RETRY and the run conditions allow it, its frame checked against the engine regions again (R139).
Else the exchange ends (R271 steps 1, 2 and 6). -/
def tryFailed (s : State) (p : Fin 2) (x : Exch) (code : Nat) (st : Stored) : State :=
  if x.tries < s.entRetry x.index ∧ s.engLive p ∧ s.stopping = false ∧ s.port[p].haltAfter = false then
    let s1 := (s.exchCount p code).frameOver p
    if s1.engAllows p (entAddr x.index) 0x18 true false && s1.frameAllowed p x.index then
      s1.sendRequest p { x with tries := x.tries + 1 }
    else (s1.entRegion p x.index x.k x.door).exchOver p
  else
    match x.step with
    | .nke => s.exchEnd p x stNKE_FAIL ⟨[], false, false⟩
    | .select => s.exchEnd p x stSEL_FAIL ⟨[], false, false⟩
    | .request => s.exchEnd p x code st

/-- A try succeeded: the next step's request follows, or the exchange ends with OK or TRUNC. During a stop no further
request is sent, and the exchange is broken off (R235, R261). -/
def trySucceeded (s : State) (p : Fin 2) (x : Exch) (st : Stored) : State :=
  let y := if x.step = .nke then { x with init := true, fcb := true } else x
  match x.step with
  | .request => s.exchEnd p x (if st.trunc then stTRUNC else stOK) st
  | .nke =>
    if s.stopping then s.exchEnd p y stABORT ⟨[], false, false⟩
    else s.sendRequest p { y with step := if s.entKind x.index = 1 then .select else .request, tries := 0 }
  | .select =>
    if s.stopping then s.exchEnd p y stABORT ⟨[], false, false⟩
    else s.sendRequest p { y with step := .request, tries := 0 }

/-- The result code of a judged reply: its own fault, a form the request does not expect (FRAME_ERR), or another
address (ADDR). -/
def replyCode (s : State) (x : Exch) (j : Judged) : Nat :=
  if j.code ≠ 0 then j.code
  else if x.step ≠ .request ∨ s.entKind x.index = 2 then (if j.form = .ack then 0 else stFRAME_ERR)
  else if j.form = .ack then stFRAME_ERR
  else if s.entKind x.index = 1 ∨ s.entAdr x.index = 254 then 0
  else if (j.body.getD 1 0).toNat = s.entAdr x.index then 0
  else stADDR

/-- Characters reach the engine (R263): after FRAME_ERR none counts before an idle period of GAP; after an accepted
telegram those before it are counted in ENG.JUNK. Answers the characters it hears. -/
def hear (s : State) (p : Fin 2) (cs : List RxChar) : State × List RxChar :=
  let h := afterGap cs
  if s.port[p].ignoring then (s.portUpd p (fun x => { x with ignoring := h.isEmpty }), h)
  else if s.port[p].junk then
    ((s.bump (F.P_ENG_JUNK_JUNK p) (beforeGap cs).length).portUpd p (fun x => { x with junk := h.isEmpty }), h)
  else (s, cs)

/-- After a judged telegram: characters behind an accepted one are discarded and counted, and the engine remembers what
the line must do before it listens again (R263). -/
def afterRx (s : State) (p : Fin 2) (j : Judged) : State :=
  let quiet := (afterGap j.rest).isEmpty
  (s.bump (F.P_ENG_JUNK_JUNK p) (if j.code = 0 then (beforeGap j.rest).length else 0)).portUpd p
    (fun x => { x with ignoring := decide (j.code = stFRAME_ERR) && quiet, junk := decide (j.code = 0) && quiet })

/-- A telegram judged as the reply of exchange `x`. -/
def replyJudged (s : State) (p : Fin 2) (x : Exch) (j : Judged) : State :=
  let s1 := s.afterRx p j
  let st := if j.code = 0 ∧ j.form = .ack then ⟨[], false, false⟩ else storedOf j (bufSize (s.entBufsz x.index))
  let code := s.replyCode x j
  if code = 0 then s1.trySucceeded p x st else s1.tryFailed p x code st

/-- REPLY_RECEIVED: a telegram arrives in the reply window and is judged. The receiver is blanked while the port sends
(R243), and the engine receives only while it may run (R260). -/
def replyReceived (s : State) (p : Fin 2) (cs : List RxChar) : State :=
  if s.engLive p ∧ s.isTarget p = false then
    match s.port[p].exch with
    | some x =>
      if x.sent = false then s
      else
        let h := s.hear p cs
        if h.2.isEmpty then h.1 else h.1.replyJudged p x (judge h.2)
    | none => (s.hear p cs).1
  else s

/-- REPLY_TIMEOUT: no reply starts within the window. -/
def replyTimeout (s : State) (p : Fin 2) : State :=
  match s.port[p].exch with
  | some x => if x.sent then s.tryFailed p x stTIMEOUT ⟨[], false, false⟩ else s
  | none => s

/-! ## Doorbell and completion queue -/

/-- A store to Px.ENG.DOOR (R270). -/
def engDoorWrite (s : State) (p : Fin 2) (ring : Nat) (v : Word) : State :=
  if 1 < ring then s
  else
    match s.port[p].door with
    | some _ => s.put (F.P_ENG_STAT_DOORBUSY p) 1
    | none => (s.put (F.P_ENG_DOOR_PEND p) 1).portUpd p (fun x => { x with door := some (bitsOf v 0 9) })

/-- The word of a completion-queue entry. -/
def cqWord (e : CqEntry) : Word :=
  BitVec.ofNat 32 (e.index % 512 + (if e.tgt then 512 else 0) + e.status % 256 * 2 ^ 16 + 2 ^ 31)

/-- A load of Px.ENG.CQ returns and removes the oldest entry (R273); from an empty queue VALID is 0 and its other
fields are Cold 0 until the first entry has left it, and free after. -/
def cqRead (s : State) (p : Fin 2) : Word × State :=
  match s.port[p].cq with
  | e :: q => (cqWord e, s.portUpd p (fun x => { x with cq := q, cqUsed := true }))
  | [] => (if s.port[p].cqUsed then BitVec.ofNat 32 s.fresh &&& 0x00FF03FF else 0, s.tickFree)

/-! ## Target mode (R274) -/

/-- A target result enters the completion queue; its INDEX below bit 9 is not stated and free. -/
def tgtResult (s : State) (p : Fin 2) (code : Nat) : State :=
  (s.cqAppend p ⟨s.fresh % 512, true, code⟩).tickFree

/-- An answer waits for TDLY; `code` is the result reported when it has been sent, 0 for none. During a stop no new
frame starts (R235). -/
def tgtAnswer (s : State) (p : Fin 2) (bs : List Byte) (code : Nat) : State :=
  if s.stopping then s else s.portUpd p (fun x => { x with answer := some (bs, code) })

/-- The TRSP and TRCV buffers: address and size code. -/
def trsp (s : State) (p : Nat) : Nat × Nat := (s.get (F.P_TRSP_BUF p) * 256, s.get (F.P_TRSP_SIZE p))
def trcv (s : State) (p : Nat) : Nat × Nat := (s.get (F.P_TRCV_BUF p) * 256, s.get (F.P_TRCV_SIZE p))

/-- Store a received frame in TRCV (R264, R268), report it and answer where `ans` says. A buffer that breaks R267, or
lies outside the engine regions (R139), is not used: nothing is stored, reported or answered. -/
def tgtStore (s : State) (p : Fin 2) (body : List Byte) (code : Nat) : Option State :=
  let (a, z) := s.trcv p
  if bufOk a z = false then none
  else if s.engAllows p a (bufSize z) true true = false then none
  else
    let st : Stored := ⟨body.take (bufSize z - 8), decide (bufSize z - 8 < body.length), false⟩
    some ((s.bufWrite a st false code).tgtResult p code)

/-- The answer to REQ_UD2 from TRSP. A LEN that makes no long frame from the buffer leaves the content free. -/
def trspFrame (s : State) (p : Nat) : List Byte :=
  let (a, z) := s.trsp p
  let len := (s.byte a).toNat + 256 * (s.byte (a + 1)).toNat
  if 3 ≤ len ∧ len ≤ bufSize z - 8 then longFrame (s.bytes (a + 8) len)
  else (List.range (Config.freeAt s.free 0 % 262)).map (fun j => BitVec.ofNat 8 (Config.freeAt s.free (j + 1)))

/-- REQ_UD2 at a target: it answers from TRSP while its NEW is 1, unless the request went to 255 (`mine` false), and
reports NOTREADY else. -/
def tgtUd2 (s : State) (p : Fin 2) (mine : Bool) : State :=
  let (a, z) := s.trsp p
  if bufOk a z = false then s
  else if s.engAllows p a (bufSize z) true false = false then s.put (F.P_ENG_STAT_REGION p) 1
  else if (s.byte (a + 3)).getLsbD 0 then
    (if mine then (s.tgtAnswer p (s.trspFrame p) 0x52).tickFree else s)
  else s.tgtResult p 0x53

/-- A store of a received frame that may fail its region check. -/
def tgtStoreOr (s : State) (p : Fin 2) (body : List Byte) (code : Nat) (next : State → State) : State :=
  match s.tgtStore p body code with
  | some s1 => next s1
  | none => if bufOk (s.trcv p).1 (s.trcv p).2 then s.put (F.P_ENG_STAT_REGION p) 1 else s

/-- A judged request frame at a target: C, A and what follows. -/
def tgtAct (s : State) (p : Fin 2) (j : Judged) : State :=
  let c := j.body.getD 0 0
  let a := (j.body.getD 1 0).toNat
  let ci := j.body.getD 2 0
  let sel := s.on (F.P_TSEL_SELECTED p)
  let mine := decide (a = s.get (F.P_TSET_TADDR p)) || a == 254 || (a == 253 && sel)
  if j.form = .short then
    if mine = false ∧ a ≠ 255 then s
    else if c = 0x40 then
      let s1 := if a = 253 then s.put (F.P_TSEL_SELECTED p) 0 else s
      if mine then s1.tgtAnswer p [0xE5] 0 else s1
    else if c = 0x5A ∨ c = 0x7A then (if mine then s.tgtAnswer p [0xE5] 0 else s)
    else if c = 0x5B ∨ c = 0x7B then s.tgtUd2 p mine
    else s
  else if j.form = .long ∧ (c = 0x53 ∨ c = 0x73) then
    if ci = 0x52 ∨ ci = 0x56 then
      if a = 253 then s.tgtStoreOr p j.body 0x51 (fun x => x.put (F.P_TSEL_DECIDE p) 1) else s
    else if mine then s.tgtStoreOr p j.body 0x50 (fun x => x.tgtAnswer p [0xE5] 0)
    else if a = 255 then s.tgtStoreOr p j.body 0x50 id
    else s
  else s

/-- The telegrams a target hears one after the other, each behind an idle period of GAP; one that fails R263 reports
TGTERR. -/
def tgtFrames (s : State) (p : Fin 2) : Nat → List RxChar → State
  | 0, _ => s
  | n + 1, cs =>
    if cs.isEmpty then s
    else
      let j := judge cs
      let s1 := s.afterRx p j
      (if j.code = 0 then s1.tgtAct p j else s1.tgtResult p 0x54).tgtFrames p n (afterGap j.rest)

/-- TARGET_FRAME: telegrams arrive at a running target. -/
def targetFrame (s : State) (p : Fin 2) (cs : List RxChar) : State :=
  if s.engLive p ∧ s.isTarget p then
    let h := s.hear p cs
    h.1.tgtFrames p h.2.length h.2
  else s

/-- RX_GAP_TIMEOUT: a gap longer than GAP inside a frame ends it with FRAME_ERR, as master and as target. The line has
then been idle for GAP. -/
def rxGapTimeout (s : State) (p : Fin 2) : State :=
  let quiet := s.port[p].ignoring || s.port[p].junk
  let s0 := s.portUpd p (fun x => { x with ignoring := false, junk := false })
  if s.engLive p = false ∨ quiet then s0
  else if s.isTarget p then s0.tgtResult p 0x54
  else
    match s.port[p].exch with
    | some x => if x.sent then s0.tryFailed p x stFRAME_ERR ⟨[], false, false⟩ else s0
    | none => s0

/-- TARGET_ANSWER: TDLY has passed. Before the line has held mark for 11 bit times the answer is held back, with TXHOLD
(R246); no answer starts during a stop (R235). -/
def targetAnswer (s : State) (p : Fin 2) : State :=
  if s.engLive p ∧ s.isTarget p ∧ s.stopping = false then
    match s.port[p].answer with
    | some (bs, code) =>
      if s.port[p].txWait then s.put (F.P_STAT_TXHOLD p) 1
      else
        let s1 := (s.portUpd p (fun x => { x with sentBytes := bs, junk := false })).answerOver p
        if code = 0 then s1 else s1.tgtResult p code
    | none => s
  else s

/-- ACCEPT of Px.TSEL while a selection awaits a decision. -/
def tselAccept (s : State) (p : Fin 2) (ring : Nat) : State :=
  if ring ≤ 1 ∧ s.on (F.P_TSEL_DECIDE p) then
    ((s.put (F.P_TSEL_DECIDE p) 0).put (F.P_TSEL_SELECTED p) 1).tgtAnswer p [0xE5] 0
  else s

/-- REJECT of Px.TSEL clears SELECTED and sends no answer. -/
def tselReject (s : State) (p : Fin 2) (ring : Nat) : State :=
  if ring ≤ 1 then (s.put (F.P_TSEL_DECIDE p) 0).put (F.P_TSEL_SELECTED p) 0 else s

/-- A store to Px.TSEL; a store that sets both bits rejects. -/
def tselWrite (s : State) (p : Fin 2) (ring : Nat) (v : Word) : State :=
  if bitOf v 1 then s.tselReject p ring else if bitOf v 0 then s.tselAccept p ring else s

/-- A store to Px.TSET: the target's framer takes the rate of TBAUD (R302). -/
def tsetWrite (s : State) (p : Fin 2) (ring : Nat) (v : Word) : State :=
  let s1 := s.plainWrite (F.P_TSET_TADDR p).addr ring v
  if s1.isTarget p then s1.engineRate p (s1.get (F.P_TSET_TBAUD p)) else s1

/-- No decision came within 300 port bit times. -/
def selectionTimeout (s : State) (p : Fin 2) : State :=
  if s.portLive p ∧ s.on (F.P_TSEL_DECIDE p) then (s.put (F.P_TSEL_DECIDE p) 0).put (F.P_TSEL_SELECTED p) 0 else s

end State

/-! ## Meanings -/

def execExchangeStart (p : Fin 2) (s : State) : Answer := .next (s.exchangeStart p)
def execRequestSent (p : Fin 2) (s : State) : Answer := .next (s.requestSent p)
def execReplyReceived (p : Fin 2) (cs : List RxChar) (s : State) : Answer := .next (s.replyReceived p cs)
def execReplyTimeout (p : Fin 2) (s : State) : Answer := .next (s.replyTimeout p)
def execRxGapTimeout (p : Fin 2) (s : State) : Answer := .next (s.rxGapTimeout p)
def execEngineResync (p : Fin 2) (s : State) : Answer := .next (s.engineResync p)
/-- ENG_DOORBELL: a store to Px.ENG.DOOR (R270). -/
def execEngDoorbell (p : Fin 2) (ring : Ring) (v : Word) (s : State) : Answer :=
  .next (if s.portLive p then s.engDoorWrite p ring v else s)
def execTargetFrame (p : Fin 2) (cs : List RxChar) (s : State) : Answer := .next (s.targetFrame p cs)
def execTargetAnswer (p : Fin 2) (s : State) : Answer := .next (s.targetAnswer p)
/-- TSEL_ACCEPT: a store of ACCEPT to Px.TSEL. -/
def execTselAccept (p : Fin 2) (ring : Ring) (s : State) : Answer :=
  .next (if s.portLive p then s.tselAccept p ring else s)
/-- TSEL_REJECT: a store of REJECT to Px.TSEL. -/
def execTselReject (p : Fin 2) (ring : Ring) (s : State) : Answer :=
  .next (if s.portLive p then s.tselReject p ring else s)
def execSelectionTimeout (p : Fin 2) (s : State) : Answer := .next (s.selectionTimeout p)

end Sys2Proof.Machine
end

