-- ==== Sys2Proof/Machine/Sys.lean ====
section
/-!
DEFINITION. SYS (spec/02_islands_clocks_states.md): the main oscillator, FLL and PLL, SYNC_IN, the power domains, DOZE
and CALM.
-/

namespace Sys2Proof.Machine

namespace State

/-! ## Clocks -/

/-- The main oscillator is stable. -/
def moscOk (s : State) : State := if s.powered then s.put F.SYS_OSCSTAT_MOSC_OK 1 else s

/-- The core PLL locks, and the core leaves the 48 MHz it took after a CALM wake (R45, R56). -/
def pllLock (s : State) : State :=
  if (s.pwr.state = .run ∨ s.pwr.state = .doze) ∧ s.on F.SYS_CLKCFG_PLLEN then
    (s.put F.SYS_OSCSTAT_PLL_LOCK 1).pwrUpd (fun p => { p with wake48 := false })
  else s

/-- A 32-tick window ends with a count (R43): the trim moves one step toward 46,875, and the fourth consecutive window
within 0.05 % locks. -/
def fllWindow (s : State) (count : Nat) : State :=
  if s.powered ∧ s.on F.SYS_OSCSTAT_MOSC_OK ∧ s.pwr.fllFrozen = false then
    let good := decide (46852 ≤ count) && decide (count ≤ 46898)
    let step : Int := if count < 46875 then 1 else if 46875 < count then -1 else 0
    let n := if good then min 4 (s.pwr.fllGood + 1) else 0
    let s1 := s.pwrUpd (fun p => { p with fllTrim := p.fllTrim + step, fllGood := n, fllEver := p.fllEver || n == 4 })
    if n = 4 then s1.put F.SYS_OSCSTAT_FLL_LOCK 1 else s1
  else s

/-- No crystal edge for 256 µs (R44): once for each freeze. -/
def xtalFail (s : State) : State :=
  if s.powered ∧ s.on F.SYS_OSCSTAT_MOSC_OK ∧ s.pwr.fllFrozen = false then
    (((s.put F.SYS_OSCSTAT_FLL_LOCK 0).put F.SYS_OSCSTAT_XTAL_FAIL 1).raise 25).pwrUpd
      (fun p => { p with fllFrozen := true, fllGood := 0 })
  else s

/-- The first crystal edge after a freeze (R44). -/
def fllResume (s : State) : State :=
  if s.powered ∧ s.pwr.fllFrozen then
    (s.pwrUpd (fun p => { p with fllFrozen := false, fllGood := 0 })).xtalEdge
  else s

/-- SYNC_IN is valid (R47). -/
def syncInValid (s : State) : State := if s.powered then s.put F.SYS_SYNC_SIVALID 1 else s

/-- SYNC_IN is lost (R47). -/
def syncLost (s : State) : State :=
  if s.powered ∧ s.on F.SYS_SYNC_SIVALID then ((s.put F.SYS_SYNC_SIVALID 0).put F.SYS_SYNC_SILOST 1).raise 25 else s

/-- A write to SYS.CLKCFG (R45, R46). -/
def clkcfgWrite (s : State) (ring : Nat) (v : Word) : State :=
  if ring ≠ 0 ∨ s.on F.SYS_LOCK_LOCK then s
  else
    let csrc := s.on F.SYS_CLKCFG_CSRC
    let s1 := s.plainWrite F.SYS_CLKCFG_CSRC.addr ring v
    let badSrc := bitOf v 0 && !csrc && !s.on F.SYS_OSCSTAT_PLL_LOCK
    let badPll := csrc && bitOf v 0 && !bitOf v 1 && s.on F.SYS_CLKCFG_PLLEN
    let s2 := if badSrc then s1.put F.SYS_CLKCFG_CSRC 0 else s1
    let s3 := if badPll then s2.put F.SYS_CLKCFG_PLLEN 1 else s2
    let s4 := if s3.on F.SYS_CLKCFG_PLLEN then s3 else s3.put F.SYS_OSCSTAT_PLL_LOCK 0
    if badSrc ∨ badPll then (s4.put F.SYS_OSCSTAT_CLKERR 1).raise 25 else s4

/-! ## Power domains (R49 to R52) -/

/-- The power block of domain `d` is enabled, or the NVC is busy in D2: SYS refuses to switch it off (R51, R174). -/
def blockOn (s : State) (d : Nat) : Bool :=
  if d = 2 then s.nvc.cmd.isSome || s.nvc.er.isSome || s.nvc.held.isSome
  else if 7 ≤ d ∧ d ≤ 12 then
    s.on (F.SW_CTL_EN (d - 7)) || (s.follower (d - 7) && s.on (F.SW_CTL_EN (d - 8)))
  else if d = 5 ∨ d = 6 then s.on (F.P_CTL_EN (d - 5))
  else if d = 15 then s.scMode != 0 || s.on F.CHG_CTL_EN
  else false

/-- A domain on which R51 holds D3. -/
def needsD3 (d : Nat) : Bool := (decide (5 ≤ d) && decide (d ≤ 12)) || d == 15

/-- Domain `d` will be on after a write of `v`, D3's own rule apart. SYS itself holds D15 on while SC starts up or is
reversed (R212). -/
def domAfter (s : State) (v : Word) (d : Nat) : Bool :=
  bitOf v d || (s.domOn d && s.blockOn d) || (d == 15 && decide (2 ≤ s.scMode))

/-- The write keeps D3 on. -/
def d3Held (s : State) (v : Word) : Bool := (List.range 16).any (fun d => needsD3 d && s.domAfter v d)

/-- Port `p`'s window and line stage return to Cold. -/
def portCold (s : State) (p : Fin 2) (keep : Nat → Bool) : State :=
  (s.coldWindow (0x40014000 + 0x1000 * p.val) keep).portUpd p (fun _ => PortSt.cold)

/-- A switching controller's window returns to Cold. -/
def swCold (s : State) (n : Fin 6) (keep : Nat → Bool) : State :=
  (s.coldWindow (0x40008000 + 0x1000 * n.val) keep).swUpd n (fun _ => SwSt.cold)

/-- HOST, the two-wire interfaces and the framers return to Cold. -/
def hostCold (s : State) : State :=
  let s1 := [0x40018000, 0x40019000, 0x4001A000, 0x4001C000, 0x4001D000, 0x4001E000, 0x4001F000, 0x40020000].foldl
    (fun x b => x.coldWindow b (fun _ => false)) s
  { s1 with host := HostSt.cold, uart := Vector.replicate 5 UartSt.cold }

/-- Switching a domain off loses its islands' registers and latched writes (R50). -/
def domainOff (s : State) (d : Nat) : State :=
  let s0 := s.setPg d false
  if d = 2 then ((s0.nvcColdRegs.qspiCold).dropLatch .nvc).dropLatch .qspi
  else if d = 3 then ((s0.adcCold.thermCold (fun _ => false)).dropLatch .adc).dropLatch .therm
  else if d = 4 then s0.hostCold.dropLatch .host
  else if h : d = 5 ∨ d = 6 then
    let p : Fin 2 := ⟨d - 5, by omega⟩
    (s0.portCold p (fun _ => false)).dropLatch (.port p)
  else if h : 7 ≤ d ∧ d ≤ 12 then
    let n : Fin 6 := ⟨d - 7, by omega⟩
    (s0.swCold n (fun _ => false)).dropLatch (.sw n)
  else if d = 13 then s0.ldoDomainOff
  else if d = 14 then (s0.pwmCold (fun _ => false)).dropLatch .pwm
  else if d = 15 then s0.scLose
  else s0

/-- One domain of a DOMCTL write: its bit takes `want`, unless switching it off is refused. -/
def domStep (s : State) (want refuse : Bool) (d : Nat) : State :=
  if want = s.domOn d then s
  else if want then s.setBit F.SYS_DOMCTL_DSW (d - 2)
  else if refuse then s.put F.SYS_DOMSTAT_DOMERR 1
  else (s.clrBit F.SYS_DOMCTL_DSW (d - 2)).domainOff d

/-- A write to SYS.DOMCTL (R50, R51). -/
def domctlWrite (s : State) (ring : Nat) (v : Word) : State :=
  if ring ≠ 0 then s
  else
    let hold := s.d3Held v
    (List.range 14).foldl (fun x k =>
      let d := k + 2
      if d = 3 then
        x.domStep (bitOf v 3 || (hold && !s.domOn 3)) hold 3
      else x.domStep (bitOf v d) (s.blockOn d) d) s

/-- A domain reaches power-good and its islands leave reset at Cold (R50); the NVC scans by itself (R171). D1 and D2 are
off in CALM (R53). -/
def domainPowerGood (s : State) (d : Nat) : State :=
  if s.powered ∧ (s.pwr.state = .calm → 3 ≤ d) ∧ s.domOn d ∧ s.domPg d = false ∧ 1 ≤ d then
    let s1 := s.setPg d true
    if d = 2 then s1.nvcUp
    else if d = 3 then s1.adcLoad
    else if d = 5 then s1.portColdCaps 0
    else if d = 6 then s1.portColdCaps 1
    else if d = 4 then (s1.engineRate 0 s.port[0].baud).engineRate 1 s.port[1].baud
    else if d = 15 then s1.latchesBack
    else s1
  else s

/-! ## DOZE and CALM (R53 to R56) -/

/-- No thread has anything to run: every thread waits or is halted. -/
def allWait (s : State) : Bool := s.core.threads.toList.all (fun x => decide (x.st ≠ .ready))

/-- Nothing keeps the core clock on: no thread has anything to run, none holds GM (R21), and no EDDY entry is pending on
T0 (R156). -/
def coreIdle (s : State) : Bool := s.allWait && !s.core.threads.toList.any (fun x => x.gm) && !s.core.eddyHeld

/-- The core clock is gated. -/
def dozeEntry (s : State) : State :=
  if s.pwr.state = .run ∧ s.coreLive ∧ s.coreIdle ∧ s.core.sb = [] then s.pwrUpd (fun p => { p with state := .doze })
  else s

/-- The conditions of R54; a LULL or a fast stop keeps the core powered to its end (R237). -/
def calmReady (s : State) : Bool :=
  s.coreLive && !s.stopping && s.on F.SYS_PWRCTL_CALM && s.coreIdle && s.core.sb.isEmpty && s.nvc.cmd.isNone && s.nvc.er.isNone &&
    s.nvc.held.isNone && s.pwr.qspi.isNone && s.host.kernel.isNone && s.host.svc.toList.all (fun x => x.isNone) &&
    s.port.toList.all (fun x => x.exch.isNone && x.answer.isNone)

/-- A bank of SRAM loses its content (SYS.SRET; bank b lies at 0x20000000 + 64 KB × b). -/
def loseBank (s : State) (b : Nat) : State := s.forget (0x20000000 + 0x10000 * b) (0x20000000 + 0x10000 * (b + 1))

/-- CALM: the core, its PLL, D1 and D2 are off, and every other domain stays as DOMCTL has it, D4 too (DEDUCED, log entry
62); banks 0 to 9 whose SRET bit is 0 lose their content. -/
def calmEntry (s : State) : State :=
  if s.calmReady then
    let s1 := (s.put F.SYS_OSCSTAT_PLL_LOCK 0).setPg 1 false
    let s2 := if s1.domPg 2 then s1.domainOff 2 else s1
    let s3 := (List.range 10).foldl (fun x b => if x.bit F.SYS_SRET_BANKSW b then x else x.loseBank b) s2
    s3.pwrUpd (fun p => { p with state := .calm })
  else s

/-- A GALE line: E1 to E6 (R142). -/
def galeLine (k : Nat) : Bool := decide (1 ≤ k) && decide (k ≤ 6)

/-- A wake source of R55 that is present. -/
def wakes (s : State) (src : WakeSrc) : Bool :=
  match src with
  | .line k => s.core.raised.getLsbD k && (galeLine k || (k != 0 && s.bit F.SYS_WAKEEN_EN (k.val - 1)))
  | .twAddress => (List.range 4).any (fun w => s.winBound w && decide (s.get (F.HOST_WCFG_PORT w) < 2))
  | .uartStart => (List.range 4).any (fun w => s.winBound w && decide (2 ≤ s.get (F.HOST_WCFG_PORT w)))

/-- The WAKESRC code. -/
def wakeCode (src : WakeSrc) : Nat :=
  match src with
  | .line k => k
  | .twAddress => 0x20
  | .uartStart => 0x21

/-- CALM ends (R53, R55, R56): D1, and D2 when its DOMCTL bit is 1, are at power-good before the first instruction;
the core runs at 48 MHz until the PLL has locked again or 50 µs have passed. -/
def calmWake (s : State) (src : WakeSrc) : State :=
  if s.pwr.state = .calm ∧ s.wakes src then
    let s1 := ((s.put F.SYS_PWRCTL_CALM 0).put F.SYS_PWRCTL_WAKESRC (wakeCode src)).setPg 1 true
    let s2 := (s1.pwrUpd (fun p => { p with state := .run, wake48 := true })).coreUpd (fun c => { c with awake := false })
    if s2.domOn 2 then (s2.setPg 2 true).nvcUp else s2
  else s

/-- BILLCMP fires (R344); in CALM the firing wakes the device through E23 when WAKEEN enables it (R345, R55). -/
def billFireWake (s : State) (vstorMv : Nat) : State :=
  let s1 := s.billFire vstorMv
  if s.pwr.state = .calm ∧ s.on F.BAK_BILLCMPH_ARM ∧ s1.on F.BAK_BILLCMPH_ARM = false then s1.calmWake (.line 23) else s1

/-- 50 µs after the wake the configured clock is selected (R56). -/
def calmClockRestore (s : State) : State := s.pwrUpd (fun p => { p with wake48 := false })

/-- The 1 ms kernel tick (R55). -/
def kernelTick (s : State) : State :=
  if (s.pwr.state = .run ∨ s.pwr.state = .doze) ∧ s.pwr.coreHeld = false then s.raise 0 else s

end State

/-! ## Meanings -/

def execMoscOk (s : State) : Answer := .next s.moscOk
def execPllLock (s : State) : Answer := .next s.pllLock
def execFllWindow (count : Nat) (s : State) : Answer := .next (s.fllWindow count)
def execXtalFail (s : State) : Answer := .next s.xtalFail
def execFllResume (s : State) : Answer := .next s.fllResume
def execSyncInValid (s : State) : Answer := .next s.syncInValid
def execSyncLost (s : State) : Answer := .next s.syncLost
/-- CLKCFG_WRITE: a store to SYS.CLKCFG (R45). -/
def execClkcfgWrite (ring : Ring) (v : Word) (s : State) : Answer :=
  .next (if s.powered then s.clkcfgWrite ring v else s)
/-- DOMCTL_WRITE: a store to SYS.DOMCTL (R50). -/
def execDomctlWrite (ring : Ring) (v : Word) (s : State) : Answer :=
  .next (if s.powered then s.domctlWrite ring v else s)
def execDomainPowerGood (d : Fin 16) (s : State) : Answer := .next (s.domainPowerGood d)
def execDozeEntry (s : State) : Answer := .next s.dozeEntry
def execCalmEntry (s : State) : Answer := .next s.calmEntry
def execCalmWake (src : WakeSrc) (s : State) : Answer := .next (s.calmWake src)
def execBillcmpFire (vstorMv : Nat) (s : State) : Answer := .next (s.billFireWake vstorMv)
def execCalmClockRestore (s : State) : Answer := .next s.calmClockRestore
def execKernelTick (s : State) : Answer := .next s.kernelTick

end Sys2Proof.Machine
end

