-- ==== Sys2Proof/Machine/Host.lean ====
section
/-!
DEFINITION. The host windows (spec/13_host_windows.md): status word, response frames, command frames on the two-wire
bus and on UARTs, commit and replay, dispatch, and the execution ports.
-/

namespace Sys2Proof.Machine

/-! ## CRC-8 (R281) -/

/-- One bit of CRC-8: polynomial 0x07. -/
def crc8Bit (c : Byte) : Byte := if c.getLsbD 7 then (c <<< 1) ^^^ 0x07 else c <<< 1

/-- One byte of CRC-8. -/
def crc8Byte (c b : Byte) : Byte :=
  crc8Bit (crc8Bit (crc8Bit (crc8Bit (crc8Bit (crc8Bit (crc8Bit (crc8Bit (c ^^^ b))))))))

/-- CRC-8 of a list of bytes: initial value 0, no reflection, no final complement. -/
def crc8 (bs : List Byte) : Byte := bs.foldl crc8Byte 0

/-- Result codes of R288. -/
def rcOK : Nat := 0
def rcPENDING : Nat := 1
def rcREFUSED : Nat := 2
def rcPERM : Nat := 3
def rcBADARG : Nat := 4
def rcDEVREF : Nat := 5
def rcNOSERV : Nat := 6
def rcSVCTMO : Nat := 7

/-- The codes of the command table (R292). -/
def cmdAssigned (c : Byte) : Bool :=
  let n := c.toNat
  (decide (1 ≤ n) && decide (n ≤ 6)) || n == 0x10 || n == 0x11 || n == 0x20 || n == 0x21 || n == 0x30 || n == 0x38 ||
    n == 0x39 || (decide (0x40 ≤ n) && decide (n ≤ 0x7F))

/-- Commands W0 executes in the service-only state (R295). -/
def cmdInService (c : Byte) : Bool := decide (1 ≤ c.toNat) && decide (c.toNat ≤ 5)

/-- A response frame (R287). -/
def respFrame (r : Resp) : List Byte :=
  let n := 1 + r.data.length
  let body := [r.code + 0x80, BitVec.ofNat 8 n, BitVec.ofNat 8 (n / 256), r.seq, BitVec.ofNat 8 r.result] ++ r.data
  body ++ [crc8 body]

namespace State

/-- A window. -/
def win (s : State) (w : Fin 4) : Win := s.host.wins[w]

/-! ## Status word (R286) -/

/-- Dispatch is held (R297). -/
def hostHeld (s : State) : Bool := s.pwr.lulled || s.on F.SYS_RSTSTAT_CORE_PEND || !s.on F.HOST_CTL_DISPEN

/-- The status word of window `w`; nothing is held at a window that is not bound. -/
def statusWord (s : State) (w : Fin 4) : Word :=
  let x := s.win w
  let b (c : Bool) (i : Nat) : Nat := if c then 2 ^ i else 0
  BitVec.ofNat 32 (x.lseq.toNat + x.cseq.toNat * 2 ^ 8 + (4 - x.queue.length) * 2 ^ 16 + b x.lvalid 19 + b x.done 20 +
    b x.resetSeen 21 + b x.lenExcess 22 + b x.busy 23 + b x.crcErr 24 + b x.fmtErr 25 + b (s.hostHeld && s.winBound w) 26 +
    b (s.on F.HOST_CTL_SVC) 27 + x.cres % 16 * 2 ^ 28)

/-- The status block and, when LVALID is 1, the response slot (R289). -/
def readBlock (s : State) (w : Fin 4) : List Byte :=
  let st := le32 (s.statusWord w).toNat
  let x := s.win w
  st ++ [crc8 st] ++ (if x.lvalid then (match x.slot with
    | some r => respFrame r
    | none => []) else [])

/-- The sticky bits clear once the status block has been sent in full. -/
def clearSticky (s : State) (w : Fin 4) : State :=
  s.winUpd w (fun x => { x with
    resetSeen := false, lenExcess := false, busy := false, crcErr := false, fmtErr := false })

/-! ## Command frames (R282, R283, R290) -/

end State

/-- Why a frame is discarded: the status flag it sets. -/
inductive FrameFlag where
  | busy | fmtErr | lenExcess | crcErr
  deriving DecidableEq, Repr

/-- What a frame comes to: byte count up to the deciding byte, that byte included. -/
inductive FrameEnd where
  /-- no byte decided: the frame breaks off. -/
  | cut
  | bad (f : FrameFlag) (at_ : Nat)
  | commit (c : HostCmd) (at_ : Nat)
  deriving DecidableEq, Repr

/-- Payload and CRC of a frame, in the order of R282. `n` counts bytes taken so far, `j` payload bytes. -/
def framePay (hd : List Byte) (code seq : Byte) (quiet : Bool) (bad : Nat → Bool) :
    List Byte → Nat → Nat → Nat → List Byte → FrameEnd
  | [], _, _, _, _ => .cut
  | b :: t, n, len, j, acc =>
    if bad n then .bad .fmtErr (n + 1)
    else
      match len with
      | m + 1 => if 1024 ≤ j then .bad .lenExcess (n + 1) else framePay hd code seq quiet bad t (n + 1) m (j + 1) (b :: acc)
      | 0 =>
        if b = crc8 (hd ++ acc.reverse) then .commit ⟨code, seq, quiet, acc.reverse⟩ (n + 1)
        else .bad .crcErr (n + 1)

/-- A command frame judged byte by byte; `bad i` says that character `i` has a parity or stop-bit error (UART). -/
def frameJudge (credit : Bool) (bad : Nat → Bool) (bs : List Byte) : FrameEnd :=
  match bs with
  | [] => .cut
  | c :: t =>
    if bad 0 then .bad .fmtErr 1
    else if !credit then .bad .busy 1
    else if !cmdAssigned c then .bad .fmtErr 1
    else
      match t with
      | [] => .cut
      | l0 :: t1 =>
        if bad 1 then .bad .fmtErr 2
        else
          match t1 with
          | [] => .cut
          | l1 :: t2 =>
            if bad 2 then .bad .fmtErr 3
            else if l1.toNat / 32 ≠ 0 then .bad .fmtErr 3
            else
              match t2 with
              | [] => .cut
              | q :: t3 =>
                if bad 3 then .bad .fmtErr 4
                else framePay [c, l0, l1, q] c q (l1.getLsbD 4) bad t3 4 (l0.toNat + 256 * (l1.toNat % 16)) 0 []

namespace State

/-- A frame is discarded; its flag, if any, is set. -/
def discardFrame (s : State) (w : Fin 4) (f : Option FrameFlag) : State :=
  (s.bump (F.HOST_CNT_DISCARDS w)).winUpd w (fun x =>
    match f with
    | none => x
    | some .busy => { x with busy := true }
    | some .fmtErr => { x with fmtErr := true }
    | some .lenExcess => { x with lenExcess := true }
    | some .crcErr => { x with crcErr := true })

/-- The commit point of a frame (R29, R30, R283): a replay changes nothing but the count of commits. -/
def commitFrame (s : State) (w : Fin 4) (c : HostCmd) : State :=
  let s1 := s.bump (F.HOST_CNT_COMMITS w)
  let x := s.win w
  if x.lvalid ∧ x.lseq = c.seq then s1
  else s1.winUpd w (fun x => { x with
    queue := x.queue ++ [c], lseq := c.seq, lvalid := true, done := false, slot := some ⟨c.code, c.seq, rcPENDING, []⟩ })

/-- A frame takes its end at window `w`. -/
def frameDone (s : State) (w : Fin 4) (e : FrameEnd) : State :=
  match e with
  | .cut => s.discardFrame w none
  | .bad f _ => s.discardFrame w (some f)
  | .commit c _ => s.commitFrame w c

/-! ## The two-wire target (R278 to R282, R289) -/

/-- The window bound to an address of TW0 or TW1; the general-call and the reserved addresses belong to none. -/
def twWindow (s : State) (i addr : Nat) : Option (Fin 4) :=
  (List.finRange 4).find? (fun (w : Fin 4) =>
    decide (8 ≤ addr) && decide (addr ≤ 0x77) && s.winBound w && s.get (F.HOST_WCFG_PORT w) == i && s.get (F.HOST_WCFG_ADDR w) == addr)

/-- The window that ACKs an address: none in CALM, and none before the core has run after a wake (R279). -/
def twAcked (s : State) (i addr : Nat) : Option (Fin 4) :=
  if s.hostLive ∧ s.pwr.state ≠ .calm ∧ s.core.awake then s.twWindow i addr else none

/-- What a two-wire interface last showed on the bus. -/
def twShow (s : State) (i : Fin 2) (out : List Byte) (acks : List Bool) : State :=
  { s with host := { s.host with twOut := s.host.twOut.set i out, twAcks := s.host.twAcks.set i acks } }

/-- An address byte arrives. In CALM a match is NACKed and wakes the device (R27, R279). -/
def twAddress (s : State) (i : Fin 2) (b : Byte) : State :=
  let addr := b.toNat / 2
  if s.hostLive ∧ s.pwr.state = .calm then
    let s1 := s.twShow i [] [false]
    if (s.twWindow i addr).isSome then s1.calmWake .twAddress else s1
  else
    match s.twAcked i addr with
    | some _ => (s.twShow i [] [true]).put (F.TW_STAT_ACTIVE i) 1
    | none => s.twShow i [] [false]

/-- The end of a transfer comes: with TOEN 0 a low SCL ends none (R280). -/
def twEnds (s : State) (i : Fin 2) (e : TwEnd) : Bool := decide (e ≠ .timeout) || s.on (F.TW_CFG_TOEN i)

/-- How a transfer ends: it is over; a timeout and a bus clear are recorded (R280). -/
def twEnd (s : State) (i : Fin 2) (e : TwEnd) : State :=
  if s.twEnds i e then
    let s1 := s.put (F.TW_STAT_ACTIVE i) 0
    match e with
    | .stop => s1
    | .timeout => (s1.put (F.TW_STAT_TOUT i) 1).bump (F.TW_CNT_TOCNT i)
    | .busClear => s1.put (F.TW_STAT_BCLR i) 1
  else s.put (F.TW_STAT_ACTIVE i) 1

/-- ACKs of a write transfer of `n` bytes whose deciding byte is number `k`: the bytes before it, itself when it
commits; nothing after it. The address byte is the first. -/
def twAckList (n k : Nat) (commit : Bool) : List Bool :=
  true :: (List.range n).map (fun j => decide (j + 1 < k) || (commit && j + 1 == k))

/-- A whole write transfer: address, bytes and its end. -/
def twWriteFrame (s : State) (i : Fin 2) (addr : Nat) (bs : List Byte) (e : TwEnd) : State :=
  match s.twAcked i addr with
  | none => s.twAddress i (BitVec.ofNat 8 (2 * addr))
  | some w =>
    let fe := frameJudge (decide ((s.win w).queue.length < 4)) (fun _ => false) bs
    let s1 := if bs = [] ∨ (fe = .cut ∧ s.twEnds i e = false) then s else s.frameDone w fe
    let s2 := match fe with
      | .cut => s1.twShow i [] (twAckList bs.length (bs.length + 1) false)
      | .bad _ k => (s1.bump (F.TW_CNT_NACKCNT i)).twShow i [] (twAckList bs.length k false)
      | .commit _ k =>
        (if k < bs.length then s1.bump (F.TW_CNT_NACKCNT i) else s1).twShow i [] (twAckList bs.length k true)
    s2.twEnd i e

/-- A read transfer of `count` bytes and its end (R289, R280). -/
def twRead (s : State) (i : Fin 2) (addr : Nat) (count : Nat) (e : TwEnd) : State :=
  match s.twAcked i addr with
  | none => s.twAddress i (BitVec.ofNat 8 (2 * addr + 1))
  | some w =>
    let out := (s.readBlock w ++ List.replicate count 0xFF).take count
    let s1 := (s.twShow i out [true]).twEnd i e
    if 5 ≤ count then s1.clearSticky w else s1

/-- SCL has stayed low for 25 ms (R280). -/
def sclTimeout (s : State) (i : Fin 2) : State :=
  if s.hostLive ∧ s.on (F.TW_CFG_TOEN i) then s.twEnd i .timeout else s

/-! ## UART windows (R290, R291) -/

/-- POLL: answered by HOST; a wrong CRC byte discards it. -/
def uartPoll (s : State) (u : Fin 3) (w : Fin 4) (crc : Byte) : State :=
  if crc = 0 then
    let s1 := { s with host := { s.host with uartOut := s.host.uartOut.set u (0xA5 :: s.readBlock w) } }
    s1.clearSticky w
  else s.discardFrame w (some .crcErr)

/-- The characters after 0xA5 of a frame on U0 to U2. A frame that begins as POLL does is one; nothing arrives while
HOST has no power. -/
def uartFrame (s : State) (u : Fin 3) (bs : List Byte) (badAt : Option Nat) : State :=
  match s.uartWindow u with
  | none => s
  | some w =>
    if s.hostLive = false ∨ bs = [] then s
    else
      let bad (i : Nat) : Bool := badAt == some i
      if (bs.take 4).all (fun b => b == 0) ∧ badAt = none then
        match bs.drop 4 with
        | [] => s.discardFrame w none
        | crc :: _ => s.uartPoll u w crc
      else s.frameDone w (frameJudge (decide ((s.win w).queue.length < 4)) bad bs)

/-- POLL on a UART window. -/
def hostPoll (s : State) (u : Fin 3) (crc : Byte) : State :=
  match s.uartWindow u with
  | some w => if s.hostLive then s.uartPoll u w crc else s
  | none => s

/-- A gap of more than two character times inside a frame discards it, without a flag (R290, R312). -/
def uartGap (s : State) (u : Fin 3) : State :=
  match s.uartWindow u with
  | some w => if s.hostLive then s.discardFrame w none else s
  | none => s

/-! ## Dispatch and completion (R284, R285, R293 to R298) -/

/-- Window `w` has a command in execution. -/
def winRunning (s : State) (w : Fin 4) : Bool :=
  (match s.host.kernel with
   | some p => decide (p.win = w)
   | none => false) || s.host.svc[w].isSome

/-- The command of window `w` that comes next, when none of it is in execution. -/
def winNext (s : State) (w : Fin 4) : Option HostCmd :=
  if s.winRunning w then none else (s.win w).queue.head?

/-- The command that window `w` completes with a result: it leaves the queue; when it is the last committed one the
slot takes the final response and DONE sets, else only CSEQ and CRES keep it (R285). -/
def winComplete (s : State) (w : Fin 4) (result : Nat) (data : List Byte) : State :=
  s.winUpd w (fun x =>
    match x.queue with
    | [] => x
    | c :: q =>
      let y := { x with queue := q, cseq := c.seq, cres := result % 16 }
      if q = [] then
        { y with done := true, slot := some ⟨c.code, c.seq, result % 16, if c.quiet then [] else data⟩ }
      else y)

/-- The kernel port is free and window `w` is the first in turn with a kernel command (R284). -/
def kernelTurn (s : State) (w : Fin 4) : Bool :=
  s.host.kernel.isNone &&
    ((List.range 4).map (fun k => (s.host.turn.val + k) % 4)).find? (fun v =>
      if h : v < 4 then
        (match s.winNext ⟨v, h⟩ with
         | some c => decide (c.code.toNat < 0x40)
         | none => false)
      else false) == some w.val

/-- The turn passes to the window after `w`. -/
def passTurn (s : State) (w : Fin 4) : State := { s with host := { s.host with turn := w + 1 } }

/-- A service command is presented at the window's service port, or ends with NOSERV (R293). -/
def serviceStart (s : State) (w : Fin 4) (c : HostCmd) : State :=
  let n := s.get (F.HOST_WCFG_SVCTHR w)
  let t : Tid := Fin.ofNat 16 n
  if n = 0 ∨ (s.thr t).st = .halted then s.winComplete w rcNOSERV []
  else
    let s1 := { s with host := { s.host with svc := s.host.svc.set w (some ⟨w, c, 0, []⟩) } }
    s1.raise 20

/-- A kernel command is presented. -/
def kernelStart (s : State) (w : Fin 4) (c : HostCmd) : State :=
  (({ s with host := { s.host with kernel := some ⟨w, c, 0, []⟩ } }).passTurn w).raise 20

/-- COMMAND_DISPATCH: the next command of window `w` is presented at its port (R284, R296, R297). In the service-only
state an excluded command ends with REFUSED (R295). -/
def dispatch (s : State) (w : Fin 4) : State :=
  if s.hostLive = false ∨ s.hostHeld ∨ s.powered = false then s
  else
    match s.winNext w with
    | none => s
    | some c =>
      if s.on F.HOST_CTL_SVC ∧ cmdInService c.code = false then s.winComplete w rcREFUSED []
      else if 0x40 ≤ c.code.toNat then s.serviceStart w c
      else if s.kernelTurn w then s.kernelStart w c
      else s

/-- SERVICE_COMMAND: a service command at the head of window `w` reaches its service port (R293). -/
def serviceCommand (s : State) (w : Fin 4) : State :=
  match s.winNext w with
  | some c => if 0x40 ≤ c.code.toNat then s.dispatch w else s
  | none => s

/-- The presented command of a port. -/
def presented (s : State) (p : ExecPort) : Option Presented :=
  match p with
  | .kernel => s.host.kernel
  | .service w => s.host.svc[w]

/-- Replace what a port presents. -/
def setPresented (s : State) (p : ExecPort) (x : Option Presented) : State :=
  match p with
  | .kernel => { s with host := { s.host with kernel := x } }
  | .service w => { s with host := { s.host with svc := s.host.svc.set w x } }

/-- A port's command completes: VALID clears and the window takes the result. -/
def portComplete (s : State) (p : ExecPort) (result : Nat) (data : List Byte) : State :=
  match s.presented p with
  | some x => (s.setPresented p none).winComplete x.win result data
  | none => s

/-- SVCTMO expires (R293). -/
def serviceTimeout (s : State) (w : Fin 4) : State :=
  if s.hostLive ∧ s.get (F.HOST_WCFG_SVCTMO w) ≠ 0 then s.portComplete (.service w) rcSVCTMO [] else s

/-! ## Execution ports (R296, R298) -/

/-- Ring that may use a port: ring 0 for the kernel port, ring 3 for a service port. -/
def portRingOk (p : ExecPort) (ring : Nat) : Bool :=
  match p with
  | .kernel => ring == 0
  | .service _ => true

/-- The word of payload at index `i`; bytes beyond LEN read 0. -/
def payWord (pay : List Byte) (i : Nat) : Word :=
  pay.getD (4 * i + 3) 0 ++ pay.getD (4 * i + 2) 0 ++ pay.getD (4 * i + 1) 0 ++ pay.getD (4 * i) 0

/-- A load of PAY. With nothing presented there is no payload and it reads 0. -/
def payRead (s : State) (p : ExecPort) : Word × State :=
  match s.presented p with
  | some x => (payWord x.cmd.payload x.payIdx, s.setPresented p (some { x with payIdx := x.payIdx + 1 }))
  | none => (0, s)

/-- A load of DISP; with nothing presented it reads its Cold value, 0. -/
def dispWord (s : State) (p : ExecPort) : Word :=
  match s.presented p with
  | some x =>
    BitVec.ofNat 32 (x.cmd.code.toNat + x.cmd.payload.length * 2 ^ 8 + x.win.val * 2 ^ 20 +
      (if s.on (F.HOST_WCFG_RING3 x.win) then 2 ^ 22 else 0) + (if x.cmd.quiet then 2 ^ 23 else 0) + 2 ^ 31)
  | none => 0

/-- A store to RDAT. -/
def rdatWrite (s : State) (p : ExecPort) (ring : Nat) (v : Word) : State :=
  match s.presented p with
  | some x => if portRingOk p ring then s.setPresented p (some { x with rdat := x.rdat ++ [v] }) else s
  | none => s

/-- Bytes of a list of words. -/
def wordBytes (ws : List Word) : List Byte := ws.flatMap (fun w => le32 w.toNat)

/-- A store to DONE. A RLEN above 1,023 completes with BADARG and no data (R298). -/
def doneWrite (s : State) (p : ExecPort) (ring : Nat) (v : Word) : State :=
  match s.presented p with
  | some x =>
    if portRingOk p ring then
      let n := bitsOf v 8 10
      s.portComplete p (bitsOf v 0 4) ((wordBytes x.rdat ++ List.replicate n 0).take n)
    else s
  | none => s

end State

/-! ## Meanings -/

def execTwAddress (i : Fin 2) (addr : Byte) (s : State) : Answer := .next (s.twAddress i addr)
def execTwWriteFrame (i : Fin 2) (addr : BitVec 7) (bytes : List Byte) (e : TwEnd) (s : State) : Answer :=
  .next (s.twWriteFrame i addr.toNat bytes e)
def execTwRead (i : Fin 2) (addr : BitVec 7) (r : TwReading) (s : State) : Answer :=
  .next (s.twRead i addr.toNat r.count r.ending)
def execSclTimeout (i : Fin 2) (s : State) : Answer := .next (s.sclTimeout i)
def execUartCommandFrame (u : Fin 3) (bytes : List Byte) (badAt : Option Nat) (s : State) : Answer :=
  .next (s.uartFrame u bytes badAt)
def execUartFrameGap (u : Fin 3) (s : State) : Answer := .next (s.uartGap u)
def execPoll (u : Fin 3) (crc : Byte) (s : State) : Answer := .next (s.hostPoll u crc)
def execCommandDispatch (w : Fin 4) (s : State) : Answer := .next (s.dispatch w)
def execServiceCommand (w : Fin 4) (s : State) : Answer := .next (s.serviceCommand w)
def execServiceTimeout (w : Fin 4) (s : State) : Answer := .next (s.serviceTimeout w)
/-- PORT_RDAT_WRITE: a store to RDAT of an execution port (R296). -/
def execPortRdatWrite (p : ExecPort) (ring : Ring) (v : Word) (s : State) : Answer :=
  .next (if s.hostLive then s.rdatWrite p ring v else s)
/-- PORT_DONE_WRITE: a store to DONE of an execution port (R296). -/
def execPortDoneWrite (p : ExecPort) (ring : Ring) (v : Word) (s : State) : Answer :=
  .next (if s.hostLive then s.doneWrite p ring v else s)

end Sys2Proof.Machine
end

