-- ==== Sys2Proof/Machine/RegRead.lean ====
section
/-!
DEFINITION. Reading a register: the stored fields, the fields computed from other state, the live measurements (free
values), and the reads that change their island's state (R393).
-/

namespace Sys2Proof.Machine

namespace State

/-- A bit for each thread in a state. -/
def thrMask (s : State) (f : Thread → Bool) : Nat :=
  (List.finRange 16).foldl (fun n (t : Tid) => if f (s.thr t) then n + 2 ^ t.val else n) 0

/-- EVT.TSTATn. -/
def tstatWord (x : Thread) : Nat :=
  (match x.st with
   | .halted => 0
   | .ready => 1
   | .waiting _ => 2) + x.ring * 2 ^ 4 + (if x.stall.isSome then 2 ^ 6 else 0)

/-- The computed fields of EVT (spec/04, Registers). -/
def evtView (s : State) (off : Nat) : Nat :=
  if off = 0x000 then s.thrMask (fun x => decide (x.st = .ready))
  else if off = 0x004 then s.thrMask (fun x => x.isWaiting)
  else if off = 0x008 then s.thrMask (fun x => decide (x.st = .halted))
  else if off = 0x020 then s.core.sb.length
  else if 0x100 ≤ off ∧ off < 0x200 then
    let x := s.thr (Fin.ofNat 16 ((off - 0x100) / 16))
    if off % 16 = 0 then tstatWord x
    else if off % 16 = 8 then (x.pend.extractLsb' 0 32).toNat
    else if off % 16 = 12 then (x.pend.extractLsb' 32 32).toNat
    else 0
  else 0

/-- PROT.GSTAT. While a handler runs GCNT is its count so far: the cycles the model has counted and a free number of
stalled ones, at most 256 together (R155; log entry 17). Else it reads its Cold value, 0. -/
def gstatView (s : State) : Nat :=
  match s.core.gale with
  | some g => g.count + s.fresh % (257 - g.count) + g.tid.val * 2 ^ 9 + 2 ^ 13
  | none => 0

/-- SEQ.ORDERi. -/
def orderView (s : State) (i : Nat) : Nat :=
  (List.range 6).foldl (fun n j => n + s.seq.rise.getD (6 * i + j) 0 * 2 ^ (5 * j)) 0

/-- The live measurements of a port, a charger or a PWM input: bits that are free on every read. -/
def liveMask (s : State) (a : Nat) : Nat :=
  if a = F.SC_STAT_LIMIT.addr then (if s.scMode = 0 then 0 else 2 ^ 4)
  else if a = F.CHG_STAT_DPM.addr then (if s.scMode = 1 then 2 ^ 10 else 0)
  else if a = F.PWM_FLTCFG_FLT0.addr then 3 * 2 ^ 16
  else if 0x40022018 ≤ a ∧ a < 0x400220C0 ∧ (a - 0x40022018) % 0x20 = 0 then
    let n := (a - 0x40022018) / 0x20
    if s.on (F.PWM_CTL_EN n) = false then 0 else if s.on (F.PWM_STAT_LATCH n) then 2 ^ 20 - 1 else 2 ^ 16 - 1
  else if 0x4001C00C ≤ a ∧ a ≤ 0x4002000C ∧ (a - 0x4001C00C) % 0x1000 = 0 then 2 ^ 24
  else if a = F.SEQ_LULLSTAT_ELAPSED.addr ∧ s.on F.SEQ_LULLSTAT_RUN then 0xFF00
  else if a = F.ADC_STAT_BUSY.addr ∧ s.on F.ADC_CTL_RUN = false ∧ s.on F.ADC_STAT_BUSY then 1
  else 0

/-- The computed fields of the other windows. -/
def viewWord (s : State) (t : Tid) (a : Nat) : Nat :=
  let w := (a - 0x40000000) / 0x1000
  let off := a % 0x1000
  if w = 0x04 then s.evtView off
  else if a = 0x40003044 then s.gstatView
  else if a = F.SYS_ID_REV.addr then Config.siliconRev.toNat
  else if w = 0x10 ∧ 0x120 ≤ off ∧ off ≤ 0x128 then s.orderView ((off - 0x120) / 4)
  else if a = 0x4001012C then s.seq.rise.length
  else if a = 0x40014114 then s.port[0].cq.length * 2 ^ 8
  else if a = 0x40015114 then s.port[1].cq.length * 2 ^ 8
  else if a = 0x40014034 then s.ledgsView 0
  else if a = 0x40015034 then s.ledgsView 1
  else if a = 0x40014038 then s.viView 0
  else if a = 0x40015038 then s.viView 1
  else if w = 0x18 ∧ 0x040 ≤ off ∧ off < 0x050 then (s.statusWord (Fin.ofNat 4 ((off - 0x040) / 4))).toNat
  else if a = 0x40018200 then (s.dispWord .kernel).toNat
  else if w = 0x18 ∧ 0x400 ≤ off ∧ off < 0x800 ∧ off % 0x100 = 0 then
    (s.dispWord (.service (Fin.ofNat 4 ((off - 0x400) / 0x100)))).toNat
  else if 0x1C ≤ w ∧ w ≤ 0x20 ∧ off = 0x00C then
    let x := s.uart[Fin.ofNat 5 (w - 0x1C)]
    x.rx.length + x.tx.length * 2 ^ 8 + (if x.tx = [] ∧ x.shift = none then 2 ^ 16 else 0)
  else if a = 0x40012014 then s.adc.fifo.length
  else if a = F.ADC_STAT_BUSY.addr then
    (if s.on F.ADC_STAT_CALBUSY ∧ s.on F.ADC_STAT_BUSY = false then 1 else 0)
  else if w = 0x11 ∧ 0x040 ≤ off ∧ off < 0x060 then
    (if s.seq.cutNow.getLsbD ((off - 0x040) / 4) ∧ s.on (F.THERM_TS_CUTCMP ((off - 0x040) / 4)) = false then 2 ^ 16 else 0)
  else if a = F.CHG_STAT_DPM.addr then (if s.store.vbakCoin then 2 ^ 14 else 0)
  else if a = 0x40024004 then s.bak.tickhLatch[t].toNat
  else if a = 0x40024044 then s.bak.evf1Latch[t].toNat
  else if a = 0x40024048 then s.bak.fifo.length
  else if a = 0x40024058 then s.bak.wdCount / 32768 % 512
  else 0

/-- A word with the bits of a mask replaced by free ones. -/
def mixFree (w mask free : Word) : Word := (w &&& ~~~mask) ||| (free &&& mask)

/-- A read that changes nothing: what thread `t` finds in the register or backup-RAM word at `a`. -/
def peek (s : State) (t : Tid) (a : Nat) : Word :=
  if 0x40024100 ≤ a ∧ a < 0x40025000 then s.word a
  else mixFree (s.storedWord a + BitVec.ofNat 32 (s.viewWord t a)) (BitVec.ofNat 32 (s.liveMask a))
    (BitVec.ofNat 32 s.fresh)

/-- The engine whose completion queue lies at `a`. -/
def cqOf (a : Nat) : Option (Fin 2) :=
  if a = 0x40014110 then some 0 else if a = 0x40015110 then some 1 else none

/-- The framer whose DATA register lies at `a`. -/
def dataOf (a : Nat) : Option (Fin 5) :=
  if a % 0x1000 = 0x008 ∧ 0x4001C000 ≤ a ∧ a < 0x40021000 then some (Fin.ofNat 5 ((a - 0x4001C000) / 0x1000)) else none

/-- The result register of the ADC at `a`. -/
def resOf (a : Nat) : Option (Fin 32) :=
  if (F.ADC_RES_CODE 0).addr ≤ a ∧ a < (F.ADC_RES_CODE 32).addr ∧ (a - (F.ADC_RES_CODE 0).addr) % 16 = 0 then
    some (Fin.ofNat 32 ((a - (F.ADC_RES_CODE 0).addr) / 16))
  else none

/-- The execution port whose PAY register lies at `a`. -/
def payOf (a : Nat) : Option ExecPort :=
  if a = 0x40018204 then some .kernel
  else if 0x40018400 ≤ a ∧ a < 0x40018800 ∧ a % 0x100 = 4 then some (.service (Fin.ofNat 4 ((a - 0x40018400) / 0x100)))
  else none

/-- A completed load of a register by thread `t`: its value, with the read's effect on the island (R393). -/
def regRead (s : State) (t : Tid) (a : Nat) : Word × State :=
  match cqOf a, dataOf a, resOf a, payOf a with
  | some p, _, _, _ => s.cqRead p
  | _, some u, _, _ => s.uartDataRead u
  | _, _, some k, _ => s.adcResRead k
  | _, _, _, some p => s.payRead p
  | _, _, _, _ =>
    if a = 0x40012010 then s.adcFifoRead
    else if a = 0x40024000 then s.ticklRead t
    else if a = 0x40024040 then s.evf0Read t
    else (s.peek t a, s.tickFree)

end State

end Sys2Proof.Machine
end

