-- ==== Sys2Proof/Machine/Reset.lean ====
section
/-!
DEFINITION. COLD, SYSTEM and ISLAND reset and the early rail (R57 to R61, R67). The CORE reset stands in
Machine/Boot.lean, since it drains the store buffer.
-/

namespace Sys2Proof.Machine

namespace State

/-- What a COLD or SYSTEM reset does to power and clocks before its timeline runs: CORE is held, the wired bits are
not yet delivered, the main oscillator is not yet stable, only D0 is at power-good. -/
def pwrRestart (s : State) : State :=
  let s1 := s.pwrUpd (fun p => { p with
    state := .run, coreHeld := true, otpOk := false, inEntry := false, sealPass := false, portsOff := false, booted := false, stop := .none, endSys := false, sysDue := false,
    lulled := false, earlyDone := false, fllGood := 0, fllEver := false, fllFrozen := false, wake48 := false, qspi := none })
  (s1.put F.SYS_OSCSTAT_MOSC_OK 0).put F.SYS_DOMSTAT_PG 1

/-- Every block's own state returns to Cold but BAK's, the memories', the OTP operation's and SC's. -/
def blocksCold (s : State) : State :=
  { s with
    core := Core.cold, nvc := Nvc.cold, sw := Vector.replicate 6 SwSt.cold, port := Vector.replicate 2 PortSt.cold,
    host := HostSt.cold, uart := Vector.replicate 5 UartSt.cold, adc := AdcSt.cold, therm := ThermSt.cold,
    pwm := Vector.replicate 6 PwmSt.cold, seq := { SeqSt.cold with cutNow := s.seq.cutNow },
    store := { StoreSt.cold with
      diodeOn := s.store.diodeOn, cutHold := s.store.cutHold, vbakCoin := s.store.vbakCoin } }

/-- The fields of a window. -/
def inWindow (base key : Nat) : Bool := key / 32 / 0x1000 == base / 0x1000

/-- Fields a SYSTEM reset keeps: BAK, SYS.RSTCAUSE, the delivered wired bits until they are voted again, and SC while
it is reversed (R60, R64, Corners of spec/09). -/
def systemKeep (reversed : Bool) (key : Nat) : Bool :=
  inWindow 0x40024000 key || key / 32 == 0x40000004 || inWindow 0x40001000 key || (reversed && inWindow 0x4000E000 key)

/-- A SYSTEM reset takes hold at the end of its stop (R57, R60). -/
def systemReset (s : State) : State :=
  if s.powered ∧ s.pwr.sysDue then
    let rev := decide (2 ≤ s.scMode)
    let s1 := s.nvcAbandon.wdStop
    let s2 := { s1 with regs := s1.regs.filter (fun p => systemKeep rev p.1) }
    let s3 := s2.blocksCold.pwrRestart
    if rev then (({ s3 with store := { s3.store with coldAfter := true } }).setPg 15 true).setBit F.SYS_DOMCTL_DSW 1 else s3
  else s

/-- A COLD reset: VSYS has risen above 7.5 V out of OFF or BACKUP (R53, R57, R60). A start-up from VSTOR goes on as a
reversal with STARTUP set (R213). -/
def coldReset (s : State) (src : ColdSrc) : State :=
  if s.powered = false ∧ (src = .vstor → s.scMode = 3) then
    let s1 := s.wdStop
    let s2 := { s1 with regs := s1.regs.filter (fun p => bakKeep p.1) }
    let s3 := s2.blocksCold.pwrRestart
    let s4 := (s3.putB F.SYS_RSTCAUSE_BAKLOST s.bak.fresh).bakUpd (fun b => { b with fresh := false })
    match src with
    | .vin =>
      { s4.put F.SYS_RSTCAUSE_COLD_VIN 1 with
        store := { s4.store with diodeOn := true, cutHold := false }, seq := SeqSt.cold }
    | .vstor =>
      let s5 := ((((s4.put F.SYS_RSTCAUSE_COLD_VSTOR 1).put F.SC_STAT_MODE 2).put F.SC_STAT_STARTUP 1).setPg 15 true).setBit
        F.SYS_DOMCTL_DSW 1
      { s5 with store := { s5.store with diodeOn := false, cutHold := false }, seq := SeqSt.cold }
  else s

/-- The early rail starts without code (R67): its domain and D3 come on and SWn soft-starts toward EARLY_REF. -/
def earlyRailStart (s : State) (fb : Nat) : State :=
  if s.powered ∧ s.pwr.otpOk ∧ s.on F.SYS_OSCSTAT_MOSC_OK ∧ s.pwr.rstLow = false ∧ s.pwr.earlyDone = false ∧
      s.stopping = false then
    let s0 := s.pwrUpd (fun p => { p with earlyDone := true })
    match s.earlyChannel with
    | none => s0
    | some n =>
      let d := 7 + n.val
      let s1 := (((s0.setBit F.SYS_DOMCTL_DSW (d - 2)).setBit F.SYS_DOMCTL_DSW 1).setPg d true).setPg 3 true |>.adcLoad
      (s1.put (F.SW_REF_TARGET n) s.earlyRef).swEnable n fb
  else s

/-! ## SYS.RST (R58, R59, R62) -/

/-- LOCK bits and LK fields survive an ISLAND reset. -/
def keepLocks (key : Nat) : Bool :=
  match (fieldsAt (key / 32)).find? (fun f => f.lo == key % 32) with
  | some f => f.kind == .lk || f.kind == .stk
  | none => false

/-- The islands that take an ISLAND reset (R59). -/
def islandResets (w : Nat) : Bool :=
  w == 0x02 || (decide (0x08 ≤ w) && decide (w ≤ 0x0F)) || w == 0x11 || w == 0x12 || w == 0x14 || w == 0x15 ||
    w == 0x22 || w == 0x26

/-- The block is enabled, or an operation is in progress. -/
def islandBusy (s : State) (w : Nat) : Bool :=
  if w = 0x02 then s.blockOn 2
  else if 0x08 ≤ w ∧ w ≤ 0x0D then s.blockOn (w - 1)
  else if w = 0x0E ∨ w = 0x0F then s.blockOn 15
  else if w = 0x14 ∨ w = 0x15 then s.blockOn (w - 0x0F)
  else if w = 0x26 then s.pwr.qspi.isSome
  else false

/-- The registers of an island that is powered return to Cold, but LOCK bits and LK fields. -/
def islandCold (s : State) (w : Nat) : State :=
  if w = 0x02 then
    let s1 := (s.coldWindow 0x40002000 (fun k => keepSeal k || keepLocks k)).coreUpd
      (fun c => { c with ibuf := none, dbuf := none })
    (s1.nvcUpd (fun n => { Nvc.cold with flushing := n.flushing })).scan
  else if h : 0x08 ≤ w ∧ w ≤ 0x0D then s.swCold ⟨w - 8, by omega⟩ keepLocks
  else if w = 0x0E then s.coldWindow 0x4000E000 keepLocks
  else if w = 0x0F then
    let s1 := s.coldWindow 0x4000F000 keepLocks
    { s1 with store := { s1.store with ntc0 := NtcSt.cold, ntc1 := NtcSt.cold, presence := 0, testDue := false } }
  else if w = 0x11 then s.thermCold keepLocks
  else if w = 0x12 then ((s.coldWindow 0x40012000 keepLocks).adcUpd (fun _ => AdcSt.cold)).adcLoad
  else if w = 0x14 then s.portCold 0 keepLocks
  else if w = 0x15 then s.portCold 1 keepLocks
  else if w = 0x22 then s.pwmCold keepLocks
  else if w = 0x26 then s.qspiCold
  else s

/-- An ISLAND request (R59). -/
def islandReset (s : State) (w : Nat) : State :=
  if islandResets w = false ∨ s.islandBusy w then s.put F.SYS_RSTSTAT_ISL_REFUSED 1
  else
    match windowDomain w with
    | some d => if s.domPg d then s.islandCold w else s
    | none => s.islandCold w

/-- A store to SYS.RST: ring 0 and key 0xA5 (R62). -/
def sysRstWrite (s : State) (ring : Nat) (v : Word) : State :=
  if ring ≠ 0 ∨ bitsOf v 24 8 ≠ 0xA5 then s
  else if bitsOf v 0 2 = 1 then s.put F.SYS_RSTSTAT_CORE_PEND 1
  else if bitsOf v 0 2 = 2 then s.islandReset (bitsOf v 8 8)
  else s

end State

/-! ## Meanings -/

def execColdReset (src : ColdSrc) (s : State) : Answer := .next (s.coldReset src)
def execEarlyRailStart (fbCode : Nat) (s : State) : Answer := .next (s.earlyRailStart fbCode)
def execSystemReset (s : State) : Answer := .next s.systemReset
/-- CORE_RESET_REQUEST: a store to SYS.RST with OP = CORE (R58). -/
def execCoreResetRequest (ring : Ring) (v : Word) (s : State) : Answer :=
  .next (if s.powered ∧ bitsOf v 0 2 = 1 then s.sysRstWrite ring v else s)
/-- ISLAND_RESET: a store to SYS.RST with OP = ISLAND (R59). -/
def execIslandReset (ring : Ring) (v : Word) (s : State) : Answer :=
  .next (if s.powered ∧ bitsOf v 0 2 = 2 then s.sysRstWrite ring v else s)

end Sys2Proof.Machine
end

