-- ==== Sys2Proof/Machine/RegWrite.lean ====
section
/-!
DEFINITION. What a store does when it takes effect in a register window: the fields of R12 by `plainWrite`, and the
registers whose write acts (R7 to R14, and the owning chapters).
-/

namespace Sys2Proof.Machine

namespace State

/-! ## PROT and EVT, inside CORE (R100) -/

/-- An engine frame runs on port `p`: an exchange as master, or a target's answer not yet sent (R141, R261, R274). -/
def frameRuns (s : State) (p : Fin 2) : Bool := s.port[p].exch.isSome || s.port[p].answer.isSome

/-- A PROT register takes a store. A region write makes FENCE.P wait for the frames that now run (R140, R141). -/
def protWrite (s : State) (off ring : Nat) (v : Word) : State :=
  let s1 := s.plainWrite (0x40003000 + off) ring v
  if protRegion off ∧ ring = 0 then
    s1.coreUpd (fun c => { c with fenceP := #v[c.fenceP[0] || s.frameRuns 0, c.fenceP[1] || s.frameRuns 1] })
  else s1

/-- A write of EVT.SWSIG makes E(32 + k) pending in every thread (R93). -/
def swsig (s : State) (ring : Nat) (v : Word) : State :=
  if ring = 0 then (s.pendAll (BitVec.ofNat 64 (v.toNat * 2 ^ 32))).dozeExit else s

/-- HALTREQ halts a thread at its next instruction boundary, but never T0 (R88). Its buffered stores stay, and its
pending word is kept. -/
def haltThread (s : State) (t : Tid) : State :=
  if t = 0 then s else s.setThr t { s.thr t with st := .halted, stall := none, yielding := false, divAt := none }

/-- W1C of a thread's pending bits, `sh` 0 for EVPENDL and 32 for EVPENDH. -/
def evpendClear (s : State) (t : Tid) (sh : Nat) (v : Word) : State :=
  s.setThr t { s.thr t with pend := (s.thr t).pend &&& ~~~(BitVec.ofNat 64 (v.toNat * 2 ^ sh)) }

/-- An EVT register takes a store; every writable field has Ring 0. -/
def evtWrite (s : State) (off ring : Nat) (v : Word) : State :=
  if ring ≠ 0 then s
  else if off = 0x010 then s.swsig ring v
  else if 0x100 ≤ off ∧ off < 0x200 then
    let t : Tid := Fin.ofNat 16 ((off - 0x100) / 16)
    if off % 16 = 4 then
      let s1 := s.plainWrite (0x40004000 + off) ring v
      if bitOf v 8 then s1.haltThread t else s1
    else if off % 16 = 8 then s.evpendClear t 0 v
    else if off % 16 = 12 then s.evpendClear t 32 v
    else s
  else s.plainWrite (0x40004000 + off) ring v

/-! ## The islands -/

/-- SYS and OTP. -/
def sysWrite (s : State) (off ring : Nat) (v : Word) : State :=
  if off = 0x010 then s.clkcfgWrite ring v
  else if off = 0x020 then s.domctlWrite ring v
  else if off = 0x040 then s.sysRstWrite ring v
  else s.plainWrite (0x40000000 + off) ring v

/-- A switching controller. -/
def swWrite (s : State) (n : Fin 6) (off ring : Nat) (v : Word) (e : Sense) : State :=
  if off = 0x000 then s.swCtlWrite n ring v e.fbCode
  else if off = 0x004 then s.swRefWrite n ring v
  else if off = 0x020 then s.swCalWrite n ring v
  else s.plainWrite (0x40008000 + 0x1000 * n.val + off) ring v

/-- SEQ. -/
def seqWrite (s : State) (off ring : Nat) (v : Word) : State :=
  if off < 0x028 ∧ off % 4 = 0 then s.linWrite (off / 4) ring v
  else if off = 0x144 then s.lullGo ring v
  else s.plainWrite (0x40010000 + off) ring v

/-- THERM. -/
def thermWrite (s : State) (off ring : Nat) (v : Word) : State :=
  if off = 0x010 then s.thermStatWrite ring v
  else if off = 0x014 then s.suspClear ring v
  else s.plainWrite (0x40011000 + off) ring v

/-- ADC. -/
def adcWrite (s : State) (off ring : Nat) (v : Word) : State :=
  if off = 0x000 then s.adcCtlWrite ring v
  else if 0x100 ≤ off ∧ off < 0x300 ∧ off % 16 = 0 then s.adcSlotWrite ((off - 0x100) / 16) ring v
  else s.plainWrite (0x40012000 + off) ring v

/-- Px.ENG.CTL: clearing RUN makes the engine resynchronise before it polls again (R260). -/
def engCtlWrite (s : State) (p : Fin 2) (ring : Nat) (v : Word) : State :=
  let s1 := s.plainWrite (F.P_ENG_CTL_RUN p).addr ring v
  if s1.on (F.P_ENG_CTL_RUN p) then s1 else s1.portUpd p (fun x => { x with resync := true })

/-- A port's registers. -/
def portStore (s : State) (p : Fin 2) (off ring : Nat) (v : Word) (e : Sense) : State :=
  if off = 0x000 then s.portCtlWrite p ring v
  else if off = 0x004 then s.portLineWrite p ring v
  else if off = 0x010 then s.portLedgWrite p ring v
  else if off = 0x014 then s.portLimWrite p ring v
  else if off = 0x020 then s.portMeasWrite p ring v
  else if off = 0x028 then s.portCalWrite p ring v e.atMark
  else if off = 0x034 then s.portLedgsWrite p ring v
  else if off = 0x100 then s.engCtlWrite p ring v
  else if off = 0x108 then s.engDoorWrite p ring v
  else if off = 0x120 then s.tsetWrite p ring v
  else if off = 0x12C then s.tselWrite p ring v
  else s.plainWrite (0x40014000 + 0x1000 * p.val + off) ring v

/-- A port: after a store the unit loads are compared with ULMAX again (R244). -/
def portWrite (s : State) (p : Fin 2) (off ring : Nat) (v : Word) (e : Sense) : State :=
  (s.portStore p off ring v e).checkUl p

/-- HOST. -/
def hostWrite (s : State) (off ring : Nat) (v : Word) : State :=
  if off = 0x208 then s.rdatWrite .kernel ring v
  else if off = 0x20C then s.doneWrite .kernel ring v
  else if 0x400 ≤ off ∧ off < 0x800 ∧ off % 0x100 = 8 then s.rdatWrite (.service (Fin.ofNat 4 (off / 0x100 - 4))) ring v
  else if 0x400 ≤ off ∧ off < 0x800 ∧ off % 0x100 = 12 then
    s.doneWrite (.service (Fin.ofNat 4 (off / 0x100 - 4))) ring v
  else s.plainWrite (0x40018000 + off) ring v

/-- A framer. -/
def uartWrite (s : State) (u : Fin 5) (off ring : Nat) (v : Word) : State :=
  if off = 0x000 then s.uartCfgWrite u ring v
  else if off = 0x004 then s.uartDivWrite u ring v
  else if off = 0x008 then s.uartDataWrite u ring v
  else if off = 0x010 then s.uartEvenWrite u ring v
  else if off = 0x014 then s.uartCtlWrite u ring v
  else s.plainWrite (0x4001C000 + 0x1000 * u.val + off) ring v

/-- PWM. -/
def pwmWrite (s : State) (off ring : Nat) (v : Word) (e : Sense) : State :=
  if off < 0x0C0 ∧ off % 0x20 = 0x00 then s.pwmCtlWrite (Fin.ofNat 6 (off / 0x20)) ring v
  else if off < 0x0C0 ∧ off % 0x20 = 0x10 then s.pwmStatWrite (Fin.ofNat 6 (off / 0x20)) ring v e.flt0 e.flt1
  else if off = 0x0C4 then s.pwmStart ring v
  else s.plainWrite (0x40022000 + off) ring v

/-- BAK: registers, the read-only records, the kernel's words (ring 0), and the backup RAM open to every ring
(R347). -/
def bakWrite (s : State) (off ring : Nat) (v : Word) : State :=
  if 0x100 ≤ off then
    if off < 0x180 then s
    else if off < 0x400 then (if ring = 0 then s.setWord (0x40024000 + off) v else s)
    else s.setWord (0x40024000 + off) v
  else if off = 0x014 then s.billArm ring v
  else if off = 0x050 then s.wdCfgWrite ring v
  else if off = 0x054 then s.wdKick ring v
  else if off = 0x060 then s.recclr ring v
  else s.plainWrite (0x40024000 + off) ring v

/-- A word store of `v` from `ring` reaches its register: the registers whose write acts, and plain ones. -/
def writeWord (s : State) (a ring : Nat) (v : Word) (e : Sense) : State :=
  let w := (a - 0x40000000) / 0x1000
  let off := a % 0x1000
  if w = 0x00 then s.sysWrite off ring v
  else if w = 0x01 then (if off = 0x050 then s.otpCmdWrite ring v e.vsysMv else s.plainWrite a ring v)
  else if w = 0x02 then (if off = 0x040 then s.nvcCmdWrite ring v else s.plainWrite a ring v)
  else if w = 0x03 then s.protWrite off ring v
  else if w = 0x04 then s.evtWrite off ring v
  else if h : 0x08 ≤ w ∧ w ≤ 0x0D then s.swWrite ⟨w - 8, by omega⟩ off ring v e
  else if w = 0x0E then (if off = 0x000 then s.scCtlWrite ring v else s.plainWrite a ring v)
  else if w = 0x0F then (if off = 0x000 then s.chgCtlWrite ring v e.vstorMv else s.plainWrite a ring v)
  else if w = 0x10 then s.seqWrite off ring v
  else if w = 0x11 then s.thermWrite off ring v
  else if w = 0x12 then s.adcWrite off ring v
  else if h : w = 0x14 ∨ w = 0x15 then s.portWrite ⟨w - 0x14, by omega⟩ off ring v e
  else if w = 0x18 then s.hostWrite off ring v
  else if h : 0x1C ≤ w ∧ w ≤ 0x20 then s.uartWrite ⟨w - 0x1C, by omega⟩ off ring v
  else if w = 0x22 then s.pwmWrite off ring v e
  else if w = 0x24 then s.bakWrite off ring v
  else if w = 0x26 then (if off = 0x00C then s.qspiCtlWrite ring v else s.plainWrite a ring v)
  else s.plainWrite a ring v

/-- A W1C bit that hardware set in the cycle of the store stays 1 (R8): `s` is the state before the store, `setNow` the
bits hardware sets. LATCH of PWM has its own law (R358). -/
def setWins (s s1 : State) (a : Nat) (setNow : Word) : State :=
  (fieldsAt a).foldl (fun x f =>
    if (f.kind = .w1c ∨ f.kind = .w1cAll) ∧ a / 0x1000 ≠ 0x40022 then
      x.put ⟨a, f.lo, f.width⟩ (x.get ⟨a, f.lo, f.width⟩ ||| (s.get ⟨a, f.lo, f.width⟩ &&& f.part setNow))
    else x) s1

/-- A word store of `v` from `ring` takes effect at the listed register address `a`, whose island has power. -/
def applyWrite (s : State) (a ring : Nat) (v : Word) (e : Sense) : State :=
  s.setWins (s.writeWord a ring v e) a e.setNow

/-- An island is there to take a store: a listed window, aligned, its domain at power-good. -/
def canTake (s : State) (a : Nat) : Bool :=
  s.powered && (windowOf a).isSome && a % 4 == 0 && !s.domOff a

end State

/-! ## Meanings -/

/-- REGISTER_WRITE: a core store takes effect in a register field. -/
def execRegisterWrite (addr : Word) (ring : Ring) (v : Word) (e : Sense) (s : State) : Answer :=
  .next (if s.canTake addr.toNat then s.applyWrite addr.toNat ring v e else s)

def execEvtSwsigWrite (ring : Ring) (v : Word) (s : State) : Answer := .next (if s.powered then s.swsig ring v else s)

/-- HALTREQ: a ring-0 store of TCFGn with HALTREQ = 1. -/
def execHaltreq (ring : Ring) (n : Tid) (s : State) : Answer :=
  .next (if s.powered ∧ ring = 0 then s.haltThread n else s)

/-- PROT_REGION_WRITE: a store to a protection region takes effect on retiring. -/
def execProtRegionWrite (ring : Ring) (off : BitVec 12) (v : Word) (s : State) : Answer :=
  .next (if s.powered ∧ protRegion off.toNat ∧ off.toNat % 4 = 0 then s.protWrite off.toNat ring v else s)

/-- PROT_ECFG_WRITE: EDDYEN takes its value; GALEEN, once 1, stays 1 (R145). -/
def execProtEcfgWrite (ring : Ring) (v : Word) (s : State) : Answer :=
  .next (if s.powered then s.protWrite 0x048 ring v else s)

end Sys2Proof.Machine
end

