-- ==== Sys2Proof/Machine/StoreBuffer.lean ====
section
/-!
DEFINITION. The store buffer and the landing latches (R98 to R104): retirement, draining, application in an island,
forwarding, and the quotas that stall a store.
-/

namespace Sys2Proof.Machine

/-- The window base of the island that owns a rail (R131): the address of the entry a rail instruction takes. -/
def railBase (c : Nat) : Nat :=
  if 1 ≤ c ∧ c ≤ 6 then 0x40007000 + 0x1000 * c
  else if c = 17 then 0x40014000
  else if c = 18 then 0x40015000
  else 0x40010000

/-- An entry carries a rail operation and no data address of its own. -/
def SbEntry.isRail (e : SbEntry) : Bool :=
  match e.op with
  | .store _ _ => false
  | _ => true

namespace State

/-- A thread owes a late DOMOFF with address `a` (R52). A WAITING thread goes on to its next boundary: its WAIT or pgwait
runs again after the fault (R148). -/
def owes (x : Thread) (a : Nat) : Thread :=
  { x with lateDomoff := x.lateDomoff ++ [a], st := if x.isWaiting then .ready else x.st }

/-- A buffered write reached an island whose domain is off (R52): the fault address is the store's; a rail operation
has none stated, so it is free. -/
def lateFault (s : State) (e : SbEntry) : State :=
  let a := if e.isRail then s.fresh % 2 ^ 32 else e.addr
  (s.setThr e.tid (owes (s.thr e.tid) a)).tickFree

/-- An entry retires (R98 to R100): into SRAM, into PROT or EVT, or into its island's landing latch. -/
def retireEntry (s : State) (e : SbEntry) : State :=
  match e.op, inSram e.addr, islandOf e.addr with
  | .store be d, true, _ => s.setWordBe e.addr be d
  | _, _, some isl =>
    if s.domOff e.addr then s.lateFault e
    else s.coreUpd (fun c => { c with latch := c.latch ++ [⟨isl, e⟩] })
  | .store _ d, _, none => if (windowOf e.addr).isSome then s.applyWrite e.addr e.ring d Sense.quiet else s
  | _, _, none => s

/-- The oldest entry retires; stalls that waited for the buffer are tried again. -/
def storeRetire (s : State) : State :=
  match s.core.sb with
  | [] => s
  | e :: t => ((s.coreUpd (fun c => { c with sb := t })).retireEntry e).retryStalls

/-- The oldest `n` entries retire in order. -/
def retireN (s : State) : Nat → State
  | 0 => s
  | n + 1 => s.storeRetire.retireN n

/-- The buffer drains (R105). -/
def drainSb (s : State) : State := s.retireN s.core.sb.length

/-! ## Landing latches -/

/-- A load's request waits at island `isl` with every earlier write applied: the island reads before it applies more
(R97). -/
def loadFirst (s : State) (isl : Island) : Bool :=
  s.core.threads.toList.any (fun x =>
    match x.stall with
    | some (.window ld) => decide (islandOf ld.addr = some isl) && ld.ahead == 0
    | some (.tick _ ahead) => decide (isl = .bak) && ahead == 0
    | _ => false)

/-- One more write ahead of the loads that wait at `isl` has been applied. -/
def loadAhead (s : State) (isl : Island) : State :=
  s.mapThr (fun x =>
    match x.stall with
    | some (.window ld) =>
      if islandOf ld.addr = some isl then { x with stall := some (.window { ld with ahead := ld.ahead - 1 }) } else x
    | some (.tick gd ahead) => if isl = .bak then { x with stall := some (.tick gd (ahead - 1)) } else x
    | _ => x)

/-- What a latched write does in its island. -/
def applyEntry (s : State) (x : SbEntry) (e : Sense) : State :=
  match x.op with
  | .store _ d => s.applyWrite x.addr x.ring d e
  | .setv c code => s.applySetv c code
  | .ramp c code us => s.applyRamp c code us
  | .rail c op => s.applyRail c op e

/-- The first latched write of an island, and the latches without it. -/
def latchTake (isl : Island) : List LatchWrite → Option (SbEntry × List LatchWrite)
  | [] => none
  | w :: t =>
    if w.isl = isl then some (w.ent, t)
    else
      match latchTake isl t with
      | some (x, r) => some (x, w :: r)
      | none => none

/-- An island applies the next write of its latch (R99). -/
def latchApply (s : State) (isl : Island) (e : Sense) : State :=
  if s.powered ∧ s.loadFirst isl = false then
    match latchTake isl s.core.latch with
    | some (x, rest) => (((s.coreUpd (fun c => { c with latch := rest })).applyEntry x e).loadAhead isl).retryStalls
    | none => s
  else s

/-! ## Loads and stores against the buffer -/

/-- The youngest entry that overlaps the loaded bytes. -/
def youngest (s : State) (a size : Nat) : Option SbEntry := s.core.sb.reverse.find? (fun e => e.overlaps a size)

/-- The entry enables every loaded byte. -/
def covers (e : SbEntry) (a size : Nat) : Bool :=
  match e.op with
  | .store be _ => (List.range size).all (fun i => decide (e.addr ≤ a + i) && decide (a + i < e.addr + 4) && be.getLsbD (a + i - e.addr))
  | _ => false

/-- The entry's data. -/
def entData (e : SbEntry) : Word :=
  match e.op with
  | .store _ d => d
  | _ => 0

/-- The bytes of a word from byte `sh` on. -/
def shiftDown (w : Word) (sh : Nat) : Word := w >>> (8 * sh)

/-- `size` bytes of memory as a zero-extended word. -/
def memRead (s : State) (a size : Nat) : Word :=
  if size = 4 then s.word a
  else if size = 2 then ((s.byte (a + 1)) ++ (s.byte a)).setWidth 32
  else (s.byte a).setWidth 32

/-- Memory as it stands once every buffered store to SRAM has retired: what the latest issued stores leave (R103). -/
def sramNow (s : State) : State :=
  s.core.sb.foldl (fun x e =>
    match e.op with
    | .store be d => if inSram e.addr then x.setWordBe e.addr be d else x
    | _ => x) s

/-- A word of memory as the latest issued stores leave it. -/
def wordNow (s : State) (a : Nat) : Word := s.sramNow.word a

/-- A word cut to `size` bytes. -/
def cutTo (w : Word) (size : Nat) : Word :=
  if size = 4 then w else if size = 2 then (w.setWidth 16).setWidth 32 else (w.setWidth 8).setWidth 32

/-- Append an entry. -/
def sbPush (s : State) (e : SbEntry) : State := s.coreUpd (fun c => { c with sb := c.sb ++ [e] })

/-- A store's entry: the aligned word, its byte enables and its data in place. -/
def storeEntry (t : Tid) (ring : Ring) (a size : Nat) (v : Word) : SbEntry :=
  let off := a % 4
  let be : BitVec 4 := if size = 4 then 15 else if size = 2 then 3#4 <<< off else 1#4 <<< off
  ⟨t, ring, a - off, .store be (v <<< (8 * off))⟩

end State

/-! ## Meanings -/

/-- STORE_RETIRE: the oldest entry retires. -/
def execStoreRetire (s : State) : Answer := .next (if s.powered then s.storeRetire else s)

/-- LATCH_APPLY: island `isl` applies the next write of its landing latch. -/
def execLatchApply (isl : Island) (e : Sense) (s : State) : Answer := .next (s.latchApply isl e)

end Sys2Proof.Machine
end

