-- ==== Sys2Proof/Machine/Entry.lean ====
section
/-!
DEFINITION. Protection checks (R94, R138, R392), SQUALL (R154), and taking an entry: the frame (R147 to R149), faults
and their escalation (R152), event lines (R143), GALE lines (R144) and EDDY (R156).
-/

namespace Sys2Proof.Machine

/-! ## Fault causes (R151) -/

def cDOUBLE : Nat := 0x00
def cILLEGAL : Nat := 0x01
def cPRIV : Nat := 0x02
def cALIGN : Nat := 0x03
def cBUS : Nat := 0x04
def cPROT : Nat := 0x05
def cDIVZERO : Nat := 0x06
def cWAITMASK : Nat := 0x07
def cSPAWN : Nat := 0x08
def cGATE : Nat := 0x09
def cRAIL : Nat := 0x0A
def cRAILPERM : Nat := 0x0B
def cDOMOFF : Nat := 0x0C
def cEDDY : Nat := 0x10
def qGM_HOLD : Nat := 0x20
def qGALE_BUDGET : Nat := 0x21
def qFSLIM : Nat := 0x22
def qDOUBLE_MASKED : Nat := 0x23
def qDOUBLE_NOVEC : Nat := 0x24
def qPUSH_BUS : Nat := 0x25

/-- A kind of access: fetch, load, store, or both of the last (R138). -/
structure Acc where
  x : Bool
  r : Bool
  w : Bool
  deriving DecidableEq, Repr

def accX : Acc := ⟨true, false, false⟩
def accR : Acc := ⟨false, true, false⟩
def accW : Acc := ⟨false, false, true⟩
def accRW : Acc := ⟨false, true, true⟩

/-- Sectors 126 and 127 of flash (R94). -/
def journalSector (a : Nat) : Bool := decide (0x1007E000 ≤ a) && decide (a < 0x10080000)

/-- R94 allows a fetch of the halfword at `a`. -/
def fetchAllowed (ring a : Nat) : Bool :=
  (decide (a < 0x10000) && ring == 0) ||
    (inFlash a && (ring == 0 || !journalSector a)) ||
    (decide (0x20000000 ≤ a) && decide (a < 0x200A0000)) ||
    (decide (0x200B8000 ≤ a) && decide (a < 0x200C0000))

/-- R94 allows a data access at `a`. -/
def dataAllowed (ring a : Nat) (k : Acc) : Bool :=
  (inFlash a && !k.w && (ring == 0 || !journalSector a)) || inSram a || (windowOf a).isSome

/-- An access of one granule: region `n` of the block of regions at `base` covers it (R138). -/
def State.rgnCovers (s : State) (base n a : Nat) : Bool :=
  (s.get ⟨base + 8 * n, 0, 4⟩).testBit 0 && decide (s.get ⟨base + 8 * n, 8, 24⟩ ≤ a / 256) &&
    decide (a / 256 ≤ s.get ⟨base + 8 * n + 4, 8, 24⟩)

/-- Bit `b` of a region's control bits: 1 R, 2 W, 3 X. -/
def State.rgnBit (s : State) (base n b : Nat) : Bool := (s.get ⟨base + 8 * n, 0, 4⟩).testBit b

/-- Some enabled region of the block covers `a` with bit `b`. -/
def State.rgnAny (s : State) (base count a b : Nat) : Bool :=
  (List.range count).any (fun n => s.rgnCovers base n a && s.rgnBit base n b)

/-- R138: guard regions deny at ring 0; at rings 1 to 3 each permission needed is granted by some region. -/
def State.protAllows (s : State) (ring a : Nat) (k : Acc) : Bool :=
  if ring = 0 then
    !(k.r && s.rgnAny 0x40003000 4 a 1) && !(k.w && s.rgnAny 0x40003000 4 a 2) && !(k.x && s.rgnAny 0x40003000 4 a 3)
  else
    let base := 0x40003000 + 0x100 * ring
    (!k.r || s.rgnAny base 16 a 1) && (!k.w || s.rgnAny base 16 a 2) && (!k.x || s.rgnAny base 16 a 3)

/-- The first rule of R392 that a data access of `size` bytes at `a` breaks at issue. A store enters the buffer in its
issue cycle (R98), so an island that is off faults it when it retires (R52). -/
def State.dataFault (s : State) (ring a size : Nat) (k : Acc) : Option Nat :=
  if a % size ≠ 0 ∨ (size ≠ 4 ∧ (windowOf a).isSome) then some cALIGN
  else if dataAllowed ring a k = false then some cBUS
  else if s.protAllows ring a k = false then some cPROT
  else if s.domOff a ∧ k.w = false then some cDOMOFF
  else none

namespace State

/-! ## SQUALL (R154, R348) -/

/-- The core stops, the buffer drains, the record is written and LULL starts; it ends in a SYSTEM reset. -/
def squall (s : State) (cause : Nat) (t : Tid) (detail : Nat) : State :=
  if s.core.squall then s
  else
    let s1 := (s.drainSb.coreUpd (fun c => { c with squall := true })).mapThr (fun x => { x with stall := none })
    ((s1.squallRecord cause t detail).put F.SYS_RSTCAUSE_SQUALL 1).lullStart 4 false true

/-! ## Vectors and fault stacks -/

/-- A vector-table entry (R153), as the latest issued stores leave it. -/
def vec (s : State) (k : Nat) : Word × Word :=
  (s.wordNow (s.core.vbase.toNat + 8 * k), s.wordNow (s.core.vbase.toNat + 8 * k + 4))

/-- The handler and the ring of a usable vector. -/
def vecUsable (s : State) (k : Nat) : Option (Word × Nat) :=
  let v := s.vec k
  if bitOf v.2 31 ∧ bitsOf v.2 2 29 = 0 ∧ bitOf v.1 0 = false ∧ bitsOf v.2 0 2 ≤ 2 then some (v.1, bitsOf v.2 0 2)
  else none

/-- The span of the fault stack of ring `h` in bytes, when it is valid (R149). -/
def fstackSpan (s : State) (h : Fin 3) : Option Nat :=
  let top := s.core.fstop[h].toNat
  let lim := s.core.fslim[h].toNat
  if lim < top ∧ (top - lim) % 512 = 0 ∧ 1024 ≤ top - lim ∧ top - lim ≤ 65536 ∧ inSram lim ∧ top ≤ 0x200C0000 then
    some (top - lim)
  else none

/-- The slice top of thread `t` on the stack of ring `h`; S = (FSTOPh − FSLIMh) / 16. -/
def sliceTop (s : State) (t : Tid) (h : Fin 3) : Word :=
  s.core.fstop[h] - BitVec.ofNat 32 t.val * ((s.core.fstop[h] - s.core.fslim[h]) >>> 4)

/-- The thread's pointer on the stack of ring `h`. -/
def fsp (s : State) (t : Tid) (h : Fin 3) : Word := s.sliceTop t h - BitVec.ofNat 32 ((s.thr t).fsUsed[h])

/-- What a frame holds (R148). -/
structure Frame where
  pc : Word
  psw : Word
  info : Word
  faddr : Word
  g0 : Word
  g1 : Word
  g14 : Word
  g15 : Word
  deriving DecidableEq, Repr

/-- The eight words of a frame, lowest address first. -/
def frameWords (f : Frame) : List Word := [f.pc, f.psw, f.info, f.faddr, f.g0, f.g1, f.g14, f.g15]

/-- Words to memory from `a` on. -/
def writeWords (s : State) (a : Nat) : List Word → State
  | [] => s
  | w :: t => (s.setWord a w).writeWords (a + 4) t

/-- A frame goes onto thread `t`'s fault stack for ring `h`: the new state and the frame address, or the SQUALL cause
that prevents it (R147, R149). -/
def pushFrame (s : State) (t : Tid) (h : Fin 3) (f : Frame) : Except Nat (State × Word) :=
  match s.fstackSpan h with
  | none => .error qFSLIM
  | some span =>
    let used := (s.thr t).fsUsed[h] + 32
    if span / 16 < used then .error qFSLIM
    else
      let a := s.sliceTop t h - BitVec.ofNat 32 used
      if a.toNat % 4 ≠ 0 then .error qPUSH_BUS
      else
        let s1 := s.writeWords a.toNat (frameWords f)
        .ok (s1.setThr t { s1.thr t with fsUsed := (s1.thr t).fsUsed.set h used }, a)

/-- INFO of a frame. -/
def infoWord (code pclass : Nat) (t : Tid) (orig : Nat) : Word :=
  BitVec.ofNat 32 (code % 256 + pclass % 4 * 2 ^ 8 + t.val * 2 ^ 10 + orig % 256 * 2 ^ 16)

/-! ## Entry (R147) -/

/-- What an entry needs beyond the thread: CODE, the original cause, FADDR, the handler, ring, LVL and class. -/
structure EntryReq where
  code : Nat
  orig : Nat
  faddr : Word
  handler : Word
  ring : Fin 3
  lvl : Nat
  cls : Nat
  deriving DecidableEq, Repr

/-- A thread that enters runs on: a wait, a stall, a yield or a division it was in is abandoned (R102, R120, R148). A
thread that its own drain halted stays HALTED. -/
def entered (x : Thread) : Thread :=
  { x with stall := none, yielding := false, divAt := none, st := if x.st = .halted then .halted else .ready }

/-- An entry on thread `t`, the buffer being empty. -/
def enter (s : State) (t : Tid) (q : EntryReq) : State :=
  let x := s.thr t
  let info := infoWord q.code (s.cls t) t q.orig
  match s.pushFrame t q.ring ⟨x.pc, x.psw, info, q.faddr, x.reg 0, x.reg 1, x.reg 14, x.reg 15⟩ with
  | .error c => s.squall c t (if c = qFSLIM then q.ring.val else 0)
  | .ok (s1, a) =>
    let y := entered (s1.thr t)
    let y1 := ((y.setReg 0 info).setReg 1 q.faddr).setReg 15 a
    (s1.setThr t { y1 with pc := q.handler, psw := mkPsw q.lvl false q.ring.val y.flags }).put (F.EVT_TCFG_CLASS t) q.cls

/-- Class of a fault, double fault or EDDY entry: the higher of the current class and GUST. -/
def faultClass (s : State) (t : Tid) : Nat := max (s.cls t) 2

/-- A fault that cannot be entered escalates to DOUBLE, or to a SQUALL (R152); where both causes of a SQUALL hold, the
mask's is recorded (DESIGN CHOICE, log entry 65). -/
def double (s : State) (t : Tid) (cause : Nat) (faddr : Word) : State :=
  let x := s.thr t
  if x.gm ∨ x.lvl = 7 then s.squall qDOUBLE_MASKED t cause
  else
    match s.vecUsable 64 with
    | none => s.squall qDOUBLE_NOVEC t cause
    | some (hd, _) => s.enter t ⟨cDOUBLE, cause, faddr, hd, 0, 7, s.faultClass t⟩

/-- A synchronous fault of thread `t` (R152): the buffer drains, and the fault is entered or escalates. A GALE handler that
has lowered its own LVL enters its faults as any code does (DEDUCED, log entry 66). -/
def fault (s0 : State) (t : Tid) (cause : Nat) (faddr : Word) : State :=
  let s := s0.drainSb
  let x := s.thr t
  match s.vecUsable (64 + cause) with
  | some (hd, r) =>
    if h : x.gm = false ∧ x.lvl < s.core.flvl ∧ r ≤ x.ring ∧ r < 3 then
      s.enter t ⟨cause, 0, faddr, hd, ⟨r, h.2.2.2⟩, x.lvl, s.faultClass t⟩
    else s.double t cause faddr
  | none => s.double t cause faddr

/-! ## Candidates for entry (R143, R144, R156) -/

/-- Some thread holds PSW.GM. -/
def gmHeld (s : State) : Bool := s.core.threads.toList.any (fun x => x.gm)

/-- Entries can be taken at all: the core runs, no thread holds GM and no GALE handler runs. -/
def canEnter (s : State) : Bool := s.coreLive && s.pwr.state = .run && !s.gmHeld && s.core.gale.isNone

/-- The target thread of line `k`. -/
def target (s : State) (k : Nat) : Tid := Fin.ofNat 16 (s.get (F.EVT_ROUTE_TARGET k))

/-- The level of line `k`. -/
def level (s : State) (k : Nat) : Nat := s.get (F.EVT_ROUTE_LEVEL k)

/-- A GALE line asks for entry, its vector apart. -/
def galeAsks (s : State) (k : Nat) : Bool :=
  galeLine k && s.on F.PROT_ECFG_GALEEN && (s.thr (s.target k)).pend.getLsbD k

/-- A GALE line can be entered. -/
def galeCan (s : State) (k : Nat) : Bool := s.galeAsks k && (s.vecUsable k).isSome

/-- The GALE line that is entered next: the lowest. -/
def galeNext (s : State) : Option Nat := (List.range 64).find? (fun k => s.galeCan k)

/-- An ordinary line asks for entry, its vector apart. -/
def lineAsks (s : State) (k : Nat) : Bool :=
  let x := s.thr (s.target k)
  !galeLine k && decide (1 ≤ s.level k) && x.pend.getLsbD k && decide (x.st ≠ .halted) && decide (x.lvl < s.level k)

/-- An ordinary line can be entered. -/
def lineCan (s : State) (k : Nat) : Bool :=
  s.lineAsks k &&
    (match s.vecUsable k with
     | some (_, r) => decide (r ≤ (s.thr (s.target k)).ring)
     | none => false)

/-- The EDDY entry can be taken on T0. -/
def eddyCan (s : State) : Bool := s.core.eddyHeld && decide ((s.thr 0).lvl < s.core.flvl)

/-- Line `j` goes before line `k`: higher level, then lower thread, then lower line. -/
def lineBefore (s : State) (j k : Nat) : Bool :=
  decide (s.level k < s.level j) ||
    (s.level j == s.level k &&
      (decide ((s.target j).val < (s.target k).val) || (s.target j == s.target k && decide (j < k))))

/-- Line `k` is the one entered next among the ordinary lines and EDDY. -/
def lineFirst (s : State) (k : Nat) : Bool :=
  s.galeNext.isNone && (List.range 64).all (fun j => !(s.lineCan j && s.lineBefore j k)) &&
    !(s.eddyCan && decide (s.level k ≤ s.core.flvl))

/-- EDDY is entered next: no line of a higher level can be entered. -/
def eddyFirst (s : State) : Bool :=
  s.eddyCan && s.galeNext.isNone && (List.range 64).all (fun j => !(s.lineCan j && decide (s.core.flvl < s.level j)))

/-- Some entry can be taken now; no instruction issues before it. -/
def entryDue (s : State) : Bool :=
  s.canEnter && (s.galeNext.isSome || s.eddyCan || (List.range 64).any (fun k => s.lineCan k))

/-- Clear a pending bit of a thread. -/
def unpend (s : State) (t : Tid) (k : Nat) : State :=
  s.setThr t { s.thr t with pend := (s.thr t).pend &&& ~~~(lineMask k) }

/-- A line was not entered for an unusable vector. -/
def noVec (s : State) : State := s.put F.PROT_FSTAT_NOVEC 1

/-- An ordinary event line is entered (R143). -/
def eventEntry (s0 : State) (k : Nat) : State :=
  if s0.canEnter ∧ s0.lineAsks k then
    match s0.vecUsable k with
    | none => s0.noVec
    | some (hd, r) =>
      if h : s0.lineCan k ∧ s0.lineFirst k ∧ r < 3 then
        let s := s0.drainSb
        let t := s0.target k
        (s.unpend t k).enter t ⟨0x40 + k, 0, 0, hd, ⟨r, h.2.2⟩, s0.level k, s0.get (F.EVT_ROUTE_CLASS k)⟩
      else s0
  else s0

/-- A GALE line is entered (R144), on T0 when its target is HALTED; the handler's span begins (R155). -/
def galeEntry (s0 : State) (k : Nat) : State :=
  if s0.canEnter ∧ s0.galeAsks k then
    match s0.vecUsable k with
    | none => s0.noVec
    | some (hd, _) =>
      if s0.galeNext = some k then
        let d := s0.drainSb
        let t : Tid := if (d.thr (s0.target k)).st = .halted then 0 else s0.target k
        let s := (d.unpend (s0.target k) k).unpend t k
        let s1 := s.enter t ⟨0x40 + k, 0, 0, hd, 0, 7, 3⟩
        if s1.core.squall then s1
        else s1.coreUpd (fun c => { c with gale := some ⟨t, k, (s1.thr t).fsUsed[0], 0⟩ })
      else s0
  else s0

/-! ## EDDY (R156) -/

/-- The thread is HALTED, or WAITING in a WAIT whose mask holds no hardware line. -/
def eddyStuck (x : Thread) : Bool :=
  match x.st with
  | .halted => true
  | .waiting (.event m) => m.extractLsb' 0 32 == 0
  | _ => false

/-- The EDDY condition. -/
def eddyCond (s : State) : Bool :=
  (s.thr 0).isWaiting &&
    (List.finRange 16).all (fun (t : Tid) => t == 0 || eddyStuck (s.thr t)) &&
    (List.finRange 16).any (fun (t : Tid) => t != 0 && (s.thr t).isWaiting) &&
    (List.range 64).all (fun k => s.level k == 0 || s.target k == 0)

/-- Record one waiting thread's mask. -/
def eddyMask (s : State) (t : Tid) : State :=
  if (s.thr t).isWaiting then
    (s.put (F.PROT_EDDYML_M t) ((s.thr t).waitMask.extractLsb' 0 32).toNat).put (F.PROT_EDDYMH_M t)
      ((s.thr t).waitMask.extractLsb' 32 32).toNat
  else s

/-- EDDY detects the deadlock: once for each time it arises. -/
def eddyDetect (s : State) : State :=
  if s.coreLive ∧ s.on F.PROT_ECFG_EDDYEN ∧ s.core.eddySeen = false ∧ s.eddyCond then
    let s1 := s.put F.PROT_EDDYTHR_THR ((List.finRange 16).foldl
      (fun n (t : Tid) => if (s.thr t).isWaiting then n + 2 ^ t.val else n) 0)
    let s2 := (List.finRange 16).foldl (fun x (t : Tid) => x.eddyMask t) s1
    let s3 := (s2.put F.PROT_FSTAT_EDDY 1).coreUpd (fun c => { c with eddyHeld := true, eddySeen := true })
    if s3.pwr.state = .doze then s3.pwrUpd (fun p => { p with state := .run }) else s3
  else s

/-- The held EDDY cause is entered on T0 through its vector when that is usable with RING 0, or escalates. -/
def eddyEntry (s0 : State) : State :=
  if s0.canEnter ∧ s0.eddyFirst then
    let s := s0.drainSb.coreUpd (fun c => { c with eddyHeld := false })
    match s.vecUsable (64 + cEDDY) with
    | some (hd, 0) => s.enter 0 ⟨cEDDY, 0, 0, hd, 0, (s.thr 0).lvl, s.faultClass 0⟩
    | _ =>
      match s.vecUsable 64 with
      | none => s.squall qDOUBLE_NOVEC 0 cEDDY
      | some _ => s.double 0 cEDDY 0
  else s0

/-! ## Limits and crossings -/

/-- A hold of GM reaches 49 core cycles (R146). -/
def gmLimit (s : State) : State :=
  match (List.finRange 16).find? (fun (t : Tid) => (s.thr t).gm) with
  | some t => if s.coreLive then s.squall qGM_HOLD t 0 else s
  | none => s

/-- A GALE handler's count reaches 257 (R155). -/
def galeLimit (s : State) : State :=
  match s.core.gale with
  | some g => if s.coreLive then s.squall qGALE_BUDGET g.tid g.line else s
  | none => s

/-- A hardware line reaches CORE (R91, R93). A GALE line ends DOZE by itself; any other line when a thread waited for
it (R53). -/
def hwPending (s : State) (k : Nat) : State :=
  if s.coreLive ∧ s.core.raised.getLsbD k then
    let s1 := ((s.coreUpd (fun c => { c with raised := clr32 c.raised k })).pendAll (lineMask k)).dozeExit
    if galeLine k ∧ s1.pwr.state = .doze then s1.pwrUpd (fun p => { p with state := .run }) else s1
  else s

end State

/-! ## Meanings -/

def execHwEventPending (k : Fin 32) (s : State) : Answer := .next (s.hwPending k)
def execEventEntry (k : Fin 64) (s : State) : Answer := .next (s.eventEntry k)
def execGaleEntry (k : Fin 64) (s : State) : Answer := .next (s.galeEntry k)
def execEddyDetect (s : State) : Answer := .next s.eddyDetect
def execEddyEntry (s : State) : Answer := .next s.eddyEntry
def execGmHoldLimit (s : State) : Answer := .next s.gmLimit
def execGaleBudgetExceeded (s : State) : Answer := .next s.galeLimit

end Sys2Proof.Machine
end

