-- ==== Sys2Proof/Machine/Flags.lean ====
section
/-!
DEFINITION. The flag rules of R118 and the results of R119: addition and subtraction with carry, shifts, rotation,
multiplication and division.
-/

namespace Sys2Proof.Machine

/-- The flags of the PSW (R89). -/
structure Flags where
  z : Bool
  n : Bool
  c : Bool
  v : Bool
  deriving DecidableEq, Repr

/-- A thread's flags: Z, N, C, V in PSW bits 8 to 11. -/
def Thread.fl (x : Thread) : Flags := ⟨bitOf x.psw 8, bitOf x.psw 9, bitOf x.psw 10, bitOf x.psw 11⟩

/-- Flags as a number, Z in bit 0. -/
def Flags.num (f : Flags) : Nat :=
  (if f.z then 1 else 0) + (if f.n then 2 else 0) + (if f.c then 4 else 0) + (if f.v then 8 else 0)

/-- Write the flags; LVL, GM and RING stay. -/
def Thread.setFl (x : Thread) (f : Flags) : Thread := { x with psw := mkPsw x.lvl x.gm x.ring f.num }

/-- Z and N of a result; C and V stay. -/
def Flags.zn (f : Flags) (r : Word) : Flags := { f with z := r == 0, n := r.msb }

/-- Z, N and C. -/
def Flags.znc (f : Flags) (r : Word) (c : Bool) : Flags := { f.zn r with c := c }

/-- A signed value that does not fit 32 bits. -/
def overflows (i : Int) : Bool := decide (i < -2147483648) || decide (2147483647 < i)

/-- One for true. -/
def b2n (b : Bool) : Nat := if b then 1 else 0

/-- a + b + carry: C is the carry out of bit 31, V signed overflow. -/
def addOp (a b : Word) (cin : Bool) : Word × Flags :=
  let r := a + b + BitVec.ofNat 32 (b2n cin)
  (r, ⟨r == 0, r.msb, decide (2 ^ 32 ≤ a.toNat + b.toNat + b2n cin), overflows (a.toInt + b.toInt + b2n cin)⟩)

/-- a − b − borrow: C is 1 when no borrow occurs, V signed overflow. -/
def subOp (a b : Word) (bin : Bool) : Word × Flags :=
  let r := a - b - BitVec.ofNat 32 (b2n bin)
  (r, ⟨r == 0, r.msb, decide (b.toNat + b2n bin ≤ a.toNat), overflows (a.toInt - b.toInt - b2n bin)⟩)

/-- shl by n: the result and the last bit out; a shift by 0 has none. -/
def shlOp (a : Word) (n : Nat) : Word × Option Bool :=
  (a <<< n, if n = 0 then none else if n ≤ 32 then some (a.getLsbD (32 - n)) else some false)

/-- shr by n. -/
def shrOp (a : Word) (n : Nat) : Word × Option Bool :=
  (a >>> n, if n = 0 then none else if n ≤ 32 then some (a.getLsbD (n - 1)) else some false)

/-- sar by n: beyond 32 the result and C are the sign. -/
def sarOp (a : Word) (n : Nat) : Word × Option Bool :=
  (a.sshiftRight n, if n = 0 then none else if n ≤ 32 then some (a.getLsbD (n - 1)) else some a.msb)

/-- ror by b[4:0]. -/
def rorOp (a : Word) (n : Nat) : Word × Option Bool :=
  (a.rotateRight n, if n = 0 then none else some (a.getLsbD (n - 1)))

/-- ZNC of a shift: no bit out leaves C unchanged. -/
def Flags.shift (f : Flags) (r : Word × Option Bool) : Flags :=
  match r.2 with
  | some c => f.znc r.1 c
  | none => f.zn r.1

/-- The low 32 bits of a product. -/
def mulOp (a b : Word) : Word := a * b

/-- The high 32 bits of a signed and of an unsigned product. -/
def mulhOp (a b : Word) : Word := BitVec.ofInt 32 (a.toInt * b.toInt / 2 ^ 32)
def mulhuOp (a b : Word) : Word := BitVec.ofNat 32 (a.toNat * b.toNat / 2 ^ 32)

/-- The one signed division that overflows (R120). -/
def divOverflow (a b : Word) : Bool := a == 0x80000000 && b == 0xFFFFFFFF

/-- Signed quotient rounded toward zero, and its remainder with the sign of a. -/
def divOp (a b : Word) : Word := if divOverflow a b then 0x80000000 else BitVec.ofInt 32 (a.toInt.tdiv b.toInt)
def remOp (a b : Word) : Word := if divOverflow a b then 0 else BitVec.ofInt 32 (a.toInt.tmod b.toInt)

/-- Unsigned quotient and remainder. -/
def divuOp (a b : Word) : Word := BitVec.ofNat 32 (a.toNat / b.toNat)
def remuOp (a b : Word) : Word := BitVec.ofNat 32 (a.toNat % b.toNat)

/-- The branch tests of R117. -/
def condHolds (c : Cond) (f : Flags) : Bool :=
  match c with
  | .al => true
  | .eq => f.z
  | .ne => !f.z
  | .ult => !f.c
  | .uge => f.c
  | .ugt => f.c && !f.z
  | .ule => !f.c || f.z
  | .slt => f.n != f.v
  | .sge => f.n == f.v
  | .sgt => !f.z && f.n == f.v
  | .sle => f.z || f.n != f.v
  | .neg => f.n
  | .pos => !f.n
  | .ovf => f.v
  | .nov => !f.v

end Sys2Proof.Machine
end

