-- ==== Sys2Proof/Machine/Operands.lean ====
section
/-!
DEFINITION. The operand forms of R114 to R116: where an instruction's operands come from, how long it is, and the
addresses of its memory forms and branch targets.
-/

namespace Sys2Proof

open Sys2Proof.Machine

/-- Destination and first operand of a 16-bit form are gd; the 32-bit form names three registers (R119). -/
def AluForm.dst (f : AluForm) : Gpr :=
  match f with
  | .short gd _ => gd
  | .long gd _ _ => gd

def AluForm.a (f : AluForm) (x : Thread) : Word :=
  match f with
  | .short gd _ => x.reg gd
  | .long _ gs _ => x.reg gs

def AluForm.b (f : AluForm) (x : Thread) : Word :=
  match f with
  | .short _ gs => x.reg gs
  | .long _ _ gt => x.reg gt

/-- Length in bytes. -/
def AluForm.len (f : AluForm) : Nat :=
  match f with
  | .short _ _ => 2
  | .long _ _ _ => 4

/-- A sign-extended and a zero-extended immediate (R116). -/
def simm {n : Nat} (v : BitVec n) : Word := v.signExtend 32
def uimm {n : Nat} (v : BitVec n) : Word := v.setWidth 32

def MoviForm.dst (f : MoviForm) : Gpr :=
  match f with
  | .short gd _ => gd
  | .long gd _ => gd

def MoviForm.val (f : MoviForm) : Word :=
  match f with
  | .short _ i => simm i
  | .long _ i => simm i

def MoviForm.len (f : MoviForm) : Nat :=
  match f with
  | .short _ _ => 2
  | .long _ _ => 4

def AddiForm.dst (f : AddiForm) : Gpr :=
  match f with
  | .short gd _ => gd
  | .long gd _ _ => gd

def AddiForm.a (f : AddiForm) (x : Thread) : Word :=
  match f with
  | .short gd _ => x.reg gd
  | .long _ gs _ => x.reg gs

def AddiForm.val (f : AddiForm) : Word :=
  match f with
  | .short _ i => simm i
  | .long _ _ i => simm i

def AddiForm.len (f : AddiForm) : Nat :=
  match f with
  | .short _ _ => 2
  | .long _ _ _ => 4

def CmpiForm.a (f : CmpiForm) (x : Thread) : Word :=
  match f with
  | .short gs _ => x.reg gs
  | .long gs _ => x.reg gs

def CmpiForm.val (f : CmpiForm) : Word :=
  match f with
  | .short _ i => simm i
  | .long _ i => simm i

def CmpiForm.len (f : CmpiForm) : Nat :=
  match f with
  | .short _ _ => 2
  | .long _ _ => 4

/-! ## Memory forms -/

/-- The loaded or stored register. -/
def MemForm.r (f : MemForm) : Gpr :=
  match f with
  | .u4 r _ _ => r
  | .sp r _ => r
  | .base r _ _ => r
  | .abs r _ _ => r

/-- The base of an addressing region of format A. -/
def regionBase (k : Fin 4) : Word :=
  match k with
  | 0 => 0x10000000
  | 1 => 0x20000000
  | _ => 0x40000000

/-- The accessed address, for an access of `size` bytes. -/
def MemForm.addr (f : MemForm) (x : Thread) (size : Nat) : Word :=
  match f with
  | .u4 _ gs o => x.reg gs + BitVec.ofNat 32 (4 * o.toNat)
  | .sp _ o => x.reg 15 + BitVec.ofNat 32 (4 * o.toNat)
  | .base _ gs o => x.reg gs + simm o
  | .abs _ k o => regionBase k + BitVec.ofNat 32 (o.toNat * size)

def MemForm.len (f : MemForm) : Nat :=
  match f with
  | .u4 _ _ _ => 2
  | .sp _ _ => 2
  | .base _ _ _ => 4
  | .abs _ _ _ => 4

/-- The form names the reserved region 3 (R115, R116). -/
def MemForm.reserved (f : MemForm) : Bool :=
  match f with
  | .abs _ k _ => k == 3
  | _ => false

/-! ## Branches -/

/-- The target of a PC-relative field: halfwords from the instruction's own address (R116). -/
def relTarget {n : Nat} (pc : Word) (off : BitVec n) : Word := pc + (simm off <<< 1)

def BcondForm.target (f : BcondForm) (pc : Word) : Word :=
  match f with
  | .short o => relTarget pc o
  | .long o => relTarget pc o

def BcondForm.len (f : BcondForm) : Nat :=
  match f with
  | .short _ => 2
  | .long _ => 4

def BrForm.target (f : BrForm) (pc : Word) : Word :=
  match f with
  | .short o => relTarget pc o
  | .long o => relTarget pc o

def BrForm.len (f : BrForm) : Nat :=
  match f with
  | .short _ => 2
  | .long _ => 4

end Sys2Proof
end

