-- ==== Sys2Proof/Machine/Issue.lean ====
section
/-!
DEFINITION. The issue of an instruction: the choice among threads (R15, R85, R86), the fetch (R94, R161, R391, R392),
what an issue counts (R90, R146, R155), and the stalls of R102.
-/

namespace Sys2Proof.Machine

/-- What an instruction's own rules come to: it executes, taking core cycles; it faults; or it stalls unexecuted. -/
inductive Res where
  | done (s : State) (cycles : Nat)
  | flt (cause : Nat) (faddr : Word)
  /-- a block move faults at a word and keeps the words before it, and its cycles (R90, R112, R130). -/
  | part (s : State) (cycles : Nat) (cause : Nat) (faddr : Word)
  | stall (s : State) (why : Stall)
  deriving DecidableEq, Repr

/-- What a fetch comes to. -/
inductive FetchRes where
  | ok
  | flt (cause : Nat) (faddr : Nat)
  | miss (granule : Nat)
  deriving DecidableEq, Repr

namespace State

/-! ## The choice among threads -/

/-- READY, and not stalled or inside a yield (R85, R86, R123). -/
def isReady (x : Thread) : Bool := decide (x.st = .ready) && x.stall.isNone && !x.yielding

/-- A ready thread that GM and a running GALE handler let issue (R146, R155). -/
def mayIssue (s : State) (t : Tid) : Bool :=
  isReady (s.thr t) && (!s.gmHeld || (s.thr t).gm) &&
    (match s.core.gale with
     | some g => g.tid == t
     | none => true)

/-- How far thread `t` lies after the pointer of its class. -/
def rrDist (s : State) (t : Tid) : Nat := (t.val + 16 - (s.core.rr[Fin.ofNat 4 (s.cls t)]).val) % 16

/-- The first thread of the highest class, from that class's pointer (R86). -/
def chosen (s : State) (t : Tid) : Bool :=
  s.mayIssue t && (List.finRange 16).all (fun (u : Tid) =>
    !s.mayIssue u || decide (s.cls u < s.cls t) || (s.cls u == s.cls t && decide (s.rrDist t ≤ s.rrDist u)))

/-- Thread `t` issues at this issue decision: the core runs, no entry comes first, and the thread is chosen. -/
def canIssue (s : State) (t : Tid) : Bool :=
  s.coreLive && decide (s.pwr.state = .run) && !s.entryDue && s.chosen t

/-! ## Fetch -/

/-- A granule's address. -/
def granOf (a : Nat) : Nat := a - a % 16

/-- One halfword's fetch from flash: its line buffer serves it, or it misses. -/
def fetchFlash (s : State) (a : Nat) : FetchRes :=
  match s.core.ibuf with
  | some l => if l.granule = granOf a then (if l.status = 2 ∨ l.status = 4 then .flt cBUS a else .ok) else .miss (granOf a)
  | none => .miss (granOf a)

/-- One halfword's fetch, in the order of R392. -/
def fetchHalf (s : State) (ring a : Nat) : FetchRes :=
  if fetchAllowed ring a = false then .flt cBUS a
  else if s.protAllows ring a accX = false then .flt cPROT a
  else if s.domOff a then .flt cDOMOFF a
  else if inFlash a then s.fetchFlash a
  else .ok

/-- The first halfword was fetched before a line that now holds the second halfword's granule. -/
def heldH0 (s : State) (pc : Nat) : Bool :=
  inFlash pc && decide (granOf pc ≠ granOf (pc + 2)) &&
    (match s.core.ibuf with
     | some l => l.granule == granOf (pc + 2)
     | none => false)

/-- The fetch of an instruction of 2 or 4 bytes (R110). -/
def fetch (s : State) (ring pc len : Nat) : FetchRes :=
  if len = 4 ∧ s.heldH0 pc then
    if fetchAllowed ring pc = false then .flt cBUS pc
    else if s.protAllows ring pc accX = false then .flt cPROT pc
    else s.fetchHalf ring (pc + 2)
  else
    match s.fetchHalf ring pc with
    | .ok => if len = 4 then s.fetchHalf ring ((pc + 2) % 2 ^ 32) else .ok
    | r => r

/-! ## Accounting -/

/-- The count of a GALE handler's span (R155). -/
def galeCount (s : State) (t : Tid) (n : Nat) : State :=
  match s.core.gale with
  | some g =>
    if g.tid = t then
      if 257 ≤ g.count + n then s.squall qGALE_BUDGET t g.line
      else s.coreUpd (fun c => { c with gale := some { g with count := g.count + n } })
    else s
  | none => s

/-- The hold of GM: from the instruction that sets it to the one that clears it (R146). -/
def gmCount (s : State) (t : Tid) (was : Bool) (n : Nat) : State :=
  let now := (s.thr t).gm
  let h := if was || now then s.core.gmHold + n else 0
  if 49 ≤ h then s.squall qGM_HOLD t 0
  else s.coreUpd (fun c => { c with gmHold := if now then h else 0 })

/-- What the issue of an instruction of `n` core cycles counts: the pointer of its class moves on, ICNT grows. -/
def account (s0 s : State) (t : Tid) (n : Nat) : State :=
  if s.core.squall then s
  else
    let s1 := s.coreUpd (fun c => { c with
      rr := c.rr.set (Fin.ofNat 4 (s0.cls t)) (t + 1), awake := true, eddySeen := false })
    let s2 := s1.setThr t { s1.thr t with icnt := (s1.thr t).icnt + BitVec.ofNat 32 n }
    (s2.galeCount t n).gmCount t (s0.thr t).gm n

/-- An instruction that issued for `n` core cycles faults: the issue counts (R86, R90), and the fault is taken unless it
ended in a SQUALL. -/
def faulted (s0 s : State) (t : Tid) (n cause : Nat) (faddr : Word) : State :=
  let s1 := account s0 s t n
  if s1.core.squall then s1 else s1.fault t cause faddr

/-- A thread stalls. -/
def stallOn (s : State) (t : Tid) (y : Stall) : State := s.setThr t { s.thr t with stall := some y }

/-- An instruction of `len` bytes is issued by thread `t`: a late DOMOFF comes first (R52), then the fetch, then the
instruction's own rules. -/
def issue (s : State) (t : Tid) (len : Nat) (body : State → Thread → Res) : State :=
  if s.canIssue t then
    let x := s.thr t
    match x.lateDomoff with
    | a :: rest => (s.setThr t { x with lateDomoff := rest }).fault t cDOMOFF (BitVec.ofNat 32 a)
    | [] =>
      if s.protPending then s.stallOn t (.retry .regions)
      else
        match s.fetch x.ring x.pc.toNat len with
        | .miss g => s.autoSuspend.stallOn t (.fetchMiss g)
        | .flt c a => s.fault t c (BitVec.ofNat 32 a)
        | .ok =>
          match body s x with
          | .done s1 n => account s s1 t n
          | .flt c a => faulted s s t 1 c a
          | .part s1 n c a => faulted s s1 t n c a
          | .stall s1 y => s1.stallOn t y
  else s

/-- The thread goes on at the next instruction with the state `x`. -/
def advance (s : State) (t : Tid) (len : Nat) (x : Thread) : State :=
  s.setThr t { x with pc := x.pc + BitVec.ofNat 32 len }

/-- The thread goes on at `pc`. -/
def jump (s : State) (t : Tid) (pc : Word) (x : Thread) : State := s.setThr t { x with pc := pc }

/-- An instruction that changes only its thread's registers and flags. -/
def plain (s : State) (t : Tid) (len cycles : Nat) (f : Thread → Thread) : State :=
  s.issue t len (fun s x => .done (s.advance t len (f x)) cycles)

end State

end Sys2Proof.Machine
end

