-- ==== Sys2Proof/Machine/Alu.lean ====
section
/-!
DEFINITION. Arithmetic, logic, shifts and immediates of R119 and division of R120: registers and flags only.
-/

namespace Sys2Proof.Machine

namespace State

/-- An add or subtract of R119: result to the destination, ZNCV. -/
def arith (s : State) (t : Tid) (f : AluForm) (op : Word → Word → Bool → Word × Flags) (cin : Thread → Bool) : State :=
  s.plain t f.len 1 (fun x =>
    let r := op (f.a x) (f.b x) (cin x)
    (x.setReg f.dst r.1).setFl r.2)

/-- A bitwise operation or a product: result to the destination, ZN. -/
def logic (s : State) (t : Tid) (f : AluForm) (cycles : Nat) (op : Word → Word → Word) : State :=
  s.plain t f.len cycles (fun x =>
    let r := op (f.a x) (f.b x)
    (x.setReg f.dst r).setFl (x.fl.zn r))

/-- A shift by b[7:0]: ZNC. -/
def shift (s : State) (t : Tid) (f : AluForm) (op : Word → Nat → Word × Option Bool) : State :=
  s.plain t f.len 1 (fun x =>
    let r := op (f.a x) (bitsOf (f.b x) 0 8)
    (x.setReg f.dst r.1).setFl (x.fl.shift r))

/-- A three-register operation of ZN alone. -/
def high (s : State) (t : Tid) (gd gs gt : Gpr) (op : Word → Word → Word) : State :=
  s.logic t (.long gd gs gt) 3 op

/-- The steps a thread has done of the division at its PC (R120). -/
def divDone (x : Thread) : Nat :=
  match x.divAt with
  | some (pc, k) => if pc = x.pc then k else 0
  | none => 0

/-- A division or remainder (R120): steps of 12, 12 and 10 cycles, one for each issue, of which the last writes gd. A zero
divisor raises DIVZERO; `v` gives V for the signed pair. An entry between steps abandons them (`entered`). -/
def divide (s : State) (t : Tid) (gd gs gt : Gpr) (op : Word → Word → Word) (v : Word → Word → Bool → Bool) : State :=
  s.issue t 4 (fun s x =>
    let a := x.reg gs
    let b := x.reg gt
    if b = 0 then .flt cDIVZERO 0
    else if divDone x < 2 then .done (s.setThr t { x with divAt := some (x.pc, divDone x + 1) }) 12
    else
      let r := op a b
      .done (s.advance t 4 (({ x with divAt := none }.setReg gd r).setFl
        (let f := x.fl.zn r; { f with v := v a b f.v }))) 10)

/-- A bitwise operation with a zero-extended immediate: ZN. -/
def logicImm (s : State) (t : Tid) (gd gs : Gpr) (imm : BitVec 16) (op : Word → Word → Word) : State :=
  s.plain t 4 1 (fun x =>
    let r := op (x.reg gs) (uimm imm)
    (x.setReg gd r).setFl (x.fl.zn r))

/-- An immediate shift: ZNC. -/
def shiftImm (s : State) (t : Tid) (gd : Gpr) (n : BitVec 5) (op : Word → Nat → Word × Option Bool) : State :=
  s.plain t 2 1 (fun x =>
    let r := op (x.reg gd) n.toNat
    (x.setReg gd r.1).setFl (x.fl.shift r))

end State

/-- V of a signed division: 1 for the quotient that overflows, else 0. -/
def vSigned (a b : Word) (_ : Bool) : Bool := divOverflow a b

/-- V of an unsigned division stays. -/
def vKeep (_ _ : Word) (old : Bool) : Bool := old

/-! ## Meanings -/

def execMov (t : Tid) (gd gs : Gpr) (s : State) : Answer := .next (s.plain t 2 1 (fun x => x.setReg gd (x.reg gs)))
def execAdd (t : Tid) (f : AluForm) (s : State) : Answer := .next (s.arith t f addOp (fun _ => false))
def execSub (t : Tid) (f : AluForm) (s : State) : Answer := .next (s.arith t f subOp (fun _ => false))
def execAdc (t : Tid) (f : AluForm) (s : State) : Answer := .next (s.arith t f addOp (fun x => x.fl.c))
def execSbc (t : Tid) (f : AluForm) (s : State) : Answer := .next (s.arith t f subOp (fun x => !x.fl.c))
/-- cmp: the flags of a − b. -/
def execCmp (t : Tid) (gd gs : Gpr) (s : State) : Answer :=
  .next (s.plain t 2 1 (fun x => x.setFl (subOp (x.reg gd) (x.reg gs) false).2))
def execAnd (t : Tid) (f : AluForm) (s : State) : Answer := .next (s.logic t f 1 (· &&& ·))
def execOr (t : Tid) (f : AluForm) (s : State) : Answer := .next (s.logic t f 1 (· ||| ·))
def execXor (t : Tid) (f : AluForm) (s : State) : Answer := .next (s.logic t f 1 (· ^^^ ·))
/-- tst: the flags of a & b. -/
def execTst (t : Tid) (gd gs : Gpr) (s : State) : Answer :=
  .next (s.plain t 2 1 (fun x => x.setFl (x.fl.zn (x.reg gd &&& x.reg gs))))
def execShl (t : Tid) (f : AluForm) (s : State) : Answer := .next (s.shift t f shlOp)
def execShr (t : Tid) (f : AluForm) (s : State) : Answer := .next (s.shift t f shrOp)
def execSar (t : Tid) (f : AluForm) (s : State) : Answer := .next (s.shift t f sarOp)
/-- neg: 0 − b. -/
def execNeg (t : Tid) (gd gs : Gpr) (s : State) : Answer :=
  .next (s.plain t 2 1 (fun x => (x.setReg gd (subOp 0 (x.reg gs) false).1).setFl (subOp 0 (x.reg gs) false).2))
def execNot (t : Tid) (gd gs : Gpr) (s : State) : Answer :=
  .next (s.plain t 2 1 (fun x => (x.setReg gd (~~~(x.reg gs))).setFl (x.fl.zn (~~~(x.reg gs)))))
def execMul (t : Tid) (f : AluForm) (s : State) : Answer := .next (s.logic t f 2 mulOp)
def execMulh (t : Tid) (gd gs gt : Gpr) (s : State) : Answer := .next (s.high t gd gs gt mulhOp)
def execMulhu (t : Tid) (gd gs gt : Gpr) (s : State) : Answer := .next (s.high t gd gs gt mulhuOp)
def execDiv (t : Tid) (gd gs gt : Gpr) (s : State) : Answer := .next (s.divide t gd gs gt divOp vSigned)
def execDivu (t : Tid) (gd gs gt : Gpr) (s : State) : Answer := .next (s.divide t gd gs gt divuOp vKeep)
def execRem (t : Tid) (gd gs gt : Gpr) (s : State) : Answer := .next (s.divide t gd gs gt remOp vSigned)
def execRemu (t : Tid) (gd gs gt : Gpr) (s : State) : Answer := .next (s.divide t gd gs gt remuOp vKeep)
/-- ror: by b[4:0]. -/
def execRor (t : Tid) (gd gs gt : Gpr) (s : State) : Answer :=
  .next (s.plain t 4 1 (fun x =>
    let r := rorOp (x.reg gs) (bitsOf (x.reg gt) 0 5)
    (x.setReg gd r.1).setFl (x.fl.shift r)))
def execSextB (t : Tid) (gd gs : Gpr) (s : State) : Answer :=
  .next (s.plain t 4 1 (fun x => x.setReg gd (simm ((x.reg gs).setWidth 8))))
def execSextH (t : Tid) (gd gs : Gpr) (s : State) : Answer :=
  .next (s.plain t 4 1 (fun x => x.setReg gd (simm ((x.reg gs).setWidth 16))))
def execMovi (t : Tid) (f : MoviForm) (s : State) : Answer :=
  .next (s.plain t f.len 1 (fun x => x.setReg f.dst f.val))
def execMovhi (t : Tid) (gd : Gpr) (imm : BitVec 16) (s : State) : Answer :=
  .next (s.plain t 4 1 (fun x => x.setReg gd (uimm imm <<< 16)))
def execAddi (t : Tid) (f : AddiForm) (s : State) : Answer :=
  .next (s.plain t f.len 1 (fun x =>
    let r := addOp (f.a x) f.val false
    (x.setReg f.dst r.1).setFl r.2))
def execCmpi (t : Tid) (f : CmpiForm) (s : State) : Answer :=
  .next (s.plain t f.len 1 (fun x => x.setFl (subOp (f.a x) f.val false).2))
def execAndi (t : Tid) (gd gs : Gpr) (imm : BitVec 16) (s : State) : Answer := .next (s.logicImm t gd gs imm (· &&& ·))
def execOri (t : Tid) (gd gs : Gpr) (imm : BitVec 16) (s : State) : Answer := .next (s.logicImm t gd gs imm (· ||| ·))
def execXori (t : Tid) (gd gs : Gpr) (imm : BitVec 16) (s : State) : Answer := .next (s.logicImm t gd gs imm (· ^^^ ·))
def execShli (t : Tid) (gd : Gpr) (amount : BitVec 5) (s : State) : Answer := .next (s.shiftImm t gd amount shlOp)
def execShri (t : Tid) (gd : Gpr) (amount : BitVec 5) (s : State) : Answer := .next (s.shiftImm t gd amount shrOp)
def execSari (t : Tid) (gd : Gpr) (amount : BitVec 5) (s : State) : Answer := .next (s.shiftImm t gd amount sarOp)

end Sys2Proof.Machine
end

