-- ==== Sys2Proof/Machine/Mem.lean ====
section
/-!
DEFINITION. Loads and stores (R121), the return of a register-window load (R97, R393), flash misses (R160, R161), and
the reads that have rows of their own.
-/

namespace Sys2Proof.Machine

/-- What a load comes to once it may be made. -/
inductive LoadRes where
  | val (s : State) (v : Word)
  /-- the request has left CORE (R393). -/
  | sent (ahead : Nat)
  | flt (cause : Nat)
  | stall (s : State) (why : Stall)
  deriving DecidableEq, Repr

/-- `size` bytes of a line buffer from address `a`, little-endian. -/
def Line.read (l : Line) (a size : Nat) : Word :=
  BitVec.ofNat 32 ((List.range size).foldl (fun n i => n + (l.bytes.getD (a - l.granule + i) 0).toNat * 2 ^ (8 * i)) 0)

namespace State

/-- A load from flash (R160, R161): its line buffer serves it, or it misses. -/
def flashLoad (s : State) (a size : Nat) : LoadRes :=
  let miss : LoadRes := .stall s.autoSuspend (.dataMiss (granOf a))
  match s.core.dbuf with
  | some l =>
    if l.granule ≠ granOf a then miss
    else if l.status = 2 then .flt cBUS
    else .val (if l.status = 4 then s.put F.NVC_ECCSTAT_UNREL 1 else s) (l.read a size)
  | none => miss

/-- A load from SRAM against the store buffer (R101). -/
def sramLoad (s : State) (a size : Nat) : LoadRes :=
  match s.youngest a size with
  | none => .val s (s.memRead a size)
  | some e =>
    if covers e a size then .val s (cutTo (shiftDown (entData e) (a - e.addr)) size)
    else .stall (s.bump F.EVT_SBSTAT_OVLSTALL) (.overlap a size)

/-- A load of a register (R97, R101). -/
def windowLoad (s : State) (t : Tid) (a : Nat) : LoadRes :=
  if s.windowBusy a then .stall s (.retry (.window a))
  else
    match islandOf a with
    | some isl => .sent (s.latchCount isl)
    | none => let r := s.regRead t a; .val r.2 r.1

/-- A checked load of `size` bytes at `a`. -/
def loadData (s : State) (t : Tid) (a size : Nat) : LoadRes :=
  if inFlash a then s.flashLoad a size
  else if inSram a then s.sramLoad a size
  else s.windowLoad t a

/-- Zero or sign extension of a loaded value. -/
def extend (v : Word) (size : Nat) (sext : Bool) : Word :=
  if sext then (if size = 1 then simm (v.setWidth 8) else if size = 2 then simm (v.setWidth 16) else v) else v

/-- A load instruction. -/
def loadReg (s : State) (t : Tid) (f : MemForm) (size : Nat) (sext : Bool) : State :=
  s.issue t f.len (fun s x =>
    let a := f.addr x size
    if f.reserved then .flt cILLEGAL 0
    else
      match s.dataFault x.ring a.toNat size accR with
      | some c => .flt c a
      | none =>
        match s.loadData t a.toNat size with
        | .val s1 v => .done (s1.advance t f.len ((s1.thr t).setReg f.r (extend v size sext))) 1
        | .sent n => .done (s.stallOn t (.window ⟨a.toNat, f.r, f.len, n⟩)) 1
        | .flt c => .flt c a
        | .stall s1 y => .stall s1 y)

/-- A store instruction: one store-buffer entry. -/
def storeReg (s : State) (t : Tid) (f : MemForm) (size : Nat) : State :=
  s.issue t f.len (fun s x =>
    let a := f.addr x size
    if f.reserved then .flt cILLEGAL 0
    else
      match s.dataFault x.ring a.toNat size accW with
      | some c => .flt c a
      | none =>
        if s.storeBlocked a.toNat then .stall s (.retry (.room a.toNat))
        else
          .done ((s.sbPush (storeEntry t (Fin.ofNat 4 x.ring) a.toNat size (x.reg f.r))).advance t f.len x) 1)

/-! ## Loads that return -/

/-- A fault entry on `t` waits: another thread holds PSW.GM, or runs a GALE handler (R89, R146, R155). -/
def faultWaits (s : State) (t : Tid) : Bool :=
  (s.gmHeld && !(s.thr t).gm) ||
    (match s.core.gale with
     | some g => g.tid != t
     | none => false)

/-- A register-window load completes: its value goes to its register, with the effect its read has (R97, R393). A
domain switched off meanwhile gives DOMOFF, once an entry can be taken. -/
def loadReturn (s : State) (t : Tid) (ld : LoadReq) : State :=
  if s.coreLive = false ∨ ld.ahead ≠ 0 then s
  else if s.domOff ld.addr then
    if s.faultWaits t then s else s.fault t cDOMOFF (BitVec.ofNat 32 ld.addr)
  else
    let r := s.regRead t ld.addr
    let x := r.2.thr t
    r.2.advance t ld.len { x.setReg ld.gd r.1 with stall := none }

/-- The tick instruction completes: both words of TICK, latched at one instant (R128). -/
def tickReturn (s : State) (t : Tid) (gd : Gpr) (ahead : Nat) : State :=
  if s.coreLive = false ∨ ahead ≠ 0 then s
  else
    let x := s.thr t
    let y := (x.setReg gd (s.bak.tick.extractLsb' 0 32)).setReg (gd + 1) ((s.bak.tick.extractLsb' 32 16).setWidth 32)
    s.advance t 2 { y with stall := none }

/-- The value a thread waits for returns. -/
def windowReturn (s : State) (t : Tid) : State :=
  match (s.thr t).stall with
  | some (.window ld) => s.loadReturn t ld
  | some (.tick gd ahead) => s.tickReturn t gd ahead
  | _ => s

/-- A load of register `a` into `gd` that a thread waits for returns. -/
def readReturn (s : State) (t : Tid) (gd : Gpr) (a : Nat) : State :=
  match (s.thr t).stall with
  | some (.window ld) => if ld.addr = a ∧ ld.gd = gd then s.loadReturn t ld else s
  | _ => s

/-! ## Flash misses -/

/-- The array delivers a granule with its status; a correction and an uncorrectable error are recorded (R160). -/
def granRead (s : State) (g : Nat) : Line × State :=
  let st := s.granStatus g
  let l : Line := ⟨g, s.bytes g 16, st⟩
  if st = 1 then (l, (s.bump F.NVC_ECCSTAT_CORRCNT).put F.NVC_ECCADDR_ADDR g)
  else if st = 2 then (l, (s.put F.NVC_ECCSTAT_UNCORR 1).put F.NVC_ECCADDR_ADDR g)
  else (l, s)

/-- The thread tries its fetch or its load again. -/
def unstall (s : State) (t : Tid) : State := s.setThr t { s.thr t with stall := none }

/-- A flash miss is served once the array can be read. -/
def missFill (s : State) (t : Tid) : State :=
  if s.coreLive = false then s
  else
    match (s.thr t).stall with
    | some (.fetchMiss g) =>
      if s.domPg 2 = false then s.unstall t
      else if s.flashReadable then
        let r := s.granRead g
        (r.2.coreUpd (fun c => { c with ibuf := some r.1 })).unstall t
      else s
    | some (.dataMiss g) =>
      if s.domPg 2 = false then s.unstall t
      else if s.flashReadable then
        let r := s.granRead g
        (r.2.coreUpd (fun c => { c with dbuf := some r.1 })).unstall t
      else s
    | _ => s

end State

/-! ## Meanings -/

def execLdW (t : Tid) (f : MemForm) (s : State) : Answer := .next (s.loadReg t f 4 false)
def execLdH (t : Tid) (f : MemForm) (s : State) : Answer := .next (s.loadReg t f 2 false)
def execLdHs (t : Tid) (f : MemForm) (s : State) : Answer := .next (s.loadReg t f 2 true)
def execLdB (t : Tid) (f : MemForm) (s : State) : Answer := .next (s.loadReg t f 1 false)
def execLdBs (t : Tid) (f : MemForm) (s : State) : Answer := .next (s.loadReg t f 1 true)
def execStW (t : Tid) (f : MemForm) (s : State) : Answer := .next (s.storeReg t f 4)
def execStH (t : Tid) (f : MemForm) (s : State) : Answer := .next (s.storeReg t f 2)
def execStB (t : Tid) (f : MemForm) (s : State) : Answer := .next (s.storeReg t f 1)
def execWindowLoadReturn (t : Tid) (s : State) : Answer := .next (s.windowReturn t)
def execFlashMissFill (t : Tid) (s : State) : Answer := .next (s.missFill t)

/-- TICKL_READ: a load of BAK.TICKL completes and latches TICKH for its thread (R337). -/
def execTicklRead (t : Tid) (gd : Gpr) (s : State) : Answer := .next (s.readReturn t gd 0x40024000)
/-- EVF0_READ: a load of BAK.EVF0 completes and removes an entry (R343). -/
def execEvf0Read (t : Tid) (gd : Gpr) (s : State) : Answer := .next (s.readReturn t gd 0x40024040)
def execAdcFifoRead (t : Tid) (gd : Gpr) (s : State) : Answer := .next (s.readReturn t gd 0x40012010)
def execAdcResRead (k : Fin 32) (t : Tid) (gd : Gpr) (s : State) : Answer :=
  .next (s.readReturn t gd (F.ADC_RES_CODE k).addr)
def execUartDataRead (u : Fin 5) (t : Tid) (gd : Gpr) (s : State) : Answer :=
  .next (s.readReturn t gd (0x4001C008 + 0x1000 * u.val))
def execEngCqRead (p : Fin 2) (t : Tid) (gd : Gpr) (s : State) : Answer :=
  .next (s.readReturn t gd (0x40014110 + 0x1000 * p.val))
/-- PORT_PAY_READ: a load of PAY completes and steps to the next payload word (R297). -/
def execPortPayRead (p : ExecPort) (t : Tid) (gd : Gpr) (s : State) : Answer :=
  .next (s.readReturn t gd
    (match p with
     | .kernel => 0x40018204
     | .service w => 0x40018404 + 0x100 * w.val))

end Sys2Proof.Machine
end

