-- ==== Sys2Proof/Machine/Atomics.lean ====
section
/-!
DEFINITION. Atomic read-modify-write (R108, R129) and block moves (R130).
-/

namespace Sys2Proof.Machine

/-- The faults of an atomic at `a` (R129, R392). -/
def State.atomFault (s : State) (ring a : Nat) : Option Nat :=
  if a % 4 ≠ 0 then some cALIGN
  else if inSram a = false then some cBUS
  else if s.protAllows ring a accRW = false then some cPROT
  else none

namespace State

/-- An atomic: with the buffer empty, the word takes `new old` and the thread becomes `res old`. -/
def atomic (s : State) (t : Tid) (gs : Gpr) (new : Thread → Word → Word) (res : Thread → Word → Thread) : State :=
  s.issue t 4 (fun s x =>
    let a := x.reg gs
    match s.atomFault x.ring a.toNat with
    | some c => .flt c a
    | none =>
      if s.core.sb ≠ [] then .stall s (.retry .drained)
      else
        let old := s.word a.toNat
        .done ((s.setWord a.toNat (new x old)).advance t 4 (res x old)) 4)

/-! ## Block moves -/

/-- The fault of one word of a block move: it is aligned, also where the registers overlap; a source lies in SRAM or flash, a destination in SRAM; R and W are both
needed (R130, R138). -/
def blockFault (s : State) (ring a : Nat) (dest : Bool) : Option Nat :=
  if a % 4 ≠ 0 then some cALIGN
  else if dest ∧ inSram a = false then some cBUS
  else if dest = false ∧ inSram a = false ∧ (inFlash a = false ∨ dataAllowed ring a accR = false) then some cBUS
  else if s.protAllows ring a accRW = false then some cPROT
  else if s.domOff a then some cDOMOFF
  else none

/-- The word a block move stores next: bmov loads it, bset has it in gs. -/
def blockWord (s : State) (t : Tid) (ring : Nat) (gs : Gpr) (move : Bool) : LoadRes :=
  let v := (s.thr t).reg gs
  if move then
    match s.blockFault ring v.toNat false with
    | some c => .flt c
    | none => s.loadData t v.toNat 4
  else .val s v

/-- gd, gs and gt after a word. -/
def blockRegs (x : Thread) (gd gs gt : Gpr) (move : Bool) : Thread :=
  let x1 := x.setReg gd (x.reg gd + 4)
  let x2 := if move then x1.setReg gs (x1.reg gs + 4) else x1
  x2.setReg gt (x2.reg gt - 1)

/-- What ends a step of a block move early: nothing has been moved yet and it stalls, or the step is over. -/
def blockEnd (s : State) (moved : Bool) (y : Stall) : Res :=
  if moved then .done s.tickFree (1 + s.fresh % 12) else .stall s y

/-- At most `fuel` words of a step. -/
def blockStep (s : State) (t : Tid) (ring : Nat) (gd gs gt : Gpr) (move moved : Bool) : Nat → Res
  | 0 =>
    let x := s.thr t
    .done (if x.reg gt = 0 then s.advance t 4 x else s).tickFree (1 + s.fresh % 12)
  | n + 1 =>
    let x := s.thr t
    let d := x.reg gd
    if x.reg gt = 0 then .done (s.advance t 4 x).tickFree (1 + s.fresh % 12)
    else
      match s.blockWord t ring gs move with
      | .flt c => .part s.tickFree (1 + s.fresh % 12) c (x.reg gs)
      | .sent _ => .part s.tickFree (1 + s.fresh % 12) cBUS (x.reg gs)
      | .stall s1 y => blockEnd (if moved then s else s1) moved y
      | .val s1 v =>
        match s1.blockFault ring d.toNat true with
        | some c => .part s1.tickFree (1 + s1.fresh % 12) c d
        | none =>
          if s1.storeBlocked d.toNat then blockEnd s1 moved (.retry (.room d.toNat))
          else
            let s2 := s1.sbPush (storeEntry t (Fin.ofNat 4 ring) d.toNat 4 v)
            blockStep (s2.setThr t (blockRegs (s2.thr t) gd gs gt move)) t ring gd gs gt move true n

/-- A step of bmov or bset (R130): at most `fuel` words; the move is over when gt reaches 0. -/
def block (s : State) (t : Tid) (gd gs gt : Gpr) (move : Bool) (fuel : Nat) : State :=
  s.issue t 4 (fun s x =>
    if x.reg gt = 0 then .done (s.advance t 4 x) 1
    else if (x.reg gd).toNat % 4 ≠ 0 then .flt cALIGN (x.reg gd)
    else if move ∧ (x.reg gs).toNat % 4 ≠ 0 then .flt cALIGN (x.reg gs)
    else s.blockStep t x.ring gd gs gt move false fuel)

end State

/-! ## Meanings -/

def execSwap (t : Tid) (gd gs gt : Gpr) (s : State) : Answer :=
  .next (s.atomic t gs (fun x _ => x.reg gt) (fun x old => x.setReg gd old))

/-- cas: Z reports success; the other flags stay. -/
def execCas (t : Tid) (gd gs gt : Gpr) (s : State) : Answer :=
  .next (s.atomic t gs (fun x old => if old = x.reg gd then x.reg gt else old)
    (fun x old => (x.setReg gd old).setFl { x.fl with z := old == x.reg gd }))

def execXadd (t : Tid) (gd gs gt : Gpr) (s : State) : Answer :=
  .next (s.atomic t gs (fun x old => old + x.reg gt) (fun x old => x.setReg gd old))

def execBmov (t : Tid) (gd gs gt : Gpr) (s : State) : Answer := .next (s.block t gd gs gt true 3)
def execBset (t : Tid) (gd gs gt : Gpr) (s : State) : Answer := .next (s.block t gd gs gt false 4)

end Sys2Proof.Machine
end

