-- ==== Sys2Proof/Machine/Gates.lean ====
section
/-!
DEFINITION. Gates and returns (R125, R136, R137, R148, R150, R394) and the fences (R106, R126, R141).
-/

namespace Sys2Proof.Machine

namespace State

/-! ## Gates -/

/-- The address of gate `n`'s entry: GBASEr + 8 × (n − 16r). -/
def gateAddr (s : State) (n : Fin 64) : Word :=
  s.core.gbase[Fin.ofNat 4 (n.val / 16)] + BitVec.ofNat 32 (8 * (n.val % 16))

/-- A gate entry that lets ring `c` call into ring `r` (R137). -/
def gateOk (target w : Word) (c r : Nat) : Bool :=
  bitOf w 31 && bitsOf w 4 27 == 0 && !bitOf target 0 && bitOf w c && decide (r ≤ c)

/-- The first word of a ring-3 frame that the access `k` may not reach, with its fault: the one a ring-3 store or load
of that word raises (R394). -/
def frameFault (s : State) (a : Nat) (k : Acc) : Nat → Option (Nat × Nat)
  | 0 => none
  | n + 1 =>
    match s.dataFault 3 a 4 k with
    | some c => some (c, a)
    | none => s.frameFault ((a + 4) % 2 ^ 32) k n

/-- The words of a ring-3 frame as ring-3 stores of thread `t` (R394): each takes effect as a store that retires, the
buffer being empty. -/
def storeFrame (s : State) (t : Tid) (a : Nat) : List Word → State
  | [] => s
  | w :: r => (s.retireEntry ⟨t, 3, a, .store 15 w⟩).storeFrame t ((a + 4) % 2 ^ 32) r

/-- The core cycles of a gate: 6, and its drain and push, within the hold term of 48 (R125, R137). -/
def gateCycles (s : State) : Nat := 6 + s.fresh % 43

/-- The gate frame is pushed and the gate entered; the buffer is empty. -/
def gateEnter (s : State) (t : Tid) (n : Fin 64) (target : Word) : State :=
  let x := s.thr t
  let f : Frame := ⟨x.pc + 4, x.psw, infoWord 0x80 (s.cls t) t n.val, 0, 0, 0, x.reg 14, x.reg 15⟩
  let r := n.val / 16
  if h : r < 3 then
    match s.pushFrame t ⟨r, h⟩ f with
    | .error c => s.squall c t (if c = qFSLIM then r else 0)
    | .ok (s1, a) => s1.setThr t { ((s1.thr t).setReg 15 a).setRing r with pc := target }
  else
    let a := x.reg 15 - 32
    let s1 := s.storeFrame t a.toNat (frameWords f)
    s1.setThr t { ((s1.thr t).setReg 15 a).setRing 3 with pc := target }

/-- A gate whose entry has been read. -/
def gateRead (s : State) (t : Tid) (x : Thread) (n : Fin 64) (a target w : Word) : Res :=
  if gateOk target w x.ring (n.val / 16) = false then .flt cGATE a
  else
    let fr := (x.reg 15 - 32).toNat
    match (if n.val / 16 = 3 then s.frameFault fr accW 8 else none) with
    | some (c, b) => .flt c (BitVec.ofNat 32 b)
    | none => .done ((s.drainSb.gateEnter t n target).tickFree) s.gateCycles

/-- gate n (R137): the entry is read as a ring-0 load. -/
def gate (s : State) (t : Tid) (n : Fin 64) : State :=
  s.issue t 4 (fun s x =>
    let a := s.gateAddr n
    if a.toNat % 8 ≠ 0 ∨ (inSram a.toNat = false ∧ inFlash a.toNat = false) then .flt cGATE a
    else if s.protAllows 0 a.toNat accR = false then .flt cPROT a
    else if s.domOff a.toNat then .flt cDOMOFF a
    else if inSram a.toNat then s.gateRead t x n a (s.wordNow a.toNat) (s.wordNow (a.toNat + 4))
    else
      match s.flashLoad a.toNat 4 with
      | .val s1 v =>
        match s1.flashLoad (a.toNat + 4) 4 with
        | .val s2 w => s2.gateRead t x n a v w
        | _ => .flt cBUS a
      | .flt c => .flt c a
      | .sent _ => .flt cBUS a
      | .stall s1 y => .stall s1 y)

/-! ## Returns (R150) -/

/-- Where the frame of the current ring lies, or the fault of the pop. -/
def popAt (s : State) (t : Tid) (x : Thread) : Except (Nat × Word) Word :=
  if h : x.ring < 3 then
    let r : Fin 3 := ⟨x.ring, h⟩
    let a := s.fsp t r
    if x.fsUsed[r] = 0 then .error (cBUS, s.sliceTop t r)
    else if a.toNat % 4 ≠ 0 then .error (cALIGN, a)
    else if inSram a.toNat ∧ inSram (a.toNat + 31) then .ok a
    else .error (cBUS, a)
  else
    match s.frameFault (x.reg 15).toNat accR 8 with
    | some (c, b) => .error (c, BitVec.ofNat 32 b)
    | none => .ok (x.reg 15)

/-- A frame from its eight words. -/
def frameOf (m : Nat → Word) : Frame := ⟨m 0, m 1, m 2, m 3, m 4, m 5, m 6, m 7⟩

/-- The frame's words, as the latest issued stores leave them. -/
def frameAt (s : State) (a : Nat) : Frame :=
  let m := s.sramNow
  frameOf (fun i => m.word (a + 4 * i))

/-- A word of a ring-3 frame as a ring-3 load (R394): from SRAM as the latest issued stores leave it, from flash through
the data line buffer, or from a register window once the writes ahead of it have been applied. -/
def frameLoad (s : State) (t : Tid) (a : Nat) : LoadRes :=
  if inSram a then .val s (s.wordNow a)
  else if inFlash a then
    match s.flashLoad a 4 with
    | .stall s1 y =>
      if s.flashReadable then
        let r := s.granRead (granOf a)
        (r.2.coreUpd (fun c => { c with dbuf := some r.1 })).flashLoad a 4
      else .stall s1 y
    | r => r
  else if s.allApplied = false then .stall s (.retry .applied)
  else let r := s.regRead t a; .val r.2 r.1

/-- What the loads of a frame's words come to. -/
inductive PopRes where
  | words (s : State) (l : List Word)
  | flt (cause : Nat) (faddr : Nat)
  | stall (s : State) (why : Stall)
  deriving DecidableEq, Repr

/-- The words of a ring-3 frame from `a` on. -/
def popWords (s : State) (t : Tid) (a : Nat) : Nat → PopRes
  | 0 => .words s []
  | n + 1 =>
    match s.frameLoad t a with
    | .val s1 w =>
      match s1.popWords t ((a + 4) % 2 ^ 32) n with
      | .words s2 l => .words s2 (w :: l)
      | r => r
    | .flt c => .flt c a
    | .stall s1 y => .stall s1 y
    | .sent _ => .flt cBUS a

/-- The PSW that a return at ring `cur` and level `lvl` restores (R150). -/
def retPsw (cur lvl : Nat) (w : Word) : Word :=
  mkPsw (if 2 ≤ cur then min (bitsOf w 0 3) lvl else bitsOf w 0 3) (cur == 0 && bitOf w 3) (max (bitsOf w 4 2) cur)
    (bitsOf w 8 4)

/-- What a return restores in its thread: a gate frame leaves g0, g1 and the class. An odd PC is even (R110). -/
def restored (x : Thread) (f : Frame) (isGate : Bool) : Thread :=
  let y := (x.setReg 14 f.g14).setReg 15 f.g15
  let z := if isGate then y else (y.setReg 0 f.g0).setReg 1 f.g1
  let u := if h : x.ring < 3 then { z with fsUsed := z.fsUsed.set x.ring (x.fsUsed[x.ring] - 32) } else z
  { u with pc := f.pc &&& 0xFFFFFFFE, psw := retPsw x.ring x.lvl f.psw }

/-- The class a return leaves: a gate frame none, at rings 2 and 3 the lower. -/
def retClass (s : State) (t : Tid) (x : Thread) (f : Frame) (isGate : Bool) : Nat :=
  let c := bitsOf f.info 8 2
  if isGate then s.cls t else if 2 ≤ x.ring then min c (s.cls t) else c

/-- The return pops the frame with which the running GALE handler was entered (R155). -/
def endsGale (s : State) (t : Tid) (x : Thread) : Option GaleRun :=
  match s.core.gale with
  | some g => if g.tid = t ∧ x.ring = 0 ∧ x.fsUsed[0] = g.frameUsed then some g else none
  | none => none

/-- A popped frame is restored: the thread, its class, and the end of the GALE handler whose frame it was (R150,
R155). -/
def restoreFrame (s : State) (t : Tid) (x : Thread) (f : Frame) (cycles : Nat) : Res :=
  let isGate := bitsOf f.info 0 8 == 0x80
  let s1 := (s.setThr t (restored x f isGate)).put (F.EVT_TCFG_CLASS t) (s.retClass t x f isGate)
  match s.endsGale t x with
  | some g =>
    if s.core.sb ≠ [] then .stall s (.retry .drained)
    else if 257 ≤ g.count + cycles then .done (s.squall qGALE_BUDGET t g.line) cycles
    else .done (s1.coreUpd (fun c => { c with gale := none })) cycles
  | none => .done s1 cycles

/-- rete and retg: the frame is popped and restored; at ring 3 its words are ring-3 loads (R150, R394). -/
def ret (s : State) (t : Tid) (cycles : Nat) : State :=
  s.issue t 2 (fun s x =>
    match s.popAt t x with
    | .error (c, a) => .flt c a
    | .ok a =>
      if x.ring < 3 then s.restoreFrame t x (s.frameAt a.toNat) cycles
      else
        match s.popWords t a.toNat 8 with
        | .words s1 l => s1.restoreFrame t x (frameOf (fun i => l.getD i 0)) cycles
        | .flt c b => .flt c (BitVec.ofNat 32 b)
        | .stall s1 y => .stall s1 y)

/-! ## Fences (R106) -/

/-- A fence completes when its condition holds, and stalls until then. -/
def fence (s : State) (t : Tid) (u : Until) : State :=
  s.issue t 2 (fun s x => if s.holds u then .done (s.advance t 2 x) 1 else .stall s (.retry u))

end State

/-! ## Meanings -/

def execGate (t : Tid) (n : Fin 64) (s : State) : Answer := .next (s.gate t n)
def execRetg (t : Tid) (s : State) : Answer := .next (s.ret t 6)
def execRete (t : Tid) (s : State) : Answer := .next (s.ret t 10)
def execFenceS (t : Tid) (s : State) : Answer := .next (s.fence t .drained)
def execFenceA (t : Tid) (s : State) : Answer := .next (s.fence t .applied)
/-- fence.i: the model holds no fetched instruction, so only FENCE.S is left to wait for. -/
def execFenceI (t : Tid) (s : State) : Answer := .next (s.fence t Until.drained)
/-- fence.p: FENCE.S holds and every frame that ran at the latest PROT region write has ended (R141). -/
def execFenceP (t : Tid) (s : State) : Answer := .next (s.fence t .frames)

end Sys2Proof.Machine
end

