-- ==== Sys2Proof/Machine/Cal.lean ====
section
/-!
DEFINITION. The ROM calendar library (R340, R341). A routine is one step of the thread that stands at its ROM address
at ring 0: it returns through the gate frame it was entered with, or through lk.
-/

namespace Sys2Proof.Machine

/-! ## Gregorian dates from 2000-01-01 -/

/-- A leap year. -/
def leapYear (y : Nat) : Bool := (y % 4 == 0 && y % 100 != 0) || y % 400 == 0

/-- Days of a year. -/
def yearDays (y : Nat) : Nat := if leapYear y then 366 else 365

/-- Days of a month, 1 to 12. -/
def monthDays (y m : Nat) : Nat :=
  if m = 2 then (if leapYear y then 29 else 28) else if m = 4 ∨ m = 6 ∨ m = 9 ∨ m = 11 then 30 else 31

/-- The year and the day within it, counting `n` years from `y`. -/
def splitYear : Nat → Nat → Nat → Nat × Nat
  | 0, y, d => (y, d)
  | n + 1, y, d => if d < yearDays y then (y, d) else splitYear n (y + 1) (d - yearDays y)

/-- The month and the day within it, both from 1. -/
def splitMonth (y : Nat) : Nat → Nat → Nat → Nat × Nat
  | 0, m, d => (m, d + 1)
  | n + 1, m, d => if d < monthDays y m then (m, d + 1) else splitMonth y n (m + 1) (d - monthDays y m)

/-- Days from 2000-01-01 to the first day of year 2000 + n. -/
def daysToYear : Nat → Nat
  | 0 => 0
  | n + 1 => daysToYear n + yearDays (2000 + n)

/-- Days from the first of January to the first of month m + 1. -/
def daysToMonth (y : Nat) : Nat → Nat
  | 0 => 0
  | m + 1 => daysToMonth y m + monthDays y (m + 1)

/-- The last second the library converts: 2199-12-31T23:59:59. -/
def calLast : Nat := 6311433599

/-- A packed date as R341 lays it out: g2, g3 and the named bits of g4. -/
structure Packed where
  g2 : Nat
  g3 : Nat
  g4 : Nat
  deriving DecidableEq, Repr

/-- S as a packed date. 2000-01-01 was a Saturday. -/
def calPack (sec : Nat) : Packed :=
  let d := sec / 86400
  let r := sec % 86400
  let yd := splitYear 200 2000 d
  let md := splitMonth yd.1 12 1 yd.2
  ⟨yd.1, md.1 * 2 ^ 24 + md.2 * 2 ^ 16 + r / 3600 * 2 ^ 8 + r / 60 % 60,
    r % 60 + ((d + 5) % 7 + 1) * 2 ^ 8 + (yd.2 + 1) * 2 ^ 16⟩

/-- The fields of a packed date are in range. -/
def calValid (y mo d h mi sec : Nat) : Bool :=
  decide (2000 ≤ y) && decide (y ≤ 2199) && decide (1 ≤ mo) && decide (mo ≤ 12) && decide (1 ≤ d) &&
    decide (d ≤ monthDays y mo) && decide (h ≤ 23) && decide (mi ≤ 59) && decide (sec ≤ 59)

/-- A date as S. -/
def calSec (y mo d h mi sec : Nat) : Nat :=
  (daysToYear (y - 2000) + daysToMonth y (mo - 1) + (d - 1)) * 86400 + h * 3600 + mi * 60 + sec

/-! ## The routines -/

/-- The number in a register pair, low word first. -/
def pairNum (x : Thread) (r : Gpr) : Nat := (x.reg r).toNat + (x.reg (r + 1)).toNat * 2 ^ 32

/-- Write a number to a register pair. -/
def Thread.setPair (x : Thread) (r : Gpr) (n : Nat) : Thread :=
  (x.setReg r (BitVec.ofNat 32 n)).setReg (r + 1) (BitVec.ofNat 32 (n / 2 ^ 32))

namespace State

/-- The `i`-th free word of this step. -/
def freeWord (s : State) (i : Nat) : Word := BitVec.ofNat 32 (Config.freeAt s.free i)

/-- The stack bytes a routine may have used: 64 bytes below g15, as far as they lie in SRAM. -/
def scratch (s : State) (a : Nat) : State :=
  (List.range 64).foldl (fun x i =>
    if inSram (a - 64 + i) then x.setByte (a - 64 + i) (BitVec.ofNat 8 (Config.freeAt s.free (16 + i))) else x) s

/-- The thread was entered through gate `n`, whose frame lies at its ring-0 pointer. -/
def viaGate (s : State) (t : Tid) (x : Thread) (n : Nat) : Bool :=
  let a := s.fsp t 0
  let info := s.wordNow (a.toNat + 8)
  decide (x.fsUsed[0] ≠ 0) && x.reg 15 == a && bitsOf info 0 8 == 0x80 && bitsOf info 16 8 == n

/-- A routine ends: through its gate frame as retg does, or through lk. The registers of `y` are its results. -/
def calReturn (s : State) (t : Tid) (x y : Thread) (n : Nat) : State :=
  let s1 := s.scratch (x.reg 15).toNat
  if s.viaGate t x n then s1.setThr t (restored y (s.frameAt (s.fsp t 0).toNat) true)
  else s1.setThr t { y with pc := x.reg 14 &&& 0xFFFFFFFE }

/-- A routine of the library at `rom`, gate `n`, of at most `cycles` core cycles. `work` gives the thread's results, or
none while a buffered or latched write to BAK is still ahead of its reads. -/
def calRun (s : State) (t : Tid) (rom n cycles : Nat) (work : State → Thread → Option (State × Thread)) : State :=
  if (s.thr t).pc.toNat = rom ∧ (s.thr t).ring = 0 then
    s.issue t 2 (fun s x =>
      match work s x with
      | none => .stall s (.retry .bak)
      | some (s1, y) => .done (s1.calReturn t x y n).tickFree (1 + s.fresh % cycles))
  else s

/-- The calendar second (R340). -/
def calSeconds (s : State) : Nat := s.get F.BAK_EPOCH_S + s.bak.tick.toNat / 32768

/-- cal_split. On RANGE its outputs are free. -/
def calSplit (s : State) (x : Thread) : Option (State × Thread) :=
  let n := pairNum x 2
  if calLast < n then
    some (s, (((x.setReg 0 1).setReg 2 (s.freeWord 0)).setReg 3 (s.freeWord 1)).setReg 4 (s.freeWord 2))
  else
    let p := calPack n
    some (s, (((x.setReg 0 0).setReg 2 (BitVec.ofNat 32 p.g2)).setReg 3 (BitVec.ofNat 32 p.g3)).setReg 4
      (mixFree (BitVec.ofNat 32 p.g4) 0xFE00F800 (s.freeWord 2)))

/-- cal_join. On BADDATE its outputs are free. -/
def calJoin (s : State) (x : Thread) : Option (State × Thread) :=
  let y := (x.reg 2).toNat
  let mo := bitsOf (x.reg 3) 24 8
  let d := bitsOf (x.reg 3) 16 8
  let h := bitsOf (x.reg 3) 8 8
  let mi := bitsOf (x.reg 3) 0 8
  let sec := bitsOf (x.reg 4) 0 8
  if calValid y mo d h mi sec then some (s, (x.setReg 0 0).setPair 2 (calSec y mo d h mi sec))
  else some (s, ((x.setReg 0 2).setReg 2 (s.freeWord 0)).setReg 3 (s.freeWord 1))

/-- cal_now. -/
def calNow (s : State) (x : Thread) : Option (State × Thread) :=
  if s.bakSettled then
    some (s, ((x.setReg 0 0).setPair 2 s.calSeconds).setReg 4 (BitVec.ofNat 32 (s.bak.tick.toNat % 32768)))
  else none

/-- cal_set: EPOCH is written by a ring-0 store. Which code is returned when both RANGE and LOCKED apply is free. -/
def calSet (s : State) (t : Tid) (x : Thread) : Option (State × Thread) :=
  if s.bakSettled then
    let n := pairNum x 2
    let k := (s.bak.tick.toNat + 16384) / 32768
    let range := decide (n < k) || decide (2 ^ 32 ≤ n - k)
    let lockd := s.on F.BAK_LOCK_TLOCK
    if range ∧ lockd then some (s, x.setReg 0 (if s.fresh % 2 = 0 then 1 else 3))
    else if range then some (s, x.setReg 0 1)
    else if lockd then some (s, x.setReg 0 3)
    else if s.storeBlocked F.BAK_EPOCH_S.addr then none
    else some (s.sbPush (storeEntry t 0 F.BAK_EPOCH_S.addr 4 (BitVec.ofNat 32 (n - k))), x.setReg 0 0)
  else none

end State

/-! ## Meanings -/

def execCalSplit (t : Tid) (s : State) : Answer := .next (s.calRun t 0xFF00 12 400 (fun s x => s.calSplit x))
def execCalJoin (t : Tid) (s : State) : Answer := .next (s.calRun t 0xFF10 13 300 (fun s x => s.calJoin x))
def execCalNow (t : Tid) (s : State) : Answer := .next (s.calRun t 0xFF20 14 150 (fun s x => s.calNow x))
def execCalSet (t : Tid) (s : State) : Answer := .next (s.calRun t 0xFF30 15 150 (fun s x => s.calSet t x))

end Sys2Proof.Machine
end

