-- ==== Sys2Proof/Machine/Crypto.lean ====
section
/-!
DEFINITION. SHA-256 and the check of an ECDSA P-256 signature, which R63, R73, R74 and R78 name. Their constants are
those of the published standards the names stand for (PRESUMED, log entry 40).
-/

namespace Sys2Proof.Machine

/-! ## SHA-256 -/

/-- The primes below 312: 64 of them. -/
def shaPrimes : List Nat :=
  (List.range 312).filter (fun p => decide (2 ≤ p) && (List.range 16).all (fun d => decide (d + 2 = p) || p % (d + 2) != 0))

/-- One bit of the largest number whose `e`-th power is at most `m`: bit `k` is taken where it fits. -/
def rootBit (e m k r : Nat) : Nat := if (r + 2 ^ k) ^ e ≤ m then r + 2 ^ k else r

/-- The bits below `k` of an `e`-th root. -/
def rootBits (e m : Nat) : Nat → Nat → Nat
  | 0, r => r
  | k + 1, r => rootBits e m k (rootBit e m k r)

/-- The first 32 bits of the fraction of the `e`-th root of `p`. -/
def rootWord (e p : Nat) : Word := BitVec.ofNat 32 (rootBits e (p * 2 ^ (32 * e)) 36 0)

/-- The round constants are those of cube roots. -/
def shaK : List Word := shaPrimes.map (rootWord 3)

/-- The chaining value: eight words. -/
structure Sha where
  a : Word
  b : Word
  c : Word
  d : Word
  e : Word
  f : Word
  g : Word
  h : Word
  deriving DecidableEq, Repr

/-- The initial chaining value: the square roots of the first eight primes. -/
def Sha.init : Sha :=
  ⟨rootWord 2 2, rootWord 2 3, rootWord 2 5, rootWord 2 7, rootWord 2 11, rootWord 2 13, rootWord 2 17, rootWord 2 19⟩

/-- The exclusive or of three rotations of a word. -/
def rot3 (x : Word) (i j k : Nat) : Word := x.rotateRight i ^^^ (x.rotateRight j ^^^ x.rotateRight k)

/-- One round with the constant `k` and the schedule word `w`. -/
def Sha.round (x : Sha) (k w : Word) : Sha :=
  let choice := x.g ^^^ (x.e &&& (x.f ^^^ x.g))
  let majority := (x.a &&& (x.b ||| x.c)) ||| (x.b &&& x.c)
  let up := w + k + x.h + choice + rot3 x.e 6 11 25
  { a := up + majority + rot3 x.a 2 13 22
    b := x.a, c := x.b, d := x.c, e := up + x.d, f := x.e, g := x.f, h := x.g }

/-- The schedule word that follows a window of sixteen. -/
def shaNext (w : List Word) : Word :=
  let mix (i r q n : Nat) : Word := let x := w.getD i 0; (x >>> n) ^^^ (x.rotateRight r ^^^ x.rotateRight q)
  w.getD 0 0 + mix 1 7 18 3 + w.getD 9 0 + mix 14 17 19 10

/-- The rounds of one block over a sliding window of sixteen schedule words. -/
def shaRounds : List Word → Sha → List Word → Sha
  | [], x, _ => x
  | k :: ks, x, w => shaRounds ks (x.round k (w.headD 0)) (w.drop 1 ++ [shaNext w])

/-- The word sum of two chaining values. -/
def Sha.add (x y : Sha) : Sha :=
  ⟨x.a + y.a, x.b + y.b, x.c + y.c, x.d + y.d, x.e + y.e, x.f + y.f, x.g + y.g, x.h + y.h⟩

/-- Big-endian words of a list of bytes, `n` of them. -/
def beWords : Nat → List Byte → List Word
  | n + 1, b0 :: b1 :: b2 :: b3 :: t => (b0 ++ b1 ++ b2 ++ b3) :: beWords n t
  | _, _ => []

/-- `n` blocks of 64 bytes. -/
def shaBlocks : Nat → Sha → List Byte → Sha
  | 0, x, _ => x
  | n + 1, x, bs => shaBlocks n (x.add (shaRounds shaK x (beWords 16 bs))) (bs.drop 64)

/-- The bytes of a number, most significant first, `n` of them. -/
def beBytes (n v : Nat) : List Byte := (List.range n).map (fun i => BitVec.ofNat 8 (v / 2 ^ (8 * (n - 1 - i))))

/-- Bytes as a number, most significant first. -/
def beNat (bs : List Byte) : Nat := bs.foldl (fun n b => n * 256 + b.toNat) 0

/-- A message with its padding. -/
def shaPad (bs : List Byte) : List Byte :=
  bs ++ [0x80] ++ List.replicate ((119 - bs.length % 64) % 64) 0 ++ beBytes 8 (8 * bs.length)

/-- The digest as eight words, most significant first. -/
def Sha.words (x : Sha) : List Word := [x.a, x.b, x.c, x.d, x.e, x.f, x.g, x.h]

/-- SHA-256 of a list of bytes: 32 bytes. -/
def sha256 (bs : List Byte) : List Byte :=
  (shaBlocks ((bs.length + 72) / 64) Sha.init (shaPad bs)).words.flatMap (fun w => beBytes 4 w.toNat)

/-! ## ECDSA P-256 -/

/-- The field prime. -/
def p256P : Nat := 0xffffffff00000001000000000000000000000000ffffffffffffffffffffffff
/-- The group order. -/
def p256N : Nat := 0xffffffff00000000ffffffffffffffffbce6faada7179e84f3b9cac2fc632551
/-- The curve constant b; a is −3. -/
def p256B : Nat := 0x5ac635d8aa3a93e7b3ebbd55769886bc651d06b0cc53b0f63bce3c3e27d2604b
/-- The base point. -/
def p256G : Nat × Nat :=
  (0x6b17d1f2e12c4247f8bce6e563a440f277037d812deb33a0f4a13945d898c296,
   0x4fe342e2fe1a7f9b8ee7eb4a7c0f9e162bce33576b315ececbb6406837bf51f5)

/-- b ^ e modulo m, over the low `n` bits of e. -/
def powMod (m : Nat) : Nat → Nat → Nat → Nat → Nat
  | 0, _, _, acc => acc
  | n + 1, b, e, acc => powMod m n (b * b % m) (e / 2) (if e % 2 = 1 then acc * b % m else acc)

/-- The inverse modulo a 256-bit prime. -/
def invMod (m a : Nat) : Nat := powMod m 256 (a % m) (m - 2) 1

/-- a − b modulo the field prime. -/
def subP (a b : Nat) : Nat := (a + p256P - b % p256P) % p256P

/-- A point of the curve; none is the point at infinity. -/
abbrev EcPoint := Option (Nat × Nat)

/-- The chord or tangent of slope `l` through (x1, y1) and a point with abscissa x2. -/
def ecSlope (l x1 y1 x2 : Nat) : EcPoint :=
  let x3 := subP (subP (l * l) x1) x2
  some (x3, subP (l * subP x1 x3) y1)

/-- The sum of two points. -/
def ecAdd (a b : EcPoint) : EcPoint :=
  match a, b with
  | none, q => q
  | q, none => q
  | some (x1, y1), some (x2, y2) =>
    if x1 = x2 then
      if (y1 + y2) % p256P = 0 then none
      else ecSlope ((3 * x1 * x1 + p256P - 3) * invMod p256P (2 * y1) % p256P) x1 y1 x2
    else ecSlope (subP y2 y1 * invMod p256P (subP x2 x1) % p256P) x1 y1 x2

/-- k × q over the low `n` bits of k. -/
def ecMul : Nat → Nat → EcPoint → EcPoint → EcPoint
  | 0, _, _, acc => acc
  | n + 1, k, q, acc => ecMul n (k / 2) (ecAdd q q) (if k % 2 = 1 then ecAdd acc q else acc)

/-- (x, y) is a point of the curve. -/
def onCurve (x y : Nat) : Bool :=
  decide (x < p256P) && decide (y < p256P) && (y * y % p256P == (x * x * x + (p256P - 3) * x + p256B) % p256P)

/-- The signature (r, s) of a digest holds under the public key (x, y). -/
def ecdsaOk (x y r s : Nat) (digest : List Byte) : Bool :=
  if 1 ≤ r ∧ r < p256N ∧ 1 ≤ s ∧ s < p256N ∧ onCurve x y then
    let w := invMod p256N s
    let u1 := beNat digest % p256N * w % p256N
    let u2 := r * w % p256N
    match ecAdd (ecMul 256 u1 (some p256G) none) (ecMul 256 u2 (some (x, y)) none) with
    | some (rx, _) => rx % p256N == r
    | none => false
  else false

end Sys2Proof.Machine
end

