-- ==== Sys2Proof/Machine/Image.lean ====
section
/-!
DEFINITION. The Wegor image and its checks (R73 to R77, R84), the ring-1 seal (R78, R79) and the policy of R68 and R69.
-/

namespace Sys2Proof.Machine

/-- A little-endian number of `n` bytes at `off` of a list; bytes beyond the list read 0. -/
def ldLe (bs : List Byte) (off n : Nat) : Nat := ((bs.drop off).take n).foldr (fun b a => b.toNat + 256 * a) 0

/-- Codes of OTP.BOOT.IMG. -/
def imgNone : Nat := 0x01
def imgUntried : Nat := 0x0F
def imgABSENT : Nat := 0x10
def imgHEADER : Nat := 0x11
def imgLENGTH : Nat := 0x12
def imgADDR : Nat := 0x13
def imgVERSION : Nat := 0x14
def imgKEY : Nat := 0x15
def imgSIG : Nat := 0x16
def imgBOOTTAB : Nat := 0x40

/-- Fields of a header (R73). -/
def hdrFlags (h : List Byte) : Nat := ldLe h 6 2
def hdrLength (h : List Byte) : Nat := ldLe h 8 4
def hdrLoad (h : List Byte) : Nat := ldLe h 0xC 4
def hdrEntry (h : List Byte) : Nat := ldLe h 0x10 4
def hdrVersion (h : List Byte) : Nat := ldLe h 0x14 2

/-- The slot holds MAGIC. -/
def hdrMagic (h : List Byte) : Bool := h.take 4 == [0x57, 0x47, 0x52, 0x31]

/-- Where a slot starts: 0 = A, 1 = B. -/
def slotBase (slot : Nat) : Nat := if slot = 0 then 0 else 0x100000

namespace State

/-- The bits programmed in row `r`. -/
def rowBits (s : State) (r : Nat) : Nat := (List.range 32).countP (fun i => (s.otpRow r).getLsbD i)

/-- MINVER (R63). -/
def minver (s : State) : Nat := (List.range 8).foldl (fun n k => n + s.rowBits (32 + k)) 0

/-- A digest held in eight rows from `r` (R63). -/
def rowDigest (s : State) (r : Nat) : List Byte := (List.range 8).flatMap (fun k => le32 (s.otpRow (r + k)).toNat)

/-- A row from `r` on, `n` of them, reads uncorrectable. -/
def rowsBad (s : State) (r n : Nat) : Bool := (List.range n).any (fun k => s.otpStatus (r + k) == 2)

/-- What the external flash returns; without VIO every bit reads 1 (R363). -/
def extView (s : State) (vio : Bool) (a n : Nat) : List Byte :=
  if vio then s.extBytes a n else List.replicate n 0xFF

/-- The key check of R74. -/
def keyOk (s : State) (h : List Byte) : Bool :=
  !s.rowsBad 12 8 && s.rowDigest 12 != List.replicate 32 0 && s.rowDigest 12 == sha256 ((h.drop 0x20).take 0x40)

/-- The checks of R74 after MAGIC, in order: the first failing code, 0 when all pass. -/
def hdrCode (s : State) (h : List Byte) : Nat :=
  let len := hdrLength h
  let load := hdrLoad h
  let ent := hdrEntry h
  if ldLe h 4 2 ≠ 1 ∨ hdrFlags h / 2 ≠ 0 ∨ ((h.drop 0x16).take 10).any (fun b => b != 0) then imgHEADER
  else if len % 4 ≠ 0 ∨ len < 4 ∨ 655360 < len then imgLENGTH
  else if load % 4 ≠ 0 ∨ load < 0x20000000 ∨ 0x200A0000 < load + len ∨ ent % 2 ≠ 0 ∨ ent < load ∨ load + len ≤ ent then
    imgADDR
  else if hdrVersion h < s.minver then imgVERSION
  else if s.keyOk h = false then imgKEY
  else 0

/-- The signature over the image holds (R73, R75). -/
def sigOk (s : State) (vio : Bool) (base : Nat) (h : List Byte) : Bool :=
  let n := 0x60 + hdrLength h
  let sig := s.extView vio (base + n) 64
  ecdsaOk (beNat ((h.drop 0x20).take 32)) (beNat ((h.drop 0x40).take 32)) (beNat (sig.take 32)) (beNat (sig.drop 32))
    (sha256 (s.extView vio base n))

/-- A slot's header as read. -/
def slotHdr (s : State) (vio : Bool) (slot : Nat) : List Byte := s.extView vio (slotBase slot) 0x60

/-- The whole check of a slot that holds MAGIC: R74, then the signature. -/
def slotCode (s : State) (vio : Bool) (slot : Nat) : Nat :=
  let h := s.slotHdr vio slot
  let c := s.hdrCode h
  if c ≠ 0 then c else if s.sigOk vio (slotBase slot) h then 0 else imgSIG

/-- Loading a slot: a body that passed R74 is copied to LOAD, and zeroed when the signature fails (R75). -/
def slotLoad (s : State) (vio : Bool) (slot : Nat) : State :=
  let h := s.slotHdr vio slot
  if s.hdrCode h ≠ 0 then s
  else if s.sigOk vio (slotBase slot) h then
    s.setBytes (hdrLoad h) (s.extView vio (slotBase slot + 0x60) (hdrLength h))
  else s.setBytes (hdrLoad h) (List.replicate (hdrLength h) 0)

/-- Where the scratch area holds a slot's header (R74): between the vectors and the gate table of the GALE bank. -/
def scratchAddr (slot : Nat) : Nat := 0x200B8400 + Config.romScratch slot % 0x5B20

/-- The header of a slot is copied into the scratch area (R74). -/
def hdrCopy (s : State) (vio : Bool) (slot : Nat) : State := s.setBytes (scratchAddr slot) (s.slotHdr vio slot)

/-- What the ROM's core loads of flash granules with these statuses leave in NVC.ECCSTAT and ECCADDR (R160): how often
and in what order it reads each is not given, so a count and an address are free. -/
def romLoads (s : State) (sts : List Nat) : State :=
  let s1 := if sts.contains 1 then s.put F.NVC_ECCSTAT_CORRCNT (Config.freeAt s.free 1000) else s
  let s2 := if sts.contains 2 then s1.put F.NVC_ECCSTAT_UNCORR 1 else s1
  let s3 := if sts.contains 4 then s2.put F.NVC_ECCSTAT_UNREL 1 else s2
  if sts.contains 1 ∨ sts.contains 2 then s3.put F.NVC_ECCADDR_ADDR (Config.freeAt s.free 1003) else s3

/-- The statuses of the flash granules that `n` bytes at `a` lie in. -/
def gransOf (s : State) (a n : Nat) : List Nat :=
  ((List.range (n + 16)).filter (fun i => i < n ∧ inFlash (a + i))).map (fun i => s.granStatus (a + i))

/-! ## Slot choice (R77, R84) -/

/-- The preferred slot of the boot word, when it names one. -/
def preferred (s : State) : Option Nat :=
  match bitsOf (s.word 0x40024180) 0 2 with
  | 1 => some 0
  | 2 => some 1
  | _ => none

/-- The slots that hold MAGIC, in the order of R77. -/
def slotOrder (s : State) (vio : Bool) : List Nat :=
  let a := s.slotHdr vio 0
  let b := s.slotHdr vio 1
  match hdrMagic a, hdrMagic b with
  | true, true => if hdrVersion a < hdrVersion b then [1, 0] else [0, 1]
  | true, false => [0]
  | false, true => [1]
  | false, false => []

/-- The slots in the order the boot tries them: the preferred one first; one without MAGIC is not tried at all (DEDUCED,
log entry 64). -/
def bootOrder (s : State) (vio : Bool) : List Nat :=
  let l := s.slotOrder vio
  match s.preferred with
  | some p => if l.contains p then p :: l.filter (fun x => x != p) else l
  | none => l

end State

/-- What step 5 of R80 comes to. -/
structure ImgOut where
  img : Nat
  /-- OTP.BOOT.SLOT: 0 none, 1 A, 2 B. -/
  slot : Nat
  fallback : Bool
  /-- IMG_ACT applies. -/
  act : Bool
  /-- ENTRY and FLAGS of the accepted image. -/
  accepted : Option (Nat × Nat)
  deriving DecidableEq, Repr

namespace State

/-- An accepted slot. -/
def slotAccept (s : State) (vio : Bool) (slot : Nat) (fallback : Bool) : State × ImgOut :=
  let h := s.slotHdr vio slot
  (s.slotLoad vio slot, ⟨0, slot + 1, fallback, false, some (hdrEntry h, hdrFlags h)⟩)

/-- Step 5 over the slots to try. When both fail, which of the two codes IMG holds is free. -/
def tryImages (s : State) (vio : Bool) : State × ImgOut :=
  match s.bootOrder vio with
  | [] => if 2 ≤ s.bootSrc then (s, ⟨imgABSENT, 0, false, true, none⟩) else (s, ⟨imgNone, 0, false, false, none⟩)
  | x :: rest =>
    if s.slotCode vio x = 0 then s.slotAccept vio x false
    else
      let s1 := s.slotLoad vio x
      match rest with
      | [] => (s1, ⟨s.slotCode vio x, 0, true, true, none⟩)
      | y :: _ =>
        if s.slotCode vio y = 0 then s1.slotAccept vio y true
        else
          (s1.slotLoad vio y,
            ⟨if s.fresh % 2 = 0 then s.slotCode vio x else s.slotCode vio y, 0, true, true, none⟩)

/-! ## The seal (R78, R79) -/

/-- The base and length of the sealed partition. -/
def sealBase (s : State) : Nat := (s.otpRow 28).toNat
def sealLen (s : State) : Nat := (s.otpRow 29).toNat

/-- A seal descriptor in order (R78, step 4). -/
def sealDescOk (s : State) : Bool :=
  s.sealBase % 0x1000 == 0 && s.sealLen % 0x1000 == 0 && s.sealLen != 0 && decide (0x10000000 ≤ s.sealBase) &&
    decide (s.sealBase + s.sealLen ≤ 0x10040000)

/-- A granule of the partition satisfies `f`. -/
def sealGran (s : State) (f : Nat → Bool) : Bool :=
  (List.range (s.sealLen / 16)).any (fun i => f (s.granStatus (s.sealBase + 16 * i)))

/-- The result of R78 as OTP.BOOT.SEAL codes it. -/
def sealCode (s : State) : Nat :=
  if s.rowsBad 20 8 then 0x22
  else if s.rowDigest 20 = List.replicate 32 0 then 0x01
  else if s.rowsBad 28 2 then 0x22
  else if s.sealDescOk = false then 0x20
  else if s.sealGran (fun g => g == 2 || g == 4) then 0x21
  else if sha256 (s.bytes s.sealBase s.sealLen) = s.rowDigest 20 then 0x00
  else 0x21

/-- After the check passes: ring 1 takes the partition, and the NVC refuses to change it (R79). Region 0 of ring 1 is
enabled for reads and fetches. -/
def sealApply (s : State) : State :=
  let s1 := (((s.put (F.PROT_RGN1A_CTL 0) 0xB).put (F.PROT_RGN1A_BASE 0) (s.sealBase / 256)).put (F.PROT_RGN1B_LAST 0)
    ((s.sealBase + s.sealLen - 1) / 256)).put F.PROT_LOCK_SEAL 1
  ((s1.put F.NVC_SEAL_FIRST ((s.sealBase - 0x10000000) / 0x1000)).put F.NVC_SEAL_COUNT (s.sealLen / 0x1000)).put
    F.NVC_LOCK_SLOCK 1

/-- The check reads every granule of the partition (R78, step 5), and NVC.ECCSTAT records it (R160). -/
def sealEcc (s : State) : State :=
  if s.rowsBad 20 8 ∨ s.rowDigest 20 = List.replicate 32 0 ∨ s.rowsBad 28 2 ∨ s.sealDescOk = false then s
  else s.romLoads ((List.range (s.sealLen / 16)).map (fun i => s.granStatus (s.sealBase + 16 * i)))

/-! ## The policy (R68, R69) -/

/-- ALARM_ACT applies. -/
def alarmSeen (s : State) : Bool :=
  s.on F.OTP_ALARM_ALARM || s.rowsBad 12 8 || s.rowsBad 20 8 || s.rowsBad 28 2 || s.rowsBad 32 8

/-- Severity of the 2-bit action at bit `lo` of POLICY: 0 continue, 1 ports locked off, 2 halt. -/
def action (s : State) (lo : Nat) : Nat := min (s.policy / 2 ^ lo % 4) 2

end State

end Sys2Proof.Machine
end

