-- ==== Sys2Proof/Machine/Threads.lean ====
section
/-!
DEFINITION. Threads and events: yield, halt, signal, wait and spawn (R85, R92, R123, R124).
-/

namespace Sys2Proof.Machine

/-- The lowest line of a mask. -/
def lowestLine (m : BitVec 64) : Nat := ((List.range 64).find? (fun k => m.getLsbD k)).getD 0

/-- The wait mask of a register pair: E0 to E31 in the named register. -/
def pairMask (x : Thread) (gm : Gpr) : BitVec 64 := x.reg (gm + 1) ++ x.reg gm

/-- Rings and classes a thread at ring `cur` may start (R124). -/
def spawnAllowed (cur ring cls : Nat) : Bool :=
  if cur = 0 then true
  else if cur = 3 then ring == 3 && decide (cls ≤ 1)
  else decide (max cur 2 ≤ ring) && decide (cls ≤ 2)

/-- A started thread (R124). SCR is not named there and stays. -/
def spawned (x : Thread) (pc arg : Word) (ring : Nat) : Thread :=
  { x with
    g := (Vector.replicate 16 0).set 0 arg, pc := pc, psw := mkPsw 0 false ring 0, st := .ready, pend := 0, icnt := 0,
    wmask := 0, fsUsed := Vector.replicate 3 0, stall := none, yielding := false, divAt := none }

namespace State

/-- WAIT (R92): a pending line of the mask is consumed, or the thread waits at this instruction. -/
def wait (s : State) (t : Tid) (gm : Gpr) : State :=
  s.issue t 2 (fun s x =>
    let m := pairMask x gm
    if gm.val % 2 = 1 then .flt cILLEGAL 0
    else if m = 0 ∨ (t = 0 ∧ m.extractLsb' 0 32 = 0) then .flt cWAITMASK 0
    else
      let y := { x with wmask := m }
      if x.pend &&& m = 0 then .done (s.setThr t { y with st := .waiting (.event m) }) 1
      else
        let k := lowestLine (x.pend &&& m)
        .done (s.advance t 2 ({ y with pend := x.pend &&& ~~~(lineMask k) }.setReg 0 (BitVec.ofNat 32 k))) 1)

/-- spawn (R124); SPAWN takes precedence over ALIGN. -/
def spawn (s : State) (t tn : Tid) (gs ga : Gpr) (ring cls : Nat) : State :=
  s.issue t 4 (fun s x =>
    if tn = 0 ∨ (s.thr tn).st ≠ .halted ∨ spawnAllowed x.ring ring cls = false then .flt cSPAWN 0
    else if bitOf (x.reg gs) 0 then .flt cALIGN (x.reg gs)
    else
      let s1 := s.setThr tn (spawned (s.thr tn) (x.reg gs) (x.reg ga) ring)
      .done ((s1.put (F.EVT_TCFG_CLASS tn) cls).advance t 4 x) 4)

end State

/-! ## Meanings -/

/-- yield: not READY for the next 8 core cycles. -/
def execYield (t : Tid) (s : State) : Answer := .next (s.plain t 2 1 (fun x => { x with yielding := true }))

/-- YIELD_EXPIRE: the 8 cycles are over. -/
def execYieldExpire (t : Tid) (s : State) : Answer := .next (s.setThr t { s.thr t with yielding := false })

/-- halt: T0 cannot be halted (R88). -/
def execHalt (t : Tid) (s : State) : Answer :=
  .next (s.issue t 2 (fun s x => if t = 0 then .flt cPRIV 0 else .done (s.advance t 2 { x with st := .halted }) 1))

/-- signal: E(32 + k) becomes pending in every thread as the instruction completes (R91, R93). -/
def execSignal (t : Tid) (k : Fin 32) (s : State) : Answer :=
  .next (s.issue t 2 (fun s x => .done ((s.advance t 2 x).pendAll (lineMask (32 + k.val))) 1))

def execWait (t : Tid) (gm : Gpr) (s : State) : Answer := .next (s.wait t gm)

def execSpawn (t tn : Tid) (gs ga : Gpr) (ring : Ring) (cls : Fin 4) (s : State) : Answer :=
  .next (s.spawn t tn gs ga ring.val cls.val)

end Sys2Proof.Machine
end

