-- ==== Sys2Proof/Machine/Boot.lean ====
section
/-!
DEFINITION. The boot sequence (R80 to R82) with the thread, window and port descriptors of its table (R232, R258, R276,
R277, R302), the service-only state (R71), and the CORE reset (R58, R60).
-/

namespace Sys2Proof.Machine

/-! ## CORE reset -/

/-- The CORE reset waits for the command in execution (R58); a SYSTEM reset on its way prevails (Corners of spec/02). A
request whose latched write takes effect in CALM waits for the wake (DESIGN CHOICE, log entry 61). -/
def State.coreResetDue (s : State) : Bool :=
  s.powered && s.on F.SYS_RSTSTAT_CORE_PEND && decide (s.pwr.state ≠ .calm) && !(s.stopping && s.pwr.endSys) &&
    !s.pwr.sysDue && s.host.kernel.isNone && s.host.svc.toList.all (fun x => x.isNone)

/-- A telegram engine finishes its frame, an exchange as master or a target's answer, then halts; with none in progress it
halts at once (R60). -/
def State.engCoreReset (s : State) (p : Fin 2) : State :=
  if s.frameRuns p then s.portUpd p (fun x => { x with haltAfter := true, bootEnable := false })
  else (s.put (F.P_ENG_CTL_RUN p) 0).portUpd p (fun x => { x with resync := true, bootEnable := false })

/-- CORE_RESET: the store buffer drains, then threads, PSWs, gates, regions and EVT are Cold and T0 runs the boot ROM
again; DISPEN clears (R297) and a suspended erase completes (R60). -/
def State.coreReset (s : State) : State :=
  if s.coreResetDue then
    let s1 := s.drainSb
    let c := s1.core
    let s2 := { s1 with core := { Core.cold with latch := c.latch, raised := c.raised } }
    let s3 := (s2.coldWindow 0x40003000 (fun _ => false)).coldWindow 0x40004000 (fun _ => false)
    let s4 := ((s3.put F.HOST_CTL_DISPEN 0).put F.SYS_RSTCAUSE_CORE 1).put F.SYS_RSTSTAT_CORE_PEND 0
    let s5 := (s4.engCoreReset 0).engCoreReset 1
    let s6 := (if s5.erSuspended then s5.erResume else s5).nvcUpd (fun n => { n with
      held := n.held.map (fun e => { e with suspended := false }) })
    s6.pwrUpd (fun p => { p with state := .run, coreHeld := true, inEntry := false, booted := false })
  else s

/-! ## Descriptors -/

/-- A boot-table entry (R82). -/
structure BootEnt where
  kind : Nat
  idx : Nat
  zero : Nat
  ptr : Nat
  deriving DecidableEq, Repr

/-- A window descriptor (R276). -/
structure WinDesc where
  port : Nat
  addr : Nat
  ring : Nat
  rights : Nat
  rails : Nat
  epl : Nat
  eph : Nat
  baud : Nat
  ufmt : Nat
  svcthr : Nat
  svctmo : Nat
  zero : Nat
  deriving DecidableEq, Repr

/-- The fields of a window descriptor. -/
def winDesc (b : List Byte) : WinDesc where
  port := ldLe b 0 1
  addr := ldLe b 1 1
  ring := ldLe b 2 1
  rights := ldLe b 3 1
  rails := ldLe b 4 4
  epl := ldLe b 8 4
  eph := ldLe b 12 4
  baud := ldLe b 16 4
  ufmt := ldLe b 20 1
  svcthr := ldLe b 21 1
  svctmo := ldLe b 22 2
  zero := ldLe b 24 8

/-- Only bits [18:1] are set. -/
def railBitsOnly (v : Nat) : Bool := v % 2 == 0 && decide (v < 2 ^ 19)

/-- The clock of R302 in sixteenths, with PRESC. -/
def uartClk16 (baud : Nat) : Nat := if baud < 367 then 24000000 else 192000000

/-- The oversampling of R302. -/
def uartOsr (baud : Nat) : Nat := if baud ≤ 1500000 then 8 else 3

/-- D of R302 in sixteenths; a tie between two sixteenths is free. -/
def State.uartD16 (s : State) (baud : Nat) : Nat := s.roundNearest (uartClk16 baud) (uartOsr baud * baud)

/-- A BAUD R302 accepts: in range, with a rate error of at most 0.5 % and a divider that DIV can hold. -/
def State.baudOk (s : State) (baud : Nat) : Bool :=
  let q := uartOsr baud * baud
  let d := s.uartD16 baud
  let n := uartClk16 baud
  decide (300 ≤ baud) && decide (baud ≤ 4000000) && decide (16 ≤ d) && decide (d < 65536) &&
    decide (200 * (n - q * d) ≤ q * d) && decide (200 * (q * d - n) ≤ q * d)

/-- The rules of R276 for one descriptor by itself. -/
def State.winDescOk (s : State) (d : WinDesc) : Bool :=
  decide (d.port ≤ 4) && (d.ring == 2 || d.ring == 3) && decide (d.rights < 8) && railBitsOnly d.rails &&
    decide (d.svcthr ≤ 15) && decide (d.svctmo ≤ 4095) && d.zero == 0 &&
    (if d.port < 2 then decide (8 ≤ d.addr) && decide (d.addr ≤ 0x77) && d.baud == 0 && d.ufmt == 0
     else d.addr == 0 && s.baudOk d.baud && decide (d.ufmt % 4 ≤ 2) && decide (d.ufmt < 8))

/-- A thread descriptor keeps R232. -/
def threadDescOk (b : List Byte) : Bool :=
  ldLe b 0 4 % 2 == 0 && decide (ldLe b 8 1 ≤ 3) && decide (ldLe b 9 1 ≤ 3) && ldLe b 10 2 == 0 &&
    railBitsOnly (ldLe b 12 4)

/-- A number within bounds. -/
def within (lo hi v : Nat) : Bool := decide (lo ≤ v) && decide (v ≤ hi)

/-- A port descriptor keeps R258. -/
def portDescOk (b : List Byte) : Bool :=
  within 0 1 (ldLe b 0 1) && within 0 180 (ldLe b 1 1) && within 0 8 (ldLe b 2 1) && within 0 3 (ldLe b 3 1) &&
    within 10 150 (ldLe b 4 1) && within 5 20 (ldLe b 5 1) && within 10 100 (ldLe b 6 1) && within 0 5 (ldLe b 7 1) &&
    within 1 256 (ldLe b 8 2) && ldLe b 10 2 == 0

namespace State

/-! ## Reading the table -/

/-- The boot ROM can load the byte at `a`: SRAM or readable flash, no guard region. -/
def romCanRead (s : State) (a : Nat) : Bool :=
  (inSram a || (inFlash a && s.nvcLive && s.granStatus a != 2)) && s.protAllows 0 a accR

/-- `n` bytes at `a` as the boot ROM loads them, buffered stores included. -/
def romRead (s : State) (a n : Nat) : Option (List Byte) :=
  if (List.range n).all (fun i => s.romCanRead (a + i)) then some (s.sramNow.bytes a n) else none

/-- Entry `n` of a table. -/
def bootEntAt (s : State) (a n : Nat) : Option BootEnt :=
  (s.romRead (a + 8 + 8 * n) 8).map (fun b => ⟨ldLe b 0 1, ldLe b 1 1, ldLe b 2 2, ldLe b 4 4⟩)

/-- The table at `a`, when its header keeps R82 and its entries can be read. -/
def bootTable (s : State) (a : Nat) : Option (List BootEnt) :=
  match s.romRead a 8 with
  | none => none
  | some h =>
    if h.take 4 = [0x42, 0x54, 0x42, 0x31] ∧ 1 ≤ ldLe h 4 2 ∧ ldLe h 4 2 ≤ 64 ∧ ldLe h 6 2 = 0 then
      (List.range (ldLe h 4 2)).mapM (fun n => s.bootEntAt a n)
    else none

/-- Bytes of a descriptor. -/
def descLen (kind : Nat) : Nat := if kind = 2 then 32 else 16

/-- An entry by itself keeps R82, and its descriptor can be read. -/
def entShapeOk (s : State) (e : BootEnt) : Bool :=
  e.zero == 0 && (s.romRead e.ptr (descLen e.kind)).isSome &&
    match e.kind with
    | 1 => within 1 15 e.idx
    | 2 => within 0 3 e.idx
    | 3 => within 0 1 e.idx
    | _ => false

/-- An entry's descriptor. -/
def desc (s : State) (e : BootEnt) : List Byte := (s.romRead e.ptr (descLen e.kind)).getD []

/-- A thread entry can be spawned: R232, and R124 for a spawn by ring 0. -/
def threadEntOk (s : State) (e : BootEnt) : Bool :=
  threadDescOk (s.desc e) && decide ((s.thr (Fin.ofNat 16 e.idx)).st = .halted)

/-! ## Windows -/

/-- The format of a bound UART as UFMT codes it. -/
def boundFmt (s : State) (u : Nat) : Nat :=
  s.get (F.U_CFG_PAR u) % 4 + (if s.get (F.U_CFG_STOP u) = 2 then 4 else 0)

/-- A descriptor matches the binding of window `w` in every field (R276). -/
def winMatches (s : State) (w : Fin 4) (d : WinDesc) : Bool :=
  s.get (F.HOST_WCFG_PORT w) == d.port && s.get (F.HOST_WCFG_ADDR w) == d.addr &&
    s.get (F.HOST_WCFG_RING3 w) + 2 == d.ring && s.get (F.HOST_WCFG_RIGHTS w) == d.rights &&
    2 * s.get (F.HOST_WRAIL_RAILS w) == d.rails && s.get (F.HOST_WEPL_M w) == d.epl &&
    s.get (F.HOST_WEPH_M w) == d.eph && s.get (F.HOST_WCFG_SVCTHR w) == d.svcthr &&
    s.get (F.HOST_WCFG_SVCTMO w) == d.svctmo &&
    (decide (d.port < 2) || (s.host.baud[w] == d.baud && s.boundFmt (d.port - 2) == d.ufmt))

/-- The windows bound before the table is read: window, port, address. -/
def boundNow (s : State) : List (Nat × Nat × Nat) :=
  ((List.range 4).filter (fun w => s.winBound w)).map
    (fun w => (w, s.get (F.HOST_WCFG_PORT w), s.get (F.HOST_WCFG_ADDR w)))

/-- The window entries of a table, one after the other: none when one of them is invalid. -/
def winEntsOk (s : State) : List BootEnt → List (Nat × Nat × Nat) → Bool
  | [], _ => true
  | e :: t, bound =>
    let d := winDesc (s.desc e)
    if s.winDescOk d = false then false
    else if bound.any (fun b => b.1 == e.idx) then s.winMatches (Fin.ofNat 4 e.idx) d && s.winEntsOk t bound
    else
      !s.on F.HOST_LOCK_LOCK && !bound.any (fun b => b.2.1 == d.port && b.2.2 == d.addr) &&
        decide (bound.countP (fun b => b.2.1 == d.port) < 2) && s.winEntsOk t ((e.idx, d.port, d.addr) :: bound)

/-- Domain `d` is switched on by the boot ROM and reaches power-good. -/
def romDomainOn (s : State) (d : Nat) : State :=
  if s.domPg d then s
  else (s.domctlWrite 0 (BitVec.ofNat 32 (s.get F.SYS_DOMCTL_DSW * 4) ||| BitVec.twoPow 32 d)).domainPowerGood d

/-- The framer of a UART window (R302). -/
def framerSet (s : State) (u : Nat) (baud ufmt : Nat) : State :=
  let d := s.uartD16 baud
  let s1 := ((s.put (F.U_CFG_DBITS u) 8).put (F.U_CFG_PAR u) (ufmt % 4)).put (F.U_CFG_STOP u)
    (if ufmt / 4 % 2 = 1 then 2 else 0)
  let s2 := ((s1.putB (F.U_CFG_OSR u) (uartOsr baud == 3)).putB (F.U_CFG_PRESC u) (decide (baud < 367))).put
    (F.U_CFG_RXEN u) 1
  ((s2.put (F.U_CFG_TXEN u) 1).put (F.U_DIV_DIVI u) (d / 16)).put (F.U_DIV_DIVF u) (d % 16)

/-- The window registers of a new binding. -/
def winSet (s : State) (w : Fin 4) (d : WinDesc) : State :=
  let s1 := if d.port < 2 then s else s.framerSet (d.port - 2) d.baud d.ufmt
  let s2 := (((s1.put (F.HOST_WCFG_BOUND w) 1).put (F.HOST_WCFG_PORT w) d.port).put (F.HOST_WCFG_ADDR w) d.addr).put
    (F.HOST_WCFG_RING3 w) (d.ring - 2)
  let s3 := ((s2.put (F.HOST_WCFG_RIGHTS w) d.rights).put (F.HOST_WCFG_SVCTHR w) d.svcthr).put
    (F.HOST_WCFG_SVCTMO w) d.svctmo
  let s4 := ((s3.put (F.HOST_WRAIL_RAILS w) (d.rails / 2)).put (F.HOST_WEPL_M w) d.epl).put (F.HOST_WEPH_M w) d.eph
  { s4 with host := { s4.host with baud := s4.host.baud.set w d.baud } }

/-- One window entry: the binding, when new, and R277. -/
def winBind (s : State) (e : BootEnt) : State :=
  let w : Fin 4 := Fin.ofNat 4 e.idx
  let d := winDesc (s.desc e)
  let s1 := if d.svcthr = 0 then s
    else s.put (F.EVT_RPERM_RAILS d.svcthr) (s.get (F.EVT_RPERM_RAILS d.svcthr) &&& (d.rails / 2))
  let s2 := if s1.winBound w then s1 else s1.winSet w d
  (s2.put F.HOST_LOCK_LOCK 1).put F.HOST_CTL_DISPEN 1

/-! ## Threads and ports -/

/-- One thread entry (R232); ring-1 code starts only when the seal passed (R68, R78). -/
def threadStart (s : State) (sealed : Bool) (e : BootEnt) : State :=
  let b := s.desc e
  let t : Tid := Fin.ofNat 16 e.idx
  let s1 := s.put (F.EVT_RPERM_RAILS e.idx) (ldLe b 12 4 / 2)
  if ldLe b 8 1 = 1 ∧ sealed = false then s1
  else
    (s1.setThr t (spawned (s1.thr t) (BitVec.ofNat 32 (ldLe b 0 4)) (BitVec.ofNat 32 (ldLe b 4 4)) (ldLe b 8 1))).put
      (F.EVT_TCFG_CLASS e.idx) (ldLe b 9 1)

/-- Replace `w` bits at `lo` of a word. -/
def setBits (v : Word) (lo w x : Nat) : Word :=
  BitVec.ofNat 32 (v.toNat - bitsOf v lo w * 2 ^ lo + x % 2 ^ w * 2 ^ lo)

/-- What an engine descriptor sets: its layout is not given, so every engine register takes a free legal value (log
entry 41). -/
def engFree (s : State) (p : Fin 2) : State :=
  let f (i : Nat) : Nat := Config.freeAt s.free (2000 + 100 * p.val + i)
  let s1 := ((s.put (F.P_ENG_TIM_GAP p) (11 + f 0 % 245)).put (F.P_ENG_TIM_POST p) (11 + f 1 % 245)).put
    (F.P_ENG_TIM_TRESPX p) (f 2 % 1001)
  let s2 := ((s1.put (F.P_TSET_TADDR p) (f 3 % 251)).put (F.P_TSET_TDLY p) (11 + f 4 % 245)).put (F.P_TSET_TBAUD p) (f 5)
  let s3 := ((s2.put (F.P_TRSP_SIZE p) (f 6)).put (F.P_TRSP_BUF p) (f 7)).put (F.P_TRCV_SIZE p) (f 8)
  (s3.put (F.P_TRCV_BUF p) (f 9)).put (F.P_ENG_CTL_RUN p) (f 10)

/-- One port entry (R258): the fields, each by the rule of a ring-0 store, then R254. -/
def portStart (s : State) (e : BootEnt) : State :=
  let b := s.desc e
  let p : Fin 2 := Fin.ofNat 2 e.idx
  let s0 := s.romDomainOn (5 + p.val)
  let s1 := s0.portCtlWrite p 0 (setBits (s0.storedWord (F.P_CTL_EN p).addr) 1 2 (ldLe b 0 1))
  let s2 := s1.portLineWrite p 0 (setBits (setBits (setBits (s1.storedWord (F.P_LINE_MARK p).addr) 0 8 (ldLe b 1 1)) 8 4
    (ldLe b 2 1)) 12 3 (ldLe b 7 1))
  let s3 := (s2.put (F.P_TGT_QUL p) (ldLe b 3 1)).put (F.P_RX_ULMAX p) (ldLe b 8 2)
  let s4 := s3.portLedgWrite p 0 (setBits (setBits (setBits (s3.storedWord (F.P_LEDG_PLIM p).addr) 0 8 (ldLe b 4 1)) 8 5
    (ldLe b 5 1)) 16 7 (ldLe b 6 1))
  (if ldLe b 12 4 = 0 then s4 else s4.engFree p).measGo p true

/-- The entries of a table, when all of it keeps its rules. -/
def tableOk (s : State) (a : Nat) : Option (List BootEnt) :=
  match s.bootTable a with
  | none => none
  | some l =>
    if (l.map (fun e => (e.kind, e.idx))).Nodup ∧ l.all (fun e => s.entShapeOk e) ∧
        (l.filter (fun e => e.kind == 1)).all (fun e => s.threadEntOk e) ∧
        s.winEntsOk (l.filter (fun e => e.kind == 2)) s.boundNow ∧
        (l.filter (fun e => e.kind == 3)).all (fun e => portDescOk (s.desc e)) then
      some l
    else none

/-! ## The end of the sequence -/

/-- What the ROM leaves in T0: it goes on at `pc` at ring 0; what else its code left there is free. -/
def romThread (s : State) (pc : Word) : State :=
  let x := s.thr 0
  let y := (List.range 16).foldl (fun y i => y.setReg (Fin.ofNat 16 i) (s.freeWord i)) x
  (s.setThr 0 { y with
    pc := pc, psw := mkPsw (s.freeWord 16).toNat false 0 (s.freeWord 17).toNat, st := .ready, stall := none,
    yielding := false, divAt := none, icnt := s.freeWord 18, scr := s.freeWord 19, wmask := (s.freeWord 20).setWidth 64 }).tickFree

/-- A halfword address in the boot ROM. -/
def romAddr (h : BitVec 15) : Word := (h ++ 0#1).setWidth 32

/-- The service-only state (R71): whatever HOST.LOCK and earlier bindings say, only the binding of R71 applies (R81). -/
def serviceOnly (s : State) : State :=
  let s0 := (List.range 4).foldl (fun x w => x.put (F.HOST_WCFG_BOUND w) 0) (s.romDomainOn 4)
  let s1 := s0.winSet 0 ⟨2, 0, 3, 0, 0, 0, 0, 115200, 0, 0, 0, 0⟩
  ((((s1.put F.HOST_LOCK_LOCK 1).put F.HOST_CTL_SVC 1).put F.HOST_CTL_DISPEN 1).pwrUpd (fun p => { p with
    inEntry := false, booted := true })).romThread (romAddr Config.romKernel)

/-- An invalid table (R82). -/
def bootTabFail (s : State) : State := ((s.put F.OTP_BOOT_IMG imgBOOTTAB).put F.OTP_BOOT_FINAL 2).serviceOnly

/-- The statuses of the flash granules that the ROM reads of a table and of its descriptors. -/
def tableReads (s : State) (a : Nat) (l : List BootEnt) : List Nat :=
  s.gransOf a (8 + 8 * l.length) ++ l.flatMap (fun e => s.gransOf e.ptr (descLen e.kind))

/-- Step 9 (R276, R277, R297): the windows of the table are bound; with bindings that a CORE reset kept, DISPEN is set
again in any case. -/
def bindWindows (s : State) (ws : List BootEnt) : State :=
  let s1 := if ws = [] then s else ws.foldl (fun x e => x.winBind e) (s.romDomainOn 4)
  let s2 := if (List.range 4).any (fun w => s1.winBound w) then s1.put F.HOST_CTL_DISPEN 1 else s1
  s2.pwrUpd (fun p => { p with booted := true })

/-- Steps 8 to 10 over the table at `a`. -/
def bootFinish (s : State) (a : Nat) : State :=
  match s.tableOk a with
  | none =>
    (match s.bootTable a with
     | some l => s.romLoads (s.tableReads a l)
     | none => s.romLoads (s.gransOf a 8)).bootTabFail
  | some l =>
    let s0 := s.romLoads (s.tableReads a l)
    let s1 := (l.filter (fun e => e.kind == 1)).foldl (fun x e => x.threadStart s.pwr.sealPass e) s0
    let s2 := s1.bindWindows (l.filter (fun e => e.kind == 2))
    let s3 := if s.pwr.portsOff then s2 else (l.filter (fun e => e.kind == 3)).foldl (fun x e => x.portStart e) s2
    (s3.pwrUpd (fun p => { p with inEntry := false })).romThread (romAddr Config.romKernel)

/-! ## Steps 1 to 7 -/

/-- The reset that holds CORE is over and T0 may fetch. -/
def bootReady (s : State) : Bool :=
  s.powered && s.pwr.coreHeld && s.pwr.otpOk && s.on F.SYS_OSCSTAT_MOSC_OK && s.domPg 1 && decide (s.pwr.state = .run) &&
    !s.pwr.rstLow && !s.pwr.sysDue && s.pwr.otpBusy.isNone && s.pwr.qspi.isNone && decide (s.nvc.cmd = none)

/-- Step 2: the core PLL, unless SYS.LOCK holds the clock registers. -/
def bootClock (s : State) : State :=
  if s.on F.SYS_LOCK_LOCK then s
  else (((s.put F.SYS_CLKCFG_PLLEN 1).put F.SYS_OSCSTAT_PLL_LOCK 1).put F.SYS_CLKCFG_CDIV 2).put F.SYS_CLKCFG_CSRC 1

/-- Whether the ROM's own use of a command raised its line is free. -/
def maybeRaise (s : State) (k : Nat) : State := if Config.freeAt s.free (3000 + k) % 2 = 0 then s else s.raise k

/-- Step 3: rows 12 to 39 are read; what the row registers hold then is free. The vectors of E1 to E6 stand in the
table at VBASE and GALEEN is set (R145). -/
def bootRows (s : State) : State :=
  let s1 := (((s.put F.OTP_ROWADDR_ROW (Config.freeAt s.free 3100)).put F.OTP_ROWDATA_DATA
    (Config.freeAt s.free 3101)).put F.OTP_ROWSTAT_ECC (Config.freeAt s.free 3102 % 3)).put F.OTP_ROWSTAT_BLANK
    (Config.freeAt s.free 3103)
  let s2 := (List.range 6).foldl (fun x i =>
    (x.setWord (x.core.vbase.toNat + 8 * (i + 1)) (romAddr (Config.romHandler (i + 1)))).setWord
      (x.core.vbase.toNat + 8 * (i + 1) + 4) 0x80000000) s1
  (s2.put F.PROT_ECFG_GALEEN 1).maybeRaise 27

/-- Step 4: the journal scan, once no erase runs. -/
def bootScan (s : State) : State := (if s.nvc.er.isNone then s.scan else s).maybeRaise 16

/-- The DIRTY sectors. -/
def dirtyCount (s : State) : Nat := (List.range 128).countP (fun k => s.dirty k)

/-- What QSPI's registers hold after step 5: the command of QCMD (R72), the rest free. -/
def bootQspi (s : State) : State :=
  let q := s.qcmd
  let s1 := ((s.put F.QSPI_CFG_CMD q).put F.QSPI_CFG_DIV (if q = 0 then 4 else 1)).put F.QSPI_CFG_DUMMY
    (if q = 0 then 0 else if q = 3 then 6 else 8)
  let s2 := ((s1.put F.QSPI_ADDR_ADDR (Config.freeAt s.free 3110)).put F.QSPI_DST_DST (Config.freeAt s.free 3111)).put
    F.QSPI_CTL_CNT (Config.freeAt s.free 3112)
  (s2.put F.QSPI_STAT_DONE (Config.freeAt s.free 3113)).maybeRaise 17

/-- Step 5 (R73 to R77), or what IMG reads when it does not run: after a halt the halt's code, also with BOOTSRC 1
(DEDUCED, log entry 63). -/
def bootImage (s : State) (vio : Bool) (act : Nat) : State × ImgOut :=
  if act = 2 then (s, ⟨imgUntried, 0, false, false, none⟩)
  else if s.bootSrc = 1 then (s, ⟨imgNone, 0, false, false, none⟩)
  else ((s.bootQspi.hdrCopy vio 0).hdrCopy vio 1).tryImages vio

/-- OTP.BOOT is written and locked (R80); a CORE reset keeps what an earlier boot locked. -/
def bootReport (s : State) (o : ImgOut) (sealRes final : Nat) (alarm : Bool) (dirty : Nat) : State :=
  if s.on F.OTP_BOOT_LOCKB then s
  else
    let s1 := ((s.put F.OTP_BOOT_IMG o.img).put F.OTP_BOOT_SEAL sealRes).put F.OTP_BOOT_FINAL final
    let s2 := ((s1.putB F.OTP_BOOT_ALARMSEEN alarm).put F.OTP_BOOT_SLOT o.slot).putB F.OTP_BOOT_FALLBACK o.fallback
    ((s2.putB F.OTP_BOOT_PORTOFF (final == 1)).put F.OTP_BOOT_DIRTYCNT (min dirty 255)).put F.OTP_BOOT_LOCKB 1

/-- The gate table of the calendar library (R341); its entries 0 to 11 are not given. -/
def bootGates (s : State) : State :=
  let s1 := s.coreUpd (fun c => { c with gbase := c.gbase.set 0 0x200BDF80 })
  let s2 := (List.range 24).foldl (fun x i => x.setWord (0x200BDF80 + 4 * i) (s.freeWord (3200 + i))) s1
  (List.range 4).foldl (fun x i =>
    (x.setWord (0x200BDF80 + 8 * (12 + i)) (BitVec.ofNat 32 (0xFF00 + 16 * i))).setWord (0x200BDF84 + 8 * (12 + i))
      (if i = 3 then 0x80000003 else 0x8000000F)) s2

/-- Step 7, not halted: PLOCK, the watchdog, the gates; then ENTRY is called, or the table at the start of flash is
taken. -/
def bootRun (s : State) (o : ImgOut) : State :=
  let otpprog := match o.accepted with
    | some (_, flags) => flags % 2 == 1
    | none => false
  let s1 := if otpprog then s else s.put F.OTP_LOCK_PLOCK 1
  let s2 := if s1.on F.BAK_WDCFG_EN then s1.wdStart else s1
  let s3 := s2.bootGates.tickFree
  match o.accepted with
  | some (entry, _) =>
    let s4 := (s3.pwrUpd (fun p => { p with inEntry := true })).romThread (BitVec.ofNat 32 entry)
    s4.setThr 0 (((s4.thr 0).setReg 0 (s4.storedWord F.OTP_BOOT_IMG.addr)).setReg 14 (romAddr Config.romReturn))
  | none => s3.bootFinish 0x10000000

/-- Steps 1 to 7. Step 4 runs, and DIRTYCNT is reported, also when step 3 halts (DESIGN CHOICE, log entry 63). -/
def bootStart (s : State) (vio : Bool) : State :=
  let s0 := (s.pwrUpd (fun p => { p with coreHeld := false })).romDomainOn 2
  let alarm := s0.alarmSeen
  let s1 := s0.bootClock.bootRows.bootScan
  let act3 := if alarm then s1.action 0 else 0
  let (s2, o) := s1.bootImage vio act3
  let act5 := max act3 (if o.act then s2.action 2 else 0)
  let code := if act5 = 2 then 0x2F else s2.sealCode
  let s3 := if act5 = 2 then s2 else s2.sealEcc
  let s4 := if code = 0 then s3.sealApply else s3
  let final := max act5 (if code = 0x20 ∨ code = 0x21 ∨ code = 0x22 then s4.action 4 else 0)
  let s5 := ((s4.bootReport o code final alarm s1.dirtyCount).tickFree).pwrUpd (fun p => { p with
    sealPass := code == 0, portsOff := final == 1 })
  if final = 2 then s5.serviceOnly else s5.bootRun o

/-- ENTRY has returned to the boot ROM at ring 0. -/
def entryReturned (s : State) : Bool :=
  s.coreLive && s.pwr.inEntry && decide (s.pwr.state = .run) && decide ((s.thr 0).st = .ready) &&
    (s.thr 0).stall.isNone && decide ((s.thr 0).pc = romAddr Config.romReturn) && (s.thr 0).ring == 0

/-- BOOT: from the first fetch to the call of ENTRY, and again from its return; without an image, all of it. -/
def boot (s : State) (vio : Bool) : State :=
  if s.bootReady then s.bootStart vio
  else if s.entryReturned then s.bootFinish ((s.thr 0).reg 0).toNat
  else s

end State

/-! ## Meanings -/

def execBoot (vioPresent : Bool) (s : State) : Answer := .next (s.boot vioPresent)
def execCoreReset (s : State) : Answer := .next s.coreReset

end Sys2Proof.Machine
end

