-- ==== Sys2Proof/Machine/Branch.lean ====
section
/-!
DEFINITION. Branches and calls (R117, R122) and nop.
-/

namespace Sys2Proof.Machine

namespace State

/-- A branch taken to a register's value: bit [0] set raises ALIGN at the branching instruction (R122). -/
def jumpReg (s : State) (t : Tid) (target : Thread → Word) (link : Bool) : State :=
  s.issue t 2 (fun s x =>
    let a := target x
    if bitOf a 0 then .flt cALIGN a
    else .done (s.jump t a (if link then x.setReg 14 (x.pc + 2) else x)) 2)

end State

/-! ## Meanings -/

/-- b<cond>: one cycle not taken, two taken. -/
def execBCond (t : Tid) (c : Cond) (f : BcondForm) (s : State) : Answer :=
  .next (s.issue t f.len (fun s x =>
    if condHolds c x.fl then .done (s.jump t (f.target x.pc) x) 2 else .done (s.advance t f.len x) 1))

def execBr (t : Tid) (f : BrForm) (s : State) : Answer :=
  .next (s.issue t f.len (fun s x => .done (s.jump t (f.target x.pc) x) 2))

/-- call: lk gets the address of the next instruction. -/
def execCall (t : Tid) (off : BitVec 24) (s : State) : Answer :=
  .next (s.issue t 4 (fun s x => .done (s.jump t (relTarget x.pc off) (x.setReg 14 (x.pc + 4))) 2))

def execJr (t : Tid) (gs : Gpr) (s : State) : Answer := .next (s.jumpReg t (fun x => x.reg gs) false)
def execJalr (t : Tid) (gs : Gpr) (s : State) : Answer := .next (s.jumpReg t (fun x => x.reg gs) true)
def execRet (t : Tid) (s : State) : Answer := .next (s.jumpReg t (fun x => x.reg 14) false)
def execNop (t : Tid) (s : State) : Answer := .next (s.plain t 2 1 (fun x => x))

end Sys2Proof.Machine
end

