-- ==== Sys2Proof/Machine/ControlRegs.lean ====
section
/-!
DEFINITION. Control registers (R89, R90, R127, and the ring registers of spec/06_rings_faults_events.md) and tick
(R128).
-/

namespace Sys2Proof.Machine

namespace State

/-- The ring may read control register `cr` (R90, and the Read column of the ring registers). -/
def crReadable (cr ring : Nat) : Bool :=
  if cr = 2 ∨ cr = 32 ∨ cr = 33 ∨ cr = 39 then ring == 0
  else if cr = 4 ∨ cr = 5 ∨ cr = 36 ∨ cr = 37 then decide (ring ≤ 2)
  else if cr = 34 ∨ cr = 35 then decide (ring ≤ 1)
  else true

/-- The value of a control register; reserved indices read 0. -/
def crRead (s : State) (t : Tid) (x : Thread) (cr : Nat) : Word :=
  match cr with
  | 0 => x.psw
  | 1 => BitVec.ofNat 32 (t.val + s.cls t * 16)
  | 2 => x.scr
  | 3 => x.icnt
  | 4 => x.wmask.extractLsb' 0 32
  | 5 => x.wmask.extractLsb' 32 32
  | 32 => s.core.fstop[0]
  | 33 => s.core.fslim[0]
  | 34 => s.core.fstop[1]
  | 35 => s.core.fslim[1]
  | 36 => s.core.fstop[2]
  | 37 => s.core.fslim[2]
  | 38 => if h : x.ring < 3 then s.fsp t ⟨x.ring, h⟩ else x.reg 15
  | 39 => s.core.vbase
  | 40 => s.core.gbase[0]
  | 41 => s.core.gbase[1]
  | 42 => s.core.gbase[2]
  | 43 => s.core.gbase[3]
  | 44 => BitVec.ofNat 32 s.core.flvl
  | _ => 0

/-- The PSW after a write of `v` from `ring`: each field by its own Ring column; RING is read-only (R89). -/
def pswWrite (x : Thread) (ring : Nat) (v : Word) : Word :=
  mkPsw (if ring ≤ 1 then bitsOf v 0 3 else x.lvl) (if ring = 0 then bitOf v 3 else x.gm) x.ring (bitsOf v 8 4)

/-- Some thread's pointer for ring `h` lies below its slice top. -/
def fsBusy (s : State) (h : Fin 3) : Bool := s.core.threads.toList.any (fun x => decide (x.fsUsed[h] ≠ 0))

/-- A write of FSTOPh (top) or FSLIMh (R149). -/
def fsWrite (s : State) (h : Fin 3) (top : Bool) (v : Word) : State :=
  if s.fsBusy h then s.put F.PROT_FSTAT_FSBUSY 1
  else if top then s.coreUpd (fun c => { c with fstop := c.fstop.set h v })
  else s.coreUpd (fun c => { c with fslim := c.fslim.set h v })

/-- VBASE takes 256-byte aligned values whose table lies in the GALE bank (R153). -/
def vbaseOk (v : Word) : Bool :=
  v.toNat % 256 == 0 && decide (0x200B8000 ≤ v.toNat) && decide (v.toNat + 0x300 ≤ 0x200C0000)

/-- Write a control register from `ring`; what the ring may not write stays (R127). `ICNT` is set so that this mtc's
own two cycles do not show (R90). -/
def crWrite (s : State) (t : Tid) (x : Thread) (cr ring : Nat) (v : Word) : State :=
  if cr = 0 then s.setThr t { x with psw := pswWrite x ring v }
  else if cr = 2 then (if ring = 0 then s.setThr t { x with scr := v } else s)
  else if cr = 3 then (if ring = 0 then s.setThr t { x with icnt := v - 2 } else s)
  else if cr = 32 ∨ cr = 33 then (if ring = 0 then s.fsWrite 0 (cr == 32) v else s)
  else if cr = 34 ∨ cr = 35 then (if ring ≤ 1 then s.fsWrite 1 (cr == 34) v else s)
  else if cr = 36 ∨ cr = 37 then (if ring = 0 ∨ ring = 2 then s.fsWrite 2 (cr == 36) v else s)
  else if cr = 39 then (if ring = 0 ∧ vbaseOk v then s.coreUpd (fun c => { c with vbase := v }) else s)
  else if 40 ≤ cr ∧ cr ≤ 43 then
    (if ring = 0 ∨ ring = cr - 40 then s.coreUpd (fun c => { c with gbase := c.gbase.set (Fin.ofNat 4 (cr - 40)) v }) else s)
  else if cr = 44 then
    (if ring = 0 ∧ 1 ≤ bitsOf v 0 3 ∧ bitsOf v 0 3 ≤ 6 then s.coreUpd (fun c => { c with flvl := bitsOf v 0 3 }) else s)
  else s

end State

/-! ## Meanings -/

/-- mfc: PRIV when the ring may not read the register. -/
def execMfc (t : Tid) (gd : Gpr) (cr : Fin 64) (s : State) : Answer :=
  .next (s.issue t 4 (fun s x =>
    if State.crReadable cr x.ring = false then .flt cPRIV 0
    else .done (s.advance t 4 (x.setReg gd (s.crRead t x cr))) 1))

/-- mtc: never faults. -/
def execMtc (t : Tid) (cr : Fin 64) (gs : Gpr) (s : State) : Answer :=
  .next (s.issue t 4 (fun s x => .done ((s.advance t 4 x).crWrite t { x with pc := x.pc + 4 } cr x.ring (x.reg gs)) 2))

/-- tick: checked as a load of TICKL and TICKH, then a load from the BAK window (R128). -/
def execTick (t : Tid) (gd : Gpr) (s : State) : Answer :=
  .next (s.issue t 2 (fun s x =>
    if gd.val % 2 = 1 then .flt cILLEGAL 0
    else if s.protAllows x.ring 0x40024000 accR = false then .flt cPROT 0x40024000
    else if s.windowBusy 0x40024000 then .stall s (.retry (.window 0x40024000))
    else .done (s.stallOn t (.tick gd (s.latchCount .bak))) 1))

end Sys2Proof.Machine
end

