-- ==== Sys2Proof/Machine/Illegal.lean ====
section
/-!
DEFINITION. Reserved encodings (R111).
-/

namespace Sys2Proof.Machine

/-- RESERVED_ENCODING: a thread fetches halfwords that decode to nothing, and ILLEGAL is raised; H1 is fetched first
when op6 is assigned (R110). -/
def execReservedEncoding (t : Tid) (h0 h1 : Half) (s : State) : Answer :=
  .next (if (decodeRamtan t h0 h1).isNone then s.issue t (fetchLen h0) (fun _ _ => .flt cILLEGAL 0) else s)

end Sys2Proof.Machine
end

