-- ==== Sys2Proof/Machine/Rails.lean ====
section
/-!
DEFINITION. The rail instructions setv, ramp, rail and pgwait (R131 to R134).
-/

namespace Sys2Proof.Machine

/-- Rails setv takes, and the highest code of each (R131, R132). -/
def setvMax (c : Nat) : Option Nat :=
  if 1 ≤ c ∧ c ≤ 6 then some 1250
  else if 7 ≤ c ∧ c ≤ 10 then some 50
  else if c = 17 ∨ c = 18 then some 180
  else none

/-- Rails ramp takes. -/
def rampMax (c : Nat) : Option Nat := if 7 ≤ c ∧ c ≤ 10 then none else setvMax c

/-- Rails the rail instruction takes. -/
def railTakes (c : Nat) : Bool := decide (1 ≤ c) && decide (c ≤ 18)

/-- Rails pgwait takes. -/
def pgwaitTakes (c : Nat) : Bool := decide (1 ≤ c) && decide (c ≤ 20)

namespace State

/-- Rail permission of the issuing thread (R133). -/
def railPerm (s : State) (t : Tid) (ring c : Nat) : Bool := ring == 0 || s.bit (F.EVT_RPERM_RAILS t) (c - 1)

/-- A rail operation takes a store-buffer entry addressed to the owning island, or stalls for one (R132, R98, R99). -/
def railEntry (s : State) (t : Tid) (x : Thread) (c : Nat) (op : SbOp) : Res :=
  if s.railPerm t x.ring c = false then .flt cRAILPERM 0
  else if s.storeBlocked (railBase c) then .stall s (.retry (.room (railBase c)))
  else .done ((s.sbPush ⟨t, Fin.ofNat 4 x.ring, railBase c, op⟩).advance t 4 x) 1

/-- setv. -/
def setv (s : State) (t : Tid) (c : Nat) (gs : Gpr) : State :=
  s.issue t 4 (fun s x =>
    match setvMax c with
    | none => .flt cRAIL 0
    | some m =>
      if m < (x.reg gs).toNat then .flt cRAIL 0 else s.railEntry t x c (.setv c (x.reg gs).toNat))

/-- ramp. -/
def ramp (s : State) (t : Tid) (c : Nat) (gs gt : Gpr) : State :=
  s.issue t 4 (fun s x =>
    match rampMax c with
    | none => .flt cRAIL 0
    | some m =>
      if m < (x.reg gs).toNat ∨ 4095 < (x.reg gt).toNat then .flt cRAIL 0
      else s.railEntry t x c (.ramp c (x.reg gs).toNat (x.reg gt).toNat))

/-- pgwait: `off` counts halfwords from the instruction. -/
def pgwait (s : State) (t : Tid) (c : Nat) (tmo : BitVec 8) (off : BitVec 11) : State :=
  s.issue t 4 (fun s x =>
    let label := relTarget x.pc off
    if pgwaitTakes c = false then .flt cRAIL 0
    else if s.pg c then .done (s.advance t 4 x) 2
    else if tmo = 0 then .done (s.jump t label x) 2
    else .done (s.setThr t { x with st := .waiting (.pg c (x.pc + 4) label) }) 2)

/-- The timer of a pgwait expires: the thread branches to its label. -/
def pgTimeout (s : State) (t : Tid) : State :=
  if s.coreLive then
    match (s.thr t).st with
    | .waiting (.pg _ _ label) => (s.setThr t { s.thr t with st := .ready, pc := label }).dozeExit
    | _ => s
  else s

end State

/-! ## Meanings -/

def execSetv (t : Tid) (rail : Fin 32) (gs : Gpr) (s : State) : Answer := .next (s.setv t rail gs)
def execRamp (t : Tid) (rail : Fin 32) (gs gt : Gpr) (s : State) : Answer := .next (s.ramp t rail gs gt)

/-- rail: off, on, or off with active discharge. -/
def execRail (t : Tid) (rail : Fin 32) (op : Fin 3) (s : State) : Answer :=
  .next (s.issue t 4 (fun s x =>
    if railTakes rail then s.railEntry t x rail (.rail rail op) else .flt cRAIL 0))

def execPgwait (t : Tid) (rail : Fin 32) (tmo : BitVec 8) (off : BitVec 11) (s : State) : Answer :=
  .next (s.pgwait t rail tmo off)

def execPgwaitTimeout (t : Tid) (s : State) : Answer := .next (s.pgTimeout t)

end Sys2Proof.Machine
end

