-- ==== Sys2Proof/Machine/Kernel.lean ====
section
/-!
DEFINITION. The window commands that the ROM kernel executes at the kernel port (R84, R284, R292, R294): each is one
step, from the presented command to its stored response.
-/

namespace Sys2Proof.Machine

/-! ## CRC-32 (R175) -/

/-- One bit of CRC-32: the IEEE polynomial, reflected. -/
def crc32Bit (c : Word) : Word := if c.getLsbD 0 then (c >>> 1) ^^^ 0xEDB88320 else c >>> 1

/-- One byte of CRC-32. -/
def crc32Byte (c : Word) (b : Byte) : Word :=
  crc32Bit (crc32Bit (crc32Bit (crc32Bit (crc32Bit (crc32Bit (crc32Bit (crc32Bit (c ^^^ b.setWidth 32))))))))

/-- CRC-32 of a list of bytes. -/
def crc32 (bs : List Byte) : Word := ~~~(bs.foldl crc32Byte 0xFFFFFFFF)

/-- How a kernel command ends: the state it leaves, result code and response data; `reset` asks for a SYSTEM reset
instead, and no final response is stored (R294). -/
structure KRes where
  st : State
  code : Nat
  data : List Byte
  reset : Bool
  deriving DecidableEq, Repr

namespace State

/-! ## Frame of a kernel command -/

/-- The ROM kernel ends with a result. -/
def kres (s : State) (code : Nat) (data : List Byte) : KRes := ⟨s, code, data, false⟩

/-- Ring of window `w`. -/
def winRing (s : State) (w : Fin 4) : Nat := if s.on (F.HOST_WCFG_RING3 w) then 3 else 2

/-- A right of window `w`: 0 RSTOK, 1 INSTOK, 2 LOGOK. -/
def winRight (s : State) (w : Fin 4) (i : Nat) : Bool := s.bit (F.HOST_WCFG_RIGHTS w) i

/-- The ROM kernel can run. -/
def kernelRuns (s : State) : Bool := s.hostLive && s.coreLive && !s.pwr.inEntry && decide (s.pwr.state = .run)

/-- A window's SYSTEM reset: recorded, then LULL (R294). -/
def windowReset (s : State) (w : Fin 4) : State :=
  ((s.put F.SYS_RSTCAUSE_WINRST 1).put F.SYS_RSTCAUSE_WIN w.val).lullStart 5 false true

/-- A kernel command: `ring` is the highest window ring that may use it, `ok` its right, `len` its payload length. -/
def kernelCmd (s : State) (cmd : Byte) (ring : Nat) (ok : Fin 4 → Bool) (len : Nat)
    (work : State → Fin 4 → List Byte → KRes) : State :=
  match s.host.kernel with
  | some x =>
    if x.cmd.code = cmd ∧ s.kernelRuns then
      let r :=
        if ring < s.winRing x.win ∨ ok x.win = false then s.kres rcPERM []
        else if x.cmd.payload.length ≠ len then s.kres rcBADARG []
        else work s x.win x.cmd.payload
      if r.reset then r.st.windowReset x.win else r.st.portComplete .kernel r.code r.data
    else s
  | none => s

/-- No right is needed. -/
def anyRight (_ : Fin 4) : Bool := true

/-! ## Status commands -/

/-- A register in a domain that is off reads 0 (R292, GETSTAT). -/
def peekOn (s : State) (a : Nat) : Word := if s.domOff a then 0 else s.peek 0 a

/-- A register in a domain that is off has no stated value in the other commands: it is free. -/
def peekFree (s : State) (a : Nat) : Word := if s.domOff a then s.freeWord a else s.peek 0 a

/-- Bytes of a word. -/
def wordLe (w : Word) : List Byte := le32 w.toNat

/-- SYS.RSTCAUSE as window `w` may see it: WINRST and WIN only when they are its own. -/
def rstcauseFor (s : State) (w : Fin 4) : Word :=
  let v := s.peek 0 0x40000004
  if s.on F.SYS_RSTCAUSE_WINRST ∧ s.get F.SYS_RSTCAUSE_WIN = w.val then v else v &&& 0xFFFFFF1F

/-- TICK in six bytes. -/
def tickBytes (s : State) : List Byte := (List.range 6).map (fun i => s.bak.tick.extractLsb' (8 * i) 8)

def getstatData (s : State) (w : Fin 4) : List Byte :=
  wordLe (s.peekOn F.OTP_BOOT_IMG.addr) ++ wordLe (s.rstcauseFor w) ++ s.tickBytes ++ [0, 0] ++
    wordLe (s.peekOn F.SEQ_LULLSTAT_RUN.addr) ++ wordLe (s.peekOn F.SC_STAT_LIMIT.addr) ++
    wordLe (s.peekOn F.CHG_STAT_DPM.addr)

def bootrepData (s : State) : List Byte :=
  wordLe (s.peek 0 F.OTP_BOOT_IMG.addr) ++ wordLe (s.peek 0 F.OTP_ALARM_ALARM.addr) ++
    (List.range 4).flatMap (fun k => wordLe (s.peek 0 (F.OTP_VOTEMAP_V k).addr)) ++
    (List.range 4).flatMap (fun k => wordLe (s.peekFree (F.NVC_DIRTY_D k).addr)) ++
    wordLe (s.peekFree F.NVC_JSTAT_ACTIVE.addr) ++ wordLe (s.peekFree F.NVC_MARKSEQ_SEQ.addr)

/-- The first word of the LULL snapshot as window `w` may see it: CAUSE 5 reads 1 unless the reset was its own. -/
def lullWordFor (s : State) (w : Fin 4) : Word :=
  let v := s.word 0x40024120
  if bitsOf v 0 3 = 5 ∧ s.bak.lullWin ≠ some w then v - 4 else v

def sqreadData (s : State) (w : Fin 4) : List Byte :=
  s.bytes 0x40024100 32 ++ wordLe (s.lullWordFor w) ++ s.bytes 0x40024124 28

/-- OTPREAD: a READ of the row (R83), so the row registers and E27 follow. -/
def otpreadWork (s : State) (_ : Fin 4) (pay : List Byte) : KRes :=
  let r := ldLe pay 0 1
  let s1 := (((s.put F.OTP_ROWADDR_ROW r).put F.OTP_ROWDATA_DATA (s.otpRow r).toNat).put F.OTP_ROWSTAT_ECC
    (s.otpStatus r)).putB F.OTP_ROWSTAT_BLANK (s.otpBlank r)
  (s1.raise 27).kres rcOK (wordLe (s.otpRow r) ++ [BitVec.ofNat 8 (s.otpStatus r)])

def tickreadData (s : State) : List Byte := s.tickBytes ++ wordLe (BitVec.ofNat 32 (s.get F.BAK_EPOCH_S))

/-! ## RESET (R294) -/

/-- Entitled to RESET: RSTOK, or W0 in the service-only state. -/
def resetRight (s : State) (w : Fin 4) : Bool := s.winRight w 0 || (s.on F.HOST_CTL_SVC && w == 0)

def resetWork (s : State) (_ : Fin 4) (pay : List Byte) : KRes :=
  if pay = [0x52, 0x53] then ⟨s, 0, [], true⟩ else s.kres rcBADARG []

/-! ## Rails -/

/-- The window's RAILMASK allows a rail. -/
def winRail (s : State) (w : Fin 4) (c : Nat) : Bool := s.bit (F.HOST_WRAIL_RAILS w) (c - 1)

/-- The CAUSE field of a rail, where it has one. -/
def railCause (s : State) (c : Nat) : Option Nat :=
  if s.railLive c = false then none
  else if 1 ≤ c ∧ c ≤ 6 then some (s.get (F.SW_STAT_CAUSE (c - 1)))
  else if 7 ≤ c ∧ c ≤ 16 then some (s.get (linCAUSE (c - 7)))
  else if c = 17 ∨ c = 18 then some (s.get (F.P_STAT_CAUSE (c - 17)))
  else none

/-- The present code of a rail, where it has one: the value its supervisor window is built on (R223). DEDUCED, log 45. -/
def railCode (s : State) (c : Nat) : Option Nat :=
  if c = 19 then some (s.get F.SEQ_NOMV_VSTOR)
  else if c = 20 then some (s.get F.SEQ_NOMV_VSYS)
  else if s.railLive c = false then none
  else if 1 ≤ c ∧ c ≤ 6 then some (s.get (F.SW_REF_NOW (c - 1)))
  else if 7 ≤ c ∧ c ≤ 10 then some (s.get (F.SEQ_LDO_VSET (c - 7)))
  else if c = 17 ∨ c = 18 then some (s.markCode (c - 17))
  else none

/-- RAILGET. A CAUSE or a code that the rail does not have is free. -/
def railgetWork (s : State) (w : Fin 4) (pay : List Byte) : KRes :=
  let c := ldLe pay 0 1
  if c < 1 ∨ 20 < c then s.kres rcBADARG []
  else if c ≤ 18 ∧ s.winRail w c = false then s.kres rcPERM []
  else
    let b (x : Bool) (i : Nat) : Nat := if x then 2 ^ i else 0
    let fl := b (s.railEn c) 0 + b (s.pg c) 1 + b (s.bit F.SEQ_UVF_UVF (c - 1)) 2 + b (s.bit F.SEQ_OVF_OVF (c - 1)) 3
    s.tickFree.kres rcOK ([BitVec.ofNat 8 fl, BitVec.ofNat 8 ((s.railCause c).getD (Config.freeAt s.free 0))] ++
      le16 ((s.railCode c).getD (Config.freeAt s.free 1)))

/-- The owning island refuses an enable: the cause where one is recorded, else a free one. -/
def railRefusal (s s1 : State) (e : Sense) (c : Nat) : Option Nat :=
  match portOfRail c with
  | some p =>
    let fit := (s.portFails p e.lineBelow12V).isEmpty && !s.modeForbidden p (s.get (F.P_CTL_MODE p))
    if s1.on (F.P_CTL_EN p) ∨ fit then none
      else some (s1.get (F.P_STAT_REFCAUSE p))
  | none =>
    if s.stopping ∧ s.railEn c = false ∧ s.follower (c - 1) = false then some (Config.freeAt s.free 2)
    else if 7 ≤ c ∧ c ≤ 10 ∧ s.domPg 13 = false then some 2
    else none

/-- RAILSET as setv and then rail at the window's ring (R132, R133). -/
def railsetWork (s : State) (e : Sense) (w : Fin 4) (pay : List Byte) : KRes :=
  let c := ldLe pay 0 1
  let op := ldLe pay 1 1
  let code := ldLe pay 2 2
  if c < 1 ∨ 18 < c ∨ 3 < op then s.kres rcBADARG []
  else if s.winRail w c = false then s.kres rcPERM []
  else if code ≠ 0xFFFF && !((setvMax c).any (fun m => decide (code ≤ m))) then s.kres rcBADARG []
  else if s.railLive c = false then s.tickFree.kres rcDEVREF [BitVec.ofNat 8 (Config.freeAt s.free 2)]
  else
    let s1 := if code = 0xFFFF then s else s.applySetv c code
    let s2 := if op = 3 then s1 else s1.applyRail c op e
    match (if op = 1 then s1.railRefusal s2 e c else none) with
    | some cause => s2.tickFree.kres rcDEVREF [BitVec.ofNat 8 cause]
    | none => s2.kres rcOK [0]

/-! ## Endpoints -/

/-- The window's EPMASK grants endpoint `i`. -/
def winEp (s : State) (w : Fin 4) (i : Nat) : Bool :=
  if i / 8 < 32 then s.bit (F.HOST_WEPL_M w) (i / 8) else s.bit (F.HOST_WEPH_M w) (i / 8 - 32)

/-- EPREAD. A LEN above the buffer's capacity gives the whole buffer. -/
def epreadWork (s : State) (w : Fin 4) (pay : List Byte) : KRes :=
  let i := ldLe pay 0 2
  let opt := ldLe pay 2 1
  if 512 ≤ i then s.kres rcBADARG []
  else if s.winEp w i = false then s.kres rcPERM []
  else
    let ent := s.bytes (entAddr i) 32
    let a := s.entBuf i
    let code := s.entBufsz i
    if bufOk a code then
      let n := min (ldLe (s.bytes a 2) 0 2) (bufSize code - 8)
      let s1 := if opt % 2 = 1 then s.setByte (a + 3) (s.byte (a + 3) &&& 0xFE) else s
      s1.kres rcOK (ent ++ s.bytes a 8 ++ s.bytes (a + 8) n)
    else s.kres rcOK ent

/-- EPPOLL: the doorbell of the entry's port (R270). Whether a refusal leaves DOORBUSY set is free. -/
def eppollWork (s : State) (w : Fin 4) (pay : List Byte) : KRes :=
  let i := ldLe pay 0 2
  if 512 ≤ i then s.kres rcBADARG []
  else if s.winEp w i = false then s.kres rcPERM []
  else
    let p : Fin 2 := Fin.ofNat 2 (s.entPort i)
    if s.domPg (5 + p.val) = false then s.tickFree.kres rcDEVREF [BitVec.ofNat 8 (Config.freeAt s.free 2)]
    else if s.port[p].door.isSome then
      (s.putB (F.P_ENG_STAT_DOORBUSY p)
        (s.on (F.P_ENG_STAT_DOORBUSY p) || Config.freeAt s.free 3 % 2 == 1)).tickFree.kres rcDEVREF [1]
    else ((s.put (F.P_ENG_DOOR_PEND p) 1).portUpd p (fun x => { x with door := some i })).kres rcOK []

/-! ## LOGREAD (R175, R176) -/

/-- The granule at `a` reads CLEAN or CORRECTED. -/
def granGood (s : State) (a : Nat) : Bool := decide (s.granStatus a ≤ 1)

/-- LEN of a readable header at `a` (R176). -/
def logLen (s : State) (a : Nat) : Option Nat :=
  let h := s.bytes a 16
  if s.granGood a ∧ h.take 2 = [0x52, 0x4C] ∧ 1 ≤ ldLe h 4 2 ∧ ldLe h 4 2 ≤ 4064 then some (ldLe h 4 2) else none

/-- A record of `len` bytes at `a` is committed (R176). -/
def logCommitted (s : State) (a len : Nat) : Bool :=
  let n := (len + 15) / 16
  let h := s.bytes a 16
  let t := s.bytes (a + 16 * (n + 1)) 16
  let crc := crc32 (h ++ s.bytes (a + 16) len)
  decide (a % 0x1000 + 16 * (n + 2) ≤ 0x1000) && (List.range (n + 2)).all (fun i => s.granGood (a + 16 * i)) &&
    within 1 0xFE (ldLe h 2 1) && ldLe t 0 4 == crc.toNat && ldLe t 4 4 == (~~~crc).toNat &&
    ldLe t 8 4 == ldLe h 12 4 && t.drop 12 == [0x31, 0x54, 0x4D, 0x43]

/-- The walk of one sector from granule `i`: the committed record with this SEQ. -/
def logWalk (s : State) (sector seq : Nat) : Nat → Nat → Option (Nat × Nat)
  | 0, _ => none
  | fuel + 1, i =>
    if 256 ≤ i then none
    else
      let a := sectorAddr sector + 16 * i
      match s.logLen a with
      | none => none
      | some len =>
        if ldLe (s.bytes a 16) 12 4 = seq ∧ s.logCommitted a len then some (a, len)
        else s.logWalk sector seq fuel (i + 2 + (len + 15) / 16)

/-- The committed record with SEQ `seq`, over the log sectors. -/
def logFind (s : State) (seq : Nat) : Option (Nat × Nat) :=
  ((List.range 128).filter (fun k => s.get F.NVC_CFG_LOGFIRST ≤ k && k ≤ s.get F.NVC_CFG_LOGLAST)).findSome?
    (fun k => s.logWalk k seq 256 0)

/-- The granules of the log sectors with a corrected, uncorrectable or unreliable reading. -/
def logSpots (s : State) : Bool :=
  (List.range 0x800).any (fun i =>
    let a := 0x10000000 + 16 * 16 * i
    decide (s.get F.NVC_CFG_LOGFIRST ≤ sectorOf a) && decide (sectorOf a ≤ s.get F.NVC_CFG_LOGLAST) &&
      (List.range 16).any (fun j =>
        let g := s.granStatus (a + 16 * j)
        g == 1 || g == 2 || g == 4))

/-- What the ROM's walk of the log leaves in NVC.ECCSTAT (R160): which granules it reads, and how often, is not given, so
the record is free where some granule would be recorded. -/
def logLoads (s : State) : State :=
  if s.logSpots then
    (((s.put F.NVC_ECCSTAT_CORRCNT (Config.freeAt s.free 1000)).putB F.NVC_ECCSTAT_UNCORR
      (s.on F.NVC_ECCSTAT_UNCORR || Config.freeAt s.free 1001 % 2 == 1)).putB F.NVC_ECCSTAT_UNREL
      (s.on F.NVC_ECCSTAT_UNREL || Config.freeAt s.free 1002 % 2 == 1)).put F.NVC_ECCADDR_ADDR
      (Config.freeAt s.free 1003)
  else s

/-- LOGREAD. -/
def logreadWork (s : State) (_ : Fin 4) (pay : List Byte) : KRes :=
  if s.nvcLive = false then s.tickFree.kres rcDEVREF [BitVec.ofNat 8 (Config.freeAt s.free 2)]
  else
    let off := ldLe pay 4 2
    let s1 := s.logLoads.tickFree
    match s.logFind (ldLe pay 0 4) with
    | none => s1.kres rcBADARG []
    | some (a, len) =>
      if len ≤ off then s1.kres rcBADARG []
      else s1.kres rcOK (s.bytes a 16 ++ s.bytes (a + 16 + off) (min 1000 (len - off)))

/-! ## VERIFY and INSTALL (R84) -/

/-- The image code of a slot as VERIFY reports it. An empty slot has two codes in the list of OTP.BOOT.IMG; which one
is reported is free. -/
def verifyCode (s : State) (vio : Bool) (slot : Nat) : Nat :=
  if hdrMagic (s.slotHdr vio slot) then s.slotCode vio slot
  else if s.fresh % 2 = 0 then imgNone else imgABSENT

/-- The response of VERIFY. -/
def verifyData (s : State) (vio : Bool) (slot : Nat) : List Byte :=
  let h := s.slotHdr vio slot
  [BitVec.ofNat 8 (s.verifyCode vio slot)] ++ le16 (hdrVersion h) ++ le32 (hdrLength h)

/-- VERIFY. -/
def verifyWork (s : State) (vio : Bool) (_ : Fin 4) (pay : List Byte) : KRes :=
  let slot := ldLe pay 0 1
  if 1 < slot then s.kres rcBADARG []
  else if s.qspiLive = false then s.tickFree.kres rcDEVREF [BitVec.ofNat 8 (Config.freeAt s.free 2)]
  else (s.bootQspi.hdrCopy vio slot).tickFree.kres rcOK (s.verifyData vio slot)

/-- INSTALL: a passing check records the slot as preferred in the boot word and asks for the reset; else the answer is
VERIFY's (R292). -/
def installWork (s : State) (vio : Bool) (w : Fin 4) (pay : List Byte) : KRes :=
  let slot := ldLe pay 0 1
  if slot ≤ 1 ∧ s.qspiLive ∧ hdrMagic (s.slotHdr vio slot) ∧ s.slotCode vio slot = 0 then
    ⟨(s.bootQspi.hdrCopy vio slot).setWord 0x40024180 (BitVec.ofNat 32 (slot + 1)), 0, [], true⟩
  else s.verifyWork vio w pay

end State

/-! ## Meanings -/

def execGetstat (s : State) : Answer :=
  .next (s.kernelCmd 0x01 3 State.anyRight 0 (fun s w _ => s.tickFree.kres rcOK (s.getstatData w)))
def execBootrep (s : State) : Answer :=
  .next (s.kernelCmd 0x02 3 State.anyRight 0 (fun s _ _ => s.tickFree.kres rcOK s.bootrepData))
def execOtpread (s : State) : Answer :=
  .next (if s.pwr.otpBusy.isSome then s else s.kernelCmd 0x03 3 State.anyRight 1 (fun s w p => s.otpreadWork w p))
def execSqread (s : State) : Answer :=
  .next (s.kernelCmd 0x04 3 State.anyRight 0 (fun s w _ => s.kres rcOK (s.sqreadData w)))
def execReset (s : State) : Answer :=
  .next (s.kernelCmd 0x05 3 (fun w => s.resetRight w) 2 (fun s w p => s.resetWork w p))
def execTickread (s : State) : Answer :=
  .next (s.kernelCmd 0x06 3 State.anyRight 0 (fun s _ _ => s.kres rcOK s.tickreadData))
def execRailget (s : State) : Answer := .next (s.kernelCmd 0x10 3 State.anyRight 1 (fun s w p => s.railgetWork w p))
def execRailset (e : Sense) (s : State) : Answer :=
  .next (s.kernelCmd 0x11 3 State.anyRight 4 (fun s w p => s.railsetWork e w p))
def execEpread (s : State) : Answer := .next (s.kernelCmd 0x20 3 State.anyRight 3 (fun s w p => s.epreadWork w p))
def execEppoll (s : State) : Answer := .next (s.kernelCmd 0x21 3 State.anyRight 2 (fun s w p => s.eppollWork w p))
def execLogread (s : State) : Answer :=
  .next (s.kernelCmd 0x30 2 (fun w => s.winRight w 2) 6 (fun s w p => s.logreadWork w p))
def execVerify (vioPresent : Bool) (s : State) : Answer :=
  .next (s.kernelCmd 0x38 2 State.anyRight 1 (fun s w p => s.verifyWork vioPresent w p))
def execInstall (vioPresent : Bool) (s : State) : Answer :=
  .next (s.kernelCmd 0x39 2 (fun w => s.winRight w 1) 1 (fun s w p => s.installWork vioPresent w p))

end Sys2Proof.Machine
end

