-- ==== Sys2Proof/Machine/Dispatch.lean ====
section
/-!
DEFINITION. What each command does: one arm per constructor of `Instr`, one direct call of its meaning.
-/

namespace Sys2Proof.Machine

/-- The command's effect on everything but the queue. -/
def exec (i : Instr) (s : State) : Host.Outcome State Fault Refusal :=
  match i with
  | .registerWrite addr ring v e => Sys2Proof.Machine.execRegisterWrite addr ring v e s
  | .coldReset src => Sys2Proof.Machine.execColdReset src s
  | .otpVote => Sys2Proof.Machine.execOtpVote s
  | .moscOk => Sys2Proof.Machine.execMoscOk s
  | .earlyRailStart fbCode => Sys2Proof.Machine.execEarlyRailStart fbCode s
  | .boot vioPresent => Sys2Proof.Machine.execBoot vioPresent s
  | .rstNAssert => Sys2Proof.Machine.execRstNAssert s
  | .rstNRelease => Sys2Proof.Machine.execRstNRelease s
  | .fastStopRailOff vbakMv => Sys2Proof.Machine.execFastStopRailOff vbakMv s
  | .systemReset => Sys2Proof.Machine.execSystemReset s
  | .vsysBackupFall vbakMv => Sys2Proof.Machine.execVsysBackupFall vbakMv s
  | .vbakLoss => Sys2Proof.Machine.execVbakLoss s
  | .bakPowerUp => Sys2Proof.Machine.execBakPowerUp s
  | .coreResetRequest ring v => Sys2Proof.Machine.execCoreResetRequest ring v s
  | .coreReset => Sys2Proof.Machine.execCoreReset s
  | .islandReset ring v => Sys2Proof.Machine.execIslandReset ring v s
  | .domctlWrite ring v => Sys2Proof.Machine.execDomctlWrite ring v s
  | .domainPowerGood d => Sys2Proof.Machine.execDomainPowerGood d s
  | .clkcfgWrite ring v => Sys2Proof.Machine.execClkcfgWrite ring v s
  | .pllLock => Sys2Proof.Machine.execPllLock s
  | .fllWindow count => Sys2Proof.Machine.execFllWindow count s
  | .xtalFail => Sys2Proof.Machine.execXtalFail s
  | .fllResume => Sys2Proof.Machine.execFllResume s
  | .syncInValid => Sys2Proof.Machine.execSyncInValid s
  | .syncLost => Sys2Proof.Machine.execSyncLost s
  | .dozeEntry => Sys2Proof.Machine.execDozeEntry s
  | .calmEntry => Sys2Proof.Machine.execCalmEntry s
  | .calmWake src => Sys2Proof.Machine.execCalmWake src s
  | .calmClockRestore => Sys2Proof.Machine.execCalmClockRestore s
  | .kernelTick => Sys2Proof.Machine.execKernelTick s
  | .hwEventPending k => Sys2Proof.Machine.execHwEventPending k s
  | .eventEntry k => Sys2Proof.Machine.execEventEntry k s
  | .galeEntry k => Sys2Proof.Machine.execGaleEntry k s
  | .eddyDetect => Sys2Proof.Machine.execEddyDetect s
  | .eddyEntry => Sys2Proof.Machine.execEddyEntry s
  | .gmHoldLimit => Sys2Proof.Machine.execGmHoldLimit s
  | .galeBudgetExceeded => Sys2Proof.Machine.execGaleBudgetExceeded s
  | .storeRetire => Sys2Proof.Machine.execStoreRetire s
  | .latchApply isl e => Sys2Proof.Machine.execLatchApply isl e s
  | .windowLoadReturn t => Sys2Proof.Machine.execWindowLoadReturn t s
  | .flashMissFill t => Sys2Proof.Machine.execFlashMissFill t s
  | .reservedEncoding t h0 h1 => Sys2Proof.Machine.execReservedEncoding t h0 h1 s
  | .mov t gd gs => Sys2Proof.Machine.execMov t gd gs s
  | .add t f => Sys2Proof.Machine.execAdd t f s
  | .sub t f => Sys2Proof.Machine.execSub t f s
  | .adc t f => Sys2Proof.Machine.execAdc t f s
  | .sbc t f => Sys2Proof.Machine.execSbc t f s
  | .cmp t gd gs => Sys2Proof.Machine.execCmp t gd gs s
  | .and t f => Sys2Proof.Machine.execAnd t f s
  | .or t f => Sys2Proof.Machine.execOr t f s
  | .xor t f => Sys2Proof.Machine.execXor t f s
  | .tst t gd gs => Sys2Proof.Machine.execTst t gd gs s
  | .shl t f => Sys2Proof.Machine.execShl t f s
  | .shr t f => Sys2Proof.Machine.execShr t f s
  | .sar t f => Sys2Proof.Machine.execSar t f s
  | .neg t gd gs => Sys2Proof.Machine.execNeg t gd gs s
  | .not t gd gs => Sys2Proof.Machine.execNot t gd gs s
  | .mul t f => Sys2Proof.Machine.execMul t f s
  | .mulh t gd gs gt => Sys2Proof.Machine.execMulh t gd gs gt s
  | .mulhu t gd gs gt => Sys2Proof.Machine.execMulhu t gd gs gt s
  | .div t gd gs gt => Sys2Proof.Machine.execDiv t gd gs gt s
  | .divu t gd gs gt => Sys2Proof.Machine.execDivu t gd gs gt s
  | .rem t gd gs gt => Sys2Proof.Machine.execRem t gd gs gt s
  | .remu t gd gs gt => Sys2Proof.Machine.execRemu t gd gs gt s
  | .ror t gd gs gt => Sys2Proof.Machine.execRor t gd gs gt s
  | .sextB t gd gs => Sys2Proof.Machine.execSextB t gd gs s
  | .sextH t gd gs => Sys2Proof.Machine.execSextH t gd gs s
  | .movi t f => Sys2Proof.Machine.execMovi t f s
  | .movhi t gd imm => Sys2Proof.Machine.execMovhi t gd imm s
  | .addi t f => Sys2Proof.Machine.execAddi t f s
  | .cmpi t f => Sys2Proof.Machine.execCmpi t f s
  | .andi t gd gs imm => Sys2Proof.Machine.execAndi t gd gs imm s
  | .ori t gd gs imm => Sys2Proof.Machine.execOri t gd gs imm s
  | .xori t gd gs imm => Sys2Proof.Machine.execXori t gd gs imm s
  | .shli t gd amount => Sys2Proof.Machine.execShli t gd amount s
  | .shri t gd amount => Sys2Proof.Machine.execShri t gd amount s
  | .sari t gd amount => Sys2Proof.Machine.execSari t gd amount s
  | .ldW t f => Sys2Proof.Machine.execLdW t f s
  | .ldH t f => Sys2Proof.Machine.execLdH t f s
  | .ldHs t f => Sys2Proof.Machine.execLdHs t f s
  | .ldB t f => Sys2Proof.Machine.execLdB t f s
  | .ldBs t f => Sys2Proof.Machine.execLdBs t f s
  | .stW t f => Sys2Proof.Machine.execStW t f s
  | .stH t f => Sys2Proof.Machine.execStH t f s
  | .stB t f => Sys2Proof.Machine.execStB t f s
  | .bCond t c f => Sys2Proof.Machine.execBCond t c f s
  | .br t f => Sys2Proof.Machine.execBr t f s
  | .call t off => Sys2Proof.Machine.execCall t off s
  | .jr t gs => Sys2Proof.Machine.execJr t gs s
  | .jalr t gs => Sys2Proof.Machine.execJalr t gs s
  | .ret t => Sys2Proof.Machine.execRet t s
  | .nop t => Sys2Proof.Machine.execNop t s
  | .yield t => Sys2Proof.Machine.execYield t s
  | .yieldExpire t => Sys2Proof.Machine.execYieldExpire t s
  | .halt t => Sys2Proof.Machine.execHalt t s
  | .signal t k => Sys2Proof.Machine.execSignal t k s
  | .wait t gm => Sys2Proof.Machine.execWait t gm s
  | .spawn t tn gs ga ring cls => Sys2Proof.Machine.execSpawn t tn gs ga ring cls s
  | .gate t n => Sys2Proof.Machine.execGate t n s
  | .retg t => Sys2Proof.Machine.execRetg t s
  | .rete t => Sys2Proof.Machine.execRete t s
  | .fenceS t => Sys2Proof.Machine.execFenceS t s
  | .fenceA t => Sys2Proof.Machine.execFenceA t s
  | .fenceI t => Sys2Proof.Machine.execFenceI t s
  | .fenceP t => Sys2Proof.Machine.execFenceP t s
  | .mfc t gd cr => Sys2Proof.Machine.execMfc t gd cr s
  | .mtc t cr gs => Sys2Proof.Machine.execMtc t cr gs s
  | .tick t gd => Sys2Proof.Machine.execTick t gd s
  | .swap t gd gs gt => Sys2Proof.Machine.execSwap t gd gs gt s
  | .cas t gd gs gt => Sys2Proof.Machine.execCas t gd gs gt s
  | .xadd t gd gs gt => Sys2Proof.Machine.execXadd t gd gs gt s
  | .bmov t gd gs gt => Sys2Proof.Machine.execBmov t gd gs gt s
  | .bset t gd gs gt => Sys2Proof.Machine.execBset t gd gs gt s
  | .setv t rail gs => Sys2Proof.Machine.execSetv t rail gs s
  | .ramp t rail gs gt => Sys2Proof.Machine.execRamp t rail gs gt s
  | .rail t rail op => Sys2Proof.Machine.execRail t rail op s
  | .pgwait t rail tmo off => Sys2Proof.Machine.execPgwait t rail tmo off s
  | .pgwaitTimeout t => Sys2Proof.Machine.execPgwaitTimeout t s
  | .rampStep rail => Sys2Proof.Machine.execRampStep rail s
  | .evtSwsigWrite ring v => Sys2Proof.Machine.execEvtSwsigWrite ring v s
  | .haltreq ring n => Sys2Proof.Machine.execHaltreq ring n s
  | .protRegionWrite ring off v => Sys2Proof.Machine.execProtRegionWrite ring off v s
  | .protEcfgWrite ring v => Sys2Proof.Machine.execProtEcfgWrite ring v s
  | .otpRead ring => Sys2Proof.Machine.execOtpRead ring s
  | .otpProgram ring key vsysMv => Sys2Proof.Machine.execOtpProgram ring key vsysMv s
  | .otpWprog ring key vsysMv => Sys2Proof.Machine.execOtpWprog ring key vsysMv s
  | .otpOpDone readbackOk => Sys2Proof.Machine.execOtpOpDone readbackOk s
  | .qspiCopy ring v => Sys2Proof.Machine.execQspiCopy ring v s
  | .qspiCopyDone => Sys2Proof.Machine.execQspiCopyDone s
  | .nvcProgram ring key => Sys2Proof.Machine.execNvcProgram ring key s
  | .nvcErase ring key => Sys2Proof.Machine.execNvcErase ring key s
  | .nvcSuspend ring key => Sys2Proof.Machine.execNvcSuspend ring key s
  | .nvcResume ring key => Sys2Proof.Machine.execNvcResume ring key s
  | .nvcMark ring key => Sys2Proof.Machine.execNvcMark ring key s
  | .nvcCheckread ring key => Sys2Proof.Machine.execNvcCheckread ring key s
  | .nvcScan ring key => Sys2Proof.Machine.execNvcScan ring key s
  | .nvcCommandEnd verifyOk => Sys2Proof.Machine.execNvcCommandEnd verifyOk s
  | .erasePhaseEnd verifyOk => Sys2Proof.Machine.execErasePhaseEnd verifyOk s
  | .suspendEffect => Sys2Proof.Machine.execSuspendEffect s
  | .autosuspResume => Sys2Proof.Machine.execAutosuspResume s
  | .swCycle n o => Sys2Proof.Machine.execSwCycle n o s
  | .trimsat n => Sys2Proof.Machine.execTrimsat n s
  | .fastLimitTrip n => Sys2Proof.Machine.execFastLimitTrip n s
  | .slowLimit n => Sys2Proof.Machine.execSlowLimit n s
  | .slowLimitRestart n fbCode => Sys2Proof.Machine.execSlowLimitRestart n fbCode s
  | .ovpEnter n => Sys2Proof.Machine.execOvpEnter n s
  | .ovpExit n => Sys2Proof.Machine.execOvpExit n s
  | .swVsysStop n => Sys2Proof.Machine.execSwVsysStop n s
  | .swVsysResume n fbCode => Sys2Proof.Machine.execSwVsysResume n fbCode s
  | .softStartStep n => Sys2Proof.Machine.execSoftStartStep n s
  | .softStartDone n => Sys2Proof.Machine.execSoftStartDone n s
  | .swCal n ring v => Sys2Proof.Machine.execSwCal n ring v s
  | .swCalDone n o => Sys2Proof.Machine.execSwCalDone n o s
  | .dischargeEnd rail => Sys2Proof.Machine.execDischargeEnd rail s
  | .idealDiodeOff => Sys2Proof.Machine.execIdealDiodeOff s
  | .vsysUv vstorMv => Sys2Proof.Machine.execVsysUv vstorMv s
  | .reversalExit => Sys2Proof.Machine.execReversalExit s
  | .vstorVlow => Sys2Proof.Machine.execVstorVlow s
  | .vstorCutoff => Sys2Proof.Machine.execVstorCutoff s
  | .scShort => Sys2Proof.Machine.execScShort s
  | .scClr ring v => Sys2Proof.Machine.execScClr ring v s
  | .storeStart vinMv vstorMv => Sys2Proof.Machine.execStoreStart vinMv vstorMv s
  | .startupTimeout => Sys2Proof.Machine.execStartupTimeout s
  | .chgCtlWrite ring v vstorMv => Sys2Proof.Machine.execChgCtlWrite ring v vstorMv s
  | .chgClr ring v vstorMv => Sys2Proof.Machine.execChgClr ring v vstorMv s
  | .chgPhaseChange vstorMv => Sys2Proof.Machine.execChgPhaseChange vstorMv s
  | .chgPhaseTimeout vstorMv => Sys2Proof.Machine.execChgPhaseTimeout vstorMv s
  | .chgTerminate => Sys2Proof.Machine.execChgTerminate s
  | .ntcSample m0 m1 vstorMv => Sys2Proof.Machine.execNtcSample m0 m1 vstorMv s
  | .presenceTest vstorMv => Sys2Proof.Machine.execPresenceTest vstorMv s
  | .presencePhaseEnd deltaMv vstorMv => Sys2Proof.Machine.execPresencePhaseEnd deltaMv vstorMv s
  | .cellBalance bottomMv topMv => Sys2Proof.Machine.execCellBalance bottomMv topMv s
  | .vbakSourceChange coinMv ldobakMv => Sys2Proof.Machine.execVbakSourceChange coinMv ldobakMv s
  | .railRampEnd rail => Sys2Proof.Machine.execRailRampEnd rail s
  | .lsOverload n => Sys2Proof.Machine.execLsOverload n s
  | .supervisorAssert rail ov => Sys2Proof.Machine.execSupervisorAssert rail ov s
  | .powerGoodRise rail => Sys2Proof.Machine.execPowerGoodRise rail s
  | .lullGo ring v => Sys2Proof.Machine.execLullGo ring v s
  | .lullFramesDone => Sys2Proof.Machine.execLullFramesDone s
  | .lullNvcFlushDone => Sys2Proof.Machine.execLullNvcFlushDone s
  | .lullRailOff elapsedMs vbakMv => Sys2Proof.Machine.execLullRailOff elapsedMs vbakMv s
  | .lullBudgetCut vbakMv => Sys2Proof.Machine.execLullBudgetCut vbakMv s
  | .portModeWrite p ring v => Sys2Proof.Machine.execPortModeWrite p ring v s
  | .ibaseTrack p mean => Sys2Proof.Machine.execIbaseTrack p mean s
  | .lineLost p => Sys2Proof.Machine.execLineLost p s
  | .lineReturn p => Sys2Proof.Machine.execLineReturn p s
  | .txholdRelease p => Sys2Proof.Machine.execTxholdRelease p s
  | .portBreach p samples => Sys2Proof.Machine.execPortBreach p samples s
  | .portMeas p ring v => Sys2Proof.Machine.execPortMeas p ring v s
  | .measPhaseEnd p o lineBelow12V => Sys2Proof.Machine.execMeasPhaseEnd p o lineBelow12V s
  | .measokExpire p => Sys2Proof.Machine.execMeasokExpire p s
  | .portRampEnd p => Sys2Proof.Machine.execPortRampEnd p s
  | .portCal p ring v atMark => Sys2Proof.Machine.execPortCal p ring v atMark s
  | .portCalDone p samples => Sys2Proof.Machine.execPortCalDone p samples s
  | .exchangeStart p => Sys2Proof.Machine.execExchangeStart p s
  | .requestSent p => Sys2Proof.Machine.execRequestSent p s
  | .replyReceived p cs => Sys2Proof.Machine.execReplyReceived p cs s
  | .replyTimeout p => Sys2Proof.Machine.execReplyTimeout p s
  | .rxGapTimeout p => Sys2Proof.Machine.execRxGapTimeout p s
  | .engineResync p => Sys2Proof.Machine.execEngineResync p s
  | .engDoorbell p ring v => Sys2Proof.Machine.execEngDoorbell p ring v s
  | .engCqRead p t gd => Sys2Proof.Machine.execEngCqRead p t gd s
  | .targetFrame p cs => Sys2Proof.Machine.execTargetFrame p cs s
  | .targetAnswer p => Sys2Proof.Machine.execTargetAnswer p s
  | .tselAccept p ring => Sys2Proof.Machine.execTselAccept p ring s
  | .tselReject p ring => Sys2Proof.Machine.execTselReject p ring s
  | .selectionTimeout p => Sys2Proof.Machine.execSelectionTimeout p s
  | .twAddress ix addr => Sys2Proof.Machine.execTwAddress ix addr s
  | .twWriteFrame ix addr bytes e => Sys2Proof.Machine.execTwWriteFrame ix addr bytes e s
  | .twRead ix addr count => Sys2Proof.Machine.execTwRead ix addr count s
  | .sclTimeout ix => Sys2Proof.Machine.execSclTimeout ix s
  | .uartCommandFrame u bytes badAt => Sys2Proof.Machine.execUartCommandFrame u bytes badAt s
  | .uartFrameGap u => Sys2Proof.Machine.execUartFrameGap u s
  | .poll u crc => Sys2Proof.Machine.execPoll u crc s
  | .commandDispatch w => Sys2Proof.Machine.execCommandDispatch w s
  | .getstat => Sys2Proof.Machine.execGetstat s
  | .bootrep => Sys2Proof.Machine.execBootrep s
  | .otpread => Sys2Proof.Machine.execOtpread s
  | .sqread => Sys2Proof.Machine.execSqread s
  | .reset => Sys2Proof.Machine.execReset s
  | .tickread => Sys2Proof.Machine.execTickread s
  | .railget => Sys2Proof.Machine.execRailget s
  | .railset e => Sys2Proof.Machine.execRailset e s
  | .epread => Sys2Proof.Machine.execEpread s
  | .eppoll => Sys2Proof.Machine.execEppoll s
  | .logread => Sys2Proof.Machine.execLogread s
  | .verify vioPresent => Sys2Proof.Machine.execVerify vioPresent s
  | .install vioPresent => Sys2Proof.Machine.execInstall vioPresent s
  | .serviceCommand w => Sys2Proof.Machine.execServiceCommand w s
  | .serviceTimeout w => Sys2Proof.Machine.execServiceTimeout w s
  | .portPayRead p t gd => Sys2Proof.Machine.execPortPayRead p t gd s
  | .portRdatWrite p ring v => Sys2Proof.Machine.execPortRdatWrite p ring v s
  | .portDoneWrite p ring v => Sys2Proof.Machine.execPortDoneWrite p ring v s
  | .uartRxChar u bits => Sys2Proof.Machine.execUartRxChar u bits s
  | .uartDataRead u t gd => Sys2Proof.Machine.execUartDataRead u t gd s
  | .uartDataWrite u ring v => Sys2Proof.Machine.execUartDataWrite u ring v s
  | .uartTxChar u => Sys2Proof.Machine.execUartTxChar u s
  | .uartRxflush u ring => Sys2Proof.Machine.execUartRxflush u ring s
  | .uartTxflush u ring => Sys2Proof.Machine.execUartTxflush u ring s
  | .uartTxbrk u ring on => Sys2Proof.Machine.execUartTxbrk u ring on s
  | .uartDivWrite u ring v => Sys2Proof.Machine.execUartDivWrite u ring v s
  | .uartCfgWrite u ring v => Sys2Proof.Machine.execUartCfgWrite u ring v s
  | .uartRxIdle u => Sys2Proof.Machine.execUartRxIdle u s
  | .adcRun ring => Sys2Proof.Machine.execAdcRun ring s
  | .adcStop ring => Sys2Proof.Machine.execAdcStop ring s
  | .adcFifoclr ring => Sys2Proof.Machine.execAdcFifoclr ring s
  | .adcCalgo ring => Sys2Proof.Machine.execAdcCalgo ring s
  | .adcCalDone o => Sys2Proof.Machine.execAdcCalDone o s
  | .adcSlotResult conversions => Sys2Proof.Machine.execAdcSlotResult conversions s
  | .adcFifoRead t gd => Sys2Proof.Machine.execAdcFifoRead t gd s
  | .adcResRead k t gd => Sys2Proof.Machine.execAdcResRead k t gd s
  | .thermScan r vbakMv => Sys2Proof.Machine.execThermScan r vbakMv s
  | .thermalCut sensor => Sys2Proof.Machine.execThermalCut sensor s
  | .thermSuspClear ring v => Sys2Proof.Machine.execThermSuspClear ring v s
  | .trimCorrection => Sys2Proof.Machine.execTrimCorrection s
  | .bakRcFallback => Sys2Proof.Machine.execBakRcFallback s
  | .bakXtalReturn => Sys2Proof.Machine.execBakXtalReturn s
  | .ticklRead t gd => Sys2Proof.Machine.execTicklRead t gd s
  | .eventInputEdge ix rising => Sys2Proof.Machine.execEventInputEdge ix rising s
  | .evf0Read t gd => Sys2Proof.Machine.execEvf0Read t gd s
  | .billcmpArm ring v => Sys2Proof.Machine.execBillcmpArm ring v s
  | .billcmpFire vstorMv => Sys2Proof.Machine.execBillcmpFire vstorMv s
  | .wdkick ring v => Sys2Proof.Machine.execWdkick ring v s
  | .wdcfgWrite ring v => Sys2Proof.Machine.execWdcfgWrite ring v s
  | .wdEarly => Sys2Proof.Machine.execWdEarly s
  | .wdExpire => Sys2Proof.Machine.execWdExpire s
  | .recclr ring v => Sys2Proof.Machine.execRecclr ring v s
  | .calSplit t => Sys2Proof.Machine.execCalSplit t s
  | .calJoin t => Sys2Proof.Machine.execCalJoin t s
  | .calNow t => Sys2Proof.Machine.execCalNow t s
  | .calSet t => Sys2Proof.Machine.execCalSet t s
  | .pwmWrap n => Sys2Proof.Machine.execPwmWrap n s
  | .pwmFaultTrip n flt0 flt1 => Sys2Proof.Machine.execPwmFaultTrip n flt0 flt1 s
  | .pwmWindowEnd n => Sys2Proof.Machine.execPwmWindowEnd n s
  | .pwmStart ring v => Sys2Proof.Machine.execPwmStart ring v s
  | .pwmLatchRelease n ring v flt0 flt1 => Sys2Proof.Machine.execPwmLatchRelease n ring v flt0 flt1 s
  | .crystalCycle => Sys2Proof.Machine.execCrystalCycle s
  | .uartBreakEnd u => Sys2Proof.Machine.execUartBreakEnd u s
  | .storeStartStop => Sys2Proof.Machine.execStoreStartStop s
  | .balanceEnd bottomMv topMv => Sys2Proof.Machine.execBalanceEnd bottomMv topMv s
  | .supervisorRelease rail ov => Sys2Proof.Machine.execSupervisorRelease rail ov s
  | .cutComparatorRelease sensor => Sys2Proof.Machine.execCutComparatorRelease sensor s

end Sys2Proof.Machine
end

