-- ==== Sys2Proof/Machine/Balls.lean ====
section
/-!
DEFINITION. The state of each ball, read from State (spec/18_pins_electrical.md R362, with R48, R279, R353): the table's rows
as ball groups and its columns as moments of the power state. Reading a ball changes nothing.
-/

namespace Sys2Proof.Machine

/-- The rows of the ball table (R362); `n` counts from 0. -/
inductive Ball where
  /-- HGn, LGn. -/
  | gate (n : Fin 6)
  /-- BSTn, SWNn, CSPn, CSNn, FBn, VOSn. -/
  | stage (n : Fin 6)
  /-- IDG, with VIN and VSYS. -/
  | powerPath
  /-- SCSW1, SCSW2, VSTOR. -/
  | storeStage
  /-- SCMID, SCBT, SCBB. -/
  | stackTap
  /-- TB0, TB1. -/
  | ntc
  /-- VCOIN, VBAK. -/
  | backupSupply
  /-- LDOUTn. -/
  | ldoOut (n : Fin 4)
  /-- LSOUTn. -/
  | lsOut (n : Fin 6)
  /-- PxL1, PxL2, PxHV, PxSW, PxLV. -/
  | line (p : Fin 2)
  | vdrv
  /-- VDDC, VREFC. -/
  | coreSupply
  /-- TWn_SCL, TWn_SDA. -/
  | twoWire (i : Fin 2)
  | uartTx (n : Fin 3)
  | uartRx (n : Fin 3)
  | qclk
  | qcsN
  | qio (n : Fin 4)
  /-- PW0 to PW5. -/
  | pwmOut (n : Fin 6)
  /-- FLT0, FLT1. -/
  | fault (n : Fin 2)
  | syncIn
  | syncOut
  | rstN
  | eventIn (n : Fin 6)
  /-- XIN32, XOUT32. -/
  | crystal
  | analogIn (n : Fin 8)
  | testPin
  deriving DecidableEq, Repr

/-- The ball map of the package (R361): rows A to P without I and O, columns 1 to 14. -/
def ballMap : List (List String) :=
  [["VIN", "HG1", "BST1", "SWN1", "LG1", "HG2", "BST2",
    "SWN2", "LG2", "HG3", "BST3", "SWN3", "LG3", "PAL1"],
   ["VIN", "CSP1", "CSN1", "FB1", "VOS1", "CSP2", "CSN2",
    "FB2", "VOS2", "CSP3", "CSN3", "FB3", "VOS3", "PAL2"],
   ["IDG", "VSYS", "VDRV", "PGND", "GND", "PGND", "GND",
    "PGND", "GND", "PGND", "GND", "PGND", "PGND", "PAHV"],
   ["VSYS", "VSYS", "VBAK", "VCOIN", "TB0", "TB1", "AGND",
    "AIN0", "AIN1", "AIN2", "AIN3", "LSIN1", "LSOUT1", "PASW"],
   ["VSYS", "VSYS", "LDIN12", "LDOUT1", "LDOUT2", "VREFC", "AGND",
    "AIN4", "AIN5", "AIN6", "AIN7", "LSIN2", "LSOUT2", "PASW"],
   ["VSYS", "PGND", "LDIN34", "LDOUT3", "LDOUT4", "GND", "GND",
    "GND", "SYNC_IN", "SYNC_OUT", "FLT0", "LSIN3", "LSOUT3", "PALV"],
   ["SCSW1", "SCSW1", "XIN32", "XOUT32", "GND", "GND", "GND",
    "GND", "PW0", "PW1", "FLT1", "LSIN4", "LSOUT4", "PALV"],
   ["SCSW1", "PGND", "VDDC", "RST_N", "GND", "GND", "GND",
    "GND", "PW2", "PW3", "PW4", "LSIN5", "LSOUT5", "PBLV"],
   ["SCSW2", "SCSW2", "VDDC", "TEST", "U2TX", "U2RX", "EV_IN0",
    "EV_IN1", "EV_IN2", "PW5", "VIO", "LSIN6", "LSOUT6", "PBLV"],
   ["SCSW2", "PGND", "QCLK", "QCS_N", "QIO0", "QIO1", "QIO2",
    "QIO3", "EV_IN3", "EV_IN4", "EV_IN5", "GND", "PGND", "PBSW"],
   ["VSTOR", "VSTOR", "VIO", "TW0_SCL", "TW0_SDA", "TW1_SCL", "TW1_SDA",
    "U0TX", "U0RX", "U1TX", "U1RX", "GND", "PGND", "PBSW"],
   ["VSTOR", "SCBB", "VDRV", "PGND", "GND", "PGND", "GND",
    "PGND", "GND", "PGND", "GND", "PGND", "PGND", "PBHV"],
   ["SCMID", "CSP4", "CSN4", "FB4", "VOS4", "CSP5", "CSN5",
    "FB5", "VOS5", "CSP6", "CSN6", "FB6", "VOS6", "PBL2"],
   ["SCBT", "HG4", "BST4", "SWN4", "LG4", "HG5", "BST5",
    "SWN5", "LG5", "HG6", "BST6", "SWN6", "LG6", "PBL1"]]

/-- The signal of the ball in row `r` (A is 0) and column `c` (1 is 0). -/
def ballSignal (r c : Fin 14) : String := (ballMap.getD r []).getD c ""

/-- What the table says of a ball. -/
inductive BallState where
  | low
  | high
  | highZ
  /-- An input without a pull. -/
  | input
  /-- A pull of so many kΩ towards the supply; 0 where the manual gives no size. -/
  | pullUp (kohm : Nat)
  /-- A pull of so many kΩ towards ground, or of a gate towards its source. -/
  | pullDown (kohm : Nat)
  /-- An open-drain ball that nothing drives. -/
  | released
  /-- An open-drain ball that answers by the rule named. -/
  | answers
  /-- As the block's registers and events command it. -/
  | asProgrammed
  /-- A square wave: the 0° reference of the controllers, from the divider or repeated from SYNC_IN. -/
  | square (fromSyncIn : Bool)
  | regulated
  | regulatedIdeal
  | bodyDiode
  | oscillating
  | off
  deriving DecidableEq, Repr

/-- The columns of the table. -/
inductive BallColumn where
  | reset | run | calm | backupOff
  deriving DecidableEq, Repr

namespace State

/-- The column that holds: a COLD or SYSTEM reset lasts until RST_N is high and the wired bits are delivered (R57, R64). -/
def ballColumn (s : State) : BallColumn :=
  if s.powered = false then .backupOff
  else if s.pwr.rstLow || !s.pwr.otpOk then .reset
  else if s.pwr.state = .calm then .calm else .run

/-- The level that POL gives a PWM output's active or inactive level. -/
def pwmLevel (s : State) (n : Fin 6) (active : Bool) : BallState :=
  if active == s.on (F.PWM_CTL_POL n) then .high else .low

/-- A PWM output as a level of its ball (R350, R351, R353). The counter of a channel that runs has no state, so a level
that changes within the period is said no closer than that the channel commands it. -/
def pwmBall (s : State) (n : Fin 6) : BallState :=
  match s.pwmOut n 0, s.pwmOut n s.pwm[n].per with
  | .low, _ => .low
  | .high, _ => .high
  | .highZ, _ => .highZ
  | .inactive, _ => s.pwmLevel n false
  | .active, .active => s.pwmLevel n true
  | .active, _ => .asProgrammed

/-- A ball in RUN, DOZE and CALM; where the two columns differ the argument says which holds. -/
def ballRun (s : State) (calm : Bool) : Ball → BallState
  | .gate n => if s.domPg (7 + n) then (if s.railEn (n + 1) then .asProgrammed else .low) else .pullDown 100
  | .stage n => if s.domPg (7 + n) then .asProgrammed else .highZ
  | .powerPath => if s.store.diodeOn then .regulatedIdeal else .bodyDiode
  | .storeStage => if s.domPg 15 then .asProgrammed else .off
  | .stackTap => if s.domPg 15 && s.on F.CHG_CTL_BALEN then .asProgrammed else .off
  | .ntc => if s.domPg 15 then .asProgrammed else .highZ
  | .backupSupply => .asProgrammed
  | .ldoOut n => if s.railEn (7 + n) then .asProgrammed else .highZ
  | .lsOut n => if s.railEn (11 + n) then .asProgrammed else .highZ
  | .line p => if s.domPg (5 + p) then .asProgrammed else .off
  | .vdrv => .regulated
  | .coreSupply => .regulated
  | .twoWire _ => if s.domPg 4 then .answers else .released
  | .uartTx n =>
    if s.domPg 4 then
      match s.txPin ⟨n, by omega⟩ with
      | some b => if b then .high else .low
      | none => .asProgrammed
    else .pullUp 50
  | .uartRx _ => .pullUp 50
  | .qclk => if calm || !s.domPg 2 then .low else .asProgrammed
  | .qcsN => if calm || !s.domPg 2 then .high else .asProgrammed
  | .qio _ => if calm || !s.domPg 2 then .pullUp 0 else .asProgrammed
  | .pwmOut n => s.pwmBall n
  | .fault _ => .input
  | .syncIn => .pullDown 50
  | .syncOut =>
    if s.on F.SYS_SYNC_SOEN then .square (s.on F.SYS_SYNC_SOSEL && s.on F.SYS_SYNC_SIVALID) else .low
  | .rstN => .pullUp 50
  | .eventIn _ => .input
  | .crystal => .oscillating
  | .analogIn _ => .highZ
  | .testPin => .pullDown 50

/-- The state of a ball now (R362). -/
def ball (s : State) (b : Ball) : BallState :=
  match s.ballColumn with
  | .run => s.ballRun false b
  | .calm => s.ballRun true b
  | .reset =>
    match b with
    | .gate _ => .low
    | .stage _ => .input
    | .powerPath => .regulatedIdeal
    | .storeStage => if 2 ≤ s.get F.SC_STAT_MODE then .asProgrammed else .off
    | .stackTap => .off
    | .ntc => .highZ
    | .backupSupply => .asProgrammed
    | .ldoOut _ | .lsOut _ => .highZ
    | .line _ => .off
    | .vdrv | .coreSupply => .regulated
    | .twoWire _ => .released
    | .uartTx _ | .uartRx _ => .pullUp 50
    | .qclk => .low
    | .qcsN => .high
    | .qio _ => .pullUp 0
    | .pwmOut _ => .low
    | .fault _ => .input
    | .syncIn => .pullDown 50
    | .syncOut => .low
    | .rstN => .pullUp 50
    | .eventIn _ => .input
    | .crystal => .oscillating
    | .analogIn _ => .highZ
    | .testPin => .pullDown 50
  | .backupOff =>
    match b with
    | .gate _ => .pullDown 100
    | .stage _ => .highZ
    | .powerPath => .bodyDiode
    | .storeStage | .stackTap => .off
    | .ntc => .highZ
    | .backupSupply => if s.pwr.state = .off then .off else .asProgrammed
    | .ldoOut _ | .lsOut _ => .highZ
    | .line _ => .off
    | .vdrv | .coreSupply => .off
    | .twoWire _ => .released
    | .uartTx _ | .uartRx _ => .highZ
    | .qclk | .qcsN => .highZ
    | .qio _ => .highZ
    | .pwmOut _ => .pullDown 200
    | .fault _ | .syncIn | .syncOut | .rstN => .highZ
    | .eventIn _ => .input
    | .crystal => if s.pwr.state = .off then .off else .oscillating
    | .analogIn _ | .testPin => .highZ

end State

end Sys2Proof.Machine
end

