-- ==== Sys2Proof/Machine/Drives.lean ====
section
/-!
DEFINITION. What the state makes the analogue side do: the core clock (R45, R46, R56, R331), the gates, references and
on-times of the controllers (R181 to R200), the currents and set-points of the storage converter and the charger (R205 to
R221), and the currents of a target port (R245, R246). Quantities are exact; the tolerance bands of the rules stand in the
docstrings. Reading one changes nothing.
-/

namespace Sys2Proof.Machine

namespace State

/-! ## Core clock -/

/-- f_CORE = 192 MHz / this divider before the thermal cap: CDIV while the PLL is selected and locked; 4, the main
oscillator's 48 MHz, with CSRC = 0, while the PLL is not locked, and after a wake until it relocks or 50 µs have passed
(R45, R46, R56). -/
def coreDivider (s : State) : Nat :=
  if s.on F.SYS_CLKCFG_CSRC && s.on F.SYS_OSCSTAT_PLL_LOCK && !s.pwr.wake48 then s.get F.SYS_CLKCFG_CDIV else 4

/-- THROTTLE holds the core at 48 MHz (R331). -/
def coreCapped (s : State) : Bool :=
  s.on F.THERM_STAT_THROTTLE && s.on F.THERM_CTL_THRCORE && decide (s.coreDivider < 4)

/-- The divider of 192 MHz that f_CORE has, or none while the core clock does not run (R53, R54, R331). -/
def coreClock (s : State) : Option Nat :=
  if s.powered ∧ s.pwr.state = .run ∧ s.on F.SYS_OSCSTAT_MOSC_OK then
    some (if s.coreCapped then 4 else s.coreDivider)
  else none

/-! ## Switching controllers -/

/-- The phase step, of 5.625°, at which channel `n` switches: a follower 180° after its leader (R197, R198). -/
def swPhaseStepOf (s : State) (n : Fin 6) : Nat :=
  if s.follower n then (s.get (F.SW_CTL_PHASE (s.swGov n)) + 32) % 64 else s.get (F.SW_CTL_PHASE n)

/-- The droop pair is in force on channel `n` (R198). -/
def swDroops (s : State) (n : Fin 6) : Bool := s.on (F.SW_CTL_GANG 2) && (n == 2 || n == 3)

/-- The reference that channel `n` regulates to, in sixteenths of a microvolt: 0.5 V + 4 mV × NOW of the governing
channel, in the droop pair lowered by 0.0625 × DRG × the summed sense voltage in microvolts (R181, R197, R198). -/
def swReference (s : State) (n : Fin 6) (sumSenseUv : Int) : Int :=
  16 * (500000 + 4000 * (s.get (F.SW_REF_NOW (s.swGov n)) : Int)) -
    (if s.swDroops n then (s.get (F.SW_DROOP_DRG 2) : Int) * sumSenseUv else 0)

/-- The DC integrator works: DCINT of the governing channel, ignored in the droop pair (R183, R198). -/
def swIntegrates (s : State) (n : Fin 6) : Bool := s.on (F.SW_CTL_DCINT (s.swGov n)) && !s.swDroops n

/-- The share of the balance loop in channel `n`'s on-time, in units of 1/1,024: added to SW1, taken from SW2 (R197). -/
def swBalanceShare (s : State) (n : Fin 6) : Int :=
  if s.on (F.SW_CTL_GANG 0) then
    let b := signedOf (s.get (F.SW_TRIM_BTRIM 0)) 10
    if n = 0 then b else if n = 1 then -b else 0
  else 0

/-- The part of its on-time that SW2 takes on its way back, in 252nds: 25 % at its first on-time, rising linearly to
100 % at its 64th (R200). -/
def swJoinPart (s : State) (n : Fin 6) : Nat :=
  if n = 1 ∧ 1 ≤ s.sw[1].readd ∧ s.sw[1].readd ≤ 64 then 63 + 3 * (s.sw[1].readd - 1) else 252

/-- The on-time of channel `n` as a multiple of t_FF, in units of 1/(1,024 × 252) (R182, R183, R197, R200); on the way
back it is a part of SW1's present one. -/
def swOnTime (s : State) (n : Fin 6) : Int :=
  let joins := decide (s.swJoinPart n < 252)
  let ptrim := signedOf (s.get (F.SW_TRIM_PTRIM (if joins then 0 else n.val))) 10
  (1024 + ptrim + s.swBalanceShare n) * (s.swJoinPart n : Int)

/-- The sense voltage in microvolts at which LGn turns off before the next cycle: the zero crossing in diode emulation,
−20 mV in continuous conduction (R190). -/
def lgTurnOffUv (s : State) (n : Fin 6) : Int := if s.swDiode n then 0 else -20000

/-- Length in nanoseconds of the LGn pulse before the next on-time: 200 when BSTn − SWNn is low, and before SW2's first
on-time on its way back (R190, R200). -/
def lgPulseNs (s : State) (n : Fin 6) : Nat := if s.sw[n].lgPulse then 200 else 0

/-- Under OVP HGn is off and LGn on; with MODE = 1 LGn only while the sense voltage is above −20 mV (R194). -/
def ovpGates (s : State) (n : Fin 6) (senseUv : Int) : Bool × Bool :=
  (false, !s.on (F.SW_CTL_MODE (s.swGov n)) || decide (-20000 < senseUv))

/-! ## Storage converter -/

/-- ILIM in milliamperes (R206): the most forward current, and in reverse what the limit lets flow at least. -/
def ilimMa (s : State) : Nat := 100 * s.get F.SC_CFG_ILIM

/-- The band in which a limit that acts holds the VSTOR current, in tenths of a milliampere: 0.9 to 1.0 × ILIM forward,
1.0 to 1.2 × ILIM in reverse, 0.5 A at most in start-up (R206, R213). -/
def scLimitBand (s : State) : Nat × Nat :=
  match s.scMode with
  | 1 => (9 * s.ilimMa, 10 * s.ilimMa)
  | 2 => (10 * s.ilimMa, 12 * s.ilimMa)
  | 3 => (0, 5000)
  | _ => (0, 0)

/-- VTRIG in millivolts. -/
def vtrigMv (s : State) : Nat := 8600 + 200 * s.get F.SC_REV_VTRIG

/-- What SC regulates VSYS to, in millivolts: the lower of VHOLD and VTRIG − 0.2 V in reverse, 8.4 V in start-up (R207,
R213); none while it does not feed VSYS. -/
def vsysTargetMv (s : State) : Option Nat :=
  match s.scMode with
  | 2 => some (min (8200 + 100 * s.get F.SC_REV_VHOLD) (s.vtrigMv - 200))
  | 3 => some 8400
  | _ => none

/-- The VSYS that DPM defends while SC charges, in millivolts (R205). -/
def dpmHoldMv (s : State) : Nat := s.vtrigMv + 400

/-! ## Charger -/

/-- ICHG in milliamperes. -/
def ichgMa (s : State) : Nat := 25 * s.get F.CHG_SET_ICHG

/-- The current a charging phase asks for, in milliamperes (R215, R219): 20 mA in QUAL, for a supercapacitor the lesser
of ICHG and 0.5 A; a tenth of ICHG in PRE; ICHG in CC, and at most that in CV and FLOAT. -/
def phaseMa (s : State) : Nat :=
  match s.get F.CHG_STAT_STATE with
  | 1 => if s.get F.CHG_CTL_PROF ≤ 1 then 20 else min s.ichgMa 500
  | 2 => s.ichgMa / 10
  | 3 | 4 | 6 => s.ichgMa
  | _ => 0

/-- The zone limit: half of ICHG in COOL for the cell profiles (R217). -/
def zoneMa (s : State) : Nat :=
  if s.get F.CHG_CTL_PROF ≤ 1 ∧ 4 ∈ s.chgZones then s.ichgMa / 2 else s.ichgMa

/-- The charge current: the least of the phase's, the zone limit, ILIM and what DPM leaves (R205, R206, R214). -/
def chargeMa (s : State) (dpmMa : Nat) : Nat :=
  if s.scMode = 1 then min (min s.phaseMa s.zoneMa) (min s.ilimMa dpmMa) else 0

/-- The current below which CV ends, in 64ths of a milliampere: ICHG × ITERM (CHG.SET). -/
def itermMa64 (s : State) : Nat := s.ichgMa * s.get F.CHG_SET_ITERM

/-! ## Target ports -/

/-- A target draws line current: enabled, its line present (R245, R247). -/
def tgtDraws (s : State) (p : Fin 2) : Bool := s.isTarget p && s.portLive p && s.on (F.P_CTL_EN p) && !s.port[p].lineGone

/-- The constant line current of a target, in microamperes (R245). -/
def tgtDrawUa (s : State) (p : Fin 2) : Nat := if s.tgtDraws p then 1500 * (s.get (F.P_TGT_QUL p) + 1) else 0

/-- The drawn current goes into VSTOR; at the charger's VREG and while the charger is BLOCKED the shunt takes it
(R245). -/
def tgtHarvests (s : State) (p : Fin 2) (vstorMv : Nat) : Bool :=
  s.tgtDraws p && decide (vstorMv < s.vregMv) && s.get F.CHG_STAT_STATE != 7

/-- What a 0 bit of a reply adds to the line current, in microamperes (R246). -/
def tgtModulationUa (s : State) (p : Fin 2) : Nat := 11000 + 1000 * s.get (F.P_TGT_IMOD p)

/-- How far below its mark a line must lie to read 0, in millivolts (R246). -/
def tgtRxDropMv (s : State) (p : Fin 2) : Nat := 4000 + 500 * s.get (F.P_TGT_RXTH p)

/-! ## Converter -/

/-- The probe DAC's code: in a probe slot the one latched at its start (R321, R322), else ADC.PROBE's; none while a
calibration drives the DAC (R325, R326). -/
def dacCode (s : State) : Option Nat :=
  if s.on F.ADC_STAT_CALBUSY then none
  else if s.on F.ADC_STAT_BUSY ∧ s.adc.cfg.probe then some s.adc.cfg.dac
  else some (s.get F.ADC_PROBE_CODE)

end State

end Sys2Proof.Machine
end

