-- ==== Sys2Proof/Safety.lean ====
section
/-!
DEFINITION. What counts as a safe run, in the terms the statements use: outcomes, reachable states, the memory's
canonical form, when a thread's instruction runs, and what an instruction leaves unchanged.
-/

namespace Sys2Proof.Machine

/-- An outcome that goes on. -/
def Completes (o : Host.Outcome State Fault Refusal) : Prop := ∃ t, o = .next t

/-- A predicate that every step keeps. -/
def Kept (p : State → Prop) : Prop := ∀ s t, p s → step s = .next t → p t

/-- States that runs reach from reset, whatever commands are sent on the way. -/
inductive Reached : State → Prop where
  | reset : Reached State.reset
  | send (s : State) (c : Instr) : Reached s → Reached { s with pending := s.pending ++ [c] }
  | step (s t : State) : Reached s → Sys2Proof.Machine.step s = .next t → Reached t

/-- Every memory of the device is in its canonical form. -/
def MemoryCanonical (s : State) : Prop := s.mem.wf = true

/-! ## When an instruction runs, and what it leaves -/

/-- Thread `t` issues an instruction of `len` bytes now: it is chosen (R86), no late DOMOFF (R52) or protection store
(R140) comes first, and its fetch is served (R161, R392). -/
abbrev Runs (s : State) (t : Tid) (len : Nat) : Prop :=
  s.canIssue t = true ∧ (s.thr t).lateDomoff = [] ∧ s.protPending = false ∧
    s.fetch (s.thr t).ring (s.thr t).pc.toNat len = .ok

/-- `n` more core cycles pass neither the budget of a GALE handler (R155) nor the hold limit of GM (R146). -/
abbrev InBudget (s : State) (t : Tid) (n : Nat) : Prop :=
  (∀ g ∈ s.core.gale, g.tid = t → g.count + n ≤ 256) ∧ ((s.thr t).gm = true → s.core.gmHold + n ≤ 48)

/-- Everything outside CORE but the register fields and the memories is unchanged. -/
def BlocksSame (s u : State) : Prop :=
  u.pending = s.pending ∧ u.pwr = s.pwr ∧ u.nvc = s.nvc ∧ u.sw = s.sw ∧ u.store = s.store ∧ u.seq = s.seq ∧
    u.port = s.port ∧ u.host = s.host ∧ u.uart = s.uart ∧ u.adc = s.adc ∧ u.therm = s.therm ∧ u.bak = s.bak ∧
    u.pwm = s.pwm

/-- Every byte of memory, every flash granule's status, the external flash and the OTP array are unchanged. -/
def MemorySame (s u : State) : Prop :=
  (∀ a, u.byte a = s.byte a) ∧ u.mem = s.mem

/-- The registers of CORE that no thread owns, the store buffer and what the issue itself counts apart, are
unchanged. -/
def CoreSame (s u : State) : Prop :=
  u.core.latch = s.core.latch ∧ u.core.ibuf = s.core.ibuf ∧ u.core.dbuf = s.core.dbuf ∧
    u.core.fstop = s.core.fstop ∧ u.core.fslim = s.core.fslim ∧ u.core.vbase = s.core.vbase ∧
    u.core.gbase = s.core.gbase ∧ u.core.flvl = s.core.flvl ∧ u.core.raised = s.core.raised ∧
    u.core.eddyHeld = s.core.eddyHeld ∧ u.core.squall = s.core.squall ∧ u.core.fenceP = s.core.fenceP

/-- What the issue of `n` core cycles by thread `t` counts: the round-robin pointer of its class moves on (R86), a GALE
handler of the thread has used `n` more cycles (R155), a hold of GM lasts `n` more (R146). -/
def Counts (s u : State) (t : Tid) (n : Nat) : Prop :=
  u.core.rr = s.core.rr.set (Fin.ofNat 4 (s.cls t)) (t + 1) ∧
    u.core.gale = s.core.gale.map (fun g => if g.tid = t then { g with count := g.count + n } else g)

/-- Thread `t` has carried out an instruction of `n` core cycles that leaves it as `y`; every other thread is
unchanged, and ICNT has grown by `n` (R90). -/
def ThreadBecomes (s u : State) (t : Tid) (n : Nat) (y : Thread) : Prop :=
  u.thr t = { y with icnt := y.icnt + BitVec.ofNat 32 n } ∧ (∀ v, v ≠ t → u.thr v = s.thr v)

/-- The frame of an instruction that changes nothing but its own thread. -/
def OnlyThread (s u : State) (t : Tid) (n : Nat) (y : Thread) : Prop :=
  ThreadBecomes s u t n y ∧ Counts s u t n ∧ CoreSame s u ∧ u.core.sb = s.core.sb ∧ u.regs = s.regs ∧
    MemorySame s u ∧ BlocksSame s u

/-- A thread that goes on after an instruction of `len` bytes with `r` in register `d` and the flags `fl`; LVL, GM and
RING of its PSW stay. -/
def Thread.wrote (x : Thread) (d : Gpr) (r : Word) (fl : Flags) (len : Nat) : Thread :=
  { (x.setReg d r).setFl fl with pc := x.pc + BitVec.ofNat 32 len }

/-- A thread that goes on with the flags `fl` and no register written. -/
def Thread.compared (x : Thread) (fl : Flags) (len : Nat) : Thread :=
  { x.setFl fl with pc := x.pc + BitVec.ofNat 32 len }

/-- A thread that goes on with `r` in register `d` and its PSW as it was. -/
def Thread.moved (x : Thread) (d : Gpr) (r : Word) (len : Nat) : Thread :=
  { x.setReg d r with pc := x.pc + BitVec.ofNat 32 len }

/-- The command answers a next state of which `p` holds. -/
def Gives (i : Instr) (s : State) (p : State → Prop) : Prop := ∃ u, exec i s = .next u ∧ p u

/-- The instruction raises a fault: its issue counts as one of one cycle, and the fault is taken with this cause and
this FADDR. -/
def FaultsWith (i : Instr) (s : State) (t : Tid) (cause : Nat) (faddr : Word) : Prop :=
  ∃ v, OnlyThread s v t 1 (s.thr t) ∧ exec i s = .next (v.fault t cause faddr)

/-- No register field but those listed has changed. -/
def OnlyFields (s u : State) (fs : List Fld) : Prop := ∀ g : Fld, g.key ∉ fs.map Fld.key → u.get g = s.get g

/-- The store buffer is empty and thread `t` has room for one more frame on its slice of the fault stack of ring `r`, at
a word-aligned place (R149). -/
def CanPush (s : State) (t : Tid) (r : Fin 3) : Prop :=
  s.core.sb = [] ∧ (∃ span, s.fstackSpan r = some span ∧ (s.thr t).fsUsed[r] + 32 ≤ span / 16) ∧
    (s.sliceTop t r - BitVec.ofNat 32 ((s.thr t).fsUsed[r] + 32)).toNat % 4 = 0

/-- Thread `t` has entered the handler `hd` at ring `r` with this CODE, original cause and FADDR (R147 to R149): the frame
of R148 lies below its slice top, the thread is READY with INFO in g0, FADDR in g1 and the frame's address in g15, at
LVL `lvl`, GM 0, the class `cls` and its flags as they were. Every other register, every other thread, every byte outside
the frame, every other register field and every block is unchanged. -/
def Entered (s u : State) (t : Tid) (r : Fin 3) (hd : Word) (code orig : Nat) (faddr : Word) (lvl cls : Nat) : Prop :=
  let x := s.thr t
  let y := u.thr t
  let a := s.sliceTop t r - BitVec.ofNat 32 (x.fsUsed[r] + 32)
  let info := BitVec.ofNat 32 (code + s.cls t % 4 * 2 ^ 8 + t.val * 2 ^ 10 + orig * 2 ^ 16)
  y.pc = hd ∧ y.st = .ready ∧ y.stall = none ∧ y.yielding = false ∧ y.reg 0 = info ∧ y.reg 1 = faddr ∧ y.reg 15 = a ∧
    (∀ q, q ≠ 0 → q ≠ 1 → q ≠ 15 → y.reg q = x.reg q) ∧ y.ring = r.val ∧ y.gm = false ∧ y.lvl = lvl ∧ y.fl = x.fl ∧
    y.pend = x.pend ∧ y.scr = x.scr ∧ y.icnt = x.icnt ∧ y.wmask = x.wmask ∧ y.fsUsed[r] = x.fsUsed[r] + 32 ∧
    u.cls t = cls ∧
    [u.word a.toNat, u.word (a.toNat + 4), u.word (a.toNat + 8), u.word (a.toNat + 12), u.word (a.toNat + 16),
      u.word (a.toNat + 20), u.word (a.toNat + 24), u.word (a.toNat + 28)] =
      [x.pc, x.psw, info, faddr, x.reg 0, x.reg 1, x.reg 14, x.reg 15] ∧
    (∀ b, b < a.toNat ∨ a.toNat + 32 ≤ b → u.byte b = s.byte b) ∧ (∀ v, v ≠ t → u.thr v = s.thr v) ∧
    OnlyFields s u [F.EVT_TCFG_CLASS t] ∧ u.core.sb = [] ∧ u.core.latch = s.core.latch ∧
    u.core.raised = s.core.raised ∧ BlocksSame s u

/-- No register field outside the address ranges listed, and not itself listed, has changed. -/
def OnlyRanges (s u : State) (rs : List (Nat × Nat)) (fs : List Fld) : Prop :=
  ∀ g : Fld, g.key ∉ fs.map Fld.key → (∀ r ∈ rs, g.key / 32 < r.1 ∨ r.2 ≤ g.key / 32) → u.get g = s.get g

/-- The parts of State that hold what an island or SYS keeps beside its registers. -/
inductive Block where
  | pwr | nvc | sw | store | seq | port | host | uart | adc | therm | bak | pwm
  deriving DecidableEq, Repr

/-- Every block but those listed is unchanged. -/
def BlocksBut (bs : List Block) (s u : State) : Prop :=
  (.pwr ∉ bs → u.pwr = s.pwr) ∧ (.nvc ∉ bs → u.nvc = s.nvc) ∧ (.sw ∉ bs → u.sw = s.sw) ∧
    (.store ∉ bs → u.store = s.store) ∧ (.seq ∉ bs → u.seq = s.seq) ∧ (.port ∉ bs → u.port = s.port) ∧
    (.host ∉ bs → u.host = s.host) ∧ (.uart ∉ bs → u.uart = s.uart) ∧ (.adc ∉ bs → u.adc = s.adc) ∧
    (.therm ∉ bs → u.therm = s.therm) ∧ (.bak ∉ bs → u.bak = s.bak) ∧ (.pwm ∉ bs → u.pwm = s.pwm)

/-- CORE is unchanged, but that an island may have raised hardware lines; none outside `ks` has been. -/
def CoreBut (ks : List Nat) (s u : State) : Prop :=
  { u.core with raised := s.core.raised } = s.core ∧
    ∀ k, k ∉ ks → u.core.raised.getLsbD k = s.core.raised.getLsbD k

/-- The frame of a device command: of the register fields only `fs`, of the blocks only `bs`, of the hardware lines
only `ks` may have changed; every memory, every thread, the rest of CORE and the queue are unchanged. -/
def Frame (fs : List Fld) (bs : List Block) (ks : List Nat) (s u : State) : Prop :=
  OnlyFields s u fs ∧ BlocksBut bs s u ∧ CoreBut ks s u ∧ u.mem = s.mem ∧ u.pending = s.pending

/-- The frame of a device command that may write any field of the address ranges `rs`. -/
def FrameIn (rs : List (Nat × Nat)) (fs : List Fld) (bs : List Block) (ks : List Nat) (s u : State) : Prop :=
  OnlyRanges s u rs fs ∧ BlocksBut bs s u ∧ CoreBut ks s u ∧ u.mem = s.mem ∧ u.pending = s.pending

/-- The registers, program counter, PSW and pending lines of every thread are unchanged: what a thread computes with;
whether it stalls or waits is left out. -/
def ProgramsSame (s u : State) : Prop :=
  ∀ t, (u.thr t).g = (s.thr t).g ∧ (u.thr t).pc = (s.thr t).pc ∧ (u.thr t).psw = (s.thr t).psw ∧
    (u.thr t).pend = (s.thr t).pend ∧ (u.thr t).icnt = (s.thr t).icnt

/-- The frame of a command that opens line stages: as `FrameIn`, but that an engine's exchange or answer which it breaks
off ends (R271), so its buffer's header and its entry's last eight bytes are written and FENCE.P waits for it no
longer. -/
def FrameOff (rs : List (Nat × Nat)) (fs : List Fld) (bs : List Block) (ks : List Nat) (s u : State) : Prop :=
  OnlyRanges s u rs fs ∧ BlocksBut bs s u ∧ ProgramsSame s u ∧ u.core.sb = s.core.sb ∧ u.core.latch = s.core.latch ∧
    u.pending = s.pending ∧ (∀ k, k ∉ ks → u.core.raised.getLsbD k = s.core.raised.getLsbD k) ∧
    ((∀ p : Fin 2, s.port[p].exch = none ∧ s.port[p].answer = none) → CoreBut ks s u ∧ u.mem = s.mem) ∧
    ((∀ (p : Fin 2) x, s.port[p].exch = some x → x.index < 512 ∧
        bufOk (s.entBuf x.index) (s.entBufsz x.index) = true) →
      ∀ b, (∀ (p : Fin 2) x, s.port[p].exch = some x → (b < entAddr x.index + 0x18 ∨ entAddr x.index + 0x20 ≤ b) ∧
        (b < s.entBuf x.index ∨ s.entBuf x.index + 8 ≤ b)) → u.byte b = s.byte b)

/-- The core's threads and store buffer, every memory and the queue are unchanged, and of the register fields only
those listed may have changed. -/
def OnlyDevice (s u : State) (fs : List Fld) : Prop :=
  OnlyFields s u fs ∧ u.mem = s.mem ∧ (∀ t, u.thr t = s.thr t) ∧ u.core.sb = s.core.sb ∧ u.pending = s.pending

end Sys2Proof.Machine
end

