-- ==== Sys2Proof/Certificates/Slice0/Obligations.lean ====
section
/-!
DEFINITION. The statements for the provers: what the rules of spec/ say a command does, one definition each. A
statement holds in every state that meets its hypotheses, reachable or not; `Gives` says that the command answers a next
state. Helper propositions stand in Sys2Proof/Safety.lean.
-/

open Sys2Proof
open Sys2Proof.Machine

/-! ## The queue, reset and the memory's form -/

/-- Every step takes the command at the front of the queue and is `exec` of it on the state with the queue's rest; on
an empty queue the block idles (log entry 1, DESIGN CHOICE). -/
def Obligations.StepTakesTheFrontCommand : Prop :=
  ∀ (s : State), (∀ c rest, s.pending = c :: rest → step s = exec c { s with pending := rest }) ∧
    (∀ c, step { s with pending := c :: s.pending } = exec c s) ∧ (s.pending = [] → step s = .next s)

/-- No command touches the queue: what waits is left waiting, in its order. The queue is the model's own field (log
entry 11). -/
def Obligations.CommandsLeaveTheQueue : Prop :=
  ∀ (c : Instr) (s u : State), exec c s = .next u → u.pending = s.pending

/-- State.reset: T0 READY at ring 0, every other thread HALTED at ring 3, LVL 7 and GM 0 everywhere; the ring
registers at their Cold values, the store buffer and the latches empty, every register field but RSTCAUSE's two cause
bits at its Cold value, RUN. That the moment is the one before the first ROM instruction, and the values of the fields
that have no Cold value, are the model's choices (log entries 4 and 5). -/
def Obligations.ResetState : Prop :=
  let s := State.reset
  (s.thr 0).st = .ready ∧ (s.thr 0).psw = 0x07 ∧ (∀ t : Tid, t ≠ 0 → (s.thr t).st = .halted ∧ (s.thr t).psw = 0x37) ∧
    (∀ t : Tid, (s.thr t).pend = 0) ∧ s.core.fstop = #v[0x200C0000, 0, 0] ∧ s.core.fslim = #v[0x200BE000, 0, 0] ∧
    s.core.vbase = 0x200B8000 ∧ s.core.gbase = Vector.replicate 4 0 ∧ s.core.flvl = 6 ∧ s.core.sb = [] ∧
    s.core.latch = [] ∧ s.pwr.state = .run ∧ s.pending = [] ∧
    (∀ f : Fld, f.key ≠ F.SYS_RSTCAUSE_COLD_VIN.key → f.key ≠ F.SYS_RSTCAUSE_BAKLOST.key → s.get f = coldOf f.key) ∧
    s.on F.SYS_RSTCAUSE_COLD_VIN = true ∧ s.on F.SYS_RSTCAUSE_BAKLOST = true

/-- Every step keeps the canonical form of every memory of the device: SRAM, flash and backup RAM by byte, granule
states, the external flash and the OTP array. The canonical form is the model's representation (log entry 3). -/
def Obligations.StepsKeepMemoryCanonical : Prop := Kept MemoryCanonical

/-- The memories are in canonical form at reset. The canonical form is the model's representation (log entry 3). -/
def Obligations.ResetMemoryCanonical : Prop := MemoryCanonical State.reset

/-- No step halts T0 (R88): a machine whose T0 is READY or WAITING has it so after every step, whatever the command. -/
def Obligations.StepsNeverHaltT0 : Prop := Kept (fun s => (s.thr 0).st ≠ .halted)

/-! ## Arithmetic, logic, shifts and moves (R118 to R120) -/

/-- add, sub, adc, sbc, neg and addi, every operand form: the result to the destination, all four flags by R118, and
nothing else but the thread's PC and ICNT. cmp and cmpi write the four flags of a − b, tst Z and N of a & b, and none of
the three writes a register. -/
def Obligations.AddSubtractAndCompare : Prop :=
  ∀ (s : State) (t : Tid),
    let x := s.thr t
    InBudget s t 1 →
    (∀ f : AluForm, Runs s t f.len →
      let a := f.a x
      let b := f.b x
      let c := b2n x.fl.c
      Gives (.add t f) s (fun u => OnlyThread s u t 1 (x.wrote f.dst (a + b)
        ⟨a + b == 0, (a + b).msb, decide (2 ^ 32 ≤ a.toNat + b.toNat), decide (a.toInt + b.toInt ≠ (a + b).toInt)⟩
        f.len)) ∧
      Gives (.sub t f) s (fun u => OnlyThread s u t 1 (x.wrote f.dst (a - b)
        ⟨a - b == 0, (a - b).msb, decide (b.toNat ≤ a.toNat), decide (a.toInt - b.toInt ≠ (a - b).toInt)⟩ f.len)) ∧
      Gives (.adc t f) s (fun u =>
        let r := a + b + BitVec.ofNat 32 c
        OnlyThread s u t 1 (x.wrote f.dst r
          ⟨r == 0, r.msb, decide (2 ^ 32 ≤ a.toNat + b.toNat + c), decide (a.toInt + b.toInt + c ≠ r.toInt)⟩ f.len)) ∧
      Gives (.sbc t f) s (fun u =>
        let r := a - b - BitVec.ofNat 32 (1 - c)
        OnlyThread s u t 1 (x.wrote f.dst r
          ⟨r == 0, r.msb, decide (b.toNat + (1 - c) ≤ a.toNat),
            decide (a.toInt - b.toInt - (1 - c : Nat) ≠ r.toInt)⟩ f.len))) ∧
    (∀ gd gs : Gpr, Runs s t 2 →
      let b := x.reg gs
      Gives (.neg t gd gs) s (fun u => OnlyThread s u t 1 (x.wrote gd (0 - b)
        ⟨0 - b == 0, (0 - b).msb, b == 0, b == 0x80000000⟩ 2))) ∧
    (∀ f : AddiForm, Runs s t f.len →
      let a := f.a x
      let b := f.val
      Gives (.addi t f) s (fun u => OnlyThread s u t 1 (x.wrote f.dst (a + b)
        ⟨a + b == 0, (a + b).msb, decide (2 ^ 32 ≤ a.toNat + b.toNat), decide (a.toInt + b.toInt ≠ (a + b).toInt)⟩
        f.len))) ∧
    (∀ gd gs : Gpr, Runs s t 2 →
      let a := x.reg gd
      let b := x.reg gs
      Gives (.cmp t gd gs) s (fun u => OnlyThread s u t 1 (x.compared
        ⟨a == b, (a - b).msb, decide (b.toNat ≤ a.toNat), decide (a.toInt - b.toInt ≠ (a - b).toInt)⟩ 2)) ∧
      Gives (.tst t gd gs) s (fun u => OnlyThread s u t 1 (x.compared
        ⟨a &&& b == 0, (a &&& b).msb, x.fl.c, x.fl.v⟩ 2))) ∧
    (∀ f : CmpiForm, Runs s t f.len →
      let a := f.a x
      let b := f.val
      Gives (.cmpi t f) s (fun u => OnlyThread s u t 1 (x.compared
        ⟨a == b, (a - b).msb, decide (b.toNat ≤ a.toNat), decide (a.toInt - b.toInt ≠ (a - b).toInt)⟩ f.len)))

/-- and, or, xor, not, their immediates, and the products: Z and N of the result, C and V stay. mul keeps the low word
of the product, mulh and mulhu the high word of the signed and the unsigned one. -/
def Obligations.LogicAndProducts : Prop :=
  ∀ (s : State) (t : Tid),
    let x := s.thr t
    let zn := fun (r : Word) => (⟨r == 0, r.msb, x.fl.c, x.fl.v⟩ : Flags)
    (∀ f : AluForm, Runs s t f.len →
      let a := f.a x
      let b := f.b x
      (InBudget s t 1 →
        Gives (.and t f) s (fun u => OnlyThread s u t 1 (x.wrote f.dst (a &&& b) (zn (a &&& b)) f.len)) ∧
        Gives (.or t f) s (fun u => OnlyThread s u t 1 (x.wrote f.dst (a ||| b) (zn (a ||| b)) f.len)) ∧
        Gives (.xor t f) s (fun u => OnlyThread s u t 1 (x.wrote f.dst (a ^^^ b) (zn (a ^^^ b)) f.len))) ∧
      (InBudget s t 2 →
        Gives (.mul t f) s (fun u => OnlyThread s u t 2 (x.wrote f.dst (a * b) (zn (a * b)) f.len)))) ∧
    (∀ gd gs : Gpr, Runs s t 2 → InBudget s t 1 →
      Gives (.not t gd gs) s (fun u => OnlyThread s u t 1 (x.wrote gd (~~~(x.reg gs)) (zn (~~~(x.reg gs))) 2))) ∧
    (∀ (gd gs : Gpr) (i : BitVec 16), Runs s t 4 → InBudget s t 1 →
      let a := x.reg gs
      let b : Word := i.setWidth 32
      Gives (.andi t gd gs i) s (fun u => OnlyThread s u t 1 (x.wrote gd (a &&& b) (zn (a &&& b)) 4)) ∧
      Gives (.ori t gd gs i) s (fun u => OnlyThread s u t 1 (x.wrote gd (a ||| b) (zn (a ||| b)) 4)) ∧
      Gives (.xori t gd gs i) s (fun u => OnlyThread s u t 1 (x.wrote gd (a ^^^ b) (zn (a ^^^ b)) 4))) ∧
    (∀ gd gs gt : Gpr, Runs s t 4 → InBudget s t 3 →
      let h := BitVec.ofInt 32 ((x.reg gs).toInt * (x.reg gt).toInt / 2 ^ 32)
      let k := BitVec.ofNat 32 ((x.reg gs).toNat * (x.reg gt).toNat / 2 ^ 32)
      Gives (.mulh t gd gs gt) s (fun u => OnlyThread s u t 3 (x.wrote gd h (zn h) 4)) ∧
      Gives (.mulhu t gd gs gt) s (fun u => OnlyThread s u t 3 (x.wrote gd k (zn k) 4)))

/-- The shifts by b[7:0], their immediates and ror by b[4:0]: Z and N of the result, V stays, C is the last bit shifted
or rotated out and stays when the amount is 0. -/
def Obligations.ShiftsAndRotate : Prop :=
  ∀ (s : State) (t : Tid), InBudget s t 1 →
    let x := s.thr t
    let out := fun (r : Word) (n : Nat) (c : Bool) => (⟨r == 0, r.msb, if n = 0 then x.fl.c else c, x.fl.v⟩ : Flags)
    let shl := fun (a : Word) (n : Nat) => out (a <<< n) n (decide (n ≤ 32) && a.getLsbD (32 - n))
    let shr := fun (a : Word) (n : Nat) => out (a >>> n) n (a.getLsbD (n - 1))
    let sar := fun (a : Word) (n : Nat) => out (a.sshiftRight n) n (if n ≤ 32 then a.getLsbD (n - 1) else a.msb)
    (∀ f : AluForm, Runs s t f.len →
      let a := f.a x
      let n := (f.b x).toNat % 256
      Gives (.shl t f) s (fun u => OnlyThread s u t 1 (x.wrote f.dst (a <<< n) (shl a n) f.len)) ∧
      Gives (.shr t f) s (fun u => OnlyThread s u t 1 (x.wrote f.dst (a >>> n) (shr a n) f.len)) ∧
      Gives (.sar t f) s (fun u => OnlyThread s u t 1 (x.wrote f.dst (a.sshiftRight n) (sar a n) f.len))) ∧
    (∀ (gd : Gpr) (i : BitVec 5), Runs s t 2 →
      let a := x.reg gd
      let n := i.toNat
      Gives (.shli t gd i) s (fun u => OnlyThread s u t 1 (x.wrote gd (a <<< n) (shl a n) 2)) ∧
      Gives (.shri t gd i) s (fun u => OnlyThread s u t 1 (x.wrote gd (a >>> n) (shr a n) 2)) ∧
      Gives (.sari t gd i) s (fun u => OnlyThread s u t 1 (x.wrote gd (a.sshiftRight n) (sar a n) 2))) ∧
    (∀ gd gs gt : Gpr, Runs s t 4 →
      let a := x.reg gs
      let n := (x.reg gt).toNat % 32
      Gives (.ror t gd gs gt) s (fun u => OnlyThread s u t 1 (x.wrote gd (a.rotateRight n)
        (out (a.rotateRight n) n (a.rotateRight n).msb) 4)))

/-- div, divu, rem and remu with a divisor other than 0 take three issues, of 12, 12 and 10 cycles: the first two
count the steps done and leave the thread at the instruction, the third writes gd and goes on. The quotient is toward
zero and the remainder has the sign of a; the one signed quotient that overflows gives 0x8000_0000 with V 1, its
remainder 0 with V 1, and div and rem clear V otherwise; divu and remu leave V, all four leave C. How an abandoned
division starts over is the model's reading (log entry 20). -/
def Obligations.Divisions : Prop :=
  ∀ (s : State) (t : Tid) (gd gs gt : Gpr), Runs s t 4 →
    let x := s.thr t
    let a := x.reg gs
    let b := x.reg gt
    b ≠ 0 →
    (State.divDone x < 2 → InBudget s t 12 →
      let step := fun (u : State) => OnlyThread s u t 12 { x with divAt := some (x.pc, State.divDone x + 1) }
      Gives (.div t gd gs gt) s step ∧ Gives (.divu t gd gs gt) s step ∧ Gives (.rem t gd gs gt) s step ∧
        Gives (.remu t gd gs gt) s step) ∧
    (2 ≤ State.divDone x → InBudget s t 10 →
      let y := { x with divAt := none }
      (∃ q r : Word,
        Gives (.div t gd gs gt) s (fun u => OnlyThread s u t 10 (y.wrote gd q
          ⟨q == 0, q.msb, x.fl.c, a == 0x80000000 && b == 0xFFFFFFFF⟩ 4)) ∧
        Gives (.rem t gd gs gt) s (fun u => OnlyThread s u t 10 (y.wrote gd r
          ⟨r == 0, r.msb, x.fl.c, a == 0x80000000 && b == 0xFFFFFFFF⟩ 4)) ∧
        (if a = 0x80000000 ∧ b = 0xFFFFFFFF then q = 0x80000000 ∧ r = 0
         else q.toInt = a.toInt.tdiv b.toInt ∧ r.toInt = a.toInt.tmod b.toInt)) ∧
      (∃ q r : Word,
        Gives (.divu t gd gs gt) s (fun u => OnlyThread s u t 10 (y.wrote gd q ⟨q == 0, q.msb, x.fl.c, x.fl.v⟩ 4)) ∧
        Gives (.remu t gd gs gt) s (fun u => OnlyThread s u t 10 (y.wrote gd r ⟨r == 0, r.msb, x.fl.c, x.fl.v⟩ 4)) ∧
        q.toNat = a.toNat / b.toNat ∧ r.toNat = a.toNat % b.toNat))

/-- A divisor of 0 raises DIVZERO for all four, and an encoding that decodes to nothing raises ILLEGAL: the issue
counts as one of one cycle, and the next state is that of the fault entry (`State.fault`), which FaultEntry describes.
What a faulting issue counts is the model's reading (log entry 15). -/
def Obligations.ZeroDivisorAndReservedEncodingFault : Prop :=
  (∀ (s : State) (t : Tid) (gd gs gt : Gpr), Runs s t 4 → InBudget s t 1 → (s.thr t).reg gt = 0 →
    FaultsWith (.div t gd gs gt) s t 0x06 0 ∧ FaultsWith (.divu t gd gs gt) s t 0x06 0 ∧
    FaultsWith (.rem t gd gs gt) s t 0x06 0 ∧ FaultsWith (.remu t gd gs gt) s t 0x06 0) ∧
  (∀ (s : State) (t : Tid) (h0 h1 : Half), decodeRamtan t h0 h1 = none → Runs s t (fetchLen h0) → InBudget s t 1 →
    FaultsWith (.reservedEncoding t h0 h1) s t 0x01 0)

/-- mov, movi, movhi, sext.b and sext.h write their register and no flag; nop writes nothing. -/
def Obligations.MovesAndNop : Prop :=
  ∀ (s : State) (t : Tid), InBudget s t 1 →
    let x := s.thr t
    (∀ gd gs : Gpr, Runs s t 2 →
      Gives (.mov t gd gs) s (fun u => OnlyThread s u t 1 (x.moved gd (x.reg gs) 2))) ∧
    (∀ gd gs : Gpr, Runs s t 4 →
      Gives (.sextB t gd gs) s (fun u => OnlyThread s u t 1 (x.moved gd (((x.reg gs).setWidth 8).signExtend 32) 4)) ∧
      Gives (.sextH t gd gs) s (fun u =>
        OnlyThread s u t 1 (x.moved gd (((x.reg gs).setWidth 16).signExtend 32) 4))) ∧
    (∀ (gd : Gpr) (i : BitVec 8), Runs s t 2 →
      Gives (.movi t (.short gd i)) s (fun u => OnlyThread s u t 1 (x.moved gd (i.signExtend 32) 2))) ∧
    (∀ (gd : Gpr) (i : BitVec 16), Runs s t 4 →
      Gives (.movi t (.long gd i)) s (fun u => OnlyThread s u t 1 (x.moved gd (i.signExtend 32) 4)) ∧
      Gives (.movhi t gd i) s (fun u => OnlyThread s u t 1 (x.moved gd (i ++ (0 : BitVec 16)) 4))) ∧
    (Runs s t 2 → Gives (.nop t) s (fun u => OnlyThread s u t 1 { x with pc := x.pc + 2 }))

/-! ## Loads, stores, branches -/

/-- The loads, in every operand form, of bytes in SRAM that no buffered store overlaps: the bytes at the form's address,
little-endian, with zero or sign extension; no byte of memory changes. A word load at the SRAM address of the word store
that entered the buffer last, of whatever thread, returns that store's data, whatever memory holds. -/
def Obligations.LoadsFromSram : Prop :=
  (∀ (s : State) (t : Tid) (f : MemForm), Runs s t f.len → InBudget s t 1 → f.reserved = false →
    let x := s.thr t
    let a := fun (size : Nat) => (f.addr x size).toNat
    let ready := fun (size : Nat) => s.dataFault x.ring (a size) size accR = none ∧ inSram (a size) = true ∧
      s.youngest (a size) size = none
    let h : BitVec 16 := s.byte (a 2 + 1) ++ s.byte (a 2)
    (ready 4 → Gives (.ldW t f) s (fun u => OnlyThread s u t 1 (x.moved f.r (s.word (a 4)) f.len))) ∧
    (ready 2 →
      Gives (.ldH t f) s (fun u => OnlyThread s u t 1 (x.moved f.r (h.setWidth 32) f.len)) ∧
      Gives (.ldHs t f) s (fun u => OnlyThread s u t 1 (x.moved f.r (h.signExtend 32) f.len))) ∧
    (ready 1 →
      Gives (.ldB t f) s (fun u => OnlyThread s u t 1 (x.moved f.r ((s.byte (a 1)).setWidth 32) f.len)) ∧
      Gives (.ldBs t f) s (fun u => OnlyThread s u t 1 (x.moved f.r ((s.byte (a 1)).signExtend 32) f.len)))) ∧
  (∀ (s : State) (t w : Tid) (ring : Ring) (f : MemForm) (v : Word), f.reserved = false →
    let a := (f.addr (s.thr t) 4).toNat
    let s' := s.sbPush (State.storeEntry w ring a 4 v)
    Runs s' t f.len → InBudget s' t 1 → s'.dataFault (s.thr t).ring a 4 accR = none → inSram a = true →
    Gives (.ldW t f) s' (fun u => OnlyThread s' u t 1 ((s.thr t).moved f.r v f.len)))

/-- The stores: one store-buffer entry with the aligned word address, the byte enables of the access and the data in
its lanes; no byte of memory changes until it retires. -/
def Obligations.StoresEnterTheBuffer : Prop :=
  ∀ (s : State) (t : Tid) (f : MemForm), Runs s t f.len → InBudget s t 1 → f.reserved = false →
    let x := s.thr t
    let stored := fun (i : Instr) (size : Nat) (be : BitVec 4) =>
      let a := (f.addr x size).toNat
      s.dataFault x.ring a size accW = none → s.storeBlocked a = false →
      Gives i s (fun u => ThreadBecomes s u t 1 { x with pc := x.pc + BitVec.ofNat 32 f.len } ∧ Counts s u t 1 ∧
        CoreSame s u ∧ u.regs = s.regs ∧ MemorySame s u ∧ BlocksSame s u ∧
        u.core.sb = s.core.sb ++
          [⟨t, Fin.ofNat 4 x.ring, a - a % 4, .store (be <<< (a % 4)) (x.reg f.r <<< (8 * (a % 4)))⟩])
    stored (.stW t f) 4 15 ∧ stored (.stH t f) 2 3 ∧ stored (.stB t f) 1 1

/-- The oldest buffered store retires into SRAM: its enabled bytes are written, every other byte of memory reads as
before, the buffer keeps the others in order, and no thread's registers, no register field and no block changes. -/
def Obligations.StoreRetiresIntoSram : Prop :=
  ∀ (s : State) (w : Tid) (ring : Ring) (a : Nat) (be : BitVec 4) (d : Word) (rest : List SbEntry),
    s.powered = true → s.core.sb = ⟨w, ring, a, .store be d⟩ :: rest → inSram a = true →
    Gives .storeRetire s (fun u => u.core.sb = rest ∧
      (∀ i, i < 4 → u.byte (a + i) = if be.getLsbD i then d.extractLsb' (8 * i) 8 else s.byte (a + i)) ∧
      (∀ b, b < a ∨ a + 4 ≤ b → u.byte b = s.byte b) ∧ ProgramsSame s u ∧ u.core.latch = s.core.latch ∧
      u.regs = s.regs ∧ BlocksSame s u)

/-- The branches: taken to the address of the instruction plus twice the signed offset; call and jalr leave the return
address in lk; a register target with bit 0 set raises ALIGN at the branching instruction. No branch writes a flag. -/
def Obligations.Branches : Prop :=
  ∀ (s : State) (t : Tid),
    let x := s.thr t
    let fl := x.fl
    let test := fun (c : Cond) => match c with
      | .al => true
      | .eq => fl.z
      | .ne => !fl.z
      | .ult => !fl.c
      | .uge => fl.c
      | .ugt => fl.c && !fl.z
      | .ule => !fl.c || fl.z
      | .slt => fl.n != fl.v
      | .sge => fl.n == fl.v
      | .sgt => !fl.z && fl.n == fl.v
      | .sle => fl.z || fl.n != fl.v
      | .neg => fl.n
      | .pos => !fl.n
      | .ovf => fl.v
      | .nov => !fl.v
    let dest := fun {n : Nat} (o : BitVec n) => x.pc + (o.signExtend 32 <<< 1)
    (∀ (c : Cond) (o : BitVec 8), Runs s t 2 → InBudget s t 2 →
      Gives (.bCond t c (.short o)) s (fun u => if test c then OnlyThread s u t 2 { x with pc := dest o }
        else OnlyThread s u t 1 { x with pc := x.pc + 2 })) ∧
    (∀ (c : Cond) (o : BitVec 20), Runs s t 4 → InBudget s t 2 →
      Gives (.bCond t c (.long o)) s (fun u => if test c then OnlyThread s u t 2 { x with pc := dest o }
        else OnlyThread s u t 1 { x with pc := x.pc + 4 })) ∧
    (∀ o : BitVec 12, Runs s t 2 → InBudget s t 2 →
      Gives (.br t (.short o)) s (fun u => OnlyThread s u t 2 { x with pc := dest o })) ∧
    (∀ o : BitVec 24, Runs s t 4 → InBudget s t 2 →
      Gives (.br t (.long o)) s (fun u => OnlyThread s u t 2 { x with pc := dest o }) ∧
      Gives (.call t o) s (fun u => OnlyThread s u t 2 { x.setReg 14 (x.pc + 4) with pc := dest o })) ∧
    (∀ gs : Gpr, Runs s t 2 → InBudget s t 2 → (x.reg gs).getLsbD 0 = false →
      Gives (.jr t gs) s (fun u => OnlyThread s u t 2 { x with pc := x.reg gs }) ∧
      Gives (.jalr t gs) s (fun u => OnlyThread s u t 2 { x.setReg 14 (x.pc + 2) with pc := x.reg gs })) ∧
    (∀ gs : Gpr, Runs s t 2 → InBudget s t 1 → (x.reg gs).getLsbD 0 = true →
      FaultsWith (.jr t gs) s t 0x03 (x.reg gs) ∧ FaultsWith (.jalr t gs) s t 0x03 (x.reg gs)) ∧
    (Runs s t 2 → InBudget s t 2 → (x.reg 14).getLsbD 0 = false →
      Gives (.ret t) s (fun u => OnlyThread s u t 2 { x with pc := x.reg 14 })) ∧
    (Runs s t 2 → InBudget s t 1 → (x.reg 14).getLsbD 0 = true → FaultsWith (.ret t) s t 0x03 (x.reg 14))

/-! ## Threads, events, gates and control registers -/

/-- yield leaves the thread out for its 8 cycles and YIELD_EXPIRE ends them; halt halts any thread but T0; signal
makes its software line pending in every thread and readies the threads that wait for it. None of the four changes
anything else but its thread's PC and ICNT. That YIELD's end is a command of its own is the model's choice (log entry
52). -/
def Obligations.YieldHaltSignal : Prop :=
  ∀ (s : State) (t : Tid),
    let x := s.thr t
    (Runs s t 2 → InBudget s t 1 →
      Gives (.yield t) s (fun u => OnlyThread s u t 1 { x with pc := x.pc + 2, yielding := true })) ∧
    Gives (.yieldExpire t) s (fun u => u.thr t = { x with yielding := false } ∧ (∀ v, v ≠ t → u.thr v = s.thr v) ∧
      CoreSame s u ∧ u.core.sb = s.core.sb ∧ u.regs = s.regs ∧ MemorySame s u ∧ BlocksSame s u) ∧
    (t ≠ 0 → Runs s t 2 → InBudget s t 1 →
      Gives (.halt t) s (fun u => OnlyThread s u t 1 { x with pc := x.pc + 2, st := .halted })) ∧
    (∀ k : Fin 32, Runs s t 2 → InBudget s t 1 →
      Gives (.signal t k) s (fun u =>
        let posted := fun (y : Thread) => { y with
          pend := y.pend ||| BitVec.twoPow 64 (32 + k.val)
          st := if y.waitMask.getLsbD (32 + k.val) then .ready else y.st }
        u.thr t = { posted x with pc := x.pc + 2, icnt := x.icnt + 1 } ∧ (∀ v, v ≠ t → u.thr v = posted (s.thr v)) ∧
          Counts s u t 1 ∧ CoreSame s u ∧ u.core.sb = s.core.sb ∧ u.regs = s.regs ∧ MemorySame s u ∧
          BlocksSame s u))

/-- WAIT on an even register pair: with a line of its mask pending it consumes the lowest, leaves its number in g0 and
goes on; with none it waits at this instruction. WMASK holds the mask. A mask of 0, and for T0 a mask without a hardware
line, raises WAITMASK; an odd register is a reserved encoding and raises ILLEGAL. -/
def Obligations.WaitConsumesTheLowestLine : Prop :=
  ∀ (s : State) (t : Tid) (gm : Gpr), Runs s t 2 → InBudget s t 1 →
    let x := s.thr t
    let m := x.reg (gm + 1) ++ x.reg gm
    let bad := m = 0 ∨ (t = 0 ∧ m.extractLsb' 0 32 = 0)
    (gm.val % 2 = 1 → FaultsWith (.wait t gm) s t 0x01 0) ∧
    (gm.val % 2 = 0 → bad → FaultsWith (.wait t gm) s t 0x07 0) ∧
    (gm.val % 2 = 0 → ¬bad → x.pend &&& m = 0 →
      Gives (.wait t gm) s (fun u => OnlyThread s u t 1 { x with wmask := m, st := .waiting (.event m) })) ∧
    (gm.val % 2 = 0 → ¬bad → ∀ k : Nat, x.pend.getLsbD k = true → m.getLsbD k = true →
      (∀ j, j < k → (x.pend.getLsbD j && m.getLsbD j) = false) →
      Gives (.wait t gm) s (fun u => OnlyThread s u t 1
        { x.setReg 0 (BitVec.ofNat 32 k) with
          wmask := m, pend := x.pend &&& ~~~(BitVec.twoPow 64 k), pc := x.pc + 2 }))

/-- R124: spawn starts a HALTED thread other than T0 at an even address, with its argument in g0, every other register
0, LVL 0, GM 0, flags 0, the ring and class asked for, nothing pending and its fault-stack pointers at their tops; it
takes 4 cycles and writes no flags. SPAWN comes first where the thread or the table forbids it, then ALIGN. -/
def Obligations.SpawnStartsAThread : Prop :=
  ∀ (s : State) (t tn : Tid) (gs ga : Gpr) (ring : Ring) (cls : Fin 4), Runs s t 4 → InBudget s t 4 →
    let x := s.thr t
    let allows := x.ring = 0 ∨ (x.ring = 3 ∧ ring.val = 3 ∧ cls.val ≤ 1) ∨
      (1 ≤ x.ring ∧ x.ring ≤ 2 ∧ x.ring ≤ ring.val ∧ 2 ≤ ring.val ∧ cls.val ≤ 2)
    let may := tn ≠ 0 ∧ (s.thr tn).st = .halted ∧ allows
    (may → (x.reg gs).getLsbD 0 = false → Gives (.spawn t tn gs ga ring cls) s (fun u =>
      let y := u.thr tn
      y.st = .ready ∧ y.pc = x.reg gs ∧ y.reg 0 = x.reg ga ∧ (∀ r, r ≠ 0 → y.reg r = 0) ∧
        y.psw = BitVec.ofNat 32 (ring.val * 16) ∧ y.pend = 0 ∧ y.icnt = 0 ∧ y.wmask = 0 ∧ u.cls tn = cls.val ∧
        (∀ h : Fin 3, u.fsp tn h = s.sliceTop tn h) ∧
        (u.thr t).pc = x.pc + 4 ∧ (u.thr t).g = x.g ∧ (u.thr t).psw = x.psw ∧ (u.thr t).icnt = x.icnt + 4 ∧
        (∀ v, v ≠ t → v ≠ tn → u.thr v = s.thr v) ∧ OnlyFields s u [F.EVT_TCFG_CLASS tn] ∧ MemorySame s u ∧
        BlocksSame s u)) ∧
    (¬may → FaultsWith (.spawn t tn gs ga ring cls) s t 0x08 0) ∧
    (may → (x.reg gs).getLsbD 0 = true → FaultsWith (.spawn t tn gs ga ring cls) s t 0x03 (x.reg gs))


/-- A gate whose table entry lies in SRAM: an entry that is misplaced, not valid, or does not allow the caller raises
GATE at the entry's address. An entry that allows it, the store buffer being empty: for rings 0 to 2 the frame of R148
goes onto the thread's slice of the target ring's fault stack, for ring 3 onto the caller's own stack at g15 − 32 in
SRAM; the thread continues at the entry's target in that ring with g15 at the frame, and every byte outside the frame
reads as before. The order in which the checks of an entry are made, and the drain before the frame, are the model's
readings (log entries 10 and 19). -/
def Obligations.GatePushesItsFrame : Prop :=
  ∀ (s : State) (t : Tid) (n : Fin 64), Runs s t 4 →
    let x := s.thr t
    let e := (s.gateAddr n).toNat
    let target := s.word e
    let w := s.word (e + 4)
    let reads := e % 8 = 0 ∧ inSram e = true ∧ s.protAllows 0 e accR = true ∧ s.domOff e = false
    let allows := bitOf w 31 = true ∧ bitsOf w 4 27 = 0 ∧ bitOf target 0 = false ∧ bitOf w x.ring = true ∧
      n.val / 16 ≤ x.ring
    let enters := fun (a : Word) (u : State) =>
      let y := u.thr t
      y.pc = target ∧ y.ring = n.val / 16 ∧ y.lvl = x.lvl ∧ y.gm = x.gm ∧ y.fl = x.fl ∧ y.reg 15 = a ∧
        (∀ q, q ≠ 15 → y.reg q = x.reg q) ∧
        [u.word a.toNat, u.word (a.toNat + 4), u.word (a.toNat + 12), u.word (a.toNat + 16), u.word (a.toNat + 20),
          u.word (a.toNat + 24), u.word (a.toNat + 28)] = [x.pc + 4, x.psw, 0, 0, 0, x.reg 14, x.reg 15] ∧
        (u.word (a.toNat + 8)).toNat = 0x80 + s.cls t % 4 * 2 ^ 8 + t.val * 2 ^ 10 + n.val * 2 ^ 16 ∧
        (∀ b, b < a.toNat ∨ a.toNat + 32 ≤ b → u.byte b = s.byte b) ∧ (∀ v, v ≠ t → u.thr v = s.thr v) ∧
        u.core.sb = [] ∧ u.regs = s.regs ∧ BlocksSame s u
    (InBudget s t 1 → e % 8 ≠ 0 ∨ (inSram e = false ∧ inFlash e = false) ∨ (s.core.sb = [] ∧ reads ∧ ¬allows) →
      FaultsWith (.gate t n) s t 0x09 (s.gateAddr n)) ∧
    (InBudget s t 48 → s.core.sb = [] → reads → allows →
      (∀ (r : Fin 3) (span : Nat), n.val / 16 = r.val → s.fstackSpan r = some span → x.fsUsed[r] + 32 ≤ span / 16 →
        let a := s.sliceTop t r - BitVec.ofNat 32 (x.fsUsed[r] + 32)
        a.toNat % 4 = 0 →
        Gives (.gate t n) s (fun u => enters a u ∧ (u.thr t).fsUsed[r] = x.fsUsed[r] + 32)) ∧
      (n.val / 16 = 3 →
        let a := x.reg 15 - 32
        inSram a.toNat = true → inSram (a.toNat + 31) = true →
        (∀ i, i < 8 → s.dataFault 3 (a.toNat + 4 * i) 4 accW = none) →
        Gives (.gate t n) s (fun u => enters a u ∧ (u.thr t).fsUsed = x.fsUsed)))

/-- retg and rete with the store buffer empty pop the 32-byte frame at the thread's pointer, at rings 0 to 2 on its
slice of the ring's fault stack, at ring 3 at g15 in SRAM: PC (even), the flags, RING at least the present one, LVL
and GM as R150 limits them, g14 and g15; a frame that is not a gate's restores g0, g1 and the class too. No byte of
memory changes. A return that pops the frame of the running GALE handler ends its span. With no frame on the slice the
return raises BUS. An empty fault stack and an odd PC in a frame are read as log entry 19 says. -/
def Obligations.ReturnsRestoreTheFrame : Prop :=
  ∀ (s : State) (t : Tid), Runs s t 2 → InBudget s t 10 → s.core.gmHold + 10 ≤ 48 → s.cls t ≤ 3 →
    let x := s.thr t
    let popped := fun (a : Nat) (u : State) =>
      let y := u.thr t
      let w := s.word (a + 4)
      let isGate := bitsOf (s.word (a + 8)) 0 8 = 0x80
      y.pc = s.word a &&& 0xFFFFFFFE ∧ y.fl = ⟨bitOf w 8, bitOf w 9, bitOf w 10, bitOf w 11⟩ ∧
        y.ring = max (bitsOf w 4 2) x.ring ∧ y.gm = (x.ring == 0 && bitOf w 3) ∧
        y.lvl = (if 2 ≤ x.ring then min (bitsOf w 0 3) x.lvl else bitsOf w 0 3) ∧
        y.reg 14 = s.word (a + 24) ∧ y.reg 15 = s.word (a + 28) ∧
        (isGate → y.reg 0 = x.reg 0 ∧ y.reg 1 = x.reg 1 ∧ u.cls t = s.cls t) ∧
        (¬isGate → y.reg 0 = s.word (a + 16) ∧ y.reg 1 = s.word (a + 20) ∧
          u.cls t = if 2 ≤ x.ring then min (bitsOf (s.word (a + 8)) 8 2) (s.cls t) else bitsOf (s.word (a + 8)) 8 2) ∧
        (∀ q, q ≠ 0 → q ≠ 1 → q ≠ 14 → q ≠ 15 → y.reg q = x.reg q) ∧
        (∀ v, v ≠ t → u.thr v = s.thr v) ∧ OnlyFields s u [F.EVT_TCFG_CLASS t] ∧ u.core.sb = [] ∧ MemorySame s u ∧
        BlocksSame s u ∧
        (∀ g, s.core.gale = some g → g.tid = t → x.ring = 0 → x.fsUsed[0] = g.frameUsed → u.core.gale = none)
    (∀ r : Fin 3, x.ring = r.val →
      let a := (s.fsp t r).toNat
      (x.fsUsed[r] = 0 → FaultsWith (.rete t) s t 0x04 (s.sliceTop t r) ∧
        FaultsWith (.retg t) s t 0x04 (s.sliceTop t r)) ∧
      (s.core.sb = [] → x.fsUsed[r] ≠ 0 → a % 4 = 0 → inSram a = true → inSram (a + 31) = true →
        Gives (.rete t) s (fun u => popped a u ∧ (u.thr t).fsUsed[r] = x.fsUsed[r] - 32) ∧
        Gives (.retg t) s (fun u => popped a u ∧ (u.thr t).fsUsed[r] = x.fsUsed[r] - 32))) ∧
    (x.ring = 3 → s.core.sb = [] →
      let a := (x.reg 15).toNat
      inSram a = true → inSram (a + 31) = true → (∀ i, i < 8 → s.dataFault 3 (a + 4 * i) 4 accR = none) →
      Gives (.rete t) s (fun u => popped a u ∧ (u.thr t).fsUsed = x.fsUsed) ∧
      Gives (.retg t) s (fun u => popped a u ∧ (u.thr t).fsUsed = x.fsUsed))

/-- The four fences complete when what they wait for has happened: the store buffer empty; for fence.a every landing
latch empty too; for fence.p also every frame over that ran at the latest PROT region write. Until then they stall,
and name what they wait for. They change nothing but their thread's PC and ICNT, and fault in no ring. -/
def Obligations.FencesComplete : Prop :=
  ∀ (s : State) (t : Tid), Runs s t 2 → InBudget s t 1 →
    let on := fun (u : State) => OnlyThread s u t 1 { s.thr t with pc := (s.thr t).pc + 2 }
    let waits := fun (i : Instr) (y : Until) => exec i s = .next (s.setThr t { s.thr t with stall := some (.retry y) })
    let applied := s.core.sb = [] ∧ s.core.latch = []
    let ended := s.core.sb = [] ∧ s.core.fenceP[0] = false ∧ s.core.fenceP[1] = false
    (s.core.sb = [] → Gives (.fenceS t) s on ∧ Gives (.fenceI t) s on) ∧
    (s.core.sb ≠ [] → waits (.fenceS t) .drained ∧ waits (.fenceI t) .drained) ∧
    (applied → Gives (.fenceA t) s on) ∧ (¬applied → waits (.fenceA t) .applied) ∧
    (ended → Gives (.fenceP t) s on) ∧ (¬ended → waits (.fenceP t) .frames)

/-- mfc of a register the ring may read puts its value into gd: thread registers 0 to 5, ring registers 32 to 44, and
0 for a reserved index; at rings above the Read column it raises PRIV. What a read of ICNT counts is the model's
reading (log entry 15). -/
def Obligations.ReadControlRegister : Prop :=
  ∀ (s : State) (t : Tid) (gd : Gpr) (cr : Fin 64), Runs s t 4 → InBudget s t 1 →
    let x := s.thr t
    let ok := fun (v : Word) => Gives (.mfc t gd cr) s (fun u => OnlyThread s u t 1 (x.moved gd v 4))
    (State.crReadable cr x.ring = false → FaultsWith (.mfc t gd cr) s t 0x02 0) ∧
    (cr = 0 → ok x.psw) ∧ (cr = 1 → ok (BitVec.ofNat 32 (t.val + s.cls t * 16))) ∧ (cr = 3 → ok x.icnt) ∧
    (x.ring = 0 → (cr = 2 → ok x.scr) ∧ (cr = 32 → ok s.core.fstop[0]) ∧ (cr = 33 → ok s.core.fslim[0]) ∧
      (cr = 39 → ok s.core.vbase)) ∧
    (x.ring ≤ 1 → (cr = 34 → ok s.core.fstop[1]) ∧ (cr = 35 → ok s.core.fslim[1])) ∧
    (x.ring ≤ 2 → (cr = 4 → ok (x.wmask.extractLsb' 0 32)) ∧ (cr = 5 → ok (x.wmask.extractLsb' 32 32)) ∧
      (cr = 36 → ok s.core.fstop[2]) ∧ (cr = 37 → ok s.core.fslim[2])) ∧
    (cr = 40 → ok s.core.gbase[0]) ∧ (cr = 41 → ok s.core.gbase[1]) ∧ (cr = 42 → ok s.core.gbase[2]) ∧
    (cr = 43 → ok s.core.gbase[3]) ∧ (cr = 44 → ok (BitVec.ofNat 32 s.core.flvl)) ∧
    (cr = 38 → (∀ r : Fin 3, x.ring = r.val → ok (s.fsp t r)) ∧ (x.ring = 3 → ok (x.reg 15))) ∧
    ((5 < cr.val ∧ cr.val < 32) ∨ 44 < cr.val → ok 0)

/-- mtc never faults: it goes on after two cycles, and each register takes the value where the ring may write it and
the value is one the register takes; memory, the other threads and the general registers stay. -/
def Obligations.WriteControlRegister : Prop :=
  ∀ (s : State) (t : Tid) (gs : Gpr) (cr : Fin 64), Runs s t 4 → InBudget s t 2 → s.core.gmHold + 2 ≤ 48 →
    let x := s.thr t
    let v := x.reg gs
    Gives (.mtc t cr gs) s (fun u =>
      let y := u.thr t
      y.pc = x.pc + 4 ∧ y.g = x.g ∧ (∀ w, w ≠ t → u.thr w = s.thr w) ∧ MemorySame s u ∧ BlocksSame s u ∧
        (if cr = 0 then
          y.lvl = (if x.ring ≤ 1 then bitsOf v 0 3 else x.lvl) ∧ y.gm = (if x.ring = 0 then bitOf v 3 else x.gm) ∧
            y.ring = x.ring ∧ y.fl = ⟨bitOf v 8, bitOf v 9, bitOf v 10, bitOf v 11⟩
         else y.psw = x.psw) ∧
        y.scr = (if cr = 2 ∧ x.ring = 0 then v else x.scr) ∧
        y.icnt = (if cr = 3 ∧ x.ring = 0 then v else x.icnt + 2) ∧
        u.core.vbase = (if cr = 39 ∧ x.ring = 0 ∧ v.toNat % 256 = 0 ∧ 0x200B8000 ≤ v.toNat ∧
          v.toNat + 0x300 ≤ 0x200C0000 then v else s.core.vbase) ∧
        (∀ k : Fin 4, u.core.gbase[k] =
          if cr.val = 40 + k.val ∧ (x.ring = 0 ∨ x.ring = k.val) then v else s.core.gbase[k]) ∧
        u.core.flvl = (if cr = 44 ∧ x.ring = 0 ∧ 1 ≤ v.toNat % 8 ∧ v.toNat % 8 ≤ 6 then v.toNat % 8 else s.core.flvl) ∧
        (∀ h : Fin 3, u.core.fstop[h] =
          if cr.val = 32 + 2 * h.val ∧ (x.ring = 0 ∨ x.ring = h.val) ∧ s.fsBusy h = false then v
          else s.core.fstop[h]) ∧
        (∀ h : Fin 3, u.core.fslim[h] =
          if cr.val = 33 + 2 * h.val ∧ (x.ring = 0 ∨ x.ring = h.val) ∧ s.fsBusy h = false then v
          else s.core.fslim[h]))

/-- The atomics with the buffer empty: the old word goes to gd and the new one to memory in one step; cas reports
success in Z. Every byte outside the word reads as before. An address that is not word-aligned raises ALIGN, one outside
SRAM raises BUS, with that FADDR. -/
def Obligations.Atomics : Prop :=
  ∀ (s : State) (t : Tid) (gd gs gt : Gpr), Runs s t 4 → InBudget s t 4 →
    let x := s.thr t
    let a := (x.reg gs).toNat
    (∀ cause, (a % 4 ≠ 0 ∧ cause = 0x03) ∨ (a % 4 = 0 ∧ inSram a = false ∧ cause = 0x04) →
      FaultsWith (.swap t gd gs gt) s t cause (x.reg gs) ∧ FaultsWith (.xadd t gd gs gt) s t cause (x.reg gs) ∧
      FaultsWith (.cas t gd gs gt) s t cause (x.reg gs)) ∧
    (s.core.sb = [] → a % 4 = 0 → inSram a = true → s.protAllows x.ring a accRW = true →
    let old := s.word a
    let leaves := fun (new : Word) (y : Thread) (u : State) =>
      u.word a = new ∧ (∀ b, b < a ∨ a + 4 ≤ b → u.byte b = s.byte b) ∧ ThreadBecomes s u t 4 y ∧ Counts s u t 4 ∧
        CoreSame s u ∧ u.core.sb = [] ∧ u.regs = s.regs ∧ BlocksSame s u
    Gives (.swap t gd gs gt) s (leaves (x.reg gt) (x.moved gd old 4)) ∧
    Gives (.xadd t gd gs gt) s (leaves (old + x.reg gt) (x.moved gd old 4)) ∧
    Gives (.cas t gd gs gt) s (leaves (if old = x.reg gd then x.reg gt else old)
      (x.wrote gd old { x.fl with z := old == x.reg gd } 4)))

/-- A step of bset or bmov with the buffer empty, whichever registers it names: word by word it buffers a store, moves
gd, and for bmov gs, on by 4 and counts gt down, up to four words, or three, or until gt is 0; the instruction is over
when gt is 0 and is issued again otherwise. The words may be accessed, those of bmov come from SRAM, and none of them
lies where the step has stored. With gt 0 neither does anything; a misaligned gd, or gs of bmov, raises ALIGN. The
words of a step are the model's reading (log entry 20). -/
def Obligations.BlockMovesAdvance : Prop :=
  ∀ (s : State) (t : Tid) (gd gs gt : Gpr), Runs s t 4 → InBudget s t 12 →
    let x := s.thr t
    let past := fun (move : Bool) (y : Thread) =>
      let y1 := y.setReg gd (y.reg gd + 4)
      let y2 := if move then y1.setReg gs (y1.reg gs + 4) else y1
      y2.setReg gt (y2.reg gt - 1)
    let done := fun (move : Bool) (n : Nat) => Nat.repeat (past move) n x
    let dst := fun (move : Bool) (i : Nat) => ((done move i).reg gd).toNat
    let src := fun (i : Nat) => ((done true i).reg gs).toNat
    let is := fun (move : Bool) (top m : Nat) => 0 < m ∧ m ≤ top ∧ (∀ i, i < m → (done move i).reg gt ≠ 0) ∧
      (m = top ∨ (done move m).reg gt = 0) ∧
      ∀ i, i < m → s.blockFault x.ring (dst move i) true = none
    let goesOn := fun (move : Bool) (m : Nat) (v : Nat → Word) (u : State) =>
      { u.thr t with icnt := x.icnt } =
          { done move m with pc := if (done move m).reg gt = 0 then x.pc + 4 else x.pc } ∧
        u.core.sb = (List.range m).map (fun i => ⟨t, Fin.ofNat 4 x.ring, dst move i, .store 15 (v i)⟩) ∧
        (∀ w, w ≠ t → u.thr w = s.thr w) ∧ CoreSame s u ∧ u.regs = s.regs ∧ MemorySame s u ∧ BlocksSame s u
    (∀ m, s.core.sb = [] → is false 4 m →
      Gives (.bset t gd gs gt) s (goesOn false m (fun i => (done false i).reg gs))) ∧
    (∀ m, s.core.sb = [] → is true 3 m →
      (∀ i, i < m → s.blockFault x.ring (src i) false = none ∧ inSram (src i) = true ∧
        ∀ j, j < i → dst true j ≠ src i) →
      Gives (.bmov t gd gs gt) s (goesOn true m (fun i => s.word (src i)))) ∧
    (x.reg gt = 0 → Gives (.bset t gd gs gt) s (fun u => OnlyThread s u t 1 { x with pc := x.pc + 4 }) ∧
      Gives (.bmov t gd gs gt) s (fun u => OnlyThread s u t 1 { x with pc := x.pc + 4 })) ∧
    (x.reg gt ≠ 0 → (x.reg gd).toNat % 4 ≠ 0 → FaultsWith (.bset t gd gs gt) s t 0x03 (x.reg gd) ∧
      FaultsWith (.bmov t gd gs gt) s t 0x03 (x.reg gd)) ∧
    (x.reg gt ≠ 0 → (x.reg gd).toNat % 4 = 0 → (x.reg gs).toNat % 4 ≠ 0 →
      FaultsWith (.bmov t gd gs gt) s t 0x03 (x.reg gs))

/-- R133: setv, ramp and rail: at ring 0 without a permission check, at rings 1 to 3 with the permission of the issuing
thread, they put one entry for the owning island into the store buffer and change nothing else; without it they raise
RAILPERM; a rail or an operand out of range raises RAIL before the permission is judged. pgwait needs no permission: at
power-good it goes on, with a timeout of 0 it branches at once, and otherwise it waits, until PGWAIT_TIMEOUT readies the
thread at its label; rail codes 0 and 21 to 31 raise RAIL. -/
def Obligations.RailInstructionsCheckTheirPermission : Prop :=
  ∀ (s : State) (t : Tid) (c : Fin 32), Runs s t 4 →
    let x := s.thr t
    let base := if 1 ≤ c.val ∧ c.val ≤ 6 then 0x40007000 + 0x1000 * c.val else if c.val = 17 then 0x40014000
      else if c.val = 18 then 0x40015000 else 0x40010000
    let allowed := x.ring = 0 ∨ s.bit (F.EVT_RPERM_RAILS t) (c.val - 1) = true
    let room := InBudget s t 1 ∧ s.storeBlocked base = false
    let enters := fun (op : SbOp) (u : State) =>
      u.core.sb = s.core.sb ++ [⟨t, Fin.ofNat 4 x.ring, base, op⟩] ∧
        ThreadBecomes s u t 1 { x with pc := x.pc + 4 } ∧ Counts s u t 1 ∧ CoreSame s u ∧ u.regs = s.regs ∧
        MemorySame s u ∧ BlocksSame s u
    let faults := fun (i : Instr) (cause : Nat) => InBudget s t 1 → FaultsWith i s t cause 0
    let top := if c.val ≤ 6 then 1250 else if c.val ≤ 10 then 50 else 180
    let valued := (1 ≤ c.val ∧ c.val ≤ 10) ∨ c.val = 17 ∨ c.val = 18
    let ramped := valued ∧ ¬(7 ≤ c.val ∧ c.val ≤ 10)
    let railed := 1 ≤ c.val ∧ c.val ≤ 18
    (∀ gs : Gpr,
      let good := valued ∧ (x.reg gs).toNat ≤ top
      (good → allowed → room → Gives (.setv t c gs) s (enters (.setv c (x.reg gs).toNat))) ∧
      (good → ¬allowed → faults (.setv t c gs) 0x0B) ∧ (¬good → faults (.setv t c gs) 0x0A)) ∧
    (∀ gs gt : Gpr,
      let good := ramped ∧ (x.reg gs).toNat ≤ top ∧ (x.reg gt).toNat ≤ 4095
      (good → allowed → room → Gives (.ramp t c gs gt) s (enters (.ramp c (x.reg gs).toNat (x.reg gt).toNat))) ∧
      (good → ¬allowed → faults (.ramp t c gs gt) 0x0B) ∧ (¬good → faults (.ramp t c gs gt) 0x0A)) ∧
    (∀ op : Fin 3,
      (railed → allowed → room → Gives (.rail t c op) s (enters (.rail c op))) ∧
      (railed → ¬allowed → faults (.rail t c op) 0x0B) ∧ (¬railed → faults (.rail t c op) 0x0A)) ∧
    (∀ (tmo : BitVec 8) (o : BitVec 11), 1 ≤ c.val → c.val ≤ 20 → InBudget s t 2 →
      let label := x.pc + (o.signExtend 32 <<< 1)
      Gives (.pgwait t c tmo o) s (fun u => OnlyThread s u t 2
        (if s.pg c then { x with pc := x.pc + 4 }
         else if tmo = 0 then { x with pc := label }
         else { x with st := .waiting (.pg c (x.pc + 4) label) }) ∧
        (s.pg c = false → tmo ≠ 0 → Gives (.pgwaitTimeout t) u (fun v =>
          v.thr t = { u.thr t with st := .ready, pc := label } ∧ (∀ w, w ≠ t → v.thr w = u.thr w) ∧
          CoreSame u v ∧ v.core.sb = u.core.sb ∧ v.regs = u.regs ∧ MemorySame u v ∧ BlocksSame u v)))) ∧
    (∀ (tmo : BitVec 8) (o : BitVec 11), c.val = 0 ∨ 20 < c.val → faults (.pgwait t c tmo o) 0x0A)

/-! ## Entries and the limits of CORE -/

/-- A fault of thread `t`, the store buffer being empty (R147 to R149, R152): with a usable vector, GM 0, LVL below
FLVL and a handler ring no lower in privilege it is entered there at the thread's own LVL; with LVL at FLVL or above,
but below 7, it is entered as DOUBLE through vector 64 at ring 0 and LVL 7. Either way the class becomes at least
GUST. FADDR and the saved level are as in log entry 16. -/
def Obligations.FaultEntry : Prop :=
  ∀ (s : State) (t : Tid) (cause : Nat) (faddr : Word) (hd : Word), cause < 64 →
    let x := s.thr t
    let c := max (s.cls t) 2
    x.st ≠ .halted → x.gm = false →
    (∀ r : Fin 3, s.vecUsable (64 + cause) = some (hd, r.val) → x.lvl < s.core.flvl → r.val ≤ x.ring → CanPush s t r →
      Entered s (s.fault t cause faddr) t r hd cause 0 faddr x.lvl c) ∧
    (∀ r : Fin 3, s.vecUsable 64 = some (hd, r.val) → s.core.flvl ≤ x.lvl → x.lvl < 7 → CanPush s t 0 →
      Entered s (s.fault t cause faddr) t 0 hd 0x00 cause faddr 7 c)

/-- A hardware line that an island has raised becomes pending in every thread, and threads that WAIT for it become
READY (R91 to R93); a core in DOZE then runs again when a thread is ready or the line is a GALE line (R53). That an
unawaited ordinary line leaves DOZE alone is R53's words, as log entry 29 reads them. -/
def Obligations.RaisedLineBecomesPending : Prop :=
  ∀ (s : State) (k : Fin 32), s.coreLive = true → s.core.raised.getLsbD k = true →
    Gives (.hwEventPending k) s (fun u =>
      let posted := fun (y : Thread) => { y with
        pend := y.pend ||| BitVec.twoPow 64 k.val
        st := if y.waitMask.getLsbD k then .ready else y.st }
      let runs := (∃ v, (u.thr v).st = .ready) ∨ (1 ≤ k.val ∧ k.val ≤ 6)
      u.core.raised.getLsbD k = false ∧
        (∀ j, j ≠ k.val → u.core.raised.getLsbD j = s.core.raised.getLsbD j) ∧ (∀ v, u.thr v = posted (s.thr v)) ∧
        (s.pwr.state = .doze → runs → u.pwr.state = .run) ∧ (s.pwr.state = .doze → ¬runs → u.pwr.state = .doze) ∧
        (s.pwr.state ≠ .doze → u.pwr = s.pwr) ∧ u.core.sb = s.core.sb ∧ u.core.latch = s.core.latch ∧
        u.regs = s.regs ∧ MemorySame s u ∧ BlocksBut [.pwr] s u)

/-- An event line that is entered next (R143): its pending bit is consumed in its target thread, which enters its
vector's handler at the line's level and class. A GALE line (R144): the same at ring 0, LVL 7 and class GALE, on T0
when its target is HALTED, and the handler's span begins (R155). A line that asks for entry without a usable vector
sets FSTAT.NOVEC alone. That the event's own command sets NOVEC is the model's reading (log entry 18). -/
def Obligations.EventAndGaleEntries : Prop :=
  ∀ (s : State) (k : Fin 64) (hd : Word) (r : Fin 3), s.canEnter = true →
    let unpend := fun (x : State) (t : Tid) =>
      x.setThr t { x.thr t with pend := (x.thr t).pend &&& ~~~(BitVec.twoPow 64 k.val) }
    let v := s.target k
    (s.vecUsable k = some (hd, r.val) → s.lineCan k = true → s.lineFirst k = true → CanPush s v r →
      Gives (.eventEntry k) s (fun u =>
        Entered (unpend s v) u v r hd (0x40 + k.val) 0 0 (s.level k % 8) (s.get (F.EVT_ROUTE_CLASS k) % 4))) ∧
    (let t : Tid := if (s.thr v).st = .halted then 0 else v
     s.vecUsable k = some (hd, r.val) → s.galeNext = some k.val → CanPush s t 0 → (s.thr t).st ≠ .halted →
      Gives (.galeEntry k) s (fun u =>
        Entered (unpend (unpend s v) t) u t 0 hd (0x40 + k.val) 0 0 7 3 ∧
          u.core.gale = some ⟨t, k, (s.thr t).fsUsed[0] + 32, 0⟩)) ∧
    (s.vecUsable k = none →
      (s.lineAsks k = true → Gives (.eventEntry k) s (fun u => u.on F.PROT_FSTAT_NOVEC = true ∧
        Frame [F.PROT_FSTAT_NOVEC] [] [] s u)) ∧
      (s.galeAsks k = true → Gives (.galeEntry k) s (fun u => u.on F.PROT_FSTAT_NOVEC = true ∧
        Frame [F.PROT_FSTAT_NOVEC] [] [] s u)))

/-- EDDY (R156): its condition, unreported so far, sets FSTAT.EDDY, records the waiting threads with their masks and
holds the cause, and nothing else; when it is entered next, T0 enters its vector's handler at ring 0 at its own LVL.
EDDYTHR and the repeated detection are as in log entry 18. -/
def Obligations.EddyDetectedAndEntered : Prop :=
  ∀ (s : State),
    (s.coreLive = true → s.on F.PROT_ECFG_EDDYEN = true → s.core.eddySeen = false → s.eddyCond = true →
      Gives .eddyDetect s (fun u => u.on F.PROT_FSTAT_EDDY = true ∧ u.core.eddyHeld = true ∧ u.core.eddySeen = true ∧
        u.get F.PROT_EDDYTHR_THR =
          (List.finRange 16).foldl (fun n (t : Tid) => if (s.thr t).isWaiting then n + 2 ^ t.val else n) 0 ∧
        (∀ t : Tid, (s.thr t).isWaiting = true →
          u.get (F.PROT_EDDYML_M t) = ((s.thr t).waitMask.extractLsb' 0 32).toNat ∧
          u.get (F.PROT_EDDYMH_M t) = ((s.thr t).waitMask.extractLsb' 32 32).toNat) ∧
        OnlyDevice s u ([F.PROT_FSTAT_EDDY, F.PROT_EDDYTHR_THR] ++
          (List.finRange 16).map (fun (t : Tid) => F.PROT_EDDYML_M t) ++
          (List.finRange 16).map (fun (t : Tid) => F.PROT_EDDYMH_M t)) ∧
        u.core.raised = s.core.raised ∧ BlocksBut [.pwr] s u)) ∧
    (∀ hd : Word, s.canEnter = true → s.eddyFirst = true → s.vecUsable 0x50 = some (hd, 0) → CanPush s 0 0 →
      (s.thr 0).st ≠ .halted → s.cls 0 ≤ 3 →
      Gives .eddyEntry s (fun u => u.core.eddyHeld = false ∧
        Entered s u 0 0 hd 0x10 0 0 (s.thr 0).lvl (max (s.cls 0) 2)))

/-- Holding GM for more than 48 core cycles causes a SQUALL: the command for the 49th cycle stops the core with cause
GM_HOLD and starts LULL toward a SYSTEM reset, and so does an instruction of the holding thread whose cycles pass 48;
the 257th cycle of a GALE handler does the same with cause GALE_BUDGET. Counted are issued cycles, and the limit's
command may come at any time (log entry 17). -/
def Obligations.LongHoldsCauseASquall : Prop :=
  let stops := fun (s u : State) (cause : Nat) => u.core.squall = true ∧ u.on F.SYS_RSTCAUSE_SQUALL = true ∧
    u.inLull = true ∧ u.pwr.endSys = true ∧ (u.word 0x40024100).toNat % 256 = cause ∧
    bitOf (u.word 0x40024100) 31 = true ∧ (∀ t v, exec (.nop t) u = .next v → v = u) ∧ u.pending = s.pending
  ∀ (s : State) (t : Tid), s.coreLive = true → s.core.sb = [] → s.pwr.stop = .none →
    ((s.thr t).gm = true → Gives .gmHoldLimit s (fun u => stops s u 0x20)) ∧
    ((s.thr t).gm = true → Runs s t 2 → s.core.gale = none → 48 ≤ s.core.gmHold →
      Gives (.nop t) s (fun u => stops s u 0x20)) ∧
    (∀ g, s.core.gale = some g → Gives .galeBudgetExceeded s (fun u => stops s u 0x21))

/-- T0 runs at ring 0 from COLD, SYSTEM and CORE reset, cannot be halted, ignores a HALTREQ, and faults on HALT; a
HALTREQ of any other thread halts it with its registers and its pending word kept, and at rings above 0 does nothing.
HALTREQ of a stalled thread is as in log entry 21. -/
def Obligations.T0RunsAtRingZeroAndCannotBeHalted : Prop :=
  ∀ (s : State),
    let t0 := fun (u : State) => (u.thr 0).st = .ready ∧ (u.thr 0).ring = 0 ∧ u.pwr.coreHeld = true ∧
      (∀ t, t ≠ 0 → (u.thr t).st = .halted) ∧ u.core.sb = []
    (s.powered = false → Gives (.coldReset .vin) s t0) ∧
    (s.powered = false → s.scMode = 3 → Gives (.coldReset .vstor) s t0) ∧
    (s.powered = true → s.pwr.sysDue = true → Gives .systemReset s t0) ∧
    (s.coreResetDue = true → Gives .coreReset s t0) ∧
    (∀ ring, exec (.haltreq ring 0) s = .next s) ∧ (∀ ring t, ring ≠ 0 → exec (.haltreq ring t) s = .next s) ∧
    (Runs s 0 2 → InBudget s 0 1 → FaultsWith (.halt 0) s 0 0x02 0) ∧
    (∀ t : Tid, t ≠ 0 → s.powered = true →
      Gives (.haltreq 0 t) s (fun u => (u.thr t).st = .halted ∧ (u.thr t).g = (s.thr t).g ∧
        (u.thr t).psw = (s.thr t).psw ∧ (u.thr t).pc = (s.thr t).pc ∧ (u.thr t).pend = (s.thr t).pend ∧
        u.core.sb = s.core.sb ∧ (∀ v, v ≠ t → u.thr v = s.thr v) ∧ u.regs = s.regs ∧ MemorySame s u ∧ BlocksSame s u))

/-- A store that takes effect in a register whose write has no action of its own changes each of its fields by the
field's kind, Ring column, LOCK bit and encodings, and no other field; a W1C bit that hardware sets in that cycle
stays 1: R7 to R12 and R14. That the bits set in the cycle of the store are an operand is the model's choice (log
entry 69). -/
def Obligations.RegisterWriteRules : Prop :=
  ∀ (s : State) (a : Word) (ring : Ring) (v : Word) (e : Sense) (f : Field), s.canTake a.toNat = true →
    (∀ x r w d, State.writeWord x a.toNat r w d = x.plainWrite a.toNat r w) → f ∈ fieldsAt a.toNat →
    Gives (.registerWrite a ring v e) s (fun u =>
      let old := s.get ⟨a.toNat, f.lo, f.width⟩
      let part := v.toNat / 2 ^ f.lo % 2 ^ f.width
      let new := u.get ⟨a.toNat, f.lo, f.width⟩
      (f.ring < ring.val → new = old % 2 ^ f.width) ∧
        (ring.val ≤ f.ring →
          (f.kind = .rw → new = if f.legal.ok part then part else old % 2 ^ f.width) ∧
          (f.kind = .lk → new = if s.locked a.toNat f = false ∧ f.legal.ok part then part else old % 2 ^ f.width) ∧
          (f.kind = .w1c → ∀ i, new.testBit i = (decide (i < f.width) && old.testBit i &&
            (!part.testBit i || e.setNow.getLsbD (f.lo + i)))) ∧
          (f.kind = .w1cAll → ∀ i, new.testBit i = (decide (i < f.width) && old.testBit i &&
            (decide (part = 0) || e.setNow.getLsbD (f.lo + i)))) ∧
          (f.kind = .stk → ∀ i, new.testBit i = (decide (i < f.width) && (old.testBit i || part.testBit i)))) ∧
        (f.kind = .ro ∨ f.kind = .wo ∨ f.kind = .view → new = old % 2 ^ f.width) ∧
        (∀ g : Fld, (∀ h ∈ fieldsAt a.toNat, g.key ≠ a.toNat * 32 + h.lo) → u.get g = s.get g) ∧
        CoreBut [] s u ∧ MemorySame s u ∧ BlocksSame s u)

/-- Stores to EVT and PROT at ring 0: SWSIG makes E32 to E63 pending in every thread and readies the threads that wait for
one; a region register takes its fields, and FENCE.P then also waits for the frames that run; GALEEN once 1 stays 1,
EDDYEN takes its value. At rings above 0 each changes nothing. -/
def Obligations.EvtAndProtStores : Prop :=
  ∀ (s : State) (v : Word), s.powered = true →
    (Gives (.evtSwsigWrite 0 v) s (fun u => (∀ t, u.thr t = { s.thr t with
        pend := (s.thr t).pend ||| (v ++ (0 : BitVec 32))
        st := if (s.thr t).waitMask &&& (v ++ (0 : BitVec 32)) = 0 then (s.thr t).st else .ready }) ∧
      u.core.sb = s.core.sb ∧ u.core.raised = s.core.raised ∧ u.regs = s.regs ∧ MemorySame s u ∧
      BlocksBut [.pwr] s u)) ∧
    (∀ off : BitVec 12, protRegion off.toNat = true → off.toNat % 4 = 0 →
      Gives (.protRegionWrite 0 off v) s (fun u =>
        u.regs = (s.plainWrite (0x40003000 + off.toNat) 0 v).regs ∧
        (∀ p : Fin 2, u.core.fenceP[p] = (s.core.fenceP[p] || s.frameRuns p)) ∧
        (∀ t, u.thr t = s.thr t) ∧ u.core.sb = s.core.sb ∧ u.core.raised = s.core.raised ∧ MemorySame s u ∧
        BlocksSame s u)) ∧
    (Gives (.protEcfgWrite 0 v) s (fun u => u.on F.PROT_ECFG_EDDYEN = v.getLsbD 0 ∧
      u.on F.PROT_ECFG_GALEEN = (s.on F.PROT_ECFG_GALEEN || v.getLsbD 1) ∧
      Frame [F.PROT_ECFG_EDDYEN, F.PROT_ECFG_GALEEN] [] [] s u)) ∧
    (∀ ring : Ring, ring ≠ 0 → Gives (.evtSwsigWrite ring v) s (fun u => u = s) ∧
      Gives (.protEcfgWrite ring v) s (fun u => Frame [] [] [] s u) ∧
      ∀ off : BitVec 12, Gives (.protRegionWrite ring off v) s (fun u => Frame [] [] [] s u))

/-- Loads from register windows: a load whose request has left CORE returns, when the writes ahead of it have been
applied, the value of its register's read with that read's effect, and until then nothing happens; a domain that has
been switched off meanwhile gives DOMOFF. The reads that act: TICKL latches TICKH for the thread, EVF0, the ADC FIFO,
UART DATA and the completion queue give up their oldest entry, a result register clears NEW, PAY steps on. tick sends
its request and returns both words of TICK; an odd register is reserved, and without permission it raises PROT. A
flash miss fills its line buffer once the array can be read. What the reads of an empty FIFO give beside VALID, and
FADDR of a late fault, are the model's readings (log entries 8, 16, 33, 34 and 43). -/
def Obligations.WindowReadsReturn : Prop :=
  ∀ (s : State) (t : Tid) (gd : Gpr) (len : Nat), s.coreLive = true →
    let x := s.thr t
    let waits := fun (a : Nat) => x.stall = some (.window ⟨a, gd, len, 0⟩) ∧ s.domOff a = false
    let goes := fun (v : Word) (fs : List Fld) (bs : List Block) (u : State) =>
      u.thr t = { x.setReg gd v with pc := x.pc + BitVec.ofNat 32 len, stall := none } ∧
        (∀ w, w ≠ t → u.thr w = s.thr w) ∧ u.core.sb = s.core.sb ∧ OnlyFields s u fs ∧ BlocksBut bs s u ∧
        MemorySame s u
    (∀ a, waits a →
      let r := s.regRead t a
      Gives (.windowLoadReturn t) s (fun u =>
        u.thr t = { (r.2.thr t).setReg gd r.1 with pc := (r.2.thr t).pc + BitVec.ofNat 32 len, stall := none } ∧
          (∀ w, w ≠ t → u.thr w = r.2.thr w) ∧ u.core.sb = r.2.core.sb ∧ u.regs = r.2.regs ∧ BlocksSame r.2 u ∧
          MemorySame r.2 u)) ∧
    (∀ a k, x.stall = some (.window ⟨a, gd, len, k⟩) →
      (k ≠ 0 → Gives (.windowLoadReturn t) s (fun u => u = s)) ∧
      (k = 0 → s.domOff a = true → s.faultWaits t = false →
        Gives (.windowLoadReturn t) s (fun u => u = s.fault t 0x0C (BitVec.ofNat 32 a)))) ∧
    (waits 0x40024000 → Gives (.ticklRead t gd) s (fun u => goes (s.bak.tick.setWidth 32) [] [.bak] u ∧
      u.bak = { s.bak with tickhLatch := s.bak.tickhLatch.set t (s.bak.tick.extractLsb' 32 16) })) ∧
    (∀ e q, waits 0x40024040 → s.bak.fifo = e :: q → Gives (.evf0Read t gd) s (fun u =>
      goes (e.stamp.setWidth 32) [] [.bak] u ∧ u.bak.fifo = q ∧ u.bak.tick = s.bak.tick)) ∧
    (∀ e q, waits 0x40012010 → s.adc.fifo = e :: q → Gives (.adcFifoRead t gd) s (fun u =>
      goes (State.adcEntryWord e) [] [.adc] u ∧ u.adc.fifo = q ∧ u.adc.cfg = s.adc.cfg)) ∧
    (∀ k : Fin 32, waits (0x40012108 + 16 * k.val) → Gives (.adcResRead k t gd) s (fun u =>
      goes (s.storedWord (0x40012108 + 16 * k.val)) [F.ADC_RES_NEW k] [] u ∧ u.on (F.ADC_RES_NEW k) = false)) ∧
    (∀ (n : Fin 5) e q, waits (0x4001C008 + 0x1000 * n.val) → s.fwOwns n = true → s.uart[n].rx = e :: q →
      Gives (.uartDataRead n t gd) s (fun u => goes (BitVec.ofNat 32 (e.data.toNat + (if e.pe then 2 ^ 9 else 0) +
        (if e.fe then 2 ^ 10 else 0) + (if e.brk then 2 ^ 11 else 0) + (if e.nz then 2 ^ 12 else 0) +
        (if e.ovw then 2 ^ 13 else 0) + 2 ^ 31)) [] [.uart] u ∧ u.uart[n].rx = q ∧
        ∀ m : Fin 5, m ≠ n → u.uart[m] = s.uart[m])) ∧
    (∀ (p : Fin 2) e q, waits (0x40014110 + 0x1000 * p.val) → s.port[p].cq = e :: q →
      Gives (.engCqRead p t gd) s (fun u => goes (State.cqWord e) [] [.port] u ∧ u.port[p].cq = q ∧
        ∀ r : Fin 2, r ≠ p → u.port[r] = s.port[r])) ∧
    (∀ p : ExecPort, waits (match p with | .kernel => 0x40018204 | .service w => 0x40018404 + 0x100 * w.val) →
      ∀ c, s.presented p = some c → Gives (.portPayRead p t gd) s (fun u =>
        goes (State.payWord c.cmd.payload c.payIdx) [] [.host] u ∧
          u.presented p = some { c with payIdx := c.payIdx + 1 })) ∧
    (gd.val % 2 = 0 → x.stall = some (.tick gd 0) →
      Gives (.windowLoadReturn t) s (fun u =>
        u.thr t = { (x.setReg gd (s.bak.tick.setWidth 32)).setReg (gd + 1)
            ((s.bak.tick.extractLsb' 32 16).setWidth 32) with pc := x.pc + 2, stall := none } ∧
          (∀ w, w ≠ t → u.thr w = s.thr w) ∧ u.core.sb = s.core.sb ∧ u.regs = s.regs ∧ MemorySame s u ∧
          BlocksSame s u)) ∧
    (Runs s t 2 → InBudget s t 1 →
      (gd.val % 2 = 1 → FaultsWith (.tick t gd) s t 0x01 0) ∧
      (gd.val % 2 = 0 → s.protAllows x.ring 0x40024000 accR = false →
        FaultsWith (.tick t gd) s t 0x05 0x40024000) ∧
      (gd.val % 2 = 0 → s.protAllows x.ring 0x40024000 accR = true → s.windowBusy 0x40024000 = false →
        Gives (.tick t gd) s (fun u => OnlyThread s u t 1 { x with stall := some (.tick gd (s.latchCount .bak)) }))) ∧
    (∀ g, s.domPg 2 = true → s.flashReadable = true →
      let filled := fun (u : State) => u.thr t = { x with stall := none } ∧ (∀ w, w ≠ t → u.thr w = s.thr w) ∧
        OnlyFields s u [F.NVC_ECCSTAT_CORRCNT, F.NVC_ECCSTAT_UNCORR, F.NVC_ECCADDR_ADDR] ∧ u.core.sb = s.core.sb ∧
        MemorySame s u ∧ BlocksSame s u
      (x.stall = some (.fetchMiss g) → Gives (.flashMissFill t) s (fun u => filled u ∧
        u.core.ibuf = some ⟨g, s.bytes g 16, s.granStatus g⟩ ∧ u.core.dbuf = s.core.dbuf)) ∧
      (x.stall = some (.dataMiss g) → Gives (.flashMissFill t) s (fun u => filled u ∧
        u.core.dbuf = some ⟨g, s.bytes g 16, s.granStatus g⟩ ∧ u.core.ibuf = s.core.ibuf)))

/-! ## Resets, clocks, power states -/

/-- COLD from VIN and SYSTEM reset return CORE, every island's state and every register but BAK's, and the few the
rules name, to Cold, and restart the cold-start timeline. The OTP vote delivers the majority of each wired bit and the
map of disagreements; the main oscillator becomes stable; the requests of SYS.RST act at ring 0 with their key alone,
an ISLAND request on a reset island that is powered and not busy; a CORE reset returns CORE, PROT and EVT to Cold; D0
powers up at Cold; without an early channel the early rail starts nothing. Each changes nothing else. The model's
readings are in log entries 39, 50, 54 and 55, its choice about CALM in log entry 61. -/
def Obligations.ResetsAndTheWiredVote : Prop :=
  ∀ (s : State),
    let islandsCold := fun (u : State) => u.nvc = Nvc.cold ∧ u.sw = Vector.replicate 6 SwSt.cold ∧
      u.port = Vector.replicate 2 PortSt.cold ∧ u.host = HostSt.cold ∧ u.uart = Vector.replicate 5 UartSt.cold ∧
      u.adc = AdcSt.cold ∧ u.therm = ThermSt.cold ∧ u.pwm = Vector.replicate 6 PwmSt.cold ∧ u.core = Core.cold ∧
      u.pwr.state = .run ∧ u.pwr.coreHeld = true ∧ u.pwr.otpOk = false ∧ u.pwr.stop = .none ∧ u.pwr.sysDue = false ∧
      u.bak.tick = s.bak.tick ∧ u.bak.fifo = s.bak.fifo ∧ u.bak.wdRun = false ∧ u.pending = s.pending
    let ofBak := fun (f : Fld) => f.key / 32 / 0x1000 = 0x40024
    (s.powered = false → Gives (.coldReset .vin) s (fun u => islandsCold u ∧ u.mem = s.mem ∧
      u.on F.SYS_RSTCAUSE_COLD_VIN = true ∧ u.on F.SYS_RSTCAUSE_BAKLOST = s.bak.fresh ∧ u.bak.fresh = false ∧
      u.get F.SYS_DOMSTAT_PG = 1 ∧ (∀ f : Fld, ofBak f → u.get f = s.get f) ∧
      (∀ f : Fld, ¬ofBak f → f.key ∉ [F.SYS_RSTCAUSE_COLD_VIN.key, F.SYS_RSTCAUSE_BAKLOST.key, F.SYS_DOMSTAT_PG.key] →
        u.get f = coldOf f.key))) ∧
    (s.powered = true → s.pwr.sysDue = true → s.scMode < 2 → Gives .systemReset s (fun u => islandsCold u ∧
      u.get F.SYS_DOMSTAT_PG = 1 ∧ u.bak.fresh = s.bak.fresh ∧
      (s.nvc.cmd = none → s.nvc.er = none → s.nvc.held = none → u.mem = s.mem) ∧
      (∀ f : Fld, ofBak f ∨ f.key / 32 = 0x40000004 ∨ f.key / 32 / 0x1000 = 0x40001 → u.get f = s.get f) ∧
      (∀ f : Fld, ¬(ofBak f ∨ f.key / 32 = 0x40000004 ∨ f.key / 32 / 0x1000 = 0x40001) →
        f.key ≠ F.SYS_DOMSTAT_PG.key → u.get f = coldOf f.key))) ∧
    (s.powered = true → s.pwr.otpOk = false → s.pwr.rstLow = false → s.pwr.otpBusy = none →
      Gives .otpVote s (fun u => u.pwr = { s.pwr with otpOk := true } ∧ (∀ k, k < 4 → ∀ i, i < 32 →
        let a := (s.otpRow k).getLsbD i
        let b := (s.otpRow (4 + k)).getLsbD i
        let c := (s.otpRow (8 + k)).getLsbD i
        (u.get (F.OTP_WIRED_W k)).testBit i = (a && b || a && c || b && c) ∧
          (u.get (F.OTP_VOTEMAP_V k)).testBit i = !(a == b && b == c)) ∧
        u.on F.OTP_ALARM_ALARM = (List.range 4).any (fun k =>
          s.otpRow k != s.otpRow (4 + k) || s.otpRow k != s.otpRow (8 + k)) ∧
        FrameIn [(0x40001000, 0x40002000)] [] [.pwr] [] s u)) ∧
    (s.powered = true → Gives .moscOk s (fun u => u.on F.SYS_OSCSTAT_MOSC_OK = true ∧
      Frame [F.SYS_OSCSTAT_MOSC_OK] [] [] s u)) ∧
    (∀ (ring : Ring) (v : Word), s.powered = true →
      let keyed := ring = 0 ∧ bitsOf v 24 8 = 0xA5
      (keyed → bitsOf v 0 2 = 1 → Gives (.coreResetRequest ring v) s (fun u =>
        u.on F.SYS_RSTSTAT_CORE_PEND = true ∧ Frame [F.SYS_RSTSTAT_CORE_PEND] [] [] s u)) ∧
      (¬keyed → Gives (.coreResetRequest ring v) s (fun u => u = s) ∧ Gives (.islandReset ring v) s (fun u => u = s)) ∧
      (keyed → bitsOf v 0 2 = 2 →
        let w := bitsOf v 8 8
        let window := 0x40000000 + 0x1000 * w
        let takes := State.islandResets w = true ∧ s.islandBusy w = false
        (¬takes → Gives (.islandReset ring v) s (fun u => u.on F.SYS_RSTSTAT_ISL_REFUSED = true ∧
          Frame [F.SYS_RSTSTAT_ISL_REFUSED] [] [] s u)) ∧
        (takes → w ≠ 0x02 → (∀ d, windowDomain w = some d → s.domPg d = true) → Gives (.islandReset ring v) s (fun u =>
          (∀ f : Fld, f.key / 32 / 0x1000 = 0x40000 + w → State.keepLocks f.key = false → u.get f = coldOf f.key) ∧
          (∀ f : Fld, f.key / 32 / 0x1000 = 0x40000 + w → State.keepLocks f.key = true → u.get f = s.get f) ∧
          FrameIn [(window, window + 0x1000)] [] [.pwr, .sw, .store, .therm, .adc, .port, .pwm] [] s u)) ∧
        (takes → (∃ d, windowDomain w = some d ∧ s.domPg d = false) →
          Gives (.islandReset ring v) s (fun u => u = s)))) ∧
    (s.coreResetDue = true → s.core.sb = [] → Gives .coreReset s (fun u =>
      u.core = { Core.cold with latch := s.core.latch, raised := s.core.raised } ∧ u.on F.SYS_RSTCAUSE_CORE = true ∧
      u.on F.SYS_RSTSTAT_CORE_PEND = false ∧ u.on F.HOST_CTL_DISPEN = false ∧ u.pwr.coreHeld = true ∧ u.mem = s.mem ∧
      (∀ f : Fld, f.key / 32 / 0x1000 = 0x40003 ∨ f.key / 32 / 0x1000 = 0x40004 → u.get f = coldOf f.key) ∧
      (∀ p : Fin 2, if s.frameRuns p then u.port[p].haltAfter = true else u.on (F.P_ENG_CTL_RUN p) = false) ∧
      OnlyRanges s u [(0x40003000, 0x40005000)] [F.SYS_RSTCAUSE_CORE, F.SYS_RSTSTAT_CORE_PEND, F.HOST_CTL_DISPEN,
        F.P_ENG_CTL_RUN 0, F.P_ENG_CTL_RUN 1, F.NVC_STAT_ESUSP] ∧ BlocksBut [.pwr, .port, .nvc] s u ∧
      u.pending = s.pending)) ∧
    (s.pwr.state = .off → Gives .bakPowerUp s (fun u => u.bak = { BakSt.cold with fresh := true } ∧
      (∀ f : Fld, ofBak f → u.get f = coldOf f.key) ∧ (∀ f : Fld, ¬ofBak f → u.get f = s.get f) ∧
      (∀ a, 0x40024100 ≤ a → a < 0x40025000 → u.byte a = 0) ∧
      (∀ a, a < 0x40024100 ∨ 0x40025000 ≤ a → u.byte a = s.byte a) ∧ u.core = s.core ∧ BlocksBut [.bak] s u)) ∧
    (∀ n, s.powered = true → s.pwr.otpOk = true → s.on F.SYS_OSCSTAT_MOSC_OK = true → s.pwr.rstLow = false →
      s.pwr.earlyDone = false → s.stopping = false → s.earlyChannel = none →
      Gives (.earlyRailStart n) s (fun u => u.pwr = { s.pwr with earlyDone := true } ∧ Frame [] [.pwr] [] s u))

/-- RST_N low records its cause, stops the watchdog and starts the fast stop, which takes over a LULL: both line
stages open, the first rail goes off, and the stop ends in a SYSTEM reset. The spacing of the fast stop switches the
next rail off, alone; with the last one off the stop ends in a SYSTEM reset, or else in BACKUP with VBAK of at least
1.8 V or OFF. RST_N high releases the hold. The loss of VSYS leads to BACKUP with VBAK of at least 1.7 V, else to OFF,
and that of VBAK in BACKUP to OFF: SRAM and every register outside D0 are lost, in OFF D0 too; flash, OTP and the
external flash stay. What becomes of a LULL that the fast stop takes over is the model's reading (log entry 28). -/
def Obligations.PinResetAndLossOfSupply : Prop :=
  ∀ (s : State),
    let down := fun (bak : Bool) (u : State) =>
      u.pwr.state = (if bak then .backup else .off) ∧ u.core = Core.cold ∧ u.pending = s.pending ∧
        (∀ a, inSram a = true → u.byte a = unlistedByte a) ∧
        (∀ f : Fld, f.key / 32 / 0x1000 ≠ 0x40024 → u.get f = coldOf f.key) ∧
        (∀ f : Fld, f.key / 32 / 0x1000 = 0x40024 → u.get f = if bak then s.get f else coldOf f.key) ∧
        (bak = true → u.bak = { s.bak with wdRun := false, wdCount := 0 }) ∧
        (bak = false → u.bak = { BakSt.cold with fresh := true }) ∧
        (∀ a, 0x40024100 ≤ a → a < 0x40025000 → u.byte a = if bak then s.byte a else 0) ∧ u.mem.ext = s.mem.ext ∧
        (s.nvc.cmd = none → s.nvc.er = none → s.nvc.held = none → s.pwr.otpBusy = none →
          u.mem.gran = s.mem.gran ∧ u.mem.otp = s.mem.otp ∧ u.mem.otpEcc = s.mem.otpEcc ∧
          ∀ a, a < 0x20000000 → u.byte a = s.byte a)
    let railsOnly := fun (u : State) =>
      FrameOff [(0x40008000, 0x4000E000), (0x40010000, 0x40011000), (0x40014000, 0x40016000)] [F.SYS_RSTCAUSE_PIN]
          [.pwr, .sw, .seq, .port, .bak] [8, 9, 12, 13, 14, 15] s u ∧ u.bak.tick = s.bak.tick
    (s.powered = true → s.on F.SYS_OSCSTAT_MOSC_OK = true →
      s.pwr.stop = .none ∨ (∃ n c l, s.pwr.stop = .lull n c l ∧ n ≠ 6) →
      Gives .rstNAssert s (fun u => u.pwr.rstLow = true ∧ u.on F.SYS_RSTCAUSE_PIN = true ∧ u.pwr.stop = .fast ∧
        u.pwr.endSys = true ∧ u.bak.wdRun = false ∧ (∀ p : Fin 2, u.on (F.P_CTL_EN p) = false) ∧
        (∀ c, s.stopLines.stopNext = some c → u.railEn c = false) ∧ railsOnly u)) ∧
    (Gives .rstNRelease s (fun u => u.pwr = { s.pwr with rstLow := false } ∧ Frame [] [.pwr] [] s u)) ∧
    (∀ v, s.pwr.stop = .fast → s.pwr.sysDue = false →
      (∀ c, s.stopNext = some c → s.pwr.endSys = true → Gives (.fastStopRailOff v) s (fun u => u.railEn c = false ∧
        (∀ d, 1 ≤ d → d ≤ 18 → d ≠ c → s.follower (d - 1) = false → u.railEn d = s.railEn d) ∧ u.pwr.stop = .fast ∧
        (u.stopNext = none → u.pwr.sysDue = true) ∧ (u.stopNext ≠ none → u.pwr.sysDue = false) ∧ railsOnly u)) ∧
      (s.stopNext = none → s.pwr.endSys = true →
        Gives (.fastStopRailOff v) s (fun u => u.pwr = { s.pwr with sysDue := true } ∧ Frame [] [.pwr] [] s u)) ∧
      (s.stopNext = none → s.pwr.endSys = false →
        Gives (.fastStopRailOff v) s (fun u => down (decide (1800 ≤ v)) u))) ∧
    (∀ v, s.powered = true → Gives (.vsysBackupFall v) s (fun u => down (decide (1700 ≤ v)) u)) ∧
    (s.pwr.state = .backup → Gives .vbakLoss s (fun u => down false u))

/-- BOOT of a device that holds CORE, with no image to load (BOOTSRC 1), the table at the start of flash: CORE is
released and T0 is READY at ring 0, GM 0, in the ROM kernel, whether the table is valid or the boot ends in the
service-only state. The boot as two steps and the service-only binding are the model's readings (log entries 47 to
49). -/
def Obligations.BootWithoutImage : Prop :=
  ∀ (s : State) (vio : Bool), s.bootReady = true → s.bootSrc = 1 →
    Gives (.boot vio) s (fun u => u.pwr.coreHeld = false ∧ u.pwr.inEntry = false ∧ (u.thr 0).st = .ready ∧ (u.thr 0).ring = 0 ∧ (u.thr 0).gm = false ∧
      u.pending = s.pending)

/-- The clock commands, each with all that it changes: the lock of the core PLL, the windows of the FLL, the loss and
return of the crystal, SYNC_IN valid and lost, the end of the 48 MHz after a wake, and a store to CLKCFG, which at
ring 0 and unlocked takes its fields, refuses the PLL as source without its lock and the PLL's switch-off while it is
the source, and otherwise does nothing. A window that counts the nominal makes no step (log entry 38), and XTALOK is
as in log entry 36: the model's readings. -/
def Obligations.ClockCommands : Prop :=
  ∀ (s : State),
    ((s.pwr.state = .run ∨ s.pwr.state = .doze) → s.on F.SYS_CLKCFG_PLLEN = true →
      Gives .pllLock s (fun u => u.on F.SYS_OSCSTAT_PLL_LOCK = true ∧ u.pwr = { s.pwr with wake48 := false } ∧
        Frame [F.SYS_OSCSTAT_PLL_LOCK] [.pwr] [] s u)) ∧
    (∀ n, s.powered = true → s.on F.SYS_OSCSTAT_MOSC_OK = true → s.pwr.fllFrozen = false →
      Gives (.fllWindow n) s (fun u =>
        u.pwr.fllTrim = s.pwr.fllTrim + (if n < 46875 then 1 else if 46875 < n then -1 else 0) ∧
        (46852 ≤ n ∧ n ≤ 46898 → u.pwr.fllGood = min 4 (s.pwr.fllGood + 1) ∧
          (3 ≤ s.pwr.fllGood → u.on F.SYS_OSCSTAT_FLL_LOCK = true)) ∧
        (n < 46852 ∨ 46898 < n → u.pwr.fllGood = 0) ∧
        (n < 46852 ∨ 46898 < n ∨ s.pwr.fllGood < 3 → u.regs = s.regs) ∧
        Frame [F.SYS_OSCSTAT_FLL_LOCK] [.pwr] [] s u)) ∧
    (s.powered = true → s.on F.SYS_OSCSTAT_MOSC_OK = true → s.pwr.fllFrozen = false →
      Gives .xtalFail s (fun u => u.on F.SYS_OSCSTAT_FLL_LOCK = false ∧ u.on F.SYS_OSCSTAT_XTAL_FAIL = true ∧
        u.core.raised.getLsbD 25 = true ∧ u.pwr = { s.pwr with fllFrozen := true, fllGood := 0 } ∧
        Frame [F.SYS_OSCSTAT_FLL_LOCK, F.SYS_OSCSTAT_XTAL_FAIL] [.pwr] [25] s u)) ∧
    (s.powered = true → s.pwr.fllFrozen = true →
      Gives .fllResume s (fun u => u.pwr = { s.pwr with fllFrozen := false, fllGood := 0 } ∧
        u.on F.BAK_STAT_XTALOK = true ∧ Frame [F.BAK_STAT_XTALOK] [.pwr] [] s u)) ∧
    (s.powered = true → Gives .syncInValid s (fun u => u.on F.SYS_SYNC_SIVALID = true ∧
      Frame [F.SYS_SYNC_SIVALID] [] [] s u)) ∧
    (s.powered = true → s.on F.SYS_SYNC_SIVALID = true →
      Gives .syncLost s (fun u => u.on F.SYS_SYNC_SIVALID = false ∧ u.on F.SYS_SYNC_SILOST = true ∧
        u.core.raised.getLsbD 25 = true ∧ Frame [F.SYS_SYNC_SIVALID, F.SYS_SYNC_SILOST] [] [25] s u)) ∧
    (Gives .calmClockRestore s (fun u => u.pwr = { s.pwr with wake48 := false } ∧ Frame [] [.pwr] [] s u)) ∧
    (∀ (ring : Ring) (v : Word), s.powered = true →
      let takes := ring = 0 ∧ s.on F.SYS_LOCK_LOCK = false
      let csrc := s.on F.SYS_CLKCFG_CSRC
      let badSrc := v.getLsbD 0 = true ∧ csrc = false ∧ s.on F.SYS_OSCSTAT_PLL_LOCK = false
      let badPll := csrc = true ∧ v.getLsbD 0 = true ∧ v.getLsbD 1 = false ∧ s.on F.SYS_CLKCFG_PLLEN = true
      (¬takes → Gives (.clkcfgWrite ring v) s (fun u => u = s)) ∧
      (takes → Gives (.clkcfgWrite ring v) s (fun u =>
        (badSrc → u.on F.SYS_CLKCFG_CSRC = false) ∧ (¬badSrc → u.on F.SYS_CLKCFG_CSRC = v.getLsbD 0) ∧
        (badPll → u.on F.SYS_CLKCFG_PLLEN = true) ∧ (¬badPll → u.on F.SYS_CLKCFG_PLLEN = v.getLsbD 1) ∧
        u.get F.SYS_CLKCFG_CDIV =
          (if 2 ≤ bitsOf v 2 6 ∧ bitsOf v 2 6 ≤ 32 then bitsOf v 2 6 else s.get F.SYS_CLKCFG_CDIV % 64) ∧
        (badSrc ∨ badPll → u.on F.SYS_OSCSTAT_CLKERR = true ∧ u.core.raised.getLsbD 25 = true) ∧
        (¬badSrc → ¬badPll → u.get F.SYS_OSCSTAT_CLKERR = s.get F.SYS_OSCSTAT_CLKERR ∧ u.core.raised = s.core.raised) ∧
        u.on F.SYS_OSCSTAT_PLL_LOCK = (s.on F.SYS_OSCSTAT_PLL_LOCK && u.on F.SYS_CLKCFG_PLLEN) ∧
        Frame [F.SYS_CLKCFG_CSRC, F.SYS_CLKCFG_PLLEN, F.SYS_CLKCFG_CDIV, F.SYS_OSCSTAT_PLL_LOCK,
          F.SYS_OSCSTAT_CLKERR] [] [25] s u)))

/-- Domains and power states, each with its frame: a domain switched on reaches power-good, in CALM from D3 on; a
store to DOMCTL at ring 0 that switches one domain on sets its bit, one that switches an enabled channel's domain off
is refused with DOMERR, one that switches PWM's off loses its registers, one that changes nothing does nothing, and
rings above 0 change nothing. DOZE needs every thread waiting or halted, no GM, no EDDY pending and the buffer empty.
CALM needs R54's conditions; threads and retained banks are kept, D1 and D2 go off. A wake source of R55 ends CALM at
48 MHz with D1, and D2 where DOMCTL has it on, at power-good. The kernel tick raises E0. The model's readings are in
log entries 29 and 62. -/
def Obligations.DomainsAndPowerStates : Prop :=
  ∀ (s : State),
    (∀ d : Fin 16, s.powered = true → (s.pwr.state = .calm → 3 ≤ d.val) → s.domOn d = true → s.domPg d = false →
      1 ≤ d.val → Gives (.domainPowerGood d) s (fun u => u.domPg d = true ∧
        (∀ e, e ≠ d.val → u.domPg e = s.domPg e) ∧
        FrameIn [(0x40002000, 0x40003000), (0x4000E000, 0x40010000), (0x40014000, 0x40016000),
          (0x4001F000, 0x40021000)] [F.SYS_DOMSTAT_PG] [.nvc, .adc, .store] [] s u)) ∧
    (∀ v : Word, s.powered = true →
      (∀ ring : Ring, ring ≠ 0 → Gives (.domctlWrite ring v) s (fun u => u = s)) ∧
      ((∀ d, 2 ≤ d → d < 16 → bitOf v d = s.domOn d) → Gives (.domctlWrite 0 v) s (fun u => u = s)) ∧
      (∀ d : Fin 16, 4 ≤ d.val → bitOf v d = true → s.domOn d = false → s.domOn 3 = true → bitOf v 3 = true →
        (∀ k, 2 ≤ k → k < 16 → k ≠ d.val → bitOf v k = s.domOn k) →
        Gives (.domctlWrite 0 v) s (fun u => u.domOn d = true ∧ (∀ k, k ≠ d.val → u.domOn k = s.domOn k) ∧
          Frame [F.SYS_DOMCTL_DSW] [] [] s u)) ∧
      (∀ d : Fin 16, 7 ≤ d.val → d.val ≤ 12 → s.domOn 3 = true → bitOf v d = false →
        s.on (F.SW_CTL_EN (d.val - 7)) = true → s.domOn d = true →
        (∀ k, 2 ≤ k → k < 16 → k ≠ d.val → bitOf v k = s.domOn k) →
        Gives (.domctlWrite 0 v) s (fun u => u.on F.SYS_DOMSTAT_DOMERR = true ∧ u.domOn d = true ∧
          Frame [F.SYS_DOMSTAT_DOMERR] [] [] s u)) ∧
      (bitOf v 14 = false → s.domOn 14 = true → s.core.latch = [] →
        (∀ k, 2 ≤ k → k < 16 → k ≠ 14 → bitOf v k = s.domOn k) →
        Gives (.domctlWrite 0 v) s (fun u => u.domOn 14 = false ∧ u.domPg 14 = false ∧
          (∀ k, k ≠ 14 → u.domOn k = s.domOn k ∧ u.domPg k = s.domPg k) ∧
          (∀ f : Fld, f.key / 32 / 0x1000 = 0x40022 → u.get f = coldOf f.key) ∧
          u.pwm = Vector.replicate 6 PwmSt.cold ∧ ProgramsSame s u ∧
          OnlyRanges s u [(0x40022000, 0x40023000)] [F.SYS_DOMCTL_DSW, F.SYS_DOMSTAT_PG] ∧ BlocksBut [.pwm] s u))) ∧
    (s.pwr.state = .run → s.coreLive = true → (∀ t, (s.thr t).st ≠ .ready ∧ (s.thr t).gm = false) →
      s.core.eddyHeld = false → s.core.sb = [] →
      Gives .dozeEntry s (fun u => u.pwr = { s.pwr with state := .doze } ∧ Frame [] [.pwr] [] s u)) ∧
    (s.coreLive = true → s.stopping = false → s.on F.SYS_PWRCTL_CALM = true →
      (∀ t, (s.thr t).st ≠ .ready ∧ (s.thr t).gm = false) → s.core.eddyHeld = false → s.core.sb = [] →
      s.nvc.cmd = none → s.nvc.er = none → s.nvc.held = none → s.pwr.qspi = none → s.host.kernel = none →
      (∀ w : Fin 4, s.host.svc[w] = none) → (∀ p : Fin 2, s.port[p].exch = none ∧ s.port[p].answer = none) →
      Gives .calmEntry s (fun u => u.pwr.state = .calm ∧ u.on F.SYS_OSCSTAT_PLL_LOCK = false ∧
      u.domPg 1 = false ∧ u.domPg 2 = false ∧ (∀ k, 3 ≤ k → u.domPg k = s.domPg k) ∧ ProgramsSame s u ∧
      (∀ t, (u.thr t).st = (s.thr t).st) ∧
      (∀ a b, b < 10 → 0x20000000 + 0x10000 * b ≤ a → a < 0x20000000 + 0x10000 * (b + 1) →
        u.byte a = if s.bit F.SYS_SRET_BANKSW b then s.byte a else unlistedByte a) ∧
      (∀ a, a < 0x20000000 ∨ 0x200A0000 ≤ a → u.byte a = s.byte a) ∧
      OnlyRanges s u [(0x40002000, 0x40003000), (0x40026000, 0x40027000)] [F.SYS_OSCSTAT_PLL_LOCK, F.SYS_DOMSTAT_PG] ∧
      BlocksBut [.pwr, .nvc] s u)) ∧
    (∀ src, s.pwr.state = .calm → s.wakes src = true →
      Gives (.calmWake src) s (fun u => u.pwr = { s.pwr with state := .run, wake48 := true } ∧
        u.on F.SYS_PWRCTL_CALM = false ∧ u.get F.SYS_PWRCTL_WAKESRC = State.wakeCode src ∧ u.domPg 1 = true ∧
        u.domPg 2 = (s.domPg 2 || s.domOn 2) ∧ (∀ t, u.thr t = s.thr t) ∧ u.mem = s.mem ∧
        OnlyRanges s u [(0x40002000, 0x40003000)] [F.SYS_PWRCTL_CALM, F.SYS_PWRCTL_WAKESRC, F.SYS_DOMSTAT_PG] ∧
        BlocksBut [.pwr, .nvc] s u)) ∧
    ((s.pwr.state = .run ∨ s.pwr.state = .doze) → s.pwr.coreHeld = false →
      Gives .kernelTick s (fun u => u.core.raised.getLsbD 0 = true ∧ Frame [] [] [0] s u))

/-! ## OTP, QSPI, NVC -/

/-- OTP commands: at ring 0 READ, PROGRAM of a blank row from 12 on and WPROG of a wired word start, and are refused
with E27 when one runs; PROGRAM and WPROG also when locked, below 8.5 V, without the key or of another row. The end of
a READ gives the row; a good PROGRAM leaves the row, a good WPROG its three copies, with the data; a failed one sets
PERR, and no bit returns to 0. Rings above 0 change nothing. What a failed programming leaves is free (log entry 32).
-/
def Obligations.OtpCommands : Prop :=
  ∀ (s : State), s.powered = true →
    let row := s.get F.OTP_ROWADDR_ROW
    let starts := fun (op : Nat) (u : State) => u.on F.OTP_STAT_BUSY = true ∧
      u.pwr = { s.pwr with otpBusy := some (op, row, BitVec.ofNat 32 (s.get F.OTP_PROGDATA_DATA)) } ∧
      Frame [F.OTP_STAT_BUSY] [.pwr] [] s u
    let refused := fun (u : State) => u.on F.OTP_STAT_REFUSED = true ∧ u.core.raised.getLsbD 27 = true ∧
      Frame [F.OTP_STAT_REFUSED] [] [27] s u
    let ends := fun (u : State) => u.pwr = { s.pwr with otpBusy := none } ∧ u.on F.OTP_STAT_BUSY = false ∧
      u.core.raised.getLsbD 27 = true ∧ OnlyFields s u [F.OTP_STAT_BUSY, F.OTP_STAT_PERR, F.OTP_ROWDATA_DATA,
        F.OTP_ROWSTAT_ECC, F.OTP_ROWSTAT_BLANK] ∧ BlocksBut [.pwr] s u ∧ CoreBut [27] s u ∧
      u.mem = { s.mem with otp := u.mem.otp, otpEcc := u.mem.otpEcc }
    (∀ (key : Byte) (v : Nat),
      let bad := s.pwr.otpBusy.isSome = true ∨ s.on F.OTP_LOCK_PLOCK = true ∨ v < 8500 ∨ key ≠ 0x5A
      let blank := s.otpRow row = 0 ∧ s.otpStatus row = 0
      (s.pwr.otpBusy = none → Gives (.otpRead 0) s (starts 1)) ∧
      (s.pwr.otpBusy.isSome = true → Gives (.otpRead 0) s refused) ∧
      (¬bad → 12 ≤ row → blank → Gives (.otpProgram 0 key v) s (starts 2)) ∧
      (¬bad → row ≤ 3 → Gives (.otpWprog 0 key v) s (starts 3)) ∧
      (bad ∨ row < 12 ∨ ¬blank → Gives (.otpProgram 0 key v) s refused) ∧
      (bad ∨ 3 < row → Gives (.otpWprog 0 key v) s refused) ∧
      (∀ ring : Ring, ring ≠ 0 → Gives (.otpRead ring) s (fun u => u = s) ∧
        Gives (.otpProgram ring key v) s (fun u => u = s) ∧ Gives (.otpWprog ring key v) s (fun u => u = s))) ∧
    (∀ op r d, s.pwr.otpBusy = some (op, r, d) →
      (op = 1 → ∀ b, Gives (.otpOpDone b) s (fun u => ends u ∧ u.get F.OTP_ROWDATA_DATA = (s.otpRow r).toNat ∧
        u.mem = s.mem)) ∧
      (op = 2 → Gives (.otpOpDone true) s (fun u => ends u ∧ u.otpRow r = d ∧
        (∀ q, q ≠ r → u.otpRow q = s.otpRow q))) ∧
      (op = 3 → r < 4 → Gives (.otpOpDone true) s (fun u => ends u ∧
        (∀ k, k = r ∨ k = 4 + r ∨ k = 8 + r → u.otpRow k = s.otpRow k ||| d) ∧
        (∀ q, q ≠ r → q ≠ 4 + r → q ≠ 8 + r → u.otpRow q = s.otpRow q))) ∧
      ((op = 2 ∨ op = 3) → Gives (.otpOpDone false) s (fun u => ends u ∧ u.on F.OTP_STAT_PERR = true ∧
        (∀ q, u.otpRow q &&& s.otpRow q = s.otpRow q) ∧
        (∀ q, q ≠ r → (op = 3 → q ≠ 4 + r ∧ q ≠ 8 + r) → u.otpRow q = s.otpRow q))))

/-- A QSPI copy that ring 0 starts with a count of 1 to 4096 and a destination in SRAM below the GALE bank runs and,
at its end, has written exactly its bytes there, with E17: those of the flash where CFG fits the command, 0xFF without
VIO. Another count or destination sets DSTERR and starts nothing; while a copy runs a store to CTL does nothing. What
the flash returns is free where the command's clocks do not fit, and a GO while a copy runs is the model's reading
(log entry 32); VIO is what the pins present (log entry 70). -/
def Obligations.QspiCopies : Prop :=
  ∀ (s : State), s.qspiLive = true →
    (∀ v : Word, v.getLsbD 31 = true →
      let n := bitsOf v 0 13
      let dst := s.get F.QSPI_DST_DST
      let fits := 1 ≤ n ∧ n ≤ 4096 ∧ 0x20000000 ≤ dst ∧ dst + n ≤ 0x200B8000
      (s.pwr.qspi = none → fits → Gives (.qspiCopy 0 v) s (fun u => u.on F.QSPI_STAT_BUSY = true ∧
        u.pwr = { s.pwr with qspi := some (s.get F.QSPI_ADDR_ADDR, dst, n) } ∧
        Frame [F.QSPI_STAT_BUSY, F.QSPI_CTL_CNT] [.pwr] [] s u)) ∧
      (s.pwr.qspi = none → ¬fits → Gives (.qspiCopy 0 v) s (fun u => u.on F.QSPI_STAT_DSTERR = true ∧
        Frame [F.QSPI_STAT_DSTERR, F.QSPI_CTL_CNT] [] [] s u)) ∧
      (s.pwr.qspi.isSome = true → ∀ ring, Gives (.qspiCopy ring v) s (fun u => u = s))) ∧
    (∀ src dst n, s.pwr.qspi = some (src, dst, n) → s.pins.vio = false ∨ s.qspiFits = true →
      Gives .qspiCopyDone s (fun u => u.pwr = { s.pwr with qspi := none } ∧ u.on F.QSPI_STAT_BUSY = false ∧
        u.on F.QSPI_STAT_DONE = true ∧ u.core.raised.getLsbD 17 = true ∧
        (∀ i, i < n → u.byte (dst + i) = if s.pins.vio then s.extByte (src + i) else 0xFF) ∧
        (∀ b, b < dst ∨ dst + n ≤ b → u.byte b = s.byte b) ∧ u.mem = { s.mem with cells := u.mem.cells } ∧
        OnlyFields s u [F.QSPI_STAT_BUSY, F.QSPI_STAT_DONE] ∧ BlocksBut [.pwr] s u ∧ CoreBut [17] s u))

/-- The commands of the NVC (R163): from a ring that may give it, a command starts its operation, or ends at once with
the result code of the first rule that refuses it, in the table's order, with DONE and E16; other rings change
nothing. An ERASE or MARK for which the journal has no room starts with the switch (R165, R167). DONE and E16 at a
refusal, and commands beside one that runs in a suspended erase, are the model's readings (log entries 30 and 67). -/
def Obligations.NvcCommandsStartOrAreRefused : Prop :=
  ∀ (s : State) (ring : Ring) (key : Byte), s.nvcLive = true →
    let a := s.nvcAddr
    let k := sectorOf a
    let idle := s.nvc.cmd = none ∧ s.erRunning = false ∧ s.nvc.flushing = false
    let sane := inFlash a = true ∧ k < 126
    let sealed := s.get F.NVC_SEAL_FIRST ≤ k ∧ k < s.get F.NVC_SEAL_FIRST + s.get F.NVC_SEAL_COUNT
    let noPerm := ring ≠ 0 ∧ s.bit (F.NVC_PEN_PEN (k / 32)) (k % 32) = false
    let value := BitVec.ofNat 32 (s.get (F.NVC_DATA_DATA 0))
    let first := fun (p : ErPhase) (need : Nat) => if need ≤ s.jFree then p
      else if s.sectorBlank s.jTarget then .jCopy 0 else .jErase
    let began := fun (n : Nvc) (fs : List Fld) (u : State) => u.nvc = n ∧ u.on F.NVC_STAT_BUSY = true ∧
      Frame (F.NVC_STAT_BUSY :: fs) [.nvc] [] s u
    let refused := fun (code : Nat) (u : State) => u.get F.NVC_STAT_RESULT = code ∧ u.on F.NVC_STAT_DONE = true ∧
      u.core.raised.getLsbD 16 = true ∧ Frame [F.NVC_STAT_RESULT, F.NVC_STAT_DONE, F.NVC_STAT_BUSY] [] [16] s u
    let judged := fun (i : Instr) (code : Nat) (starts : State → Prop) =>
      (code ≠ 0 → Gives i s (refused code)) ∧ (code = 0 → Gives i s starts)
    let nothing := fun (i : Instr) => Gives i s (fun u => u = s)
    (ring.val ≤ 2 →
      judged (.nvcProgram ring key)
        (if ¬idle then 1 else if key ≠ 0xC3 then 2 else if ¬sane ∨ a % 16 ≠ 0 then 3 else if sealed then 4
         else if noPerm then 5 else if s.dirty k then 6 else if s.granStatus a ≠ 3 then 7 else if s.erHolds k then 8
         else 0)
        (began { s.nvc with cmd := some (.program a s.nvcData) } []) ∧
      judged (.nvcErase ring key)
        (if ¬idle then 1 else if key ≠ 0xC3 then 2 else if ¬sane ∨ a % 0x1000 ≠ 0 then 3 else if sealed then 4
         else if noPerm then 5 else if s.erSuspended then 8 else 0)
        (fun u => u.nvc.er = some ⟨.erase k, first .intent 2, false, s.bak.tick⟩ ∧ u.nvc.held = s.nvc.held ∧
          u.nvc.cmd = none ∧ u.get F.NVC_STAT_ESECT = k ∧ u.on F.NVC_STAT_BUSY = true ∧
          Frame [F.NVC_STAT_BUSY, F.NVC_STAT_ESECT] [.nvc] [] s u) ∧
      judged (.nvcSuspend ring key)
        (if s.nvc.er = none ∧ s.nvc.cmd.isSome then 1 else if s.erRunning then 0 else 9)
        (fun u => u.nvc = { s.nvc with suspReq := true, autoReq := false } ∧ u.get F.NVC_STAT_RESULT = 0 ∧
          Frame [F.NVC_STAT_RESULT] [.nvc] [] s u) ∧
      judged (.nvcResume ring key)
        (if s.nvc.er = none ∧ s.nvc.cmd.isSome then 1 else if s.erSuspended then 0 else 9)
        (fun u => u.nvc.er = s.nvc.er.map (fun e => { e with suspended := false }) ∧ u.nvc.held = s.nvc.held ∧
          u.nvc.cmd = s.nvc.cmd ∧ u.on F.NVC_STAT_ESUSP = false ∧ u.get F.NVC_STAT_RESULT = 0 ∧
          u.on F.NVC_STAT_DONE = true ∧ u.core.raised.getLsbD 16 = true ∧
          Frame [F.NVC_STAT_ESUSP, F.NVC_STAT_RESULT, F.NVC_STAT_DONE, F.NVC_STAT_BUSY] [.nvc] [16] s u)) ∧
    (2 < ring.val → nothing (.nvcProgram ring key) ∧ nothing (.nvcErase ring key) ∧ nothing (.nvcSuspend ring key) ∧
      nothing (.nvcResume ring key)) ∧
    (ring.val ≤ 1 → judged (.nvcMark ring key)
      (if ¬idle then 1 else if key ≠ 0xC3 then 2 else if s.erJournal then 8 else 0)
      (if 1 ≤ s.jFree then began { s.nvc with cmd := some (.mark value s.bak.tick) } []
       else began { s.nvc with
         held := s.nvc.er, er := some ⟨.mark value, first .done 1, false, s.bak.tick⟩ } [])) ∧
    (1 < ring.val → nothing (.nvcMark ring key)) ∧
    judged (.nvcCheckread ring key) (if s.nvc.cmd.isSome then 1 else if ¬sane then 3 else 0)
      (began { s.nvc with cmd := some (.checkread (a - a % 16)) } []) ∧
    (ring = 0 → judged (.nvcScan ring key) (if s.nvc.cmd.isSome ∨ s.nvc.er.isSome then 1 else 0)
      (began { s.nvc with cmd := some .scan } [])) ∧
    (ring ≠ 0 → nothing (.nvcScan ring key))

/-- The NVC's operations at their end: a program writes its granule alone; a MARK appends its record and sets MARKSEQ;
a CHECKREAD gives the granule and its status; a SCAN of an empty journal finds nothing. Each phase of an erase leads
to the next: the journal sector is erased, verified and filled where the journal has no room, the INTENT makes the
sector DIRTY, the array phase makes it read 0xFF and BLANK, the verify and the DONE record end it; a failed read-back
ends it with VERIFY. Suspensions take effect and end. The core's line buffers lose what was programmed or erased.
Nothing but the NVC's window, its own state, these buffers and these bytes changes. The model's readings are in log
entries 30, 31 and 68. -/
def Obligations.NvcOperationsEnd : Prop :=
  ∀ (s : State), s.nvcLive = true →
    let inNvc := fun (u : State) => OnlyRanges s u [(0x40002000, 0x40003000)] [] ∧ BlocksBut [.nvc] s u ∧
      CoreBut [16] s { u with core := { u.core with ibuf := s.core.ibuf, dbuf := s.core.dbuf } } ∧
      (u.core.ibuf = none ∨ u.core.ibuf = s.core.ibuf) ∧ (u.core.dbuf = none ∨ u.core.dbuf = s.core.dbuf) ∧
      u.pending = s.pending ∧
      u.mem = { s.mem with cells := u.mem.cells, gran := u.mem.gran }
    let ended := fun (code : Nat) (u : State) => u.get F.NVC_STAT_RESULT = code ∧ u.on F.NVC_STAT_DONE = true ∧
      u.core.raised.getLsbD 16 = true ∧ inNvc u
    let outside := fun (lo hi : Nat) (u : State) =>
      (∀ b, b < lo ∨ hi ≤ b → u.byte b = s.byte b) ∧ ∀ g, g < lo ∨ hi ≤ g → u.rawGran g = s.rawGran g
    let unread := fun (lo hi : Nat) (u : State) =>
      ∀ b, u.core.ibuf = some b ∨ u.core.dbuf = some b → b.granule < lo ∨ hi ≤ b.granule
    let blank := fun (k : Nat) (u : State) => unread (sectorAddr k) (sectorAddr k + 0x1000) u ∧
      (∀ b, sectorAddr k ≤ b → b < sectorAddr k + 0x1000 → u.byte b = 0xFF ∧ u.rawGran b = 3) ∧
        outside (sectorAddr k) (sectorAddr k + 0x1000) u
    (∀ a bs, s.nvc.cmd = some (.program a bs) → bs.length = 16 → a % 16 = 0 →
      Gives (.nvcCommandEnd true) s (fun u => ended 0 u ∧ u.nvc = { s.nvc with cmd := none } ∧
        (∀ i, i < 16 → u.byte (a + i) = bs.getD i 0) ∧ outside a (a + 16) u ∧ unread a (a + 16) u ∧
        ((∃ b ∈ bs, b ≠ 0xFF) → u.rawGran a = 0)) ∧
      Gives (.nvcCommandEnd false) s (fun u => ended 10 u ∧ u.nvc = { s.nvc with cmd := none } ∧
        outside a (a + 16) u)) ∧
    (∀ v tick, s.nvc.cmd = some (.mark v tick) → Gives (.nvcCommandEnd true) s (fun u => ended 0 u ∧
      u.nvc = { s.nvc with cmd := none } ∧ u.get F.NVC_MARKSEQ_SEQ = v.toNat ∧ u.on F.NVC_JSTAT_MARKV = true ∧
      u.get F.NVC_JSTAT_FREE = (s.get F.NVC_JSTAT_FREE - 1) % 256 ∧ outside s.jNext (s.jNext + 16) u)) ∧
    (∀ a, s.nvc.cmd = some (.checkread a) → Gives (.nvcCommandEnd true) s (fun u => ended 0 u ∧
      u.nvc = { s.nvc with cmd := none } ∧ (∀ i, i < 4 → u.get (F.NVC_DATA_DATA i) = (s.word (a + 4 * i)).toNat) ∧
      u.get F.NVC_STAT_RSTAT = s.granStatus a % 8 ∧ u.mem = s.mem)) ∧
    (s.nvc.cmd = some .scan → Gives (.nvcCommandEnd true) s (fun u => ended 0 u ∧
      u.nvc = { s.nvc with cmd := none } ∧ u.mem = s.mem ∧
      (s.jHeaderGen 126 = 0 → s.jHeaderGen 127 = 0 →
        u.get F.NVC_JGEN_GEN = 0 ∧ u.get F.NVC_JSTAT_FREE = 0 ∧ ∀ k, k < 126 → u.dirty k = false))) ∧
    (∀ g tick, s.nvc.cmd = none →
      let at_ := fun (p : ErPhase) => s.nvc.er = some ⟨g, p, false, tick⟩
      let leads_ := fun (p : ErPhase) (u : State) => u.nvc = { s.nvc with er := some ⟨g, p, false, s.bak.tick⟩ } ∧ inNvc u
      (at_ .jErase → s.jTarget < 128 → Gives (.erasePhaseEnd true) s (fun u => leads_ .jVerify u ∧ blank s.jTarget u)) ∧
      (at_ .jVerify →
        Gives (.erasePhaseEnd true) s (fun u => leads_ (.jCopy 0) u ∧ u.mem = s.mem ∧ u.regs = s.regs) ∧
        Gives (.erasePhaseEnd false) s (fun u => ended 10 u ∧ u.nvc.er = s.nvc.held ∧
          outside (sectorAddr s.jTarget) (sectorAddr s.jTarget + 0x1000) u)) ∧
      (∀ n, at_ (.jCopy n) → Gives (.erasePhaseEnd true) s (fun u =>
        leads_ (if n < s.jCopies.length then .jCopy (n + 1) else match g with | .erase _ => .intent | .mark _ => .done) u ∧
          outside (s.jCopyAddr n) (s.jCopyAddr n + 16) u))) ∧
    (∀ k tick, s.nvc.cmd = none → k < 126 →
      let at_ := fun (p : ErPhase) => s.nvc.er = some ⟨.erase k, p, false, tick⟩
      let leads_ := fun (p : ErPhase) (u : State) =>
        u.nvc = { s.nvc with er := some ⟨.erase k, p, false, s.bak.tick⟩ } ∧ inNvc u
      (at_ .intent →
        Gives (.erasePhaseEnd true) s (fun u => leads_ .array u ∧ u.dirty k = true ∧ outside s.jNext (s.jNext + 16) u ∧
          (∀ j, j < 126 → j ≠ k → u.dirty j = s.dirty j)) ∧
        Gives (.erasePhaseEnd false) s (fun u => ended 10 u ∧ u.nvc.er = s.nvc.held ∧ u.dirty k = s.dirty k ∧
          outside s.jNext (s.jNext + 16) u)) ∧
      (at_ .array → Gives (.erasePhaseEnd true) s (fun u => leads_ .verify u ∧ u.regs = s.regs ∧ blank k u)) ∧
      (at_ .verify →
        Gives (.erasePhaseEnd true) s (fun u => leads_ .done u ∧ u.mem = s.mem ∧ u.regs = s.regs) ∧
        Gives (.erasePhaseEnd false) s (fun u => ended 10 u ∧ u.nvc.er = s.nvc.held ∧ u.dirty k = s.dirty k ∧
          (∃ i, i < 256 ∧ u.rawGran (sectorAddr k + 16 * i) ≠ 3) ∧
          outside (sectorAddr k) (sectorAddr k + 0x1000) u)) ∧
      (at_ .done → 1 ≤ s.jFree → Gives (.erasePhaseEnd true) s (fun u =>
        ended 0 u ∧ u.nvc.er = s.nvc.held ∧ u.dirty k = false ∧ (∀ j, j < 126 → j ≠ k → u.dirty j = s.dirty j) ∧
          outside s.jNext (s.jNext + 16) u))) ∧
    (∀ e, s.nvc.er = some e →
      (e.suspended = false → e.phase = .array ∨ e.phase = .jErase → s.nvc.suspReq = true ∨ s.nvc.autoReq = true →
        Gives .suspendEffect s (fun u => u.nvc.er = some { e with suspended := true } ∧ u.on F.NVC_STAT_ESUSP = true ∧
          u.on F.NVC_STAT_DONE = true ∧ u.core.raised.getLsbD 16 = true ∧
          Frame [F.NVC_STAT_ESUSP, F.NVC_STAT_DONE] [.nvc] [16] s u)) ∧
      (e.suspended = true → s.nvc.autoSusp = true → Gives .autosuspResume s (fun u =>
        u.nvc.er = some { e with suspended := false } ∧ u.on F.NVC_STAT_ESUSP = false ∧
          Frame [F.NVC_STAT_ESUSP] [.nvc] [] s u)))

/-! ## Switching controllers -/

/-- One switching cycle, where the channel switches and, in a gang, has its turn: 16 consecutive cycles in the window
lock the phase loop, an error beyond 11.25° unlocks it; a period more than 25 % short, or the minimum off-time, makes
it yield with PTRIM frozen, else PTRIM moves by at most 4 units within ±256; on the way back the phase error shrinks
by at most 5.625° in a cycle and at least so much in four. And the events of the limits: TRIMSAT, the fast trip, the
slow limit with its restart, over-voltage, the loss and return of VSYS. Other channels keep their EN. How far PTRIM
moves within its bound is free (log entry 25), and its freeze outside a lock is the model's reading (log entry 24). -/
def Obligations.SwitchingCyclesAndLimits : Prop :=
  ∀ (s : State) (n : Fin 6), s.swLive n = true →
    let running := s.on (F.SW_STAT_RUN n) = true
    let inRails := fun (u : State) =>
      FrameIn [(0x40008000, 0x4000E000), (0x40010000, 0x40011000)] [] [.sw, .seq] [1, 8, 9] s u ∧
        ∀ m : Fin 6, m ≠ n → s.gangMate n ≠ some m → u.on (F.SW_CTL_EN m) = s.on (F.SW_CTL_EN m)
    let latched := fun (cause : Nat) (u : State) => u.get (F.SW_STAT_CAUSE n) = cause ∧ u.on (F.SW_CTL_EN n) = false ∧
      u.on (F.SW_STAT_RUN n) = false ∧ u.pg (n.val + 1) = false ∧ u.core.raised.getLsbD 9 = true ∧
      (∀ m, s.gangMate n = some m → u.get (F.SW_STAT_CAUSE m) = cause ∧ u.on (F.SW_CTL_EN m) = false) ∧ inRails u
    let restarts := fun (fb : Nat) (u : State) => u.on (F.SW_STAT_RUN n) = true ∧ u.on (F.SW_REF_MOVING n) = true ∧
      u.get (F.SW_REF_NOW n) = min fb (s.get (F.SW_REF_TARGET n)) % 2048 ∧ u.sw[n].ss = true ∧
      u.sw[n].restart = false ∧ u.sw[n].vsysStop = false ∧ u.on (F.SW_STAT_SSDONE n) = false ∧ inRails u
    let t0 := signedOf (s.get (F.SW_TRIM_PTRIM n)) 10
    (∀ o : SwObs, running → s.ovpHeld n = false → s.swTurn n = true →
      let trigger := 4 * o.period < 3 * o.refPeriod ∨ o.offAtMin = true
      Gives (.swCycle n o) s (fun u =>
        (o.onTimeBelow40ns = false → o.continuous = true → s.swDiode n = false → s.sw[n].relock = none →
          (o.phaseErr.natAbs ≤ 5625 → o.period = o.refPeriod → 15 ≤ s.sw[n].lockRun →
            u.on (F.SW_STAT_LOCKED n) = true) ∧
          (11250 < o.phaseErr.natAbs → u.on (F.SW_STAT_LOCKED n) = false ∧
            (s.on (F.SW_STAT_LOCKED n) = true →
              u.get (F.SW_CNT_UNLOCKCNT n) = min (s.get (F.SW_CNT_UNLOCKCNT n) + 1) 65535 ∧
              (s.on (F.SW_CTL_LOCKEV n) = true → u.core.raised.getLsbD 9 = true)))) ∧
        (o.onTimeBelow40ns = true → u.on (F.SW_STAT_LOCKED n) = false) ∧
        (s.on (F.SW_STAT_YIELD n) = false → trigger → u.on (F.SW_STAT_YIELD n) = true) ∧
        (s.on (F.SW_STAT_YIELD n) = true ∨ trigger ∨ o.onTimeBelow40ns = true →
          u.get (F.SW_TRIM_PTRIM n) = s.get (F.SW_TRIM_PTRIM n)) ∧
        (-256 ≤ t0 → t0 ≤ 256 →
          let t1 := signedOf (u.get (F.SW_TRIM_PTRIM n)) 10
          s.get (F.SW_TRIM_PTRIM n) < 1024 → (t1 - t0).natAbs ≤ 4 ∧ t1.natAbs ≤ 256) ∧
        (∀ b k, s.sw[n].relock = some (b, k) → s.on (F.SW_STAT_YIELD n) = false → ¬trigger →
          o.onTimeBelow40ns = false → o.continuous = true → s.swDiode n = false → s.atTrimLimit n = false →
          s.sw[n].phase.natAbs ≤ u.sw[n].phase.natAbs + 5625 ∧ u.sw[n].phase.natAbs ≤ s.sw[n].phase.natAbs ∧
            (3 ≤ k → u.sw[n].phase.natAbs ≤ max (b - 5625) (s.sw[n].phase.natAbs - 5625))) ∧
        (∀ m : Fin 6, m ≠ n → s.gangMate n ≠ some m → u.sw[m] = s.sw[m]) ∧
        Frame [F.SW_STAT_LOCKED n, F.SW_STAT_YIELD n, F.SW_STAT_RETRIES n, F.SW_TRIM_PTRIM n,
          F.SW_TRIM_BTRIM 0, F.SW_CNT_UNLOCKCNT n] [.sw] [9] s u)) ∧
    (4096 ≤ s.sw[n].satRun → Gives (.trimsat n) s (fun u => u.on (F.SW_STAT_TRIMSAT n) = true ∧ u.sw[n].satRun = 0 ∧
      Frame [F.SW_STAT_TRIMSAT n] [.sw] [] s u)) ∧
    (running → s.swInSs n = false ∨ s.sw[n].ssTrips < 3 → Gives (.fastLimitTrip n) s (fun u =>
      (if s.on (F.SW_STAT_FTRIP n) then
        u.get (F.SW_CNT_FTRIPCNT n) = min (s.get (F.SW_CNT_FTRIPCNT n) + 1) 65535
       else u.on (F.SW_STAT_FTRIP n) = true ∧ u.core.raised.getLsbD 1 = true ∧
        u.get (F.SW_CNT_FTRIPCNT n) = s.get (F.SW_CNT_FTRIPCNT n)) ∧ u.on (F.SW_STAT_YIELD n) = true ∧
      (s.swInSs n = true → u.sw[n].ssTrips = s.sw[n].ssTrips + 1) ∧ (∀ m : Fin 6, m ≠ n → u.sw[m] = s.sw[m]) ∧
      Frame [F.SW_STAT_FTRIP n, F.SW_CNT_FTRIPCNT n, F.SW_STAT_YIELD n] [.sw] [1] s u)) ∧
    (running → s.swInSs n = true → 3 ≤ s.sw[n].ssTrips → Gives (.fastLimitTrip n) s (latched 1)) ∧
    (running → s.on (F.SW_STAT_SSDONE n) = true → s.follower n = false → Gives (.slowLimit n) s (fun u =>
      u.on (F.SW_STAT_SLOW n) = true ∧
      (s.on (F.SW_LIM_SLACT n) = true → s.get (F.SW_STAT_RETRIES n) < s.get (F.SW_LIM_RETRY n) →
        u.sw[n].restart = true ∧ u.on (F.SW_CTL_EN n) = s.on (F.SW_CTL_EN n) ∧ u.on (F.SW_STAT_RUN n) = false ∧
          u.pg (n.val + 1) = false ∧ u.core.raised.getLsbD 9 = true ∧ inRails u) ∧
      (s.on (F.SW_LIM_SLACT n) = false ∨ s.get (F.SW_LIM_RETRY n) ≤ s.get (F.SW_STAT_RETRIES n) → latched 2 u))) ∧
    (∀ fb, s.sw[n].restart = true → s.on (F.SW_CTL_EN n) = true → s.sw[n].vsysStop = false →
      Gives (.slowLimitRestart n fb) s (fun u => restarts fb u ∧
        u.get (F.SW_STAT_RETRIES n) = (s.get (F.SW_STAT_RETRIES n) + 1) % 8)) ∧
    (running → s.swFalling n = false → s.sw[n].ovpHold = false → s.follower n = false →
      Gives (.ovpEnter n) s (fun u => u.on (F.SW_STAT_OVP n) = true ∧ u.sw[n].ovpHold = true ∧
        Frame [F.SW_STAT_OVP n] [.sw] [] s u)) ∧
    (s.sw[n].ovpHold = true → Gives (.ovpExit n) s (fun u => u.sw[n].ovpHold = false ∧ Frame [] [.sw] [] s u)) ∧
    (running ∨ s.sw[n].restart = true → s.follower n = false → Gives (.swVsysStop n) s (fun u =>
      u.on (F.SW_STAT_RUN n) = false ∧ u.sw[n].vsysStop = true ∧ u.sw[n].restart = s.sw[n].restart ∧
      u.get (F.SW_CTL_EN n) = s.get (F.SW_CTL_EN n) ∧ u.get (F.SW_STAT_CAUSE n) = s.get (F.SW_STAT_CAUSE n) ∧
      u.pg (n.val + 1) = false ∧ inRails u)) ∧
    (∀ fb, s.sw[n].vsysStop = true → s.on (F.SW_CTL_EN n) = true →
      (s.sw[n].restart = false → Gives (.swVsysResume n fb) s (restarts fb)) ∧
      (s.sw[n].restart = true → Gives (.swVsysResume n fb) s (fun u => u.sw[n].vsysStop = false ∧
        u.sw[n].restart = true ∧ Frame [] [.sw] [] s u)))

/-- A soft-start moves its reference one code toward the target and ends when it is reached; a calibration that ring 0
starts runs on a channel at rest and is refused on another, and ends with its result and E9; ramps of channels and
ports move one code a step toward their code and end there; discharge paths open. Each changes nothing else. The
model's readings are in log entries 24 and 25. -/
def Obligations.SoftStartsRampsAndCalibration : Prop :=
  ∀ (s : State) (n : Fin 6),
    let now := s.get (F.SW_REF_NOW n)
    let target := s.get (F.SW_REF_TARGET n)
    (s.swLive n = true → s.sw[n].ss = true →
      (now < target → Gives (.softStartStep n) s (fun u => u.get (F.SW_REF_NOW n) = (now + 1) % 2048 ∧
        Frame [F.SW_REF_NOW n] [] [] s u)) ∧
      (target < now → Gives (.softStartStep n) s (fun u => u.get (F.SW_REF_NOW n) = (now - 1) % 2048 ∧
        Frame [F.SW_REF_NOW n] [] [] s u)) ∧
      (now = target → Gives (.softStartDone n) s (fun u => u.on (F.SW_STAT_SSDONE n) = true ∧
        u.on (F.SW_REF_MOVING n) = false ∧ u.sw[n].ss = false ∧ (∀ m : Fin 6, m ≠ n → u.sw[m] = s.sw[m]) ∧
        Frame [F.SW_STAT_SSDONE n, F.SW_REF_MOVING n] [.sw] [] s u))) ∧
    (∀ v : Word, s.swLive n = true → v.getLsbD 0 = true →
      let rest := s.on (F.SW_CTL_EN n) = false ∧ s.on (F.SW_STAT_RUN n) = false ∧ s.get (F.SW_STAT_CAUSE n) = 0
      (s.on (F.SW_CAL_BUSY n) = false → rest →
        Gives (.swCal n 0 v) s (fun u => u.on (F.SW_CAL_BUSY n) = true ∧
          Frame [F.SW_CAL_BUSY n, F.SW_CAL_CSOFS n] [] [] s u)) ∧
      (s.on (F.SW_CAL_BUSY n) = false → ¬rest →
        Gives (.swCal n 0 v) s (fun u => u.on (F.SW_CAL_BUSY n) = false ∧ u.get (F.SW_CAL_RESULT n) = 3 ∧
          u.core.raised.getLsbD 9 = true ∧ Frame [F.SW_CAL_RESULT n, F.SW_CAL_CSOFS n] [] [9] s u)) ∧
      (s.on (F.SW_CAL_BUSY n) = true → Gives (.swCal n 0 v) s (fun u => Frame [F.SW_CAL_CSOFS n] [] [] s u)) ∧
      (∀ ring : Ring, ring ≠ 0 → Gives (.swCal n ring v) s (fun u => Frame [] [] [] s u))) ∧
    (∀ o : SwCalObs, s.swLive n = true → s.on (F.SW_CAL_BUSY n) = true →
      Gives (.swCalDone n o) s (fun u => u.on (F.SW_CAL_BUSY n) = false ∧ u.core.raised.getLsbD 9 = true ∧
        u.get (F.SW_CAL_RESULT n) = (if 1500 < o.peakSense then 1 else if 64 < o.offset.natAbs then 2 else 0) ∧
        (o.peakSense ≤ 1500 → -64 < o.offset → o.offset ≤ 64 →
          signedOf (u.get (F.SW_CAL_CSOFS n)) 7 = -o.offset) ∧
        (1500 < o.peakSense ∨ 64 < o.offset.natAbs → u.get (F.SW_CAL_CSOFS n) = s.get (F.SW_CAL_CSOFS n)) ∧
        Frame [F.SW_CAL_BUSY n, F.SW_CAL_RESULT n, F.SW_CAL_CSOFS n] [] [9] s u)) ∧
    (∀ c : Fin 32, c.val = n.val + 1 →
      (s.sw[n].dis = true → Gives (.dischargeEnd c) s (fun u => u.sw[n].dis = false ∧ Frame [] [.sw] [] s u)) ∧
      (∀ code us, s.swLive n = true → s.sw[n].ramp = some (code, us) → now ≠ code → code < 2048 → now < 2048 →
        Gives (.rampStep c) s (fun u =>
          let next := if now < code then now + 1 else now - 1
          u.get (F.SW_REF_NOW n) = next ∧
          (next = code → u.on (F.SW_REF_MOVING n) = false ∧ u.sw[n].ramp = none) ∧
          (next ≠ code → u.sw[n].ramp = s.sw[n].ramp ∧ u.get (F.SW_REF_MOVING n) = s.get (F.SW_REF_MOVING n)) ∧
          (∀ m : Fin 6, m ≠ n → u.sw[m] = s.sw[m]) ∧ Frame [F.SW_REF_NOW n, F.SW_REF_MOVING n] [.sw] [] s u))) ∧
    (∀ c : Fin 32, 7 ≤ c.val → c.val ≤ 16 → Gives (.dischargeEnd c) s (fun u => u.seq.disNow.getLsbD c = false ∧
      (∀ d, d < 32 → d ≠ c.val → u.seq.disNow.getLsbD d = s.seq.disNow.getLsbD d) ∧ Frame [] [.seq] [] s u)) ∧
    (∀ (c : Fin 32) (p : Fin 2) (code us : Nat), c.val = 17 + p.val → s.portLive p = true →
      s.port[p].ramp = some (code, us) → s.get (F.P_LINE_MARK p) < code → code ≤ s.markCap →
      Gives (.rampStep c) s (fun u => u.get (F.P_LINE_MARK p) = s.get (F.P_LINE_MARK p) + 1 ∧
        u.on (F.P_MEAS_MEASOK p) = false ∧ Frame [F.P_LINE_MARK p, F.P_MEAS_MEASOK p] [.port] [] s u))

/-- A landing latch applies its oldest write, which leaves the latch, unless a load reads first. A store does in its
island what REGISTER_WRITE does. A rail operation on a channel: setv at once, ramp as a ramp in progress; during a
soft-start and in a latched channel only the target; rail on begins a soft-start from the voltage present, is refused
during a stop, and rail off stops the channel. A ganged follower ignores setv and ramp, and rail sw2 sheds or re-adds
it. The early rail starts the same way as rail on. The model's readings are in log entries 25 and 55. -/
def Obligations.RailOperationsTakeEffect : Prop :=
  ∀ (s : State) (n : Fin 6) (e : Sense) (x : SbEntry) (rest : List LatchWrite), s.powered = true →
    let started := fun (fb target : Nat) (u : State) => u.on (F.SW_CTL_EN n) = true ∧
      u.get (F.SW_REF_NOW n) = min fb target % 2048 ∧ u.on (F.SW_STAT_RUN n) = true ∧
      u.on (F.SW_STAT_SSDONE n) = false ∧ u.get (F.SW_STAT_CAUSE n) = 0 ∧ u.sw[n].ss = true ∧ u.mem = s.mem
    let left := fun (u : State) => u.core.latch = rest ∧ u.core.sb = s.core.sb ∧ ProgramsSame s u ∧ u.mem = s.mem
    let inRails := fun (u : State) => left u ∧
      OnlyRanges s u [(0x40008000, 0x4000E000), (0x40010000, 0x40011000)] [] ∧ BlocksBut [.sw, .seq] s u ∧
      ∀ m : Fin 6, m ≠ n → s.gangMate n ≠ some m → u.on (F.SW_CTL_EN m) = s.on (F.SW_CTL_EN m)
    (∀ isl : Island, s.loadFirst isl = true → Gives (.latchApply isl e) s (fun u => u = s)) ∧
    (∀ (isl : Island) (be : BitVec 4) (d : Word), s.loadFirst isl = false →
      State.latchTake isl s.core.latch = some (x, rest) → x.op = .store be d → s.canTake x.addr = true →
      Gives (.registerWrite (BitVec.ofNat 32 x.addr) x.ring d e) { s with core := { s.core with latch := rest } }
        (fun v => Gives (.latchApply isl e) s (fun u => u.regs = v.regs ∧ BlocksSame v u ∧ u.mem = v.mem ∧
          u.core.latch = v.core.latch ∧ ProgramsSame v u))) ∧
    (s.loadFirst (.sw n) = false → State.latchTake (.sw n) s.core.latch = some (x, rest) → s.follower n = false →
      let busy := s.sw[n].ss = true ∨ s.get (F.SW_STAT_CAUSE n) ≠ 0
      (∀ code, x.op = .setv (n.val + 1) code → code ≤ 1250 → Gives (.latchApply (.sw n) e) s (fun u =>
        u.get (F.SW_REF_TARGET n) = code ∧ inRails u ∧
        (busy → u.get (F.SW_REF_NOW n) = s.get (F.SW_REF_NOW n) ∧ u.sw[n].ramp = s.sw[n].ramp) ∧
        (¬busy → u.get (F.SW_REF_NOW n) = code ∧ u.on (F.SW_REF_MOVING n) = false ∧ u.sw[n].ramp = none))) ∧
      (∀ code us, x.op = .ramp (n.val + 1) code us → code ≤ 1250 → Gives (.latchApply (.sw n) e) s (fun u =>
        u.get (F.SW_REF_TARGET n) = code ∧ inRails u ∧
        (us ≠ 0 ∨ busy → u.get (F.SW_REF_NOW n) = s.get (F.SW_REF_NOW n)) ∧
        (us ≠ 0 → ¬busy → s.get (F.SW_REF_NOW n) ≠ code →
          u.on (F.SW_REF_MOVING n) = true ∧ u.sw[n].ramp = some (code, us)) ∧
        (us = 0 → ¬busy → u.get (F.SW_REF_NOW n) = code ∧ u.on (F.SW_REF_MOVING n) = false))) ∧
      (x.op = .rail (n.val + 1) 1 → s.on (F.SW_CTL_EN n) = false →
        (s.stopping = false → s.cutActive = false →
          Gives (.latchApply (.sw n) e) s (fun u => started e.fbCode (s.get (F.SW_REF_TARGET n)) u ∧ inRails u)) ∧
        (s.stopping = true → Gives (.latchApply (.sw n) e) s (fun u => u.on F.SEQ_STAT_REFUSED = true ∧ left u ∧
          OnlyFields s u [F.SEQ_STAT_REFUSED] ∧ BlocksSame s u))) ∧
      (∀ op, x.op = .rail (n.val + 1) op → op ≠ 1 → Gives (.latchApply (.sw n) e) s (fun u =>
        u.on (F.SW_CTL_EN n) = false ∧ u.on (F.SW_STAT_RUN n) = false ∧ u.on (F.SW_STAT_SSDONE n) = false ∧
          u.pg (n.val + 1) = false ∧ u.on (F.SW_CTL_DISCH n) = (op == 2) ∧ inRails u))) ∧
    (s.loadFirst (.sw n) = false → State.latchTake (.sw n) s.core.latch = some (x, rest) → s.follower n = true →
      (∀ code us, x.op = .setv (n.val + 1) code ∨ x.op = .ramp (n.val + 1) code us →
        Gives (.latchApply (.sw n) e) s (fun u => u.on (F.SW_STAT_GANGIGN n) = true ∧ left u ∧
          OnlyFields s u [F.SW_STAT_GANGIGN n] ∧ BlocksSame s u)) ∧
      (∀ op, x.op = .rail (n.val + 1) op →
        (n = 3 → Gives (.latchApply (.sw n) e) s (fun u => u.on (F.SW_STAT_GANGIGN n) = true ∧ left u ∧
          OnlyFields s u [F.SW_STAT_GANGIGN n] ∧ BlocksSame s u)) ∧
        (n = 1 → Gives (.latchApply (.sw n) e) s (fun u => u.on (F.SW_CTL_SHED 0) = decide (op ≠ 1) ∧ inRails u ∧
          (op ≠ 1 → u.on (F.SW_STAT_RUN 1) = false))))) ∧
    (∀ fb, s.pwr.otpOk = true → s.on F.SYS_OSCSTAT_MOSC_OK = true → s.pwr.rstLow = false → s.pwr.earlyDone = false →
      s.stopping = false → s.earlyChannel = some n → s.on (F.SW_CTL_EN n) = false → s.cutActive = false →
      Gives (.earlyRailStart fb) s (fun u => started fb s.earlyRef u ∧ u.pwr.earlyDone = true ∧
        u.get (F.SW_REF_TARGET n) = s.earlyRef ∧ u.domPg (7 + n.val) = true ∧ u.domPg 3 = true))

/-! ## Storage and charging -/

/-- The power path and the storage converter: the ideal diode follows its two comparators; VSYS below VTRIG raises E5
and reverses a converter whose conditions hold; a reversal warns at VLOW, stops at VCUT and ends with VIN back, after
which charging resumes; a short latches, and ring 0 clears it; the start-up from the store begins, and stops. The
model's readings are in log entries 26 and 70. -/
def Obligations.StorageConverter : Prop :=
  ∀ (s : State),
    let plain := s.domOn 15 = true ∧ s.store.coldAfter = false
    let inStore := fun (u : State) => OnlyRanges s u [(0x4000E000, 0x40010000)] [F.SYS_DOMSTAT_PG] ∧
      BlocksBut [.store] s u ∧ u.mem = s.mem ∧ ProgramsSame s u ∧ u.core.sb = s.core.sb ∧ u.pending = s.pending
    let resumes := fun (v : Nat) (u : State) => plain → u.chgPermitted = true → s.get F.CHG_STAT_STATE = 7 →
      u.get F.CHG_STAT_STATE = s.chgPhase v
    (s.powered = true → let vin := s.pins.vinMv
      let vsys := s.pins.vsysMv
      Gives .idealDiodeOff s (fun u =>
      (vin + 10 < vsys ∨ 42000 < vin → u.store = { s.store with diodeOn := false }) ∧
      (vsys ≤ vin → vin ≤ 42000 → u.store = { s.store with diodeOn := true }) ∧
      (vin < vsys → vsys ≤ vin + 10 → vin ≤ 42000 → u.store = s.store) ∧ Frame [] [.store] [] s u)) ∧
    (∀ v, s.powered = true →
      let reverses := s.on F.SC_CTL_REVEN = true ∧ s.on F.SC_STAT_SHORT = false ∧ s.get F.CHG_STAT_FAULT ≠ 1 ∧
        s.vcutMv < v ∧ (s.store.cutHold = false ∨ s.vcutMv + 200 < v) ∧ s.scMode ≤ 1 ∧ s.cutActive = false
      (s.scLive = false → Gives (.vsysUv v) s (fun u => u.core.raised.getLsbD 5 = true ∧ Frame [] [] [5] s u)) ∧
      (s.scLive = true → reverses → Gives (.vsysUv v) s (fun u => u.core.raised.getLsbD 5 = true ∧
        u.on F.SC_STAT_VSYSUV = true ∧ u.scMode = 2 ∧ u.on F.SC_STAT_REVEV = true ∧
        u.get F.SC_CNT_REVCNT = min (s.get F.SC_CNT_REVCNT + 1) 65535 ∧ u.store.presence = 0 ∧
        u.get F.CHG_STAT_BAL = 0 ∧ (s.on F.CHG_CTL_EN = true → u.get F.CHG_STAT_STATE = 7) ∧
        FrameIn [(0x4000E000, 0x40010000)] [] [.store] [5, 10] s u)) ∧
      (s.scLive = true → ¬reverses → Gives (.vsysUv v) s (fun u => u.core.raised.getLsbD 5 = true ∧
        u.on F.SC_STAT_VSYSUV = true ∧ Frame [F.SC_STAT_VSYSUV, F.CHG_STAT_BAL] [.store] [5] s u))) ∧
    (s.scLive = true → s.scMode = 2 →
      (Gives .reversalExit s (fun u => u.scMode ≤ 1 ∧ u.store.diodeOn = true ∧
        (plain → u.on F.SC_STAT_VSYSUV = false) ∧ resumes s.pins.vstorMv u ∧ (s.domOn 15 = false → u.domPg 15 = false) ∧
        inStore u)) ∧
      (Gives .vstorVlow s (fun u => u.on F.SC_STAT_VLOW = true ∧
        (s.on F.SC_STAT_VLOW = false → u.core.raised.getLsbD 10 = true) ∧ Frame [F.SC_STAT_VLOW] [] [10] s u)) ∧
      (Gives .vstorCutoff s (fun u => u.scMode ≤ 1 ∧
        (s.on F.SC_STAT_CUTOFF = false → u.core.raised.getLsbD 10 = true) ∧
        (plain → u.on F.SC_STAT_CUTOFF = true ∧ u.store.cutHold = true) ∧ resumes s.vcutMv u ∧ inStore u))) ∧
    (s.scLive = true → s.scMode ≠ 0 → Gives .scShort s (fun u => u.scMode = 0 ∧ u.core.raised.getLsbD 2 = true ∧
      (plain → u.on F.SC_STAT_SHORT = true ∧ (s.on F.CHG_CTL_EN = true → u.get F.CHG_STAT_STATE = 7)) ∧
      (2 ≤ s.scMode → s.domOn 15 = false → u.store.short = true) ∧ inStore u)) ∧
    (∀ v : Word, s.scLive = true →
      (Gives (.scClr 0 v) s (fun u => u.on F.SC_CTL_REVEN = v.getLsbD 0 ∧
        (v.getLsbD 1 = true → u.on F.SC_STAT_SHORT = false) ∧
        (v.getLsbD 1 = false → u.get F.SC_STAT_SHORT = s.get F.SC_STAT_SHORT) ∧
        Frame [F.SC_CTL_REVEN, F.SC_STAT_SHORT] [] [] s u)) ∧
      (∀ ring : Ring, ring ≠ 0 → Gives (.scClr ring v) s (fun u => Frame [] [] [] s u))) ∧
    (∀ vin v, let starts := s.pwr.state = .off ∧ s.scMode = 0 ∧ s.on F.SC_STAT_SHORT = false ∧
        s.store.short = false ∧ s.store.fault ≠ 1 ∧ vin < 8000 ∧ 3000 < v
      (starts → Gives (.storeStart vin v) s (fun u => u.scMode = 3 ∧ Frame [F.SC_STAT_MODE] [] [] s u)) ∧
      (¬starts → Gives (.storeStart vin v) s (fun u => u = s))) ∧
    (s.powered = false → s.scMode = 3 → Gives .startupTimeout s (fun u => u.scMode = 0 ∧
      Frame [F.SC_STAT_MODE] [] [] s u)) ∧
    (s.pwr.state = .off → s.scMode = 3 → Gives .storeStartStop s (fun u => u.scMode = 0 ∧
      Frame [F.SC_STAT_MODE] [] [] s u))

/-- The charger: a store to CTL starts it, with the presence test, and stops it, keeps PROF while EN is 1 and clears
latched faults; VSTOR selects its phases, timers and the end of charge change them; NTC samples move the zones; the
presence test runs through its three phases; cells bleed by R220's rules. Each change of STATE is reported, and
nothing outside SC and CHG changes. VBAK takes the higher of its two sources. The model's readings are in log entry
26. -/
def Obligations.ChargerStates : Prop :=
  ∀ (s : State),
    let inStore := fun (u : State) => FrameIn [(0x4000E000, 0x40010000)] [] [.store] [10] s u
    let st := s.get F.CHG_STAT_STATE
    let goes := fun (code : Nat) (u : State) => u.get F.CHG_STAT_STATE = code ∧ u.on F.CHG_STAT_CHGEV = true ∧
      (s.on F.CHG_STAT_CHGEV = false → u.core.raised.getLsbD 10 = true) ∧ inStore u
    (s.scLive = true →
      (∀ (ring : Ring) (v : Word) (w : Nat), ring ≠ 0 → Gives (.chgCtlWrite ring v w) s (fun u => u = s) ∧
        Gives (.chgClr ring v w) s (fun u => u = s)) ∧
      (∀ (v : Word) (w : Nat), v.getLsbD 0 = true → s.on F.CHG_CTL_EN = false → s.scMode ≤ 1 → 1000 ≤ w →
        s.store.presence = 0 → Gives (.chgCtlWrite 0 v w) s (fun u => u.on F.CHG_CTL_EN = true ∧
          u.store.presence = 1 ∧ u.scMode = 0 ∧ inStore u)) ∧
      (∀ (v : Word) (w : Nat), v.getLsbD 0 = true → bitsOf v 1 2 ≤ 2 → s.on F.CHG_LOCK_LOCK = false →
        s.on F.CHG_CTL_EN = true → s.get F.CHG_CTL_PROF ≠ bitsOf v 1 2 → Gives (.chgCtlWrite 0 v w) s (fun u =>
          u.get F.CHG_CTL_PROF = s.get F.CHG_CTL_PROF % 4 ∧ u.on F.CHG_STAT_CFGERR = true ∧ inStore u)) ∧
      (∀ (v : Word) (w : Nat), v.getLsbD 0 = false → Gives (.chgCtlWrite 0 v w) s (fun u =>
        u.on F.CHG_CTL_EN = false ∧ u.get F.CHG_STAT_STATE = 0 ∧ u.store.presence = s.store.presence ∧ inStore u)) ∧
      (∀ (v : Word) (w : Nat), v.getLsbD 8 = true → Gives (.chgClr 0 v w) s (fun u => u.chgLatched = false ∧
        inStore u)) ∧
      (∀ v, s.chgPermitted = true → s.store.presence = 0 →
        (st = 1 → s.vpreMv ≤ v → v < s.vregMv → Gives (.chgPhaseChange v) s (goes 3)) ∧
        (st = 1 → s.vshortMv ≤ v → v < s.vpreMv → Gives (.chgPhaseChange v) s (goes 2)) ∧
        (st = 2 → s.vpreMv ≤ v → v < s.vregMv → Gives (.chgPhaseChange v) s (goes 3)) ∧
        (st = 3 → s.vpreMv ≤ v → s.vregMv ≤ v → Gives (.chgPhaseChange v) s (goes 4)) ∧
        (st = 5 → s.vpreMv ≤ v → v + 100 < s.vregMv → Gives (.chgPhaseChange v) s (goes 3)) ∧
        (st = 1 → v < s.vshortMv →
          Gives (.chgPhaseTimeout v) s (fun u => goes 7 u ∧ u.get F.CHG_STAT_FAULT = 1 ∧ u.scMode = 0)) ∧
        (st = 2 → Gives (.chgPhaseTimeout v) s (fun u => goes 7 u ∧ u.get F.CHG_STAT_FAULT = 2 ∧ u.scMode = 0)) ∧
        (st = 3 ∨ st = 4 → s.get F.CHG_CTL_PROF ≤ 1 → s.get F.CHG_SET_TFAST ≠ 0 →
          Gives (.chgPhaseTimeout v) s (fun u => goes 7 u ∧ u.get F.CHG_STAT_FAULT = 3 ∧ u.scMode = 0)) ∧
        (st = 4 → Gives .chgTerminate s (goes (if s.get F.CHG_CTL_PROF = 2 then 6 else 5)))) ∧
      (∀ (m0 m1 : Byte) (v : Nat), Gives (.ntcSample m0 m1 v) s (fun u => inStore u ∧
        (s.on F.CHG_CTL_TB0EN = true → u.get F.CHG_TB_M0 = m0.toNat ∧
          u.store.ntc0.zone = (if s.zoneOf m0 ≠ s.store.ntc0.zone ∧ s.store.ntc0.cand = s.zoneOf m0 ∧
            2 ≤ s.store.ntc0.count then s.zoneOf m0 else s.store.ntc0.zone)) ∧
        (s.on F.CHG_CTL_TB1EN = true → u.get F.CHG_TB_M1 = m1.toNat ∧
          u.store.ntc1.zone = (if s.zoneOf m1 ≠ s.store.ntc1.zone ∧ s.store.ntc1.cand = s.zoneOf m1 ∧
            2 ≤ s.store.ntc1.count then s.zoneOf m1 else s.store.ntc1.zone)) ∧
        (s.on F.CHG_CTL_TB0EN = false → u.get F.CHG_TB_M0 = s.get F.CHG_TB_M0 ∧ u.store.ntc0 = s.store.ntc0) ∧
        (s.on F.CHG_CTL_TB1EN = false → u.get F.CHG_TB_M1 = s.get F.CHG_TB_M1 ∧ u.store.ntc1 = s.store.ntc1))) ∧
      (∀ v, let due := st = 5 ∨ st = 6 ∨ s.on F.CHG_STAT_ABSENT = true
        (due → s.scMode ≤ 1 → s.store.presence = 0 → 1000 ≤ v → Gives (.presenceTest v) s (fun u =>
          u.store.presence = 1 ∧ u.scMode = 0 ∧ Frame [F.SC_STAT_MODE] [.store] [] s u)) ∧
        (¬due → Gives (.presenceTest v) s (fun u => u = s))) ∧
      (∀ d v, (s.store.presence = 1 → Gives (.presencePhaseEnd d v) s (fun u =>
          u.store = { s.store with presence := 2 } ∧ Frame [] [.store] [] s u)) ∧
        (s.store.presence = 2 → d ≤ 300 → Gives (.presencePhaseEnd d v) s (fun u =>
          u.store = { s.store with presence := 3 } ∧ Frame [] [.store] [] s u)) ∧
        (s.store.presence = 3 ∨ (s.store.presence = 2 ∧ 300 < d) → s.store.testDue = false →
          Gives (.presencePhaseEnd d v) s (fun u => u.store.presence = 0 ∧
            u.on F.CHG_STAT_ABSENT = decide (300 < d) ∧
            (300 < d → s.on F.CHG_CTL_EN = true → u.get F.CHG_STAT_STATE = 7 ∧ u.scMode ≠ 1) ∧ inStore u))) ∧
      (∀ bot top,
        let balances := s.get F.CHG_CTL_PROF = 2 ∧ s.on F.CHG_CTL_BALEN = true ∧ s.scMode ≤ 1 ∧ 1000 ≤ bot + top
        let low := bot + 50 < s.vcellMaxMv ∧ top + 50 < s.vcellMaxMv
        let held := s.vcellMaxMv < bot ∨ s.vcellMaxMv < top ∨ (s.on F.CHG_STAT_CELLOV = true ∧ ¬low)
        let bleeds := fun (was : Bool) (cell other : Nat) => s.vcellMaxMv < cell ∨ other + 20 < cell ∨
          (was = true ∧ (held ∨ other + 5 ≤ cell))
        let judged := fun (u : State) =>
          ((u.get F.CHG_STAT_BAL).testBit 0 = true ↔ bleeds (s.bit F.CHG_STAT_BAL 0) top bot) ∧
          ((u.get F.CHG_STAT_BAL).testBit 1 = true ↔ bleeds (s.bit F.CHG_STAT_BAL 1) bot top) ∧
          (u.on F.CHG_STAT_CELLOV = true ↔ held) ∧ (held → u.scMode = 0) ∧
          Frame [F.CHG_STAT_BAL, F.CHG_STAT_CELLOV, F.SC_STAT_MODE] [] [] s u
        (balances → Gives (.cellBalance bot top) s judged ∧ Gives (.balanceEnd bot top) s judged) ∧
        (¬balances → Gives (.cellBalance bot top) s (fun u => u = s) ∧
          Gives (.balanceEnd bot top) s (fun u => u.get F.CHG_STAT_BAL = 0 ∧
            (u.on F.CHG_STAT_CELLOV = true ↔ s.on F.CHG_STAT_CELLOV = true ∧ ¬low) ∧
            Frame [F.CHG_STAT_BAL, F.CHG_STAT_CELLOV, F.SC_STAT_MODE] [] [] s u)))) ∧
    (∀ coin shown v,
      let gives := if 3500 ≤ v then shown else if 2000 ≤ v then v - 200 else 0
      (3500 ≤ v → 3201 ≤ shown ∧ shown ≤ 3399) →
      Gives (.vbakSourceChange coin ⟨shown, v⟩) s (fun u =>
        u.store.vbakCoin = (if gives < coin then true else if coin < gives then false else s.store.vbakCoin) ∧
        Frame [] [.store] [] s u))

/-! ## Rails, supervision, stops -/

/-- LDOs and load switches, power-good, supervisors and the thermal CUT, each with its frame: the end of a start ramp;
an overload, which latches its load switch off alone; the rise of power-good with its pgwaits and its place in the
rise order; a comparator that is watched, with its flag, the loss of power-good and its action, that of a port in
target mode, which only drops power-good, and one that is not watched, which does nothing; and a CUT of an included
sensor, which switches everything off, while that of an excluded one is only shown. The model's readings are in log
entries 27 and 33. -/
def Obligations.RailsAndSupervision : Prop :=
  ∀ (s : State), s.powered = true →
    let inRails := FrameOff [(0x40008000, 0x4000E000), (0x40010000, 0x40011000), (0x40014000, 0x40016000)] []
      [.pwr, .sw, .seq, .port] [7, 8, 9, 12, 13, 14, 15, 28] s
    (∀ c : Fin 32, 7 ≤ c.val → c.val ≤ 16 → s.on (State.linEN (c.val - 7)) = true →
      Gives (.railRampEnd c) s (fun u => u.on (State.linRAMP (c.val - 7)) = false ∧
        Frame [State.linRAMP (c.val - 7)] [] [] s u)) ∧
    (∀ n : Fin 6, s.on (F.SEQ_LS_EN n) = true → Gives (.lsOverload n) s (fun u => u.on (F.SEQ_LS_EN n) = false ∧
      u.get (F.SEQ_LS_CAUSE n) = 5 ∧ u.pg (11 + n.val) = false ∧ 11 + n.val ∉ u.seq.rise ∧
      (s.pg (11 + n.val) = true → u.core.raised.getLsbD 8 = true) ∧
      u.seq.disNow.getLsbD (11 + n.val) = s.on (F.SEQ_LS_DISCH n) ∧
      Frame [F.SEQ_LS_EN n, F.SEQ_LS_RAMP n, F.SEQ_LS_DISCH n, F.SEQ_LS_CAUSE n, F.SEQ_PG_PG] [.seq] [8] s u)) ∧
    (∀ c : Fin 32, s.pgReady c = true → s.pg c = false → Gives (.powerGoodRise c) s (fun u => u.pg c = true ∧
      u.core.raised.getLsbD 8 = true ∧
      u.seq = { s.seq with rise := if c.val ≤ 18 ∧ c.val ∉ s.seq.rise then s.seq.rise ++ [c.val] else s.seq.rise } ∧
      (∀ t next label, (s.thr t).st = .waiting (.pg c next label) → s.leads (c.val - 1) = false →
        u.thr t = { s.thr t with st := .ready, pc := next }) ∧
      (∀ t, (∀ r next label, (s.thr t).st ≠ .waiting (.pg r next label)) → u.thr t = s.thr t) ∧
      OnlyFields s u [F.SEQ_PG_PG, F.P_STAT_PG 0, F.P_STAT_PG 1] ∧ BlocksBut [.seq, .pwr] s u ∧ u.mem = s.mem ∧
      u.core.sb = s.core.sb)) ∧
    (∀ (c : Fin 32) (ov : Bool) (us : Nat),
      let flag := if ov then F.SEQ_OVF_OVF else F.SEQ_UVF_UVF
      (s.tgoodRail c = false → s.supWatches c ov us = true → Gives (.supervisorAssert c ⟨ov, us⟩) s (fun u =>
        u.bit flag (c.val - 1) = true ∧ u.pg c = false ∧ inRails u ∧
        (s.bit flag (c.val - 1) = false → u.core.raised.getLsbD 7 = true) ∧
        (s.supAction c ov = 1 → c.val ≤ 18 → u.railEn c = false ∧ u.bit F.SEQ_SUPOFF_OFF (c.val - 1) = true ∧
          (7 ≤ c.val → c.val ≤ 16 → u.get (State.linCAUSE (c.val - 7)) = 1)) ∧
        (s.supAction c ov = 2 → s.pwr.stop = .none → u.inLull = true ∧ u.get F.SEQ_LULLSTAT_CAUSE = 2) ∧
        (s.supAction c ov = 0 → u.railEn c = true ∧ u.pwr.stop = s.pwr.stop) ∧
        (∀ d, 1 ≤ d → d ≤ 20 → d ≠ c.val → (∀ m : Fin 6, s.gangMate m = none) → u.railEn d = s.railEn d))) ∧
      (s.tgoodRail c = true → ov = false → Gives (.supervisorAssert c ⟨ov, us⟩) s (fun u => u.pg c = false ∧
        (∀ d, u.railEn d = s.railEn d) ∧ u.get F.SEQ_UVF_UVF = s.get F.SEQ_UVF_UVF ∧ inRails u)) ∧
      (s.tgoodRail c = true → ov = true → Gives (.supervisorAssert c ⟨ov, us⟩) s (fun u => u = s)) ∧
      (s.tgoodRail c = false → s.supWatches c ov us = false → Gives (.supervisorAssert c ⟨ov, us⟩) s (fun u => u = s))) ∧
    (∀ c : Fin 32, Gives (.supervisorRelease c false) s (fun u =>
        u.seq = { s.seq with uvNow := s.seq.uvNow &&& ~~~(BitVec.twoPow 32 c.val) } ∧ Frame [] [.seq] [] s u) ∧
      Gives (.supervisorRelease c true) s (fun u =>
        u.seq = { s.seq with ovNow := s.seq.ovNow &&& ~~~(BitVec.twoPow 32 c.val) } ∧ Frame [] [.seq] [] s u)) ∧
    (∀ i : Fin 8,
      (s.bit F.THERM_SUSP_S i = true → Gives (.thermalCut i) s (fun u =>
        u.seq = { s.seq with cutNow := s.seq.cutNow ||| BitVec.twoPow 8 i.val } ∧ Frame [] [.seq] [] s u)) ∧
      (s.bit F.THERM_SUSP_S i = false → Gives (.thermalCut i) s (fun u =>
        u.core.raised.getLsbD 6 = true ∧ u.on F.THERM_STAT_CUTLAT = true ∧ u.scMode = 0 ∧
        u.seq.cutNow = s.seq.cutNow ||| BitVec.twoPow 8 i.val ∧
        (∀ n : Fin 6, u.on (F.SW_CTL_EN n) = false ∧
          (s.on (F.SW_CTL_EN n) = true → u.get (F.SW_STAT_CAUSE n) = 3)) ∧
        (∀ k, k < 10 → u.on (State.linEN k) = false ∧
          (s.on (State.linEN k) = true → u.get (State.linCAUSE k) = 4)) ∧
        (∀ p : Fin 2, u.on (F.P_CTL_EN p) = false ∧ (s.on (F.P_CTL_EN p) = true → u.get (F.P_STAT_CAUSE p) = 4)) ∧
        FrameOff [(0x40008000, 0x40012000), (0x40014000, 0x40016000)] [F.SYS_DOMSTAT_PG]
          [.sw, .seq, .port, .store] [6, 8, 9, 10, 12, 13, 14, 15] s u)) ∧
      Gives (.cutComparatorRelease i) s (fun u =>
        u.seq = { s.seq with cutNow := s.seq.cutNow &&& ~~~(BitVec.twoPow 8 i.val) } ∧ Frame [] [.seq] [] s u))

/-- LULL, step by step, and what starts a stop: a keyed ring-0 write starts it with E28, and any other write, or one
during a stop, does nothing; the end of the frames; the NVC flush with the snapshot; the rails one by one, in the
order of a stop; its end in a SYSTEM reset or a loss of power; the cut at T_LULL; and the watchdog's expiry, which
starts the fast stop. Each changes nothing else. The model's readings are in log entry 28. -/
def Obligations.LullSequence : Prop :=
  ∀ (s : State), s.powered = true →
    let ports := [(0x40014000, 0x40016000)]
    let rails := [(0x40008000, 0x4000E000), (0x40010000, 0x40011000), (0x40014000, 0x40016000)]
    let stat := [F.SEQ_LULLSTAT_RUN, F.SEQ_LULLSTAT_STEP, F.SEQ_LULLSTAT_CAUSE, F.SEQ_LULLSTAT_ENDSYS]
    let inRails := FrameOff rails [F.SYS_RSTCAUSE_WDOG] [.pwr, .sw, .seq, .port, .bak] [8, 9, 12, 13, 14, 15] s
    let noRails := fun (u : State) => ∀ r, 1 ≤ r → r ≤ 18 → s.follower (r - 1) = false → u.railEn r = false
    let outcome := fun (o : Nat) (u : State) => bitsOf (u.word 0x40024120) 4 2 = o ∧
      bitOf (u.word 0x40024120) 3 = s.pwr.endSys ∧
      ∀ b, b < 0x40024120 ∨ 0x40024134 ≤ b → u.byte b = s.byte b
    (∀ (ring : Ring) (v : Word),
      let starts := ring = 0 ∧ v.getLsbD 0 = true ∧ bitsOf v 24 8 = 0x4C ∧ s.pwr.stop = .none
      (starts → Gives (.lullGo ring v) s (fun u =>
        u.pwr = { s.pwr with
          stop := .lull 2 1 (s.get F.SEQ_LULLCFG_TLULL), endSys := v.getLsbD 1, sysDue := false, lulled := true } ∧
        u.on F.SEQ_LULLSTAT_RUN = true ∧ u.get F.SEQ_LULLSTAT_STEP = 2 ∧ u.get F.SEQ_LULLSTAT_CAUSE = 1 ∧
        u.on F.SEQ_LULLSTAT_ENDSYS = v.getLsbD 1 ∧ u.core.raised.getLsbD 28 = true ∧
        (∀ p : Fin 2, s.on (F.P_MEAS_BUSY p) = true → u.on (F.P_MEAS_BUSY p) = false ∧
          u.get (F.P_MEAS_RESULT p) = 7) ∧
        FrameIn ports stat [.pwr, .port] [14, 15, 28] s u)) ∧
      (¬starts → Gives (.lullGo ring v) s (fun u => u = s))) ∧
    (∀ c t, s.pwr.stop = .lull 2 c t → Gives .lullFramesDone s (fun u => u.pwr = { s.pwr with stop := .lull 3 c t } ∧
      u.get F.SEQ_LULLSTAT_STEP = 3 ∧ u.nvc = { s.nvc with flushing := true } ∧
      (∀ p : Fin 2, u.port[p].exch = none ∧ u.port[p].answer = none) ∧
      FrameOff ports [F.SEQ_LULLSTAT_STEP] [.pwr, .nvc, .port] [12, 13] s u)) ∧
    (∀ c t, s.pwr.stop = .lull 3 c t → c < 8 → Gives .lullNvcFlushDone s (fun u =>
      u.pwr = { s.pwr with stop := .lull 5 c t } ∧ u.get F.SEQ_LULLSTAT_STEP = 5 ∧
      (s.nvcLive = true → u.nvc.cmd = none ∧ u.nvc.er = none ∧ u.nvc.held = none) ∧
      bitsOf (u.word 0x40024120) 0 3 = c ∧ bitOf (u.word 0x40024120) 6 = true ∧ bitOf (u.word 0x40024120) 31 = true ∧
      bitOf (u.word 0x40024120) 3 = s.pwr.endSys ∧ u.word 0x40024124 = s.bak.tick.setWidth 32 ∧
      u.word 0x40024130 = (match s.openErase with
        | some k => BitVec.ofNat 32 (k % 128 + 128)
        | none => 0) ∧
      (∀ b, 0x20000000 ≤ b → b < 0x40024120 ∨ 0x40024134 ≤ b → u.byte b = s.byte b) ∧
      (s.nvc.cmd = none → s.nvc.er = none → ∀ b, b < 0x40024120 ∨ 0x40024134 ≤ b → u.byte b = s.byte b) ∧
      OnlyRanges s u [(0x40002000, 0x40003000)] [F.SEQ_LULLSTAT_STEP] ∧ BlocksBut [.pwr, .nvc, .bak] s u ∧
      CoreBut [16] s u ∧ u.pending = s.pending)) ∧
    (∀ c t ms v, s.pwr.stop = .lull 5 c t →
      (∀ r, s.stopNext = some r → Gives (.lullRailOff ms v) s (fun u => u.railEn r = false ∧ u.pg r = false ∧
        u.pwr.stop = .lull 5 c t ∧ (7 ≤ r → r ≤ 16 → u.get (State.linCAUSE (r - 7)) = 3) ∧
        (∀ p : Fin 2, r = 17 + p.val → u.get (F.P_STAT_CAUSE p) = 5) ∧
        (∀ d, 1 ≤ d → d ≤ 20 → d ≠ r → s.follower (d - 1) = false → u.railEn d = s.railEn d) ∧ inRails u)) ∧
      (s.stopNext = none → s.pwr.endSys = true → Gives (.lullRailOff ms v) s (fun u =>
        u.pwr = { s.pwr with stop := .lull 6 c t, sysDue := true } ∧ u.on F.SEQ_LULLSTAT_RUN = false ∧
        u.get F.SEQ_LULLSTAT_STEP = 6 ∧ u.word 0x4002412C = BitVec.ofNat 32 ms ∧ outcome 1 u ∧
        OnlyFields s u [F.SEQ_LULLSTAT_RUN, F.SEQ_LULLSTAT_STEP] ∧ BlocksBut [.pwr] s u ∧ CoreBut [] s u)) ∧
      (s.stopNext = none → s.pwr.endSys = false → Gives (.lullRailOff ms v) s (fun u =>
        u.pwr.state = (if 1800 ≤ v then .backup else .off) ∧ u.pwr.stop = .none ∧
        (1800 ≤ v → u.word 0x4002412C = BitVec.ofNat 32 ms ∧ bitsOf (u.word 0x40024120) 4 2 = 1)))) ∧
    (∀ n c t v, s.pwr.stop = .lull n c t → n ≠ 6 →
      (s.pwr.endSys = true → Gives (.lullBudgetCut v) s (fun u =>
        u.pwr.stop = .lull 6 c t ∧ u.pwr.sysDue = true ∧ u.on F.SEQ_LULLSTAT_RUN = false ∧
        u.get F.SEQ_LULLSTAT_STEP = 6 ∧ noRails u ∧ u.word 0x4002412C = BitVec.ofNat 32 t ∧
        bitsOf (u.word 0x40024120) 4 2 = 2 ∧ bitOf (u.word 0x40024120) 3 = true ∧
        (n < 5 → bitOf (u.word 0x40024120) 6 = false) ∧ OnlyRanges s u rails stat ∧
        BlocksBut [.pwr, .sw, .seq, .port, .bak] s u ∧ ProgramsSame s u ∧ u.core.sb = s.core.sb ∧
        u.pending = s.pending ∧ ((∀ p : Fin 2, s.port[p].exch = none) →
          ∀ b, b < 0x40024120 ∨ 0x40024134 ≤ b → u.byte b = s.byte b))) ∧
      (s.pwr.endSys = false → Gives (.lullBudgetCut v) s (fun u =>
        u.pwr.state = (if 1800 ≤ v then .backup else .off) ∧
        (1800 ≤ v → u.word 0x4002412C = BitVec.ofNat 32 t ∧ bitsOf (u.word 0x40024120) 4 2 = 2)))) ∧
    (let expires := s.bak.wdRun = true ∧ s.on F.BAK_WDCFG_EN = true ∧ s.wdPeriod ≤ s.bak.wdCount
     (expires → s.pwr.stop = .none → Gives .wdExpire s (fun u => u.on F.SYS_RSTCAUSE_WDOG = true ∧
        u.pwr.stop = .fast ∧ u.pwr.endSys = true ∧ u.bak = { s.bak with wdRun := false, wdCount := 0 } ∧
        (∀ r, s.stopNext = some r → u.railEn r = false) ∧ (u.pwr.sysDue = true ↔ noRails u) ∧ inRails u)) ∧
     (¬expires → Gives .wdExpire s (fun u => u = s)))

/-! ## Ports and engines -/

/-- The meter-bus ports, each command with its frame: the mode rules; the tracked base current and the unit-load
limit; target-line events; the ledger's samples, which open an enabled line when they reach ISHORT, E_FAULT, PLIM or a
target's bridge limit and only count on a disabled one; the stored-energy measurement phase by phase, with the port
the boot ROM enables; the end of the enable ramp; and the idle-current calibration. Stores at rings above 0 change
nothing. The model's readings are in log entries 6, 37, 57 and 58. -/
def Obligations.PortCommands : Prop :=
  ∀ (s : State) (p : Fin 2), s.portLive p = true →
    let en := s.on (F.P_CTL_EN p)
    let old := s.get (F.P_CTL_MODE p)
    let base := 0x40014000 + 0x1000 * p.val
    let at_ := fun (f : Fld) => [(f.addr, f.addr + 4)]
    let inPort := FrameOff [(base, base + 0x1000), (0x40010000, 0x40011000)] [] [.port, .seq]
      [3 + p.val, 8, 12 + p.val, 14 + p.val] s
    let overUl := fun (u : State) =>
      (150 * s.get (F.P_RX_ULMAX p) + 75 < u.get (F.P_IBASE_IBASE p) → u.on (F.P_STAT_OVERUL p) = true ∧
        (s.on (F.P_CTL_ULACT p) = true → u.on (F.P_CTL_EN p) = false ∧
          (en = true → u.get (F.P_STAT_CAUSE p) = 6))) ∧
      (u.get (F.P_IBASE_IBASE p) < 150 * s.get (F.P_RX_ULMAX p) + 75 →
        u.get (F.P_STAT_OVERUL p) = s.get (F.P_STAT_OVERUL p) ∧ u.on (F.P_CTL_EN p) = en) ∧ inPort u
    (∀ (ring : Ring) (v : Word), ring ≠ 0 → Gives (.portModeWrite p ring v) s (fun u => u = s) ∧
      Gives (.portMeas p ring v) s (Frame [] [] [] s) ∧ ∀ m, Gives (.portCal p ring v m) s (fun u => u = s)) ∧
    (∀ v : Word,
      let mode := bitsOf v 1 2
      let inCtl := fun (fs : List Fld) (u : State) => u.on (F.P_CTL_EN p) = en ∧
        FrameOff (at_ (F.P_CTL_EN p)) fs [.port] [] s u
      let barred := s.otpPortMode p = 3 ∨ (mode ≤ 1 ∧ s.modeForbidden p mode = true)
      (barred → Gives (.portModeWrite p 0 v) s (fun u => u.get (F.P_CTL_MODE p) = old % 4 ∧
        u.on (F.P_STAT_CFGERR p) = true ∧ inCtl [F.P_STAT_CFGERR p] u)) ∧
      (¬barred → 1 < mode ∨ mode = old → Gives (.portModeWrite p 0 v) s (fun u =>
        u.get (F.P_CTL_MODE p) = old % 4 ∧ inCtl [] u)) ∧
      (¬barred → mode ≤ 1 → mode ≠ old → en = true → Gives (.portModeWrite p 0 v) s (fun u =>
        u.get (F.P_CTL_MODE p) = old % 4 ∧ u.on (F.P_STAT_CFGERR p) = true ∧ inCtl [F.P_STAT_CFGERR p] u)) ∧
      (¬barred → mode ≤ 1 → mode ≠ old → en = false → Gives (.portModeWrite p 0 v) s (fun u =>
        u.get (F.P_CTL_MODE p) = mode ∧ u.on (F.P_MEAS_MEASOK p) = false ∧ u.port[p].answer = none ∧
        u.port[p].resync = true ∧ u.port[p].measVoid = true ∧
        inCtl [F.P_MEAS_MEASOK p, F.P_STAT_TXHOLD p] u))) ∧
    (∀ mean, s.isTarget p = false → en = true → s.on (F.P_CTL_TRACK p) = true → s.get (F.P_IBASE_IBASE p) ≤ 65535 →
      Gives (.ibaseTrack p mean) s (fun u =>
        let i := s.get (F.P_IBASE_IBASE p)
        let j := u.get (F.P_IBASE_IBASE p)
        (i ≤ mean → i ≤ j ∧ j ≤ mean ∧ j ≤ i + 25) ∧ (mean ≤ i → mean ≤ j ∧ j ≤ i ∧ i ≤ j + 25) ∧ overUl u)) ∧
    (s.isTarget p = true → en = true →
      (s.port[p].lineGone = false → Gives (.lineLost p) s (fun u => u.on (F.P_STAT_LINELOST p) = true ∧
          (s.on (F.P_STAT_STATEV p) = false → u.core.raised.getLsbD (14 + p.val) = true) ∧
          u.port[p].lineGone = true ∧ u.port[p].txWait = true ∧ u.port[p].answer = none ∧
          u.pg (17 + p.val) = false ∧
          FrameOff [] [F.P_STAT_LINELOST p, F.P_STAT_STATEV p, F.P_STAT_TXHOLD p, F.P_STAT_PG p, F.SEQ_PG_PG]
            [.port, .seq] [8, 14 + p.val] s u) ∧
        Gives (.txholdRelease p) s (fun u => u.on (F.P_STAT_TXHOLD p) = false ∧ u.port[p].txWait = false ∧
          u.port[p].ignoring = false ∧ u.port[p].answer = s.port[p].answer ∧
          Frame [F.P_STAT_TXHOLD p] [.port] [] s u)) ∧
      (s.port[p].lineGone = true → Gives (.lineReturn p) s (fun u => u.port[p].lineGone = false ∧
        u.port[p].txWait = true ∧ Frame [] [.port] [] s u))) ∧
    (∀ xs x v, exec (.portBreach p xs) s = .next v →
      exec (.portBreach p (xs ++ [x])) s = exec (.portBreach p [x]) v) ∧
    (∀ x : LedgSample,
      let l := s.port[p].ledger
      let ibase := s.get (F.P_IBASE_IBASE p)
      let level := ibase + 2500 + 500 * s.get (F.P_LEDG_IFAULT p)
      let b := l.bucket + x.mv * x.line
      let window := if 4000 ≤ l.count + 1 then b + (l.buckets.take 999).sum else b + l.buckets.sum
      let begins := match x.edgeNs with
        | some ns => s.quarterBitNs p ≤ ns
        | none => level < x.line
      let goesOn := l.episode ≠ none ∧ level ≤ x.line
      let e := l.episode.getD 0 + x.mv * (x.line - ibase)
      let fault := (goesOn ∨ (l.episode = none ∧ begins)) ∧ 19400000000 * s.get (F.P_LEDG_EFAULT p) ≤ e + 40400000000
      let short := 97 * (10000 + 1000 * s.get (F.P_LIM_ISHORT p)) ≤ 100 * x.line
      let power := 38800000000000 * s.get (F.P_LEDG_PLIM p) ≤ window
      let bridge := s.isTarget p = true ∧ 4000 < x.bridge
      let counted := fun (u : State) => u.port[p].ledger.buckets.sum + u.port[p].ledger.bucket = window ∧
        (goesOn ∨ (l.episode = none ∧ begins) → u.port[p].ledger.episode = some e) ∧
        (¬goesOn → ¬(l.episode = none ∧ begins) → u.port[p].ledger.episode = none) ∧
        u.port[p].ledger.mv = x.mv ∧ u.port[p].ledger.line = x.line ∧ l.largest ≤ u.port[p].ledger.largest
      let opened := fun (c : Nat) (u : State) => u.on (F.P_CTL_EN p) = false ∧ u.on (F.P_STAT_BREACH p) = true ∧
        u.get (F.P_STAT_CAUSE p) = c ∧ u.pg (17 + p.val) = false ∧
        (s.on (F.P_STAT_BREACH p) = false → u.core.raised.getLsbD (3 + p.val) = true) ∧
        u.get (F.P_CNT_BREACHCNT p) = min (s.get (F.P_CNT_BREACHCNT p) + 1) 65535 ∧ inPort u
      (en = false ∨ ¬(short ∨ fault ∨ power ∨ bridge) → Gives (.portBreach p [x]) s (fun u => counted u ∧
        Frame [] [.port] [] s u)) ∧
      (en = true → short ∨ bridge → ¬fault → ¬power → Gives (.portBreach p [x]) s (fun u => counted u ∧ opened 1 u)) ∧
      (en = true → fault → ¬short → ¬power → ¬bridge → Gives (.portBreach p [x]) s (fun u => counted u ∧ opened 2 u)) ∧
      (en = true → power → ¬short → ¬fault → ¬bridge → Gives (.portBreach p [x]) s (fun u => counted u ∧ opened 3 u)) ∧
      (en = true → short ∨ fault ∨ power ∨ bridge → Gives (.portBreach p [x]) s (fun u => counted u ∧
        ∃ c, ((c = 1 ∧ (short ∨ bridge)) ∨ (c = 2 ∧ fault) ∨ (c = 3 ∧ power)) ∧ opened c u))) ∧
    (∀ v : Word,
      let inMeas := fun (fs : List Fld) (bs : List Block) (ks : List Nat) (u : State) =>
        FrameIn (at_ (F.P_MEAS_BUSY p)) fs bs ks s u
      let busy := s.on (F.P_MEAS_BUSY p)
      let result := fun (c : Nat) (u : State) => u.on (F.P_MEAS_BUSY p) = false ∧ u.get (F.P_MEAS_RESULT p) = c ∧
        u.on (F.P_MEAS_DONE p) = true ∧ u.on (F.P_STAT_STATEV p) = true ∧
        (s.on (F.P_STAT_STATEV p) = false → u.core.raised.getLsbD (14 + p.val) = true)
      (v.getLsbD 0 = false ∨ busy = true → Gives (.portMeas p 0 v) s (fun u => u.on (F.P_MEAS_BUSY p) = busy ∧
        inMeas [] [] [] u)) ∧
      (v.getLsbD 0 = true → busy = false →
        (s.modeForbidden p old = true → Gives (.portMeas p 0 v) s (fun u => result 6 u ∧
          u.get (F.P_STAT_REFCAUSE p) = 3 ∧ inMeas [F.P_STAT_REFCAUSE p, F.P_STAT_STATEV p] [] [14 + p.val] u)) ∧
        (s.modeForbidden p old = false → en = true ∨ s.on F.OTP_BOOT_PORTOFF = true →
          Gives (.portMeas p 0 v) s (fun u => result 6 u ∧ inMeas [F.P_STAT_STATEV p] [] [14 + p.val] u)) ∧
        (s.modeForbidden p old = false → en = false → s.on F.OTP_BOOT_PORTOFF = false →
          (s.stopping = true → Gives (.portMeas p 0 v) s (fun u => result 7 u ∧ u.port[p].meas = 0 ∧
            inMeas [F.P_STAT_STATEV p] [.port] [14 + p.val] u)) ∧
          (s.stopping = false → Gives (.portMeas p 0 v) s (fun u => u.on (F.P_MEAS_BUSY p) = true ∧
            u.on (F.P_MEAS_MEASOK p) = false ∧ u.port[p].meas = 1 ∧ u.port[p].bootEnable = false ∧
            inMeas [] [.port] [] u))))) ∧
    (s.on (F.P_MEAS_BUSY p) = true → ∀ below : Bool,
      let ends := fun (code : Nat) (u : State) => u.on (F.P_MEAS_BUSY p) = false ∧ u.get (F.P_MEAS_RESULT p) = code ∧
        u.on (F.P_MEAS_DONE p) = true ∧ u.on (F.P_STAT_STATEV p) = true ∧ u.port[p].meas = 0 ∧
        (s.on (F.P_STAT_STATEV p) = false → u.core.raised.getLsbD (14 + p.val) = true) ∧
        (code ≠ 1 → u.get (F.P_MEAS_MEASOK p) = s.get (F.P_MEAS_MEASOK p)) ∧
        (code ≠ 1 ∨ s.port[p].bootEnable = false →
          FrameIn (at_ (F.P_MEAS_BUSY p) ++ at_ (F.P_MEASE_E p)) [F.P_STAT_STATEV p, F.P_STAT_FOREIGN p] [.port]
            [14 + p.val] s u)
      (∀ mv, s.port[p].meas = 1 →
        (mv ≤ 3000 → Gives (.measPhaseEnd p (.discharged mv) below) s (fun u => u.port[p].meas = 2 ∧
          Frame [] [.port] [] s u)) ∧
        (3000 < mv → mv ≤ 12000 → Gives (.measPhaseEnd p (.discharged mv) below) s (ends 3)) ∧
        (12000 < mv → Gives (.measPhaseEnd p (.discharged mv) below) s (fun u => ends 5 u ∧
          u.on (F.P_STAT_FOREIGN p) = true))) ∧
      (∀ ns, s.port[p].meas = 2 → ns ≤ 50000000 → Gives (.measPhaseEnd p (.stepped ns) below) s (fun u =>
        u.port[p].meas = 3 ∧ u.port[p].t1 = ns ∧ Frame [] [.port] [] s u)) ∧
      (s.port[p].meas = 2 ∨ s.port[p].meas = 3 → Gives (.measPhaseEnd p .late below) s (ends 3) ∧
        ∀ ns, 50000000 < ns → Gives (.measPhaseEnd p (.stepped ns) below) s (ends 3)) ∧
      (∀ t2, s.port[p].meas = 3 → t2 ≤ 50000000 →
        let t1 := s.port[p].t1
        let volt := if s.isTarget p then 420 else 240 + min (s.get (F.P_LINE_MARK p)) s.markCap
        let e := (105 * (5 * t1 * t2) + 2000000 * (t1 - t2)) * (volt * volt)
        let top := s.get (F.P_LEDG_ESTORE p) * 2000000000000 * (t1 - t2)
        let near := fun (x num den : Nat) => x = min 65535 (num / den) ∨ x = min 65535 (num / den + 1)
        let measured := fun (u : State) => near (u.get (F.P_MEAS_CNF p)) (5 * t1 * t2) (10000 * (t1 - t2)) ∧
          near (u.get (F.P_MEASE_E p)) e (20000000000 * (t1 - t2)) ∧
          (2 * t2 ≤ t1 → near (u.get (F.P_MEASE_IL p)) (1000 * (t1 - 2 * t2)) (t1 - t2))
        (t1 ≤ t2 → Gives (.measPhaseEnd p (.stepped t2) below) s (fun u => ends 2 u ∨ ends 4 u)) ∧
        (t2 < t1 → 6 * t2 ≤ t1 → Gives (.measPhaseEnd p (.stepped t2) below) s (fun u => ends 4 u ∧ measured u)) ∧
        (t2 < t1 → t1 < 6 * t2 → top < e → Gives (.measPhaseEnd p (.stepped t2) below) s (fun u =>
          ends 2 u ∧ measured u)) ∧
        (t2 < t1 → t1 < 6 * t2 → e ≤ top →
          (s.port[p].bootEnable = false → Gives (.measPhaseEnd p (.stepped t2) below) s (fun u => ends 1 u ∧
            measured u ∧ u.on (F.P_MEAS_MEASOK p) = (!s.port[p].measVoid || s.on (F.P_MEAS_MEASOK p)))) ∧
          (s.port[p].bootEnable = true → s.port[p].measVoid = false → s.modeForbidden p old = false → en = false →
            s.stopping = false → s.on F.OTP_BOOT_PORTOFF = false → s.isTarget p = true ∨ below = true →
            s.cutActive = false → s.get (F.P_IBASE_IBASE p) < 150 * s.get (F.P_RX_ULMAX p) + 75 →
            Gives (.measPhaseEnd p (.stepped t2) below) s (fun u => ends 1 u ∧ measured u ∧
              u.on (F.P_CTL_EN p) = true ∧ u.on (F.P_STAT_ON p) = true ∧ u.on (F.P_STAT_RAMPING p) = true))))) ∧
    (en = false → s.on (F.P_MEAS_MEASOK p) = true → Gives (.measokExpire p) s (fun u =>
      u.on (F.P_MEAS_MEASOK p) = false ∧ Frame [F.P_MEAS_MEASOK p] [] [] s u)) ∧
    (en = true → s.on (F.P_STAT_RAMPING p) = true → Gives (.portRampEnd p) s (fun u =>
      u.on (F.P_STAT_RAMPING p) = false ∧ Frame [F.P_STAT_RAMPING p] [] [] s u)) ∧
    (∀ (v : Word) (mark : Bool),
      let go := v.getLsbD 0 = true ∧ s.on (F.P_CAL_BUSY p) = false
      let fit := s.isTarget p = false ∧ en = true ∧ s.pg (17 + p.val) = true ∧ s.port[p].exch = none ∧ mark = true
      (¬go → Gives (.portCal p 0 v mark) s (fun u => u = s)) ∧
      (go → s.modeForbidden p old = false → fit → Gives (.portCal p 0 v mark) s (fun u =>
        u.on (F.P_CAL_BUSY p) = true ∧ Frame [F.P_CAL_BUSY p] [] [] s u)) ∧
      (go → s.modeForbidden p old = true ∨ ¬fit → Gives (.portCal p 0 v mark) s (fun u =>
        u.get (F.P_CAL_RESULT p) = 4 ∧ u.on (F.P_STAT_STATEV p) = true ∧
        (s.modeForbidden p old = true → u.get (F.P_STAT_REFCAUSE p) = 3) ∧
        (s.modeForbidden p old = false → u.get (F.P_STAT_REFCAUSE p) = s.get (F.P_STAT_REFCAUSE p)) ∧
        Frame [F.P_CAL_RESULT p, F.P_STAT_REFCAUSE p, F.P_STAT_STATEV p] [] [14 + p.val] s u))) ∧
    (∀ cs : List Nat, s.on (F.P_CAL_BUSY p) = true → cs.length = 64 →
      (∀ x ∈ cs, ∀ y ∈ cs, x + 400 < y → Gives (.portCalDone p cs) s (fun u => u.on (F.P_CAL_BUSY p) = false ∧
        u.get (F.P_CAL_RESULT p) = 2 ∧ u.on (F.P_STAT_STATEV p) = true ∧
        Frame [F.P_CAL_BUSY p, F.P_CAL_RESULT p, F.P_STAT_STATEV p] [] [14 + p.val] s u)) ∧
      ((∀ x ∈ cs, ∀ y ∈ cs, y ≤ x + 400) → Gives (.portCalDone p cs) s (fun u => u.on (F.P_CAL_BUSY p) = false ∧
        u.get (F.P_CAL_RESULT p) = 1 ∧ u.on (F.P_STAT_STATEV p) = true ∧ overUl u ∧
        (u.get (F.P_IBASE_IBASE p) = min 65535 (cs.sum / 64) ∨
          (cs.sum % 64 ≠ 0 ∧ u.get (F.P_IBASE_IBASE p) = min 65535 (cs.sum / 64 + 1))))))

/-- The engine as master: the doorbell; the choice of the next entry, its skipped periods, the checks of an entry in
their order with the result each gives, and the start of an exchange with its request frame; the judgement of a reply;
the end of a try, in a retry, the next step or the end of the exchange with its storage; the characters before a gap
that are not heard; and resynchronisation. Each changes the port, its framer, the entry and its buffer alone. The
model's readings are in log entry 42. -/
def Obligations.EngineAsMaster : Prop :=
  ∀ (s : State) (p : Fin 2),
    let plain := fun (bs : List Byte) => bs.map (fun b => (⟨b, false, false⟩ : RxChar))
    let y := s.port[p]
    let base := 0x40014000 + 0x1000 * p.val
    let inEngine := fun (u : State) =>
      OnlyRanges s u [(base, base + 0x1000), (0x4001F000 + 0x1000 * p.val, 0x40020000 + 0x1000 * p.val)] [] ∧
        BlocksBut [.port] s u ∧ (∀ q : Fin 2, q ≠ p → u.port[q] = s.port[q]) ∧ ProgramsSame s u ∧
        u.core.sb = s.core.sb ∧ u.core.latch = s.core.latch ∧ u.pending = s.pending ∧
        ∀ k, k ≠ 12 + p.val → k ≠ 14 + p.val → u.core.raised.getLsbD k = s.core.raised.getLsbD k
    (∀ body : List Byte, 3 ≤ body.length → body.length ≤ 255 →
      judge (plain (longFrame body)) = ⟨0, .long, body, body.length, true, []⟩) ∧
    (∀ c a : Byte, judge (plain (shortFrame c a)) = ⟨0, .short, [c, a], 2, true, []⟩) ∧
    (∀ (ring : Ring) (v : Word), s.portLive p = true →
      (ring.val ≤ 1 → y.door = none → Gives (.engDoorbell p ring v) s (fun u => u.port[p].door = some (bitsOf v 0 9) ∧
        u.on (F.P_ENG_DOOR_PEND p) = true ∧ Frame [F.P_ENG_DOOR_PEND p] [.port] [] s u)) ∧
      (ring.val ≤ 1 → y.door ≠ none → Gives (.engDoorbell p ring v) s (fun u =>
        u.on (F.P_ENG_STAT_DOORBUSY p) = true ∧ Frame [F.P_ENG_STAT_DOORBUSY p] [] [] s u)) ∧
      (2 ≤ ring.val → Gives (.engDoorbell p ring v) s (fun u => u = s))) ∧
    (∀ i, s.entFirst p = some i → s.entDue p i = true ∧ ∀ j, j < 512 → s.entDue p j = true →
      sincePassed s.esec (s.entNext j) ≤ sincePassed s.esec (s.entNext i) ∧
        (sincePassed s.esec (s.entNext j) = sincePassed s.esec (s.entNext i) → i ≤ j)) ∧
    (∀ (i : Nat) (door : Bool), s.engLive p = true → s.isTarget p = false → y.exch = none → y.resync = false →
      s.stopping = false → i < 512 →
      (if door then y.door = some i else y.door = none ∧ s.entFirst p = some i) →
      let k := if door then 0 else s.entLate i
      let skipped : List CqEntry := if k = 0 then [] else [⟨i, false, 0x33⟩]
      let readable := s.engAllows p (entAddr i) 0x18 true false
      let good := s.entOk i = true ∧ (door = true → s.entValid i = true ∧ s.entPort i = p.val)
      let fits := bufOk (s.entBuf i) (s.entBufsz i)
      let held := s.entKind i ≠ 2 ∧ (s.byte (s.entBuf i + 3)).getLsbD 0 = true
      let taken := fun (u : State) => u.port[p].door = none ∧ (door = true → u.on (F.P_ENG_DOOR_PEND p) = false) ∧
        (∀ b, b < entAddr i + 0x18 ∨ entAddr i + 0x20 ≤ b → u.byte b = s.byte b) ∧ inEngine u
      let unserved := fun (code skips : Nat) (told : List CqEntry) (u : State) => taken u ∧ u.port[p].exch = none ∧
        u.byte (entAddr i + 0x18) = BitVec.ofNat 8 code ∧ u.entSkip i = min 65535 (s.entSkip i + skips) ∧
        u.entNext i = s.entServed i k door % 2 ^ 32 ∧ u.entInit i = s.entInit i ∧ u.entFcb i = s.entFcb i ∧
        (y.cq.length + (skipped ++ told).length ≤ 16 → u.port[p].cq = y.cq ++ skipped ++ told ∧
          (skipped ++ told ≠ [] → u.core.raised.getLsbD (12 + p.val) = true))
      (readable = false → Gives (.exchangeStart p) s (fun u => unserved 0x31 k [⟨i, false, 0x31⟩] u ∧
        u.on (F.P_ENG_STAT_REGION p) = true)) ∧
      (readable = true → ¬good → Gives (.exchangeStart p) s (unserved 0x40 k [⟨i, false, 0x40⟩])) ∧
      (readable = true → good →
        (fits = false → Gives (.exchangeStart p) s (unserved 0x30 k [])) ∧
        (fits = true → s.frameAllowed p i = false → Gives (.exchangeStart p) s (fun u =>
          unserved 0x31 k [⟨i, false, 0x31⟩] u ∧ u.on (F.P_ENG_STAT_REGION p) = true)) ∧
        (fits = true → s.frameAllowed p i = true → held → Gives (.exchangeStart p) s (unserved 0x32 (k + 1) [])) ∧
        (fits = true → s.frameAllowed p i = true → ¬held → Gives (.exchangeStart p) s (fun u => taken u ∧
          u.port[p].exch = some ⟨i, door, s.firstStep i, 0, k, false, s.entInit i, s.entFcb i⟩ ∧
          u.on (F.P_ENG_CUR_ACTIVE p) = true ∧ u.get (F.P_ENG_CUR_INDEX p) = i ∧
          (k = 0 → u.mem = s.mem) ∧
          (k ≠ 0 → u.byte (entAddr i + 0x18) = 0x33 ∧ u.entSkip i = min 65535 (s.entSkip i + k)) ∧
          (s.on (F.P_CAL_BUSY p) = true → u.on (F.P_CAL_BUSY p) = false ∧ u.get (F.P_CAL_RESULT p) = 3) ∧
          (s.firstStep i = .nke → u.port[p].sentBytes = [0x10, 0x40, BitVec.ofNat 8 (if s.entKind i = 1 then 253 else
            s.entAdr i), 0x40 + BitVec.ofNat 8 (if s.entKind i = 1 then 253 else s.entAdr i), 0x16]) ∧
          (s.firstStep i = .request → s.entKind i = 0 →
            let c : Byte := if s.entFcb i then 0x7B else 0x5B
            let a := BitVec.ofNat 8 (s.entAdr i)
            u.port[p].sentBytes = [0x10, c, a, c + a, 0x16]) ∧
          (s.firstStep i = .request → s.entKind i = 2 →
            let len := (s.byte (s.entBuf i)).toNat + 256 * (s.byte (s.entBuf i + 1)).toNat
            1 ≤ len → len ≤ bufSize (s.entBufsz i) - 8 → u.port[p].sentBytes =
              longFrame ([if s.entFcb i then 0x73 else 0x53, BitVec.ofNat 8 (s.entAdr i)] ++
                s.bytes (s.entBuf i + 8) len)) ∧
          (s.firstStep i = .select → u.port[p].sentBytes =
            longFrame ([0x53, 0xFD, 0x52] ++ s.bytes (entAddr i + 0x10) 8)))))) ∧
    (y.door = none → s.entFirst p = none → Gives (.exchangeStart p) s (fun u => u = s)) ∧
    (∀ x : Exch, y.exch = some x → x.index < 512 → bufOk (s.entBuf x.index) (s.entBufsz x.index) = true →
      let i := x.index
      let buf := s.entBuf i
      let cap := bufSize (s.entBufsz i) - 8
      let alone := fun (u : State) => inEngine u ∧
        ∀ b, (b < entAddr i + 0x18 ∨ entAddr i + 0x20 ≤ b) → (b < buf ∨ buf + cap + 8 ≤ b) → u.byte b = s.byte b
      let counts := fun (code : Nat) (u : State) =>
        u.get (F.P_ENG_CNT_EXCH p) = min (s.get (F.P_ENG_CNT_EXCH p) + 1) (2 ^ (F.P_ENG_CNT_EXCH p).width - 1) ∧
        u.get (F.P_ENG_CNT_ERRS p) = min (s.get (F.P_ENG_CNT_ERRS p) + (if 0x10 ≤ code ∧ code ≤ 0x21 then 1 else 0))
          (2 ^ (F.P_ENG_CNT_ERRS p).width - 1)
      let ended := fun (code : Nat) (init fcb : Bool) (u : State) => u.port[p].exch = none ∧
        u.on (F.P_ENG_CUR_ACTIVE p) = false ∧ u.core.raised.getLsbD (12 + p.val) = true ∧
        u.byte (entAddr i + 0x18) = BitVec.ofNat 8 code ∧
        u.byte (entAddr i + 0x19) = BitVec.ofNat 8 ((if init then 1 else 0) + (if fcb then 2 else 0)) ∧
        u.entNext i = s.entServed i x.k x.door % 2 ^ 32 ∧ u.entSkip i = s.entSkip i ∧
        u.byte (buf + 2) = BitVec.ofNat 8 code ∧ (u.byte (buf + 3)).getLsbD 0 = true ∧
        (s.entEv i = true → y.cq.length < 16 → u.port[p].cq = y.cq ++ [⟨i, false, code⟩]) ∧
        (s.entEv i = false → u.port[p].cq = y.cq) ∧ (y.haltAfter = true → u.on (F.P_ENG_CTL_RUN p) = false) ∧
        alone u
      let sends := fun (z : Exch) (u : State) => u.port[p].exch = some { z with sent := false } ∧
        u.port[p].sentBytes = s.requestFrame i z.step z.fcb ∧ u.port[p].cq = y.cq ∧ u.mem = s.mem ∧ inEngine u
      let retries := x.tries < s.entRetry i ∧ s.engLive p = true ∧ s.stopping = false ∧ y.haltAfter = false
      let granted := s.engAllows p (entAddr i) 0x18 true false = true ∧ s.frameAllowed p i = true
      let failed := fun (code : Nat) (u : State) =>
        let shown := match x.step with
          | .nke => 0x20
          | .select => 0x21
          | .request => code
        (retries → granted → sends { x with tries := x.tries + 1 } u ∧ counts code u) ∧
        (retries → ¬granted → u.port[p].exch = none ∧ u.byte (entAddr i + 0x18) = 0x31 ∧
          u.on (F.P_ENG_STAT_REGION p) = true ∧ counts code u ∧ alone u) ∧
        (¬retries → ended shown x.init x.fcb u ∧ counts shown u)
      (x.sent = false → x.step ≠ .request ∨ s.entKind i ≠ 2 ∨ s.entAdr i ≠ 255 →
        Gives (.requestSent p) s (fun u => u.port[p].exch = some { x with sent := true } ∧ Frame [] [.port] [] s u)) ∧
      (x.sent = false → x.step = .request → s.entKind i = 2 → s.entAdr i = 255 →
        Gives (.requestSent p) s (fun u => ended 0x01 x.init (!x.fcb) u ∧ counts 0x01 u)) ∧
      (x.sent = true → Gives (.replyTimeout p) s (failed 0x10)) ∧
      (x.sent = true → s.isTarget p = false → s.engLive p = true → y.ignoring = false → y.junk = false →
        Gives (.rxGapTimeout p) s (failed 0x12) ∧
        ∀ cs, cs ≠ [] →
          let j := judge cs
          let code := if j.code ≠ 0 then j.code
            else if x.step ≠ .request ∨ s.entKind i = 2 then (if j.form = .ack then 0 else 0x12)
            else if j.form = .ack then 0x12
            else if s.entKind i = 1 ∨ s.entAdr i = 254 ∨ (j.body.getD 1 0).toNat = s.entAdr i then 0 else 0x14
          let stored := fun (u : State) => s.entKind i ≠ 2 → j.form ≠ .ack → 
            (j.len ≤ cap → j.full = true → u.bytes (buf + 8) j.body.length = j.body ∧
              u.byte buf = BitVec.ofNat 8 j.body.length ∧ u.byte (buf + 1) = BitVec.ofNat 8 (j.body.length / 256) ∧
              (u.byte (buf + 3)).getLsbD 1 = false) ∧
            (cap < j.len → u.bytes (buf + 8) (min cap j.body.length) = j.body.take cap ∧
              (u.byte (buf + 3)).getLsbD 1 = true)
          (code ≠ 0 → Gives (.replyReceived p cs) s (fun u => failed code u ∧
            (¬retries → x.step = .request → stored u))) ∧
          (code = 0 → x.step = .request → Gives (.replyReceived p cs) s (fun u =>
            let shown := if j.form ≠ .ack ∧ cap < j.len then 0x02 else 0x01
            ended shown x.init (!x.fcb) u ∧ counts shown u ∧ stored u)) ∧
          (code = 0 → s.stopping = false → x.step = .nke → Gives (.replyReceived p cs) s (sends { x with
            init := true, fcb := true, step := if s.entKind i = 1 then .select else .request, tries := 0 })) ∧
          (code = 0 → s.stopping = false → x.step = .select → Gives (.replyReceived p cs) s (sends { x with
            step := .request, tries := 0 })) ∧
          (code = 0 → s.stopping = true → x.step ≠ .request → Gives (.replyReceived p cs) s (fun u =>
            u.port[p].exch = none ∧ u.byte (entAddr i + 0x18) = 0x34 ∧ alone u)))) ∧
    (∀ cs, s.engLive p = true → s.isTarget p = false → (∀ x, y.exch = some x → x.sent = true) →
      (y.ignoring = true → afterGap cs = [] → Gives (.replyReceived p cs) s (fun u => u = s)) ∧
      (y.ignoring = true → y.junk = false → afterGap cs ≠ [] → exec (.replyReceived p cs) s =
        exec (.replyReceived p (afterGap cs)) (s.portUpd p (fun z => { z with ignoring := false }))) ∧
      (y.ignoring = false → y.junk = true → afterGap cs = [] → Gives (.replyReceived p cs) s (fun u =>
        u.get (F.P_ENG_JUNK_JUNK p) =
          min (s.get (F.P_ENG_JUNK_JUNK p) + cs.length) (2 ^ (F.P_ENG_JUNK_JUNK p).width - 1) ∧
        Frame [F.P_ENG_JUNK_JUNK p] [.port] [] s u))) ∧
    (s.engLive p = true → s.isTarget p = false → y.resync = true → Gives (.engineResync p) s (fun u =>
      let granted := fun (i : Nat) => s.engAllows p (entAddr i) 0x18 true false = true ∧
        s.engAllows p (entAddr i + 0x18) 8 true true = true
      u.port[p].resync = false ∧ u.port[p].exch = y.exch ∧ inEngine u ∧
      (∀ i, i < 512 → s.entDue p i = true →
        u.entNext i = s.entServed i (s.entLate i) false % 2 ^ 32 ∧ u.entSkip i = s.entSkip i ∧
        (granted i → u.byte (entAddr i + 0x18) = s.byte (entAddr i + 0x18)) ∧
        (¬granted i → u.byte (entAddr i + 0x18) = 0x31 ∧ u.on (F.P_ENG_STAT_REGION p) = true)) ∧
      (∀ b, (∀ i, i < 512 → s.entDue p i = true → b < entAddr i + 0x18 ∨ entAddr i + 0x20 ≤ b) →
        u.byte b = s.byte b)))

/-- The engine as target: SND_NKE, REQ_UD1 and REQ_UD2 to its own address, to 254, or to 253 while selected; frames it
stores, acknowledges and reports, those to 255 without an answer; a selection, which waits for a decision; requests to
others, which it ignores; a telegram in error; telegrams one after the other; its answer, which waits for 11 bit times
of mark and starts none during a stop; and the decisions on a selection. Each changes nothing else. The model's
readings are in log entry 43. -/
def Obligations.EngineAsTarget : Prop :=
  ∀ (s : State) (p : Fin 2),
    let plain := fun (bs : List Byte) => bs.map (fun b => (⟨b, false, false⟩ : RxChar))
    let y := s.port[p]
    let live := s.engLive p = true ∧ s.isTarget p = true
    let hears := live ∧ y.ignoring = false ∧ y.junk = false
    let fields := [F.P_ENG_JUNK_JUNK p, F.P_ENG_STAT_CQOVF p]
    let inTarget := fun (fs : List Fld) (u : State) => OnlyFields s u (fs ++ fields) ∧ BlocksBut [.port] s u ∧
      (∀ q : Fin 2, q ≠ p → u.port[q] = s.port[q]) ∧ CoreBut [12 + p.val] s u ∧ u.pending = s.pending
    let quiet := fun (u : State) => u.port[p].cq = y.cq ∧ u.core = s.core ∧ u.mem = s.mem
    let reports := fun (code : Nat) (u : State) =>
      (y.cq.length < 16 → (∃ i, i < 512 ∧ u.port[p].cq = y.cq ++ [⟨i, true, code⟩]) ∧
        u.core.raised.getLsbD (12 + p.val) = true) ∧
      (16 ≤ y.cq.length → u.port[p].cq = y.cq ∧ u.on (F.P_ENG_STAT_CQOVF p) = true)
    let answers := fun (bs : List Byte) (code : Nat) (u : State) =>
      u.port[p].answer = (if s.stopping then y.answer else some (bs, code))
    let selected := s.on (F.P_TSEL_SELECTED p)
    let mine := fun (a : Byte) => a.toNat = s.get (F.P_TSET_TADDR p) ∨ a = 0xFE ∨ (a = 0xFD ∧ selected = true)
    (hears → ∀ a : Byte,
      (mine a → Gives (.targetFrame p (plain (shortFrame 0x40 a))) s (fun u => answers [0xE5] 0 u ∧ quiet u ∧
        (a = 0xFD → u.on (F.P_TSEL_SELECTED p) = false) ∧
        (a ≠ 0xFD → u.get (F.P_TSEL_SELECTED p) = s.get (F.P_TSEL_SELECTED p)) ∧ inTarget [F.P_TSEL_SELECTED p] u)) ∧
      (∀ c : Byte, c = 0x5A ∨ c = 0x7A → mine a → Gives (.targetFrame p (plain (shortFrame c a))) s (fun u =>
        answers [0xE5] 0 u ∧ quiet u ∧ inTarget [] u)) ∧
      (∀ c : Byte, (¬mine a ∧ a ≠ 0xFF) ∨ (c ≠ 0x40 ∧ c ≠ 0x5A ∧ c ≠ 0x7A ∧ c ≠ 0x5B ∧ c ≠ 0x7B) →
        Gives (.targetFrame p (plain (shortFrame c a))) s (fun u => u.port[p].answer = y.answer ∧ quiet u ∧
          inTarget [] u)) ∧
      (∀ c : Byte, c = 0x5B ∨ c = 0x7B → mine a ∨ a = 0xFF →
        let buf := s.trsp p
        let usable := bufOk buf.1 buf.2 = true ∧ s.engAllows p buf.1 (bufSize buf.2) true false = true
        let new := (s.byte (buf.1 + 3)).getLsbD 0
        (usable → new = true → Gives (.targetFrame p (plain (shortFrame c a))) s (fun u => quiet u ∧
          (mine a → answers (s.trspFrame p) 0x52 u) ∧ (¬mine a → u.port[p].answer = y.answer) ∧ inTarget [] u)) ∧
        (usable → new = false → Gives (.targetFrame p (plain (shortFrame c a))) s (fun u =>
          u.port[p].answer = y.answer ∧ reports 0x53 u ∧ u.mem = s.mem ∧ inTarget [] u)) ∧
        (bufOk buf.1 buf.2 = true → ¬usable → Gives (.targetFrame p (plain (shortFrame c a))) s (fun u =>
          u.port[p].answer = y.answer ∧ quiet u ∧ u.on (F.P_ENG_STAT_REGION p) = true ∧
          inTarget [F.P_ENG_STAT_REGION p] u))) ∧
      (∀ (c ci : Byte) (rest : List Byte), c = 0x53 ∨ c = 0x73 → rest.length ≤ 252 →
        let body := [c, a, ci] ++ rest
        let cs := plain (longFrame body)
        let buf := s.trcv p
        let cap := bufSize buf.2 - 8
        let fits := bufOk buf.1 buf.2 = true
        let usable := s.engAllows p buf.1 (bufSize buf.2) true true = true
        let select := ci = 0x52 ∨ ci = 0x56
        let wanted := (select ∧ a = 0xFD) ∨ (¬select ∧ (mine a ∨ a = 0xFF))
        let stored := fun (u : State) => u.bytes (buf.1 + 8) (min cap body.length) = body.take cap ∧
          (u.byte (buf.1 + 3)).getLsbD 0 = true ∧ (u.byte (buf.1 + 3)).getLsbD 1 = decide (cap < body.length) ∧
          ∀ b, b < buf.1 ∨ buf.1 + bufSize buf.2 ≤ b → u.byte b = s.byte b
        (¬wanted → Gives (.targetFrame p cs) s (fun u => u.port[p].answer = y.answer ∧ quiet u ∧ inTarget [] u)) ∧
        (wanted → fits → ¬usable → Gives (.targetFrame p cs) s (fun u => u.port[p].answer = y.answer ∧ quiet u ∧
          u.on (F.P_ENG_STAT_REGION p) = true ∧ inTarget [F.P_ENG_STAT_REGION p] u)) ∧
        (wanted → fits → usable → ¬select → Gives (.targetFrame p cs) s (fun u => reports 0x50 u ∧ stored u ∧
          (mine a → answers [0xE5] 0 u) ∧ (¬mine a → u.port[p].answer = y.answer) ∧ inTarget [] u)) ∧
        (wanted → fits → usable → select → Gives (.targetFrame p cs) s (fun u => reports 0x51 u ∧ stored u ∧
          u.on (F.P_TSEL_DECIDE p) = true ∧ u.port[p].answer = y.answer ∧ inTarget [F.P_TSEL_DECIDE p] u)))) ∧
    (hears → (∀ cs, cs ≠ [] → (judge cs).code ≠ 0 → afterGap (judge cs).rest = [] →
        Gives (.targetFrame p cs) s (fun u => reports 0x54 u ∧ u.port[p].answer = y.answer ∧ u.mem = s.mem ∧
          inTarget [] u)) ∧
      (∀ (c a : Byte) (d : RxChar) ds v, d.gapBefore = true →
        exec (.targetFrame p (plain (shortFrame c a))) s = .next v →
        exec (.targetFrame p (plain (shortFrame c a) ++ d :: ds)) s = exec (.targetFrame p (d :: ds)) v) ∧
      Gives (.rxGapTimeout p) s (fun u => reports 0x54 u ∧ u.port[p].answer = y.answer ∧ u.mem = s.mem ∧
        inTarget [] u)) ∧
    (∀ bs code, live → y.answer = some (bs, code) →
      (s.stopping = true → Gives (.targetAnswer p) s (fun u => u = s)) ∧
      (s.stopping = false → y.txWait = true → Gives (.targetAnswer p) s (fun u => u.on (F.P_STAT_TXHOLD p) = true ∧
        Frame [F.P_STAT_TXHOLD p] [] [] s u)) ∧
      (s.stopping = false → y.txWait = false → Gives (.targetAnswer p) s (fun u => u.port[p].answer = none ∧
        u.port[p].sentBytes = bs ∧ u.on (F.P_STAT_TXHOLD p) = false ∧ (code = 0 → u.port[p].cq = y.cq) ∧
        (code ≠ 0 → reports code u) ∧ u.mem = s.mem ∧ OnlyFields s u (F.P_STAT_TXHOLD p :: fields) ∧
        BlocksBut [.port] s u ∧ ProgramsSame s u ∧ u.core.sb = s.core.sb ∧ u.pending = s.pending))) ∧
    (∀ ring : Ring, s.portLive p = true →
      (2 ≤ ring.val → Gives (.tselAccept p ring) s (fun u => u = s) ∧ Gives (.tselReject p ring) s (fun u => u = s)) ∧
      (ring.val ≤ 1 → s.on (F.P_TSEL_DECIDE p) = true → Gives (.tselAccept p ring) s (fun u =>
        u.on (F.P_TSEL_DECIDE p) = false ∧ u.on (F.P_TSEL_SELECTED p) = true ∧ answers [0xE5] 0 u ∧
        Frame [F.P_TSEL_DECIDE p, F.P_TSEL_SELECTED p] [.port] [] s u)) ∧
      (s.on (F.P_TSEL_DECIDE p) = false → Gives (.tselAccept p ring) s (fun u => u = s)) ∧
      (ring.val ≤ 1 → Gives (.tselReject p ring) s (fun u => u.on (F.P_TSEL_DECIDE p) = false ∧
        u.on (F.P_TSEL_SELECTED p) = false ∧ Frame [F.P_TSEL_DECIDE p, F.P_TSEL_SELECTED p] [] [] s u))) ∧
    (s.portLive p = true → s.on (F.P_TSEL_DECIDE p) = true → Gives (.selectionTimeout p) s (fun u =>
      u.on (F.P_TSEL_DECIDE p) = false ∧ u.on (F.P_TSEL_SELECTED p) = false ∧
      Frame [F.P_TSEL_DECIDE p, F.P_TSEL_SELECTED p] [] [] s u))

/-! ## Host windows -/

/-- The host windows, each command with its frame: addressing, also in CALM; a command frame, on the two-wire bus and
on a UART, that commits, replays, or is discarded with its flag (no credit, an unassigned code, a reserved length bit,
a payload too long, a wrong CRC, a character in error) or without one (broken off); how a transfer ends; the reading
of the status block and the response; POLL; dispatch in turn and its hold; service commands; and the completion of a
command through its execution port. The model's readings are in log entry 44. -/
def Obligations.HostWindows : Prop :=
  ∀ (s : State) (w : Fin 4), s.hostLive = true →
    let x := s.win w
    let frame := fun (c q : Byte) (quiet : Bool) (pay : List Byte) (bad : Byte) =>
      let hd : List Byte := [c, BitVec.ofNat 8 pay.length,
        BitVec.ofNat 8 (pay.length / 256 + (if quiet then 16 else 0)), q]
      hd ++ pay ++ [crc8 (hd ++ pay) ^^^ bad]
    let only := fun (y : Win) (u : State) => u.win w = y ∧ ∀ v : Fin 4, v ≠ w → u.win v = s.win v
    let lands := fun (c q : Byte) (quiet : Bool) (pay : List Byte) (u : State) =>
      u.get (F.HOST_CNT_COMMITS w) = min (s.get (F.HOST_CNT_COMMITS w) + 1) 65535 ∧
      only (if x.lvalid = true ∧ x.lseq = q then x else { x with
        queue := x.queue ++ [⟨c, q, quiet, pay⟩], lseq := q, lvalid := true, done := false,
        slot := some ⟨c, q, 1, []⟩ }) u
    let drops := fun (y : Win) (u : State) =>
      u.get (F.HOST_CNT_DISCARDS w) = min (s.get (F.HOST_CNT_DISCARDS w) + 1) 65535 ∧ only y u
    let cleared := { x with resetSeen := false, lenExcess := false, busy := false, crcErr := false, fmtErr := false }
    let counters := [F.HOST_CNT_COMMITS w, F.HOST_CNT_DISCARDS w]
    let completed := fun (c : HostCmd) (code : Nat) (data : List Byte) (u : State) =>
      only (if x.queue.tail = [] then { x with
          queue := [], cseq := c.seq, cres := code, done := true,
          slot := some ⟨c.code, c.seq, code, if c.quiet then [] else data⟩ }
        else { x with queue := x.queue.tail, cseq := c.seq, cres := code }) u
    (bitsOf (s.statusWord w) 0 8 = x.lseq.toNat ∧ bitsOf (s.statusWord w) 8 8 = x.cseq.toNat ∧
      (x.queue.length ≤ 4 → bitsOf (s.statusWord w) 16 3 = 4 - x.queue.length) ∧
      (s.statusWord w).getLsbD 19 = x.lvalid ∧ (s.statusWord w).getLsbD 20 = x.done ∧
      (s.statusWord w).getLsbD 26 = (s.hostHeld && s.winBound w) ∧ bitsOf (s.statusWord w) 28 4 = x.cres % 16) ∧
    (∀ i : Fin 2,
      let ends := fun (e : TwEnd) (u : State) => u.host.twOut[1 - i] = s.host.twOut[1 - i] ∧
        (e = .timeout → s.on (F.TW_CFG_TOEN i) = false → u.on (F.TW_STAT_ACTIVE i) = true) ∧
        (e ≠ .timeout ∨ s.on (F.TW_CFG_TOEN i) = true → u.on (F.TW_STAT_ACTIVE i) = false) ∧
        (e = .busClear → u.on (F.TW_STAT_BCLR i) = true) ∧
        (e = .timeout → s.on (F.TW_CFG_TOEN i) = true → u.on (F.TW_STAT_TOUT i) = true ∧
          u.get (F.TW_CNT_TOCNT i) = min (s.get (F.TW_CNT_TOCNT i) + 1) 65535) ∧
        Frame ([F.TW_STAT_ACTIVE i, F.TW_STAT_TOUT i, F.TW_STAT_BCLR i, F.TW_CNT_TOCNT i, F.TW_CNT_NACKCNT i] ++
          counters) [.host] [] s u
      let nacks := fun (n : Nat) (u : State) =>
        u.get (F.TW_CNT_NACKCNT i) = min (s.get (F.TW_CNT_NACKCNT i) + n) 65535
      let acked := fun (l : List Bool) (u : State) => u.host.twAcks[i] = true :: l
      (∀ b : Byte, s.pwr.state ≠ .calm → s.core.awake = true →
        Gives (.twAddress i b) s (fun u => u.host.twAcks[i] = [(s.twWindow i (b.toNat / 2)).isSome] ∧
          u.on (F.TW_STAT_ACTIVE i) = ((s.twWindow i (b.toNat / 2)).isSome || s.on (F.TW_STAT_ACTIVE i)) ∧
          u.host.wins = s.host.wins ∧ Frame [F.TW_STAT_ACTIVE i] [.host] [] s u)) ∧
      (∀ b : Byte, s.pwr.state = .calm → s.twWindow i (b.toNat / 2) = none →
        Gives (.twAddress i b) s (fun u => u.host.twAcks[i] = [false] ∧ u.host.wins = s.host.wins ∧
          Frame [] [.host] [] s u)) ∧
      (∀ b : Byte, s.pwr.state = .calm → s.twWindow i (b.toNat / 2) = some w →
        Gives (.twAddress i b) s (fun u => u.host.twAcks[i] = [false] ∧ u.pwr.state = .run ∧
          u.get F.SYS_PWRCTL_WAKESRC = State.wakeCode .twAddress ∧ u.host.wins = s.host.wins ∧ ProgramsSame s u ∧
          u.mem = s.mem ∧
          OnlyRanges s u [(0x40002000, 0x40003000)] [F.SYS_PWRCTL_CALM, F.SYS_PWRCTL_WAKESRC, F.SYS_DOMSTAT_PG] ∧
          BlocksBut [.pwr, .nvc, .host] s u)) ∧
      (∀ (addr : BitVec 7) bs n e, s.pwr.state ≠ .calm → s.twAcked i addr.toNat = none →
        Gives (.twWriteFrame i addr bs e) s (fun u => u.host.twAcks[i] = [false] ∧ u.host.wins = s.host.wins ∧
          Frame [] [.host] [] s u) ∧
        Gives (.twRead i addr ⟨n, e⟩) s (fun u => u.host.twAcks[i] = [false] ∧ u.host.wins = s.host.wins ∧
          Frame [] [.host] [] s u)) ∧
      (∀ (addr : BitVec 7) (e : TwEnd), s.twAcked i addr.toNat = some w →
        (∀ (c q : Byte) (quiet : Bool) (pay : List Byte), cmdAssigned c = true → pay.length ≤ 1024 →
          x.queue.length < 4 →
          (∀ more : List Byte, Gives (.twWriteFrame i addr (frame c q quiet pay 0 ++ more) e) s (fun u =>
            lands c q quiet pay u ∧ acked (List.replicate (pay.length + 5) true ++ List.replicate more.length false) u ∧
            nacks (if more = [] then 0 else 1) u ∧ ends e u)) ∧
          (∀ bad : Byte, bad ≠ 0 → Gives (.twWriteFrame i addr (frame c q quiet pay bad) e) s (fun u =>
            drops { x with crcErr := true } u ∧ acked (List.replicate (pay.length + 4) true ++ [false]) u ∧
            nacks 1 u ∧ ends e u)) ∧
          (∀ k, k < pay.length + 5 → 1 ≤ k → s.twEnds i e = true →
            Gives (.twWriteFrame i addr ((frame c q quiet pay 0).take k) e) s (fun u => drops x u ∧
              acked (List.replicate k true) u ∧ nacks 0 u ∧ ends e u))) ∧
        (∀ (c : Byte) rest,
          (4 ≤ x.queue.length → Gives (.twWriteFrame i addr (c :: rest) e) s (fun u =>
            drops { x with busy := true } u ∧ acked (List.replicate (rest.length + 1) false) u ∧ nacks 1 u ∧
            ends e u)) ∧
          (x.queue.length < 4 → cmdAssigned c = false → Gives (.twWriteFrame i addr (c :: rest) e) s (fun u =>
            drops { x with fmtErr := true } u ∧ acked (List.replicate (rest.length + 1) false) u ∧ nacks 1 u ∧
            ends e u))) ∧
        (∀ (c l0 l1 q : Byte) (pay : List Byte), x.queue.length < 4 → cmdAssigned c = true →
          (32 ≤ l1.toNat → Gives (.twWriteFrame i addr ([c, l0, l1]) e) s (fun u =>
            drops { x with fmtErr := true } u ∧ acked [true, true, false] u ∧ nacks 1 u ∧ ends e u)) ∧
          (l1.toNat < 32 → 1024 < l0.toNat + 256 * (l1.toNat % 16) → pay.length = 1025 →
            Gives (.twWriteFrame i addr ([c, l0, l1, q] ++ pay) e) s (fun u =>
              drops { x with lenExcess := true } u ∧ acked (List.replicate 1028 true ++ [false]) u ∧ nacks 1 u ∧
              ends e u))) ∧
        Gives (.twWriteFrame i addr [] e) s (fun u => only x u ∧ acked [] u ∧ nacks 0 u ∧ ends e u) ∧
        (∀ n, Gives (.twRead i addr ⟨n, e⟩) s (fun u =>
          u.host.twOut[i] = (s.readBlock w ++ List.replicate n 0xFF).take n ∧
          only (if 5 ≤ n then cleared else x) u ∧ ends e u))) ∧
      (s.on (F.TW_CFG_TOEN i) = true → Gives (.sclTimeout i) s (fun u => u.on (F.TW_STAT_TOUT i) = true ∧
        u.on (F.TW_STAT_ACTIVE i) = false ∧ u.get (F.TW_CNT_TOCNT i) = min (s.get (F.TW_CNT_TOCNT i) + 1) 65535 ∧
        Frame [F.TW_STAT_TOUT i, F.TW_STAT_ACTIVE i, F.TW_CNT_TOCNT i] [] [] s u)) ∧
      (s.on (F.TW_CFG_TOEN i) = false → Gives (.sclTimeout i) s (fun u => u = s))) ∧
    (∀ f : Fin 3, s.uartWindow f = none → ∀ bs bad crc, Gives (.uartCommandFrame f bs bad) s (fun u => u = s) ∧
      Gives (.uartFrameGap f) s (fun u => u = s) ∧ Gives (.poll f crc) s (fun u => u = s)) ∧
    (∀ f : Fin 3, s.uartWindow f = some w →
      let inHost := Frame counters [.host] [] s
      (∀ (c q : Byte) (quiet : Bool) (pay : List Byte), cmdAssigned c = true → pay.length ≤ 1024 →
        x.queue.length < 4 →
        Gives (.uartCommandFrame f (frame c q quiet pay 0) none) s (fun u => lands c q quiet pay u ∧ inHost u) ∧
        (∀ k, k < pay.length + 5 → Gives (.uartCommandFrame f (frame c q quiet pay 0) (some k)) s (fun u =>
          drops { x with fmtErr := true } u ∧ inHost u)) ∧
        (∀ bad : Byte, bad ≠ 0 → Gives (.uartCommandFrame f (frame c q quiet pay bad) none) s (fun u =>
          drops { x with crcErr := true } u ∧ inHost u))) ∧
      (∀ (c : Byte) rest bad, c ≠ 0 →
        (4 ≤ x.queue.length → bad ≠ some 0 → Gives (.uartCommandFrame f (c :: rest) bad) s (fun u =>
          drops { x with busy := true } u ∧ inHost u)) ∧
        (x.queue.length < 4 → cmdAssigned c = false → Gives (.uartCommandFrame f (c :: rest) bad) s (fun u =>
          drops { x with fmtErr := true } u ∧ inHost u))) ∧
      Gives (.uartFrameGap f) s (fun u => drops x u ∧ inHost u) ∧
      (∀ crc : Byte,
        let polled := fun (u : State) =>
          (crc = 0 → u.host.uartOut[f] = 0xA5 :: s.readBlock w ∧ only cleared u ∧ Frame [] [.host] [] s u) ∧
          (crc ≠ 0 → drops { x with crcErr := true } u ∧ u.host.uartOut = s.host.uartOut ∧ inHost u)
        Gives (.poll f crc) s polled ∧ Gives (.uartCommandFrame f [0, 0, 0, 0, crc] none) s polled)) ∧
    (s.hostHeld = true ∨ s.winNext w = none → Gives (.commandDispatch w) s (fun u => u = s) ∧
      Gives (.serviceCommand w) s (fun u => u = s)) ∧
    (∀ c, s.hostHeld = false → s.powered = true → s.winNext w = some c →
      let svcOnly := s.on F.HOST_CTL_SVC
      let service := 0x40 ≤ c.code.toNat
      let n := s.get (F.HOST_WCFG_SVCTHR w)
      let served := n ≠ 0 ∧ (s.thr (Fin.ofNat 16 n)).st ≠ .halted
      let starts := fun (u : State) => u.host.svc[w] = some ⟨w, c, 0, []⟩ ∧ u.core.raised.getLsbD 20 = true ∧
        u.host.wins = s.host.wins ∧ Frame [] [.host] [20] s u
      let fails := fun (code : Nat) (u : State) => completed c code [] u ∧ Frame [] [.host] [] s u
      (svcOnly = true → cmdInService c.code = false → Gives (.commandDispatch w) s (fails 2) ∧
        (service → Gives (.serviceCommand w) s (fails 2))) ∧
      (svcOnly = false ∨ cmdInService c.code = true → ¬service →
        (s.kernelTurn w = true → Gives (.commandDispatch w) s (fun u => u.host.kernel = some ⟨w, c, 0, []⟩ ∧
          u.host.turn = w + 1 ∧ u.core.raised.getLsbD 20 = true ∧ u.host.wins = s.host.wins ∧
          Frame [] [.host] [20] s u)) ∧
        (s.kernelTurn w = false → Gives (.commandDispatch w) s (fun u => u = s)) ∧
        Gives (.serviceCommand w) s (fun u => u = s)) ∧
      (svcOnly = false → service →
        (served → Gives (.serviceCommand w) s starts ∧ Gives (.commandDispatch w) s starts) ∧
        (¬served → Gives (.serviceCommand w) s (fails 6) ∧ Gives (.commandDispatch w) s (fails 6)))) ∧
    (∀ y, s.host.svc[w] = some y → y.win = w →
      (s.get (F.HOST_WCFG_SVCTMO w) = 0 → Gives (.serviceTimeout w) s (fun u => u = s)) ∧
      (∀ c, s.get (F.HOST_WCFG_SVCTMO w) ≠ 0 → x.queue.head? = some c → Gives (.serviceTimeout w) s (fun u =>
        u.host.svc[w] = none ∧ completed c 7 [] u ∧ Frame [] [.host] [] s u))) ∧
    (∀ (port : ExecPort) (ring : Ring) (v : Word),
      (s.presented port = none ∨ (port = .kernel ∧ ring ≠ 0) → Gives (.portRdatWrite port ring v) s (fun u => u = s) ∧
        Gives (.portDoneWrite port ring v) s (fun u => u = s)) ∧
      (∀ y, s.presented port = some y → (port = .kernel → ring = 0) →
        Gives (.portRdatWrite port ring v) s (fun u => u.presented port = some { y with rdat := y.rdat ++ [v] } ∧
          (∀ q, q ≠ port → u.presented q = s.presented q) ∧ u.host.wins = s.host.wins ∧ Frame [] [.host] [] s u) ∧
        (∀ c, y.win = w → x.queue.head? = some c → Gives (.portDoneWrite port ring v) s (fun u =>
          let n := bitsOf v 8 10
          u.presented port = none ∧ (∀ q, q ≠ port → u.presented q = s.presented q) ∧
          completed c (bitsOf v 0 4)
            ((y.rdat.flatMap (fun (d : Word) => le32 d.toNat) ++ List.replicate n 0).take n) u ∧
          Frame [] [.host] [] s u))))

/-- The commands of the ROM kernel: each ends with its result code and data in the window's response slot, or, with a
later command committed, in CSEQ and CRES alone; without its right or ring it ends with PERM, with another payload
length or an argument out of range with BADARG, and when the device refuses with DEVREF; RESET and a passing INSTALL
start the LULL that ends in a SYSTEM reset. No command changes anything but its own effect and its window. The order
of checks and unstated bytes are the model's reading (log entry 45). -/
def Obligations.KernelCommands : Prop :=
  ∀ (s : State) (x : Presented), s.host.kernel = some x → s.kernelRuns = true →
    let w := x.win
    let pay := x.cmd.payload
    let code := x.cmd.code
    (s.win w).queue.head? = some x.cmd →
    let rest := (s.win w).queue.tail
    let ring3 := s.on (F.HOST_WCFG_RING3 w)
    let ends := fun (rc : Nat) (data : List Byte) (u : State) => u.host.kernel = none ∧
      u.win w = (if rest = [] then { s.win w with
          queue := [], cseq := x.cmd.seq, cres := rc, done := true,
          slot := some ⟨code, x.cmd.seq, rc, if x.cmd.quiet then [] else data⟩ }
        else { s.win w with queue := rest, cseq := x.cmd.seq, cres := rc }) ∧
      (∀ v : Fin 4, v ≠ w → u.win v = s.win v) ∧ u.host.svc = s.host.svc
    let plain := fun (rc : Nat) (data : List Byte) (u : State) => ends rc data u ∧ Frame [] [.host] [] s u
    let fails := fun (u : State) => ∃ cause, plain 5 [cause] u
    let resets := fun (u : State) => u.host = s.host ∧ u.on F.SYS_RSTCAUSE_WINRST = true ∧
      u.get F.SYS_RSTCAUSE_WIN = w.val ∧ u.inLull = true ∧ u.pwr.endSys = true ∧ u.get F.SEQ_LULLSTAT_CAUSE = 5 ∧
      u.bak = { s.bak with wdRun := false, wdCount := 0 } ∧ ProgramsSame s u ∧ u.core.sb = s.core.sb
    (∀ (cmd : Instr) (c : Byte) (n : Nat) (deep : Bool) (right : Bool), (cmd, c, n, deep, right) ∈
        [(Instr.getstat, (1 : Byte), 0, true, true), (.bootrep, 2, 0, true, true), (.otpread, 3, 1, true, true),
          (.sqread, 4, 0, true, true), (.reset, 5, 2, true, s.resetRight w), (.tickread, 6, 0, true, true),
          (.railget, 0x10, 1, true, true), (.railset Sense.quiet, 0x11, 4, true, true), (.epread, 0x20, 3, true, true),
          (.eppoll, 0x21, 2, true, true), (.logread, 0x30, 6, false, s.winRight w 2), (.verify true, 0x38, 1, false, true),
          (.install true, 0x39, 1, false, s.winRight w 1)] →
      s.pwr.otpBusy = none →
      (code ≠ c → Gives cmd s (fun u => u = s)) ∧
      (code = c → (ring3 = true ∧ deep = false) ∨ right = false → Gives cmd s (plain 3 [])) ∧
      (code = c → ring3 = false ∨ deep = true → right = true → pay.length ≠ n → Gives cmd s (plain 4 []))) ∧
    (let own := s.on F.SYS_RSTCAUSE_WINRST = true ∧ s.get F.SYS_RSTCAUSE_WIN = w.val
     bitsOf (s.rstcauseFor w) 5 3 = (if own then bitsOf (s.peek 0 0x40000004) 5 3 else 0) ∧
      bitsOf (s.rstcauseFor w) 0 5 = bitsOf (s.peek 0 0x40000004) 0 5 ∧
      (code = 1 → pay = [] → Gives .getstat s (plain 0 (s.getstatData w)))) ∧
    (code = 2 → pay = [] → Gives .bootrep s (plain 0 s.bootrepData)) ∧
    (∀ r : Byte, code = 3 → pay = [r] →
      (s.pwr.otpBusy.isSome = true → Gives .otpread s (fun u => u = s)) ∧
      (s.pwr.otpBusy = none → Gives .otpread s (fun u =>
        ends 0 (le32 (s.otpRow r.toNat).toNat ++ [BitVec.ofNat 8 (s.otpStatus r.toNat)]) u ∧
        u.get F.OTP_ROWADDR_ROW = r.toNat ∧ u.get F.OTP_ROWDATA_DATA = (s.otpRow r.toNat).toNat ∧
        u.core.raised.getLsbD 27 = true ∧
        Frame [F.OTP_ROWADDR_ROW, F.OTP_ROWDATA_DATA, F.OTP_ROWSTAT_ECC, F.OTP_ROWSTAT_BLANK] [.host] [27] s u))) ∧
    (code = 4 → pay = [] → Gives .sqread s (plain 0
      (s.bytes 0x40024100 32 ++ le32 (s.lullWordFor w).toNat ++ s.bytes 0x40024124 28))) ∧
    (code = 5 → s.resetRight w = true → pay.length = 2 →
      (pay ≠ [0x52, 0x53] → Gives .reset s (plain 4 [])) ∧
      (pay = [0x52, 0x53] → s.pwr.stop = .none → Gives .reset s (fun u => resets u ∧ u.mem = s.mem ∧
        OnlyRanges s u [(0x40014000, 0x40016000)] [F.SYS_RSTCAUSE_WINRST, F.SYS_RSTCAUSE_WIN, F.SEQ_LULLSTAT_RUN,
          F.SEQ_LULLSTAT_STEP, F.SEQ_LULLSTAT_CAUSE, F.SEQ_LULLSTAT_ENDSYS] ∧ BlocksBut [.pwr, .bak, .port] s u))) ∧
    (code = 6 → pay = [] → Gives .tickread s (plain 0
      ((List.range 6).map (fun i => s.bak.tick.extractLsb' (8 * i) 8) ++ le32 (s.get F.BAK_EPOCH_S)))) ∧
    (∀ b : Byte, code = 0x10 → pay = [b] →
      let c := b.toNat
      let known := 1 ≤ c ∧ c ≤ 20
      let allowed := 19 ≤ c ∨ s.winRail w c = true
      let flags := BitVec.ofNat 8 ((if s.railEn c then 1 else 0) + (if s.pg c then 2 else 0) +
        (if s.bit F.SEQ_UVF_UVF (c - 1) then 4 else 0) + (if s.bit F.SEQ_OVF_OVF (c - 1) then 8 else 0))
      (¬known → Gives .railget s (plain 4 [])) ∧ (known → ¬allowed → Gives .railget s (plain 3 [])) ∧
      (known → allowed → Gives .railget s (fun u => ∃ (cause : Byte) (v : Nat), plain 0 ([flags, cause] ++ le16 v) u ∧
        (∀ n : Fin 6, c = n.val + 1 → s.swLive n = true →
          cause = BitVec.ofNat 8 (s.get (F.SW_STAT_CAUSE n)) ∧ v = s.get (F.SW_REF_NOW n)) ∧
        (7 ≤ c → c ≤ 16 → cause = BitVec.ofNat 8 (s.get (State.linCAUSE (c - 7)))) ∧
        (7 ≤ c → c ≤ 10 → v = s.get (F.SEQ_LDO_VSET (c - 7))) ∧
        (∀ p : Fin 2, c = 17 + p.val → s.portLive p = true →
          cause = BitVec.ofNat 8 (s.get (F.P_STAT_CAUSE p)) ∧ v = min (s.get (F.P_LINE_MARK p)) s.markCap) ∧
        (c = 19 → v = s.get F.SEQ_NOMV_VSTOR) ∧ (c = 20 → v = s.get F.SEQ_NOMV_VSYS)))) ∧
    (∀ (b op lo hi : Byte) (e : Sense), code = 0x11 → pay = [b, op, lo, hi] →
      let c := b.toNat
      let v := lo.toNat + 256 * hi.toNat
      let known := 1 ≤ c ∧ c ≤ 18 ∧ op.toNat ≤ 3
      let top := if c ≤ 6 then 1250 else if c ≤ 10 then 50 else 180
      let codeOk := v = 0xFFFF ∨ ((c ≤ 10 ∨ 17 ≤ c) ∧ v ≤ top)
      let inRails := fun (u : State) => u.core.latch = s.core.latch ∧
        OnlyRanges s u [(0x40008000, 0x4000E000), (0x40010000, 0x40011000), (0x40014000, 0x40016000),
          (0x4001F000, 0x40021000)] [] ∧
        BlocksBut [.sw, .seq, .port, .host] s u ∧ ProgramsSame s u ∧ u.core.sb = s.core.sb ∧ u.pending = s.pending ∧
        ((∀ p : Fin 2, s.port[p].exch = none) → u.mem = s.mem)
      (¬known → Gives (.railset e) s (plain 4 [])) ∧
      (known → s.winRail w c = false → Gives (.railset e) s (plain 3 [])) ∧
      (known → s.winRail w c = true → ¬codeOk → Gives (.railset e) s (plain 4 [])) ∧
      (known → s.winRail w c = true → codeOk → s.railLive c = false → Gives (.railset e) s fails) ∧
      (known → s.winRail w c = true → codeOk → s.railLive c = true →
        (op ≠ 1 → Gives (.railset e) s (fun u => ends 0 [0] u ∧ inRails u ∧
          (op.toNat = 0 ∨ op.toNat = 2 → s.follower (c - 1) = false → u.railEn c = false) ∧
          (op = 3 → u.railEn c = s.railEn c) ∧
          (v ≠ 0xFFFF → (∀ n : Fin 6, c = n.val + 1 → s.follower n = false → u.get (F.SW_REF_TARGET n) = v) ∧
            (7 ≤ c → c ≤ 10 → u.get (F.SEQ_LDO_VSET (c - 7)) = v) ∧
            (∀ p : Fin 2, c = 17 + p.val → u.get (F.P_LINE_MARK p) = min v s.markCap)))) ∧
        (op = 1 → s.railEn c = false → s.follower (c - 1) = false → v = 0xFFFF →
          (s.stopping = true → c ≤ 16 → Gives (.railset e) s (fun u => (∃ cause, ends 5 [cause] u) ∧
            u.railEn c = false ∧ u.on F.SEQ_STAT_REFUSED = true ∧ inRails u)) ∧
          (7 ≤ c → c ≤ 10 → s.domPg 13 = false → Gives (.railset e) s (fun u => (∃ cause, ends 5 [cause] u) ∧
            u.railEn c = false ∧ u.on F.SEQ_STAT_REFUSED = true ∧ inRails u)) ∧
          (c ≤ 16 → s.stopping = false → s.cutActive = false → (7 ≤ c → c ≤ 10 → s.domPg 13 = true) →
            Gives (.railset e) s (fun u => ends 0 [0] u ∧ u.railEn c = true ∧ inRails u)) ∧
          (∀ p : Fin 2, c = 17 + p.val →
            let fit := s.portFails p e.lineBelow12V = [] ∧ s.modeForbidden p (s.get (F.P_CTL_MODE p)) = false
            (¬fit → Gives (.railset e) s (fun u => ends 5 [BitVec.ofNat 8 (u.get (F.P_STAT_REFCAUSE p))] u ∧
              u.railEn c = false ∧ u.on (F.P_STAT_REFUSED p) = true ∧ inRails u)) ∧
            (fit → s.cutActive = false → s.get (F.P_IBASE_IBASE p) < 150 * s.get (F.P_RX_ULMAX p) + 75 →
              Gives (.railset e) s (fun u => ends 0 [0] u ∧ u.railEn c = true ∧ inRails u)))))) ∧
    (∀ i0 i1 opt : Byte, code = 0x20 → pay = [i0, i1, opt] →
      let i := i0.toNat + 256 * i1.toNat
      let a := s.entBuf i
      (512 ≤ i → Gives .epread s (plain 4 [])) ∧ (i < 512 → s.winEp w i = false → Gives .epread s (plain 3 [])) ∧
      (i < 512 → s.winEp w i = true →
        (bufOk a (s.entBufsz i) = false → Gives .epread s (plain 0 (s.bytes (entAddr i) 32))) ∧
        (bufOk a (s.entBufsz i) = true → Gives .epread s (fun u =>
          ends 0 (s.bytes (entAddr i) 32 ++ s.bytes a 8 ++
            s.bytes (a + 8) (min ((s.byte a).toNat + 256 * (s.byte (a + 1)).toNat) (bufSize (s.entBufsz i) - 8))) u ∧
          (∀ b, b ≠ a + 3 → u.byte b = s.byte b) ∧
          (u.byte (a + 3) = if opt.getLsbD 0 then s.byte (a + 3) &&& 0xFE else s.byte (a + 3)) ∧
          OnlyFields s u [] ∧ BlocksBut [.host] s u ∧ u.core = s.core)))) ∧
    (∀ i0 i1 : Byte, code = 0x21 → pay = [i0, i1] →
      let i := i0.toNat + 256 * i1.toNat
      let p : Fin 2 := Fin.ofNat 2 (s.entPort i)
      (512 ≤ i → Gives .eppoll s (plain 4 [])) ∧ (i < 512 → s.winEp w i = false → Gives .eppoll s (plain 3 [])) ∧
      (i < 512 → s.winEp w i = true →
        (s.domPg (5 + p.val) = false → Gives .eppoll s fails) ∧
        (s.domPg (5 + p.val) = true → s.port[p].door = none → Gives .eppoll s (fun u => ends 0 [] u ∧
          u.port[p].door = some i ∧ u.on (F.P_ENG_DOOR_PEND p) = true ∧
          Frame [F.P_ENG_DOOR_PEND p] [.port, .host] [] s u)) ∧
        (s.domPg (5 + p.val) = true → s.port[p].door ≠ none → Gives .eppoll s (fun u => ends 5 [1] u ∧
          Frame [F.P_ENG_STAT_DOORBUSY p] [.host] [] s u)))) ∧
    (code = 0x30 → ring3 = false → s.winRight w 2 = true → pay.length = 6 →
      let off := ldLe pay 4 2
      let logged := fun (rc : Nat) (data : List Byte) (u : State) => ends rc data u ∧
        Frame [F.NVC_ECCSTAT_CORRCNT, F.NVC_ECCSTAT_UNCORR, F.NVC_ECCSTAT_UNREL, F.NVC_ECCADDR_ADDR] [.host] [] s u ∧
        (s.logSpots = false → u.regs = s.regs)
      (s.nvcLive = false → Gives .logread s fails) ∧
      (s.nvcLive = true →
        (∀ a len, s.logFind (ldLe pay 0 4) = some (a, len) →
          (off < len → Gives .logread s (logged 0
            (s.bytes a 16 ++ s.bytes (a + 16 + off) (min 1000 (len - off))))) ∧
          (len ≤ off → Gives .logread s (logged 4 []))) ∧
        (s.logFind (ldLe pay 0 4) = none → Gives .logread s (logged 4 [])))) ∧
    (∀ (slot : Byte) (vio : Bool), pay = [slot] → ring3 = false →
      let n := slot.toNat
      let scratch := fun (u : State) => OnlyRanges s u [(0x40026000, 0x40027000)] [] ∧ CoreBut [17] s u ∧
        (let a := State.scratchAddr n
         let hdr := s.slotHdr vio n
         (∀ b, b < a ∨ a + hdr.length ≤ b → u.byte b = s.byte b) ∧ u.bytes a hdr.length = hdr)
      let passes := n ≤ 1 ∧ s.qspiLive = true ∧ hdrMagic (s.slotHdr vio n) = true ∧ s.slotCode vio n = 0
      let verifies := fun (cmd : Instr) => (1 < n → Gives cmd s (plain 4 [])) ∧
        (n ≤ 1 → s.qspiLive = false → Gives cmd s fails) ∧
        (n ≤ 1 → s.qspiLive = true → Gives cmd s (fun u => ends 0 (s.verifyData vio n) u ∧ scratch u ∧
          BlocksBut [.host] s u))
      (code = 0x38 → verifies (.verify vio)) ∧
      (code = 0x39 → s.winRight w 1 = true →
        (¬passes → verifies (.install vio)) ∧
        (passes → s.pwr.stop = .none → Gives (.install vio) s (fun u => resets u ∧
          u.word 0x40024180 = BitVec.ofNat 32 (n + 1)))))

/-! ## Framers, converter, thermal scan -/

/-- The framers, each command with its frame: a received character judged in its format, with its flags, its error
counts and, where firmware owns the framer, the full FIFO and the event; a deaf receiver, which takes nothing;
characters written and sent, with their levels at the pin; the flushes and the break; DIV, refused above the highest
rate; CFG; the idle line and the end of a break. For another owner's framer an attempt from any ring sets OWNERR
alone; ring 3 writes nothing. The model's readings are in log entries 34 and 59. -/
def Obligations.UartCommands : Prop :=
  ∀ (s : State) (f : Fin 5), s.hostLive = true →
    let y := s.uart[f]
    let own := s.fwOwns f = true
    let txOn := s.on (F.U_CFG_TXEN f) = true ∧ s.on (F.U_CTL_TXBRK f) = false
    let alone := fun (u : State) => ∀ g : Fin 5, g ≠ f → u.uart[g] = s.uart[g]
    let inUart := fun (fs : List Fld) (u : State) => alone u ∧ Frame fs [.uart] [21] s u
    let same := fun (u : State) => u = s
    (∀ (ring : Ring) (v : Word) (on : Bool),
      let refused := fun (u : State) => u.on (F.U_STAT_OWNERR f) = true ∧ Frame [F.U_STAT_OWNERR f] [] [] s u
      (¬own → Gives (.uartDataWrite f ring v) s refused ∧ Gives (.uartRxflush f ring) s refused ∧
        Gives (.uartTxflush f ring) s refused ∧ Gives (.uartTxbrk f ring on) s refused ∧
        Gives (.uartDivWrite f ring v) s refused ∧ Gives (.uartCfgWrite f ring v) s refused) ∧
      (own → ring = 3 → Gives (.uartDataWrite f ring v) s same ∧ Gives (.uartRxflush f ring) s same ∧
        Gives (.uartTxflush f ring) s same ∧ Gives (.uartTxbrk f ring on) s same ∧
        Gives (.uartDivWrite f ring v) s same ∧ Gives (.uartCfgWrite f ring v) s same) ∧
      (own → ring.val ≤ 2 →
        let c := BitVec.ofNat 9 (v.toNat % 2 ^ s.get (F.U_CFG_DBITS f))
        (y.tx.length < 16 → y.shift ≠ none ∨ ¬txOn → Gives (.uartDataWrite f ring v) s (fun u =>
          u.uart[f] = { y with tx := y.tx ++ [c] } ∧ inUart [] u)) ∧
        (y.tx = [] → y.shift = none → txOn → Gives (.uartDataWrite f ring v) s (fun u =>
          u.uart[f] = { y with shift := some c, shiftCfg := s.cfgWord f } ∧ inUart [] u)) ∧
        (16 ≤ y.tx.length → Gives (.uartDataWrite f ring v) s refused) ∧
        Gives (.uartRxflush f ring) s (fun u => u.uart[f] = { y with rx := [] } ∧ inUart [] u) ∧
        Gives (.uartTxflush f ring) s (fun u => u.uart[f] = { y with tx := [] } ∧
          (s.get (F.U_EVEN_TXTH f) < y.tx.length → s.on (F.U_EVEN_TXEV f) = true → u.core.raised.getLsbD 21 = true) ∧
          inUart [] u) ∧
        Gives (.uartTxbrk f ring on) s (fun u => u.on (F.U_CTL_TXBRK f) = on ∧
          (on = true ∨ y.tx = [] → u.uart[f] = y) ∧ u.uart[f].rx = y.rx ∧ inUart [F.U_CTL_TXBRK f] u) ∧
        (let low := bitsOf v 0 16 < (if s.on (F.U_CFG_PRESC f) then 2 else 16)
         (low → Gives (.uartDivWrite f ring v) s (fun u => u.on (F.U_STAT_CFGERR f) = true ∧
            Frame [F.U_STAT_CFGERR f] [] [] s u)) ∧
         (¬low → Gives (.uartDivWrite f ring v) s (fun u => u.get (F.U_DIV_DIVI f) = bitsOf v 4 12 ∧
            u.get (F.U_DIV_DIVF f) = bitsOf v 0 4 ∧ Frame [F.U_DIV_DIVI f, F.U_DIV_DIVF f] [] [] s u))) ∧
        Gives (.uartCfgWrite f ring v) s (fun u => (5 ≤ bitsOf v 0 4 → bitsOf v 0 4 ≤ 9 →
          u.get (F.U_CFG_DBITS f) = bitsOf v 0 4) ∧ u.on (F.U_CFG_RXEN f) = v.getLsbD 11 ∧
          u.on (F.U_CFG_TXEN f) = v.getLsbD 12 ∧ u.uart[f].rx = y.rx ∧
          u.uart[f].rxOld = (if v.getLsbD 11 = false ∨ s.on (F.U_CFG_RXEN f) = false then [] else s.cfgWord f :: y.rxOld) ∧
          (∀ c, y.shift = some c → u.uart[f].shift = some c ∧ u.uart[f].shiftCfg = y.shiftCfg ∧ u.uart[f].tx = y.tx) ∧
          alone u ∧ FrameIn [((F.U_CFG_DBITS f).addr, (F.U_CFG_DBITS f).addr + 4)] [] [.uart] [21] s u))) ∧
    (f.val < 3 → y.rxOld = [] → s.rxFmt f = fmtOf (s.cfgWord f)) ∧ (3 ≤ f.val → s.rxFmt f = ⟨8, 1, 3⟩) ∧
    (∀ bits,
      let j := judgeChar (s.rxFmt f) bits
      let hears := s.rxOn f = true ∧ y.waitHigh = false ∧ UFmtFits (s.rxFmt f) bits = true ∧ j.start = false ∧
        s.loopHears f bits = true ∧ s.rxBlanked f = false
      let e : RxEntry := ⟨BitVec.ofNat 9 j.data, j.pe, j.fe, j.brk, j.nz, false⟩
      (¬hears → Gives (.uartRxChar f bits) s same) ∧
      (hears → Gives (.uartRxChar f bits) s (fun u =>
        (own → y.rx.length < 16 → u.uart[f].rx = y.rx ++ [e] ∧ (y.rx.length + 1 = s.get (F.U_EVEN_RXTH f) →
          s.on (F.U_EVEN_RXEV f) = true → u.core.raised.getLsbD 21 = true)) ∧
        (own → 16 ≤ y.rx.length → u.uart[f].rx = y.rx.dropLast ++ [{ e with ovw := true }] ∧
          u.on (F.U_STAT_OVR f) = true ∧
          u.get (F.U_CNT_OVRCNT f) = min (s.get (F.U_CNT_OVRCNT f) + 1) 65535) ∧
        (¬own → u.uart[f].rx = y.rx ∧ u.core.raised = s.core.raised) ∧
        u.on (F.U_STAT_PE f) = (j.pe || s.on (F.U_STAT_PE f)) ∧ u.on (F.U_STAT_FE f) = (j.fe || s.on (F.U_STAT_FE f)) ∧
        u.on (F.U_STAT_BRK f) = (j.brk || s.on (F.U_STAT_BRK f)) ∧
        (j.pe = false → j.fe = false → u.get (F.U_CNT_ERRCNT f) = s.get (F.U_CNT_ERRCNT f)) ∧
        (j.pe ≠ j.fe → u.get (F.U_CNT_ERRCNT f) = min (s.get (F.U_CNT_ERRCNT f) + 1) 65535) ∧
        u.on (F.U_STAT_RXIDLE f) = false ∧ u.uart[f].waitHigh = j.fe ∧ u.uart[f].tx = y.tx ∧
        u.uart[f].shift = y.shift ∧
        inUart [F.U_STAT_PE f, F.U_STAT_FE f, F.U_STAT_BRK f, F.U_STAT_OVR f, F.U_STAT_RXIDLE f, F.U_CNT_ERRCNT f,
          F.U_CNT_OVRCNT f] u))) ∧
    (∀ c, y.shift = some c → Gives (.uartTxChar f) s (fun u => u.uart[f].lastTx = some c ∧
      u.uart[f].lastFrame = txFrame y.shiftCfg c.toNat ∧ u.uart[f].rx = y.rx ∧
      (y.tx = [] ∨ ¬txOn → u.uart[f].shift = none ∧ u.uart[f].tx = y.tx) ∧
      (∀ d q, y.tx = d :: q → txOn → u.uart[f].shift = some d ∧ u.uart[f].shiftCfg = s.cfgWord f ∧
        u.uart[f].tx = q) ∧ inUart [] u)) ∧
    (y.shift = none → Gives (.uartTxChar f) s same) ∧
    (y.waitHigh = false → Gives (.uartRxIdle f) s (fun u => u.on (F.U_STAT_RXIDLE f) = true ∧
      (own → s.on (F.U_STAT_RXIDLE f) = false → s.on (F.U_EVEN_IDLEEV f) = true → u.core.raised.getLsbD 21 = true) ∧
      Frame [F.U_STAT_RXIDLE f] [] [21] s u)) ∧
    Gives (.uartBreakEnd f) s (fun u => u.uart[f] = { y with waitHigh := false } ∧ inUart [] u)

/-- The converter and THERM, each command with its frame: the sequence's start and stop, FIFOCLR, CALGO; a
calibration's cause or trims and what follows it; the result of a slot under the trims, saturated, averaged and
rounded, with its FIFO entry, its window and the next slot; a scan's readings, suspect sensors, T_J, HOT and SLOPE,
the three thresholds and the LULL or fast stop of the third; and the clearing of suspect bits. Rings above a command's
own change nothing. The model's readings are in log entries 6, 33 and 60. -/
def Obligations.ConverterAndThermalScan : Prop :=
  ∀ (s : State), s.adcLive = true →
    let seq := [F.ADC_CTL_RUN, F.ADC_STAT_BUSY, F.ADC_STAT_CUR]
    let starts := fun (k : Nat) (u : State) => u.on F.ADC_STAT_BUSY = true ∧ u.get F.ADC_STAT_CUR = k ∧
      u.adc.cfg = u.slotCfg k ∧ (k = 0 → u.adc.last = s.get F.ADC_CTL_LAST)
    let nextSlot := fun (u : State) => let k := s.get F.ADC_STAT_CUR
      (s.adc.last ≤ k → starts 0 u ∧ u.get F.ADC_STAT_SEQCNT = (s.get F.ADC_STAT_SEQCNT + 1) % 65536) ∧
      (k < s.adc.last → k < 31 → starts (k + 1) u ∧ u.get F.ADC_STAT_SEQCNT = s.get F.ADC_STAT_SEQCNT ∧
        u.adc.last = s.adc.last)
    (∀ ring : Ring, 2 ≤ ring.val → Gives (.adcRun ring) s (fun u => u = s) ∧ Gives (.adcStop ring) s (fun u => u = s) ∧
      Gives (.adcFifoclr ring) s (fun u => u = s) ∧ Gives (.adcCalgo ring) s (fun u => u = s)) ∧
    (∀ ring : Ring, ring.val ≤ 1 →
      (s.on F.ADC_CTL_RUN = true → Gives (.adcRun ring) s (fun u => u = s)) ∧
      (s.on F.ADC_CTL_RUN = false → s.on F.ADC_STAT_CALBUSY = false → Gives (.adcRun ring) s (fun u =>
        u.on F.ADC_CTL_RUN = true ∧ starts 0 u ∧ u.adc.fifo = s.adc.fifo ∧ Frame seq [.adc] [] s u)) ∧
      (s.on F.ADC_CTL_RUN = false → s.on F.ADC_STAT_CALBUSY = true → Gives (.adcRun ring) s (fun u =>
        u.on F.ADC_CTL_RUN = true ∧ u.on F.ADC_STAT_BUSY = false ∧
        Frame [F.ADC_CTL_RUN, F.ADC_STAT_BUSY] [] [] s u)) ∧
      Gives (.adcStop ring) s (fun u => u.on F.ADC_CTL_RUN = false ∧ Frame [F.ADC_CTL_RUN] [] [] s u) ∧
      Gives (.adcFifoclr ring) s (fun u => u.adc.fifo = [] ∧ u.adc.cfg = s.adc.cfg ∧ u.adc.last = s.adc.last ∧
        Frame [] [.adc] [] s u) ∧
      Gives (.adcCalgo ring) s (fun u => u.on F.ADC_STAT_CALBUSY = true ∧ Frame [F.ADC_STAT_CALBUSY] [] [] s u)) ∧
    (∀ o : AdcCalObs, s.on F.ADC_STAT_CALBUSY = true →
      let ofs := signedOf (s.get F.ADC_TRIM_OFS) 10
      let gain := signedOf (s.get F.ADC_TRIM_GAIN) 12
      let t := fun (sum : Int) => (4 * sum + 16 * ofs) * (32768 + gain)
      let unit : Int := 16 * 131072
      let cause :=
        if 128 * unit < (t o.gnd).natAbs then 1
        else if 32 * unit < (t o.dac0 - t o.gnd).natAbs then 3
        else if 546 * unit < (t o.ref - 13653 * unit).natAbs then 2
        else if 820 * unit < (5 * t o.dac512 - 3 * t o.ref).natAbs then 3
        else 0
      let calFields := [F.ADC_STAT_CALBUSY, F.ADC_STAT_CALRES, F.ADC_STAT_CALWHY, F.ADC_TRIM_OFS, F.ADC_TRIM_GAIN,
        F.ADC_STAT_BUSY, F.ADC_STAT_CUR, F.ADC_STAT_SEQCNT]
      Gives (.adcCalDone o) s (fun u =>
        let q := signedOf (u.get F.ADC_TRIM_OFS) 10
        let g := signedOf (u.get F.ADC_TRIM_GAIN) 12
        let sum := o.ref64 + 16 * q
        u.on F.ADC_STAT_CALBUSY = false ∧ u.core.raised.getLsbD 18 = true ∧ u.get F.ADC_STAT_CALWHY = cause ∧
        u.get F.ADC_STAT_CALRES = (if cause = 0 then 1 else 2) ∧
        (cause ≠ 0 → u.get F.ADC_TRIM_OFS = s.get F.ADC_TRIM_OFS ∧ u.get F.ADC_TRIM_GAIN = s.get F.ADC_TRIM_GAIN) ∧
        (cause = 0 → -(511 * 16 : Int) ≤ o.gnd64 → o.gnd64 ≤ 512 * 16 → (o.gnd64 + 16 * q).natAbs < 16) ∧
        (cause = 0 → 0 < sum → -(2047 * sum) ≤ (873792 - sum) * 32768 → (873792 - sum) * 32768 ≤ 2046 * sum →
          ((873792 - sum) * 32768 - g * sum).natAbs < sum.natAbs) ∧
        (s.on F.ADC_CTL_RUN = false → u.on F.ADC_STAT_BUSY = false) ∧
        (s.on F.ADC_CTL_RUN = true → s.on F.ADC_STAT_BUSY = false → starts 0 u) ∧
        (s.on F.ADC_CTL_RUN = true → s.on F.ADC_STAT_BUSY = true → nextSlot u) ∧ u.adc.fifo = s.adc.fifo ∧
        Frame calFields [.adc] [18] s u)) ∧
    (∀ (k : Fin 32) (cs : List Int), s.on F.ADC_STAT_BUSY = true → s.on F.ADC_STAT_CALBUSY = false →
      s.get F.ADC_STAT_CUR = k.val → cs.length = 2 ^ s.adc.cfg.avg →
      let c := s.adc.cfg
      let signed := State.adcSigned c.input
      let low : Int := if signed then -8192 else 0
      let high : Int := if signed then 8191 else 16383
      let unit : Int := 131072
      let t := fun (x : Int) =>
        (4 * x + signedOf (s.get F.ADC_TRIM_OFS) 10) * (32768 + signedOf (s.get F.ADC_TRIM_GAIN) 12)
      let held := fun (x : Int) => max (low * unit) (min (high * unit) (t x))
      let n : Int := cs.length * unit
      let x := (2 * (cs.map held).sum + n) / (2 * n)
      let clip := cs.any (fun y => decide (t y < low * unit) || decide (high * unit < t y))
      let bound := fun (w : Nat) => if signed then signedOf (w % 2 ^ 14) 14 else (w : Int)
      let hit := (c.wmode = 1 ∧ bound c.lo ≤ x ∧ x ≤ bound c.hi) ∨ (c.wmode = 2 ∧ (x < bound c.lo ∨ bound c.hi < x))
      Gives (.adcSlotResult cs) s (fun u =>
        u.get (F.ADC_RES_CODE k) = (x % 16384).toNat ∧ u.on (F.ADC_RES_NEW k) = true ∧
        u.get (F.ADC_RES_COUNT k) = (s.get (F.ADC_RES_COUNT k) + 1) % 65536 ∧
        (hit → u.bit F.ADC_WSTAT_W k = true ∧ (s.bit F.ADC_WSTAT_W k = false → u.core.raised.getLsbD 19 = true)) ∧
        (¬hit → u.get F.ADC_WSTAT_W = s.get F.ADC_WSTAT_W ∧ u.core.raised.getLsbD 19 = s.core.raised.getLsbD 19) ∧
        (c.fifo = false → u.adc.fifo = s.adc.fifo) ∧
        (c.fifo = true → s.adc.fifo.length < 32 →
          (∃ b, (b = true ↔ hit) ∧ u.adc.fifo = s.adc.fifo ++ [⟨BitVec.ofInt 14 x, k, b, c.probe, clip⟩]) ∧
          (s.adc.fifo.length + 1 = s.get F.ADC_FCFG_FTH → u.core.raised.getLsbD 18 = true)) ∧
        (c.fifo = true → 32 ≤ s.adc.fifo.length → u.adc.fifo = s.adc.fifo ∧ u.on F.ADC_FSTAT_OVF = true ∧
          u.get F.ADC_FSTAT_LOST = min (s.get F.ADC_FSTAT_LOST + 1) (2 ^ F.ADC_FSTAT_LOST.width - 1)) ∧
        (s.on F.ADC_CTL_RUN = false → u.on F.ADC_STAT_BUSY = false) ∧ (s.on F.ADC_CTL_RUN = true → nextSlot u) ∧
        Frame [F.ADC_RES_CODE k, F.ADC_RES_NEW k, F.ADC_RES_COUNT k, F.ADC_WSTAT_W, F.ADC_FSTAT_OVF, F.ADC_FSTAT_LOST,
          F.ADC_STAT_BUSY, F.ADC_STAT_CUR, F.ADC_STAT_SEQCNT] [.adc] [18, 19] s u)) ∧
    (∀ (r : TsReadings) (v : Nat), (∀ x ∈ tsList r, -2048 ≤ x ∧ x < 2048) → (∃ i, i < 8 ∧ s.bit F.THERM_SUSP_S i = false) →
      s.on F.THERM_STAT_LULLZ = true ∨ (s.stopNext ≠ none ∧ s.stopLines.stopNext ≠ none) →
      let ts := tsAt (tsList r)
      Gives (.thermScan r v) s (fun u =>
        let tj := signedOf (u.get F.THERM_TJ_T) 12
        let reaches := fun (x : ThrSt) (st : Fld) (thr : Int) =>
          (s.on st = false → (u.on st = true ↔ thr ≤ tj ∧ 1 ≤ x.above)) ∧
          (s.on st = true → (u.on st = false ↔ tj < thr - 20 ∧ 7 ≤ x.below))
        let tells := fun (st ev : Fld) => s.on st = false → u.on st = true → u.on ev = true ∧
          (s.on ev = false → u.core.raised.getLsbD 11 = true)
        let lullNow := s.on F.THERM_STAT_LULLZ = false ∧ u.on F.THERM_STAT_LULLZ = true
        let slope := signedOf (u.get F.THERM_TJ_SLOPE) 16
        let room := 4 * ((if s.on F.THERM_STAT_DEGRADED then 520 else 560) - tj)
        (∀ i, i < 8 → signedOf (u.get (F.THERM_TS_T i)) 12 = ts i) ∧
        (∀ i : Fin 8, u.therm.suspRun[i] = (if suspectNow (tsList r) i then min 4 (s.therm.suspRun[i] + 1) else 0) ∧
          (s.bit F.THERM_SUSP_S i = true → u.bit F.THERM_SUSP_S i = true) ∧
          (u.bit F.THERM_SUSP_S i = true → s.bit F.THERM_SUSP_S i = true ∨ 4 ≤ u.therm.suspRun[i]) ∧
          (4 ≤ u.therm.suspRun[i] → u.bit F.THERM_SUSP_S i = true ∨ u.on F.THERM_STAT_DEGRADED = true)) ∧
        ((∃ i, i < 8 ∧ u.bit F.THERM_SUSP_S i = true ∧ u.bit F.THERM_SUSP_S ((i + 1) % 8) = true) →
          u.on F.THERM_STAT_DEGRADED = true) ∧
        (∀ i, i < 8 → u.bit F.THERM_SUSP_S i = false → ts i ≤ tj) ∧
        (let hot := u.get F.THERM_TJ_HOT
         hot < 8 ∧ u.bit F.THERM_SUSP_S hot = false ∧ ts hot = tj) ∧
        (∀ old, s.therm.hist[15]? = some old → u.get F.THERM_TJ_SLOPE = ((tj - old) % 65536).toNat) ∧
        reaches s.therm.warn F.THERM_STAT_WARN (s.thrTemp 105 F.THERM_THR_WARNLOW) ∧
        reaches s.therm.throttle F.THERM_STAT_THROTTLE (s.thrTemp 115 F.THERM_THR_THRLOW) ∧
        reaches s.therm.lull F.THERM_STAT_LULLZ (s.thrTemp 125 F.THERM_THR_LULLLOW) ∧
        tells F.THERM_STAT_WARN F.THERM_STAT_WARNEV ∧ tells F.THERM_STAT_THROTTLE F.THERM_STAT_THREV ∧
        tells F.THERM_STAT_LULLZ F.THERM_STAT_LULLEV ∧
        (¬lullNow → FrameIn [(0x40011000, 0x40012000)] [] [.therm] [11] s u) ∧
        (lullNow → s.powered = true → s.pwr.stop = .none →
          (slope ≤ 0 ∨ s.get F.SEQ_LULLCFG_TLULL * slope < room → u.get F.THERM_STAT_LULLACT = 1 ∧ u.inLull = true ∧
            u.get F.SEQ_LULLSTAT_CAUSE = 3 ∧ u.core.raised.getLsbD 28 = true ∧ u.mem = s.mem) ∧
          (0 < slope → room ≤ s.get F.SEQ_LULLCFG_TLULL * slope → u.get F.THERM_STAT_LULLACT = 2 ∧ u.inLull = false))))  ∧
    (∀ (ring : Ring) (v : Word), (ring ≠ 0 → Gives (.thermSuspClear ring v) s (Frame [] [] [] s)) ∧
      (ring = 0 → Gives (.thermSuspClear ring v) s (fun u => (∀ i : Fin 8,
          u.bit F.THERM_SUSP_S i = (s.bit F.THERM_SUSP_S i && !v.getLsbD i) ∧
          u.therm.suspRun[i] = (if s.bit F.THERM_SUSP_S i && v.getLsbD i then 0 else s.therm.suspRun[i])) ∧
        Frame [F.THERM_SUSP_S] [.therm] [] s u)))

/-! ## Backup domain, calendar, PWM -/

/-- The backup domain, the ROM calendar and PWM, each command with its frame: TICK by the clock that RCRUN selects,
with its trim, the fallback and the crystal's edges; event stamps behind their filter, and the full FIFO; BILLCMP; the
watchdog; RECCLR; the four calendar routines, where cal_split gives a valid date of the second it was given; and the
PWM periods, trips, windows, START and release. The model's readings are in log entries 8, 22, 23, 35, 36
and 70. -/
def Obligations.BackupCalendarAndPwm : Prop :=
  ∀ (s : State),
    (s.bakOn = true →
      let rcRun := s.on F.BAK_STAT_RCRUN
      let acc := s.bak.acc + s.trimT
      let up := (2 ^ 24 : Int) ≤ acc
      let down := acc ≤ -(2 ^ 24 : Int)
      let counts := fun (n : Nat) (a : Int) (u : State) => u.bak = { s.bak with
        tick := s.bak.tick + BitVec.ofNat 48 n, acc := a, wdCount := s.bak.wdCount + (if s.wdCounts then 1 else 0) }
      let edge := fun (u : State) => u.on F.BAK_STAT_XTALOK = true ∧ Frame [F.BAK_STAT_XTALOK] [.bak] [] s u
      let corrected := fun (u : State) => (up → counts 2 (acc - 2 ^ 24) u) ∧ (down → counts 0 (acc + 2 ^ 24) u) ∧ edge u
      let rc := s.pins.rcCycle
      (rcRun = true → (rc = true → Gives .crystalCycle s (fun u => counts 1 s.bak.acc u ∧ Frame [] [.bak] [] s u)) ∧
        (rc = false → Gives .crystalCycle s (fun u => u.bak = s.bak ∧ edge u))) ∧
      (rcRun = false → (rc = true → Gives .crystalCycle s (Frame [] [] [] s)) ∧
        (¬up → ¬down → (rc = false → Gives .crystalCycle s (fun u => counts 1 acc u ∧ edge u)) ∧
          Gives .trimCorrection s (fun u => u = s)) ∧
        (up ∨ down → Gives .trimCorrection s corrected ∧ (rc = false → Gives .crystalCycle s corrected))) ∧
      Gives .bakRcFallback s (fun u => u.on F.BAK_STAT_RCRUN = true ∧ u.on F.BAK_STAT_RCUSED = true ∧
        u.on F.BAK_STAT_XTALOK = false ∧
        Frame [F.BAK_STAT_RCRUN, F.BAK_STAT_RCUSED, F.BAK_STAT_XTALOK] [] [] s u) ∧
      (rcRun = true → Gives .bakXtalReturn s (fun u => u.on F.BAK_STAT_RCRUN = false ∧
        u.on F.BAK_STAT_XTALOK = true ∧ Frame [F.BAK_STAT_RCRUN, F.BAK_STAT_XTALOK] [] [] s u)) ∧
      (∀ (i : Fin 6) (rising : Bool) (held : Nat),
        let taken := s.edgeSel i rising = true ∧ s.edgeHeld i held = true
        let fifo := fun (q : List EvEntry) (u : State) => u.bak = { s.bak with fifo := q }
        (¬taken → Gives (.eventInputEdge i ⟨rising, held⟩) s (fun u => u = s)) ∧
        (taken → s.bak.fifo.length < 16 → Gives (.eventInputEdge i ⟨rising, held⟩) s (fun u =>
          (∃ c, c < 1024 ∧ fifo (s.bak.fifo ++ [⟨s.bak.tick, i, rising, false, c⟩]) u) ∧
          u.core.raised.getLsbD 22 = true ∧ Frame [] [.bak] [22] s u)) ∧
        (∀ q e, taken → s.bak.fifo = q ++ [e] → 16 ≤ s.bak.fifo.length →
          (e.marker = false → Gives (.eventInputEdge i ⟨rising, held⟩) s (fun u =>
            (∃ j b, j < 8 ∧ fifo (q ++ [⟨e.stamp, j, b, true, 2⟩]) u) ∧ u.on F.BAK_STAT_EVOVF = true ∧
            u.core.raised.getLsbD 22 = true ∧ Frame [F.BAK_STAT_EVOVF] [.bak] [22] s u)) ∧
          (e.marker = true → Gives (.eventInputEdge i ⟨rising, held⟩) s (fun u =>
            fifo (q ++ [{ e with count := min 1023 (e.count + 1) }]) u ∧ Frame [] [.bak] [] s u)))) ∧
      (∀ (ring : Ring) (v : Word),
        (ring.val ≤ 1 → Gives (.billcmpArm ring v) s (fun u => u.on F.BAK_BILLCMPH_ARM = true ∧
          u.get F.BAK_BILLCMPH_V = bitsOf v 0 16 ∧ Frame [F.BAK_BILLCMPH_ARM, F.BAK_BILLCMPH_V] [] [] s u)) ∧
        (2 ≤ ring.val → Gives (.billcmpArm ring v) s (Frame [] [] [] s))) ∧
      (∀ v,
        let fires := s.on F.BAK_BILLCMPH_ARM = true ∧ s.billcmp ≤ s.bak.tick.toNat
        let wakes := s.pwr.state = .calm ∧ s.bit F.SYS_WAKEEN_EN 22 = true
        let starts := 3000 + 50 * s.get F.BAK_BILLCFG_RSTV ≤ v ∧ s.on F.BAK_BILLCFG_STARTEN = true ∧
          s.store.fault ≠ 1 ∧ s.store.short = false
        (¬fires → Gives (.billcmpFire v) s (fun u => u = s)) ∧
        (fires → Gives (.billcmpFire v) s (fun u => u.on F.BAK_BILLCMPH_ARM = false ∧ u.on F.BAK_STAT_BILLF = true ∧
          u.core.raised.getLsbD 23 = true ∧
          (s.pwr.state ≠ .backup → u.scMode = s.scMode ∧ u.get F.BAK_STAT_BILLMISS = s.get F.BAK_STAT_BILLMISS) ∧
          (s.pwr.state = .backup → starts → u.scMode = 3 ∧ u.get F.BAK_STAT_BILLMISS = s.get F.BAK_STAT_BILLMISS) ∧
          (s.pwr.state = .backup → ¬starts → u.on F.BAK_STAT_BILLMISS = true ∧ u.scMode = s.scMode) ∧
          (¬wakes →
            Frame [F.BAK_BILLCMPH_ARM, F.BAK_STAT_BILLF, F.BAK_STAT_BILLMISS, F.SC_STAT_MODE] [] [23] s u) ∧
          (wakes → u.pwr.state = .run ∧ u.get F.SYS_PWRCTL_WAKESRC = State.wakeCode (.line 23) ∧
            ProgramsSame s u ∧ u.mem = s.mem ∧
            OnlyRanges s u [(0x40002000, 0x40003000)] [F.BAK_BILLCMPH_ARM, F.BAK_STAT_BILLF, F.SYS_PWRCTL_CALM,
              F.SYS_PWRCTL_WAKESRC, F.SYS_DOMSTAT_PG] ∧ BlocksBut [.pwr, .nvc] s u)))) ∧
      (∀ (ring : Ring) (v : Word),
        (ring = 0 → bitsOf v 24 8 = 0x6B → Gives (.wdkick ring v) s (fun u => u.bak = { s.bak with wdCount := 0 } ∧
          Frame [] [.bak] [] s u)) ∧
        (ring ≠ 0 ∨ bitsOf v 24 8 ≠ 0x6B → Gives (.wdkick ring v) s (fun u => u = s)) ∧
        (let was := s.on F.BAK_WDCFG_EN
         let cfg := [((F.BAK_WDCFG_EN).addr, (F.BAK_WDCFG_EN).addr + 4)]
         (ring = 0 → s.on F.BAK_LOCK_WDLOCK = false → Gives (.wdcfgWrite ring v) s (fun u =>
            u.on F.BAK_WDCFG_EN = v.getLsbD 11 ∧ u.get F.BAK_WDCFG_PERIOD = bitsOf v 0 8 ∧
            u.bak = { s.bak with
              wdRun := v.getLsbD 11 && (s.bak.wdRun || !was)
              wdCount := if v.getLsbD 11 && !was then 0 else s.bak.wdCount } ∧ FrameIn cfg [] [.bak] [] s u)) ∧
         (ring ≠ 0 ∨ s.on F.BAK_LOCK_WDLOCK = true → Gives (.wdcfgWrite ring v) s (fun u => u.on F.BAK_WDCFG_EN = was ∧
            u.get F.BAK_WDCFG_PERIOD = s.get F.BAK_WDCFG_PERIOD % 256 ∧
            (was = true → s.bak.wdRun = true → u.bak = s.bak) ∧ FrameIn cfg [] [.bak] [] s u))) ∧
        (ring = 0 → v.getLsbD 0 = true → Gives (.recclr ring v) s (fun u =>
          (∀ a, 0x40024100 ≤ a → a < 0x40024184 → u.byte a = 0) ∧
          (∀ a, a < 0x40024100 ∨ 0x40024184 ≤ a → u.byte a = s.byte a) ∧ u.regs = s.regs ∧ BlocksSame s u ∧
          u.core = s.core)) ∧
        (ring ≠ 0 ∨ v.getLsbD 0 = false → Gives (.recclr ring v) s (fun u => u = s))) ∧
      (s.bak.wdRun = true → s.wdEarlyAt = some s.bak.wdCount → Gives .wdEarly s (fun u =>
        u.on F.BAK_STAT_WDEARLY = true ∧ u.core.raised.getLsbD 24 = true ∧ Frame [F.BAK_STAT_WDEARLY] [] [24] s u)) ∧
      (s.bak.wdRun = false ∨ s.wdEarlyAt ≠ some s.bak.wdCount → Gives .wdEarly s (fun u => u = s))) ∧
    (∀ t : Tid, Runs s t 2 → InBudget s t 400 → (s.thr t).ring = 0 →
      let x := s.thr t
      let sp := (x.reg 15).toNat
      let at_ := fun (rom gate : Nat) => x.pc.toNat = rom ∧
        (s.viaGate t x gate = true → bitOf (s.wordNow ((s.fsp t 0).toNat + 4)) 3 = false)
      let back := fun (gate code : Nat) (u : State) => (u.thr t).reg 0 = BitVec.ofNat 32 code ∧
        (u.thr t).pc = (if s.viaGate t x gate then s.wordNow (s.fsp t 0).toNat else x.reg 14) &&& 0xFFFFFFFE ∧
        (∀ q : Gpr, 5 ≤ q.val → q.val ≤ 13 → (u.thr t).reg q = x.reg q) ∧ (∀ v, v ≠ t → u.thr v = s.thr v) ∧
        (∀ b, b + 64 < sp ∨ sp ≤ b → u.byte b = s.byte b) ∧ u.regs = s.regs ∧ BlocksSame s u ∧ CoreSame s u
      (at_ 0xFF00 12 → pairNum x 2 ≤ calLast → Gives (.calSplit t) s (fun u => back 12 0 u ∧
        let y := u.thr t
        let date := fun (f : Nat → Nat → Nat → Nat → Nat → Nat → Prop) => f (y.reg 2).toNat (bitsOf (y.reg 3) 24 8)
          (bitsOf (y.reg 3) 16 8) (bitsOf (y.reg 3) 8 8) (bitsOf (y.reg 3) 0 8) (bitsOf (y.reg 4) 0 8)
        date (fun a b c d e f => calValid a b c d e f = true ∧ calSec a b c d e f = pairNum x 2))) ∧
      (at_ 0xFF00 12 → calLast < pairNum x 2 → Gives (.calSplit t) s (back 12 1)) ∧
      (at_ 0xFF10 13 →
        let ok := calValid (x.reg 2).toNat (bitsOf (x.reg 3) 24 8) (bitsOf (x.reg 3) 16 8) (bitsOf (x.reg 3) 8 8)
          (bitsOf (x.reg 3) 0 8) (bitsOf (x.reg 4) 0 8)
        (ok = true → Gives (.calJoin t) s (fun u => back 13 0 u ∧ pairNum (u.thr t) 2 =
          calSec (x.reg 2).toNat (bitsOf (x.reg 3) 24 8) (bitsOf (x.reg 3) 16 8) (bitsOf (x.reg 3) 8 8)
            (bitsOf (x.reg 3) 0 8) (bitsOf (x.reg 4) 0 8))) ∧
        (ok = false → Gives (.calJoin t) s (back 13 2))) ∧
      (s.bakSettled = true →
        (at_ 0xFF20 14 → s.calSeconds < 2 ^ 64 → Gives (.calNow t) s (fun u => back 14 0 u ∧
          pairNum (u.thr t) 2 = s.calSeconds ∧ ((u.thr t).reg 4).toNat = s.bak.tick.toNat % 32768)) ∧
        (at_ 0xFF30 15 →
          let k := (s.bak.tick.toNat + 16384) / 32768
          (s.on F.BAK_LOCK_TLOCK = false → k ≤ pairNum x 2 → pairNum x 2 < k + 2 ^ 32 →
            s.storeBlocked F.BAK_EPOCH_S.addr = false → Gives (.calSet t) s (fun u => back 15 0 u ∧
              u.core.sb = s.core.sb ++ [⟨t, 0, 0x40024008, .store 15 (BitVec.ofNat 32 (pairNum x 2 - k))⟩])) ∧
          (s.on F.BAK_LOCK_TLOCK = true → k ≤ pairNum x 2 → pairNum x 2 < k + 2 ^ 32 →
            Gives (.calSet t) s (fun u => back 15 3 u ∧ u.core.sb = s.core.sb)) ∧
          (s.on F.BAK_LOCK_TLOCK = false → pairNum x 2 < k → Gives (.calSet t) s (fun u => back 15 1 u ∧
            u.core.sb = s.core.sb))))) ∧
    (∀ n : Fin 6, s.pwmLive = true →
      let y := s.pwm[n]
      let others := fun (u : State) => ∀ m : Fin 6, m ≠ n → u.pwm[m] = s.pwm[m]
      let loaded := fun (u : State) => u.pwm[n].per = s.get (F.PWM_PER_PER n) ∧
        u.pwm[n].dutyI = s.get (F.PWM_DUTY_DUTYI n) ∧ u.pwm[n].dfrac = s.get (F.PWM_DUTY_DFRAC n)
      let stat := [F.PWM_STAT_RUN n, F.PWM_STAT_TRIPF n, F.PWM_STAT_TRUNC n, F.PWM_STAT_LATCH n, F.PWM_STAT_TCNT n,
        F.PWM_STAT_RELERR n]
      (∀ (filt pol : Fld) (x : FltPin), s.fltAsserted filt pol x =
        ((if s.get filt + 1 ≤ x.held then x.level else x.filtered) == s.on pol)) ∧
      (s.pwmRuns n = true → Gives (.pwmWrap n) s (fun u => loaded u ∧
        u.get (F.PWM_CTR_PHASE n) = (s.get (F.PWM_CTR_PHASE n) + 1) % 16 ∧ u.on (F.PWM_STAT_TRUNC n) = false ∧
        u.pwm[n].win = y.win.map (· + 1) ∧ others u ∧
        Frame [F.PWM_CTR_PHASE n, F.PWM_STAT_TRUNC n] [.pwm] [] s u)) ∧
      (s.pwmRuns n = false → Gives (.pwmWrap n) s (fun u => u = s)) ∧
      (∀ f0 f1,
        let trips := s.pwmRuns n = true ∧ s.on (F.PWM_STAT_TRUNC n) = false ∧ s.pwmRouted n f0 f1 = true
        let fresh := y.win = none ∨ s.pwmWinDone n = true
        let c := if fresh then 1 else (s.get (F.PWM_STAT_TCNT n) + 1) % 2 ^ (F.PWM_STAT_TCNT n).width
        (¬trips → Gives (.pwmFaultTrip n f0 f1) s (fun u => u = s)) ∧
        (trips → Gives (.pwmFaultTrip n f0 f1) s (fun u => u.on (F.PWM_STAT_TRIPF n) = true ∧
          u.get (F.PWM_CNT_TRIPTOT n) = min (s.get (F.PWM_CNT_TRIPTOT n) + 1) 65535 ∧
          (s.on (F.PWM_STAT_TRIPF n) = false → s.on (F.PWM_CTL_TRIPEV n) = true → u.core.raised.getLsbD 26 = true) ∧
          (c < s.get (F.PWM_TRIP_N n) → u.on (F.PWM_STAT_TRUNC n) = true ∧ u.get (F.PWM_STAT_TCNT n) = c ∧
            u.pwm[n].win = (if fresh then some 0 else y.win) ∧
            u.get (F.PWM_STAT_LATCH n) = s.get (F.PWM_STAT_LATCH n)) ∧
          (s.get (F.PWM_TRIP_N n) ≤ c → u.on (F.PWM_STAT_LATCH n) = true ∧ u.on (F.PWM_STAT_RUN n) = false ∧
            u.pwm[n].win = none ∧ u.core.raised.getLsbD 26 = true) ∧ others u ∧
          Frame (F.PWM_CNT_TRIPTOT n :: stat) [.pwm] [26] s u))) ∧
      (∀ k, y.win = some k → s.get (F.PWM_TRIP_W n) ≤ k → Gives (.pwmWindowEnd n) s (fun u => u.pwm[n].win = none ∧
        u.get (F.PWM_STAT_TCNT n) = 0 ∧ others u ∧ Frame [F.PWM_STAT_TCNT n] [.pwm] [] s u)) ∧
      (s.pwmWinDone n = false → Gives (.pwmWindowEnd n) s (fun u => u = s)) ∧
      (∀ (ring : Ring) (v : Word),
        (ring = 3 → Gives (.pwmStart ring v) s (fun u => u = s)) ∧
        (ring.val ≤ 2 → Gives (.pwmStart ring v) s (fun u =>
          (v.getLsbD n = true → s.pwmRuns n = true → loaded u ∧ u.get (F.PWM_CTR_PHASE n) = 0 ∧
            u.on (F.PWM_STAT_TRUNC n) = false) ∧
          (v.getLsbD n = false ∨ s.pwmRuns n = false → u.pwm[n] = y ∧
            u.get (F.PWM_CTR_PHASE n) = s.get (F.PWM_CTR_PHASE n) ∧
            u.get (F.PWM_STAT_TRUNC n) = s.get (F.PWM_STAT_TRUNC n)) ∧ u.pwm[n].win = y.win ∧
          FrameIn [] ((List.finRange 6).flatMap (fun (m : Fin 6) => [F.PWM_CTR_PHASE m, F.PWM_STAT_TRUNC m]))
            [.pwm] [] s u)) ∧
        (∀ f0 f1,
          let latched := s.on (F.PWM_STAT_LATCH n)
          let release := v.getLsbD 3 = true ∧ latched = true
          let asserted := s.pwmRouted n f0 f1
          (ring = 3 → Gives (.pwmLatchRelease n ring v f0 f1) s (fun u => u = s)) ∧
          (ring.val ≤ 2 → Gives (.pwmLatchRelease n ring v f0 f1) s (fun u =>
            (release → asserted = true → u.on (F.PWM_STAT_LATCH n) = true ∧ u.on (F.PWM_STAT_RELERR n) = true) ∧
            (release → asserted = false → u.on (F.PWM_STAT_LATCH n) = false ∧
              (s.on (F.PWM_CTL_EN n) = true → u.on (F.PWM_STAT_RUN n) = true ∧ loaded u ∧ u.pwm[n].win = none ∧
                u.get (F.PWM_CTR_PHASE n) = 0)) ∧
            (¬release → u.on (F.PWM_STAT_LATCH n) = latched ∧ u.pwm = s.pwm) ∧
            (v.getLsbD 2 = true → u.on (F.PWM_STAT_TRIPF n) = false) ∧ others u ∧
            Frame (F.PWM_CTR_PHASE n :: stat) [.pwm] [] s u)))))
end

