-- ==== Sys2Proof/Laws/Sparse.lean ====
section
/-!
SUPPORT. Laws of the sparse stores: a read after a write, a write leaves every other key alone, and every operation
keeps the canonical form.
-/

namespace Sys2Proof.Machine

variable {β : Type}

/-- After an insertion the key reads the value inserted. -/
@[simp] theorem Sparse.get_insert_self (d : Nat → β) (l : List (Nat × β)) (a : Nat) (v : β) :
    Sparse.get d (Sparse.insert l a v) a = v := by
  induction l with
  | nil => simp [Sparse.insert, Sparse.get]
  | cons p t ih =>
    obtain ⟨k, w⟩ := p
    simp only [Sparse.insert]
    split
    · simp [Sparse.get]
    · split
      · simp [Sparse.get]
      · next h2 => simp [Sparse.get, h2, ih]

/-- An insertion leaves every other key alone. -/
theorem Sparse.get_insert_ne (d : Nat → β) (l : List (Nat × β)) {a b : Nat} (v : β) (h : a ≠ b) :
    Sparse.get d (Sparse.insert l a v) b = Sparse.get d l b := by
  induction l with
  | nil => simp [Sparse.insert, Sparse.get, h]
  | cons p t ih =>
    obtain ⟨k, w⟩ := p
    simp only [Sparse.insert]
    split
    · simp [Sparse.get, h]
    · split
      · next h2 => subst h2; simp [Sparse.get, h]
      · simp only [Sparse.get, ih]

/-- After an erasure the key reads the unlisted value. -/
@[simp] theorem Sparse.get_erase_self (d : Nat → β) (l : List (Nat × β)) (a : Nat) :
    Sparse.get d (Sparse.erase l a) a = d a := by
  induction l with
  | nil => simp [Sparse.erase, Sparse.get]
  | cons p t ih =>
    obtain ⟨k, w⟩ := p
    simp only [Sparse.erase, List.filter_cons] at ih ⊢
    by_cases h : k = a
    · simp [h, ih]
    · simp [h, Sparse.get, ih]

/-- An erasure leaves every other key alone. -/
theorem Sparse.get_erase_ne (d : Nat → β) (l : List (Nat × β)) {a b : Nat} (h : a ≠ b) :
    Sparse.get d (Sparse.erase l a) b = Sparse.get d l b := by
  induction l with
  | nil => simp [Sparse.erase, Sparse.get]
  | cons p t ih =>
    obtain ⟨k, w⟩ := p
    simp only [Sparse.erase, List.filter_cons] at ih ⊢
    by_cases hk : k = a
    · subst hk; simp [Sparse.get, h, ih]
    · simp [hk, Sparse.get, ih]

/-- A read after a write to the same key gives the value written. -/
@[simp] theorem Sparse.get_set_self [DecidableEq β] (d : Nat → β) (l : List (Nat × β)) (a : Nat) (v : β) :
    Sparse.get d (Sparse.set d l a v) a = v := by
  unfold Sparse.set
  split
  · next h => rw [Sparse.get_erase_self, h]
  · rw [Sparse.get_insert_self]

/-- A write leaves every other key alone. -/
theorem Sparse.get_set_ne [DecidableEq β] (d : Nat → β) (l : List (Nat × β)) {a b : Nat} (v : β) (h : a ≠ b) :
    Sparse.get d (Sparse.set d l a v) b = Sparse.get d l b := by
  unfold Sparse.set
  split
  · rw [Sparse.get_erase_ne d l h]
  · rw [Sparse.get_insert_ne d l v h]

/-- The empty store is canonical. -/
@[simp] theorem Sparse.wf_nil [DecidableEq β] (d : Nat → β) : Sparse.wf d [] = true := by
  simp [Sparse.wf]

/-- Dropping entries keeps the canonical form. -/
theorem Sparse.wf_filter [DecidableEq β] (d : Nat → β) (l : List (Nat × β)) (q : Nat × β → Bool)
    (h : Sparse.wf d l = true) : Sparse.wf d (l.filter q) = true := by
  simp only [Sparse.wf, Bool.and_eq_true, decide_eq_true_eq, List.all_eq_true] at h ⊢
  exact ⟨h.1.filter q, fun p hp => h.2 p (List.mem_filter.mp hp).1⟩

/-- Keys of a store after an insertion. -/
theorem Sparse.mem_insert (l : List (Nat × β)) (a : Nat) (v : β) (p : Nat × β)
    (h : p ∈ Sparse.insert l a v) : p = (a, v) ∨ p ∈ l := by
  induction l with
  | nil => simpa [Sparse.insert] using h
  | cons q t ih =>
    obtain ⟨k, w⟩ := q
    simp only [Sparse.insert] at h
    split at h
    · simpa using h
    · split at h
      · rcases List.mem_cons.mp h with h | h
        · exact .inl h
        · exact .inr (List.mem_cons_of_mem _ h)
      · rcases List.mem_cons.mp h with h | h
        · exact .inr (h ▸ List.mem_cons_self)
        · rcases ih h with h | h
          · exact .inl h
          · exact .inr (List.mem_cons_of_mem _ h)

/-- An insertion of another value than the unlisted one keeps the canonical form. -/
theorem Sparse.wf_insert [DecidableEq β] (d : Nat → β) (l : List (Nat × β)) (a : Nat) (v : β) (hv : v ≠ d a)
    (h : Sparse.wf d l = true) : Sparse.wf d (Sparse.insert l a v) = true := by
  simp only [Sparse.wf, Bool.and_eq_true, decide_eq_true_eq, List.all_eq_true] at h ⊢
  refine ⟨?_, fun p hp => ?_⟩
  · obtain ⟨h1, -⟩ := h
    induction l with
    | nil => simp [Sparse.insert]
    | cons q t ih =>
      obtain ⟨k, w⟩ := q
      rw [List.pairwise_cons] at h1
      simp only [Sparse.insert]
      split
      · next hlt =>
        refine List.pairwise_cons.mpr ⟨fun p hp => ?_, List.pairwise_cons.mpr h1⟩
        rcases List.mem_cons.mp hp with hp | hp
        · exact hp ▸ hlt
        · exact lt_trans hlt (h1.1 p hp)
      · split
        · next heq => subst heq; exact List.pairwise_cons.mpr ⟨h1.1, h1.2⟩
        · next hn1 hn2 =>
          refine List.pairwise_cons.mpr ⟨fun p hp => ?_, ih h1.2⟩
          rcases Sparse.mem_insert t a v p hp with hp | hp
          · subst hp; show k < a; omega
          · exact h1.1 p hp
  · rcases Sparse.mem_insert l a v p hp with hp | hp
    · subst hp; exact hv
    · exact h.2 p hp

/-- A write keeps the canonical form. -/
theorem Sparse.wf_set [DecidableEq β] (d : Nat → β) (l : List (Nat × β)) (a : Nat) (v : β) (h : Sparse.wf d l = true) :
    Sparse.wf d (Sparse.set d l a v) = true := by
  unfold Sparse.set
  split
  · exact Sparse.wf_filter d l _ h
  · next hv => exact Sparse.wf_insert d l a v hv h

end Sys2Proof.Machine
end

