-- ==== Sys2Proof/Laws/State.lean ====
section
/-!
SUPPORT. What each update of the state leaves alone, field by field, and what it sets: no later proof unfolds a record
update.
-/

namespace Sys2Proof.Machine

variable (s : State)

@[simp] theorem State.put_pending (f : Fld) (v : Nat) : (s.put f v).pending = s.pending := rfl
@[simp] theorem State.put_mem (f : Fld) (v : Nat) : (s.put f v).mem = s.mem := rfl
@[simp] theorem State.put_core (f : Fld) (v : Nat) : (s.put f v).core = s.core := rfl
@[simp] theorem State.put_pwr (f : Fld) (v : Nat) : (s.put f v).pwr = s.pwr := rfl
@[simp] theorem State.put_nvc (f : Fld) (v : Nat) : (s.put f v).nvc = s.nvc := rfl
@[simp] theorem State.put_sw (f : Fld) (v : Nat) : (s.put f v).sw = s.sw := rfl
@[simp] theorem State.put_store (f : Fld) (v : Nat) : (s.put f v).store = s.store := rfl
@[simp] theorem State.put_seq (f : Fld) (v : Nat) : (s.put f v).seq = s.seq := rfl
@[simp] theorem State.put_port (f : Fld) (v : Nat) : (s.put f v).port = s.port := rfl
@[simp] theorem State.put_host (f : Fld) (v : Nat) : (s.put f v).host = s.host := rfl
@[simp] theorem State.put_uart (f : Fld) (v : Nat) : (s.put f v).uart = s.uart := rfl
@[simp] theorem State.put_adc (f : Fld) (v : Nat) : (s.put f v).adc = s.adc := rfl
@[simp] theorem State.put_therm (f : Fld) (v : Nat) : (s.put f v).therm = s.therm := rfl
@[simp] theorem State.put_bak (f : Fld) (v : Nat) : (s.put f v).bak = s.bak := rfl
@[simp] theorem State.put_pwm (f : Fld) (v : Nat) : (s.put f v).pwm = s.pwm := rfl
@[simp] theorem State.put_free (f : Fld) (v : Nat) : (s.put f v).free = s.free := rfl
@[simp] theorem State.put_pins (f : Fld) (v : Nat) : (s.put f v).pins = s.pins := rfl

@[simp] theorem State.putB_pending (f : Fld) (b : Bool) : (s.putB f b).pending = s.pending := rfl
@[simp] theorem State.putB_mem (f : Fld) (b : Bool) : (s.putB f b).mem = s.mem := rfl
@[simp] theorem State.putB_core (f : Fld) (b : Bool) : (s.putB f b).core = s.core := rfl
@[simp] theorem State.putB_pwr (f : Fld) (b : Bool) : (s.putB f b).pwr = s.pwr := rfl
@[simp] theorem State.putB_nvc (f : Fld) (b : Bool) : (s.putB f b).nvc = s.nvc := rfl
@[simp] theorem State.putB_sw (f : Fld) (b : Bool) : (s.putB f b).sw = s.sw := rfl
@[simp] theorem State.putB_store (f : Fld) (b : Bool) : (s.putB f b).store = s.store := rfl
@[simp] theorem State.putB_seq (f : Fld) (b : Bool) : (s.putB f b).seq = s.seq := rfl
@[simp] theorem State.putB_port (f : Fld) (b : Bool) : (s.putB f b).port = s.port := rfl
@[simp] theorem State.putB_host (f : Fld) (b : Bool) : (s.putB f b).host = s.host := rfl
@[simp] theorem State.putB_uart (f : Fld) (b : Bool) : (s.putB f b).uart = s.uart := rfl
@[simp] theorem State.putB_adc (f : Fld) (b : Bool) : (s.putB f b).adc = s.adc := rfl
@[simp] theorem State.putB_therm (f : Fld) (b : Bool) : (s.putB f b).therm = s.therm := rfl
@[simp] theorem State.putB_bak (f : Fld) (b : Bool) : (s.putB f b).bak = s.bak := rfl
@[simp] theorem State.putB_pwm (f : Fld) (b : Bool) : (s.putB f b).pwm = s.pwm := rfl
@[simp] theorem State.putB_free (f : Fld) (b : Bool) : (s.putB f b).free = s.free := rfl
@[simp] theorem State.putB_pins (f : Fld) (b : Bool) : (s.putB f b).pins = s.pins := rfl

@[simp] theorem State.setBit_pending (f : Fld) (i : Nat) : (s.setBit f i).pending = s.pending := rfl
@[simp] theorem State.setBit_mem (f : Fld) (i : Nat) : (s.setBit f i).mem = s.mem := rfl
@[simp] theorem State.setBit_core (f : Fld) (i : Nat) : (s.setBit f i).core = s.core := rfl
@[simp] theorem State.setBit_pwr (f : Fld) (i : Nat) : (s.setBit f i).pwr = s.pwr := rfl
@[simp] theorem State.setBit_nvc (f : Fld) (i : Nat) : (s.setBit f i).nvc = s.nvc := rfl
@[simp] theorem State.setBit_sw (f : Fld) (i : Nat) : (s.setBit f i).sw = s.sw := rfl
@[simp] theorem State.setBit_store (f : Fld) (i : Nat) : (s.setBit f i).store = s.store := rfl
@[simp] theorem State.setBit_seq (f : Fld) (i : Nat) : (s.setBit f i).seq = s.seq := rfl
@[simp] theorem State.setBit_port (f : Fld) (i : Nat) : (s.setBit f i).port = s.port := rfl
@[simp] theorem State.setBit_host (f : Fld) (i : Nat) : (s.setBit f i).host = s.host := rfl
@[simp] theorem State.setBit_uart (f : Fld) (i : Nat) : (s.setBit f i).uart = s.uart := rfl
@[simp] theorem State.setBit_adc (f : Fld) (i : Nat) : (s.setBit f i).adc = s.adc := rfl
@[simp] theorem State.setBit_therm (f : Fld) (i : Nat) : (s.setBit f i).therm = s.therm := rfl
@[simp] theorem State.setBit_bak (f : Fld) (i : Nat) : (s.setBit f i).bak = s.bak := rfl
@[simp] theorem State.setBit_pwm (f : Fld) (i : Nat) : (s.setBit f i).pwm = s.pwm := rfl
@[simp] theorem State.setBit_free (f : Fld) (i : Nat) : (s.setBit f i).free = s.free := rfl
@[simp] theorem State.setBit_pins (f : Fld) (i : Nat) : (s.setBit f i).pins = s.pins := rfl

@[simp] theorem State.bump_pending (f : Fld) (n : Nat) : (s.bump f n).pending = s.pending := rfl
@[simp] theorem State.bump_mem (f : Fld) (n : Nat) : (s.bump f n).mem = s.mem := rfl
@[simp] theorem State.bump_core (f : Fld) (n : Nat) : (s.bump f n).core = s.core := rfl
@[simp] theorem State.bump_pwr (f : Fld) (n : Nat) : (s.bump f n).pwr = s.pwr := rfl
@[simp] theorem State.bump_nvc (f : Fld) (n : Nat) : (s.bump f n).nvc = s.nvc := rfl
@[simp] theorem State.bump_sw (f : Fld) (n : Nat) : (s.bump f n).sw = s.sw := rfl
@[simp] theorem State.bump_store (f : Fld) (n : Nat) : (s.bump f n).store = s.store := rfl
@[simp] theorem State.bump_seq (f : Fld) (n : Nat) : (s.bump f n).seq = s.seq := rfl
@[simp] theorem State.bump_port (f : Fld) (n : Nat) : (s.bump f n).port = s.port := rfl
@[simp] theorem State.bump_host (f : Fld) (n : Nat) : (s.bump f n).host = s.host := rfl
@[simp] theorem State.bump_uart (f : Fld) (n : Nat) : (s.bump f n).uart = s.uart := rfl
@[simp] theorem State.bump_adc (f : Fld) (n : Nat) : (s.bump f n).adc = s.adc := rfl
@[simp] theorem State.bump_therm (f : Fld) (n : Nat) : (s.bump f n).therm = s.therm := rfl
@[simp] theorem State.bump_bak (f : Fld) (n : Nat) : (s.bump f n).bak = s.bak := rfl
@[simp] theorem State.bump_pwm (f : Fld) (n : Nat) : (s.bump f n).pwm = s.pwm := rfl
@[simp] theorem State.bump_free (f : Fld) (n : Nat) : (s.bump f n).free = s.free := rfl
@[simp] theorem State.bump_pins (f : Fld) (n : Nat) : (s.bump f n).pins = s.pins := rfl

@[simp] theorem State.coldWindow_pending (b : Nat) (k : Nat → Bool) : (s.coldWindow b k).pending = s.pending := rfl
@[simp] theorem State.coldWindow_mem (b : Nat) (k : Nat → Bool) : (s.coldWindow b k).mem = s.mem := rfl
@[simp] theorem State.coldWindow_core (b : Nat) (k : Nat → Bool) : (s.coldWindow b k).core = s.core := rfl
@[simp] theorem State.coldWindow_pwr (b : Nat) (k : Nat → Bool) : (s.coldWindow b k).pwr = s.pwr := rfl
@[simp] theorem State.coldWindow_nvc (b : Nat) (k : Nat → Bool) : (s.coldWindow b k).nvc = s.nvc := rfl
@[simp] theorem State.coldWindow_sw (b : Nat) (k : Nat → Bool) : (s.coldWindow b k).sw = s.sw := rfl
@[simp] theorem State.coldWindow_store (b : Nat) (k : Nat → Bool) : (s.coldWindow b k).store = s.store := rfl
@[simp] theorem State.coldWindow_seq (b : Nat) (k : Nat → Bool) : (s.coldWindow b k).seq = s.seq := rfl
@[simp] theorem State.coldWindow_port (b : Nat) (k : Nat → Bool) : (s.coldWindow b k).port = s.port := rfl
@[simp] theorem State.coldWindow_host (b : Nat) (k : Nat → Bool) : (s.coldWindow b k).host = s.host := rfl
@[simp] theorem State.coldWindow_uart (b : Nat) (k : Nat → Bool) : (s.coldWindow b k).uart = s.uart := rfl
@[simp] theorem State.coldWindow_adc (b : Nat) (k : Nat → Bool) : (s.coldWindow b k).adc = s.adc := rfl
@[simp] theorem State.coldWindow_therm (b : Nat) (k : Nat → Bool) : (s.coldWindow b k).therm = s.therm := rfl
@[simp] theorem State.coldWindow_bak (b : Nat) (k : Nat → Bool) : (s.coldWindow b k).bak = s.bak := rfl
@[simp] theorem State.coldWindow_pwm (b : Nat) (k : Nat → Bool) : (s.coldWindow b k).pwm = s.pwm := rfl
@[simp] theorem State.coldWindow_free (b : Nat) (k : Nat → Bool) : (s.coldWindow b k).free = s.free := rfl
@[simp] theorem State.coldWindow_pins (b : Nat) (k : Nat → Bool) : (s.coldWindow b k).pins = s.pins := rfl

@[simp] theorem State.setByte_pending (a : Nat) (v : Byte) : (s.setByte a v).pending = s.pending := rfl
@[simp] theorem State.setByte_regs (a : Nat) (v : Byte) : (s.setByte a v).regs = s.regs := rfl
@[simp] theorem State.setByte_core (a : Nat) (v : Byte) : (s.setByte a v).core = s.core := rfl
@[simp] theorem State.setByte_pwr (a : Nat) (v : Byte) : (s.setByte a v).pwr = s.pwr := rfl
@[simp] theorem State.setByte_nvc (a : Nat) (v : Byte) : (s.setByte a v).nvc = s.nvc := rfl
@[simp] theorem State.setByte_sw (a : Nat) (v : Byte) : (s.setByte a v).sw = s.sw := rfl
@[simp] theorem State.setByte_store (a : Nat) (v : Byte) : (s.setByte a v).store = s.store := rfl
@[simp] theorem State.setByte_seq (a : Nat) (v : Byte) : (s.setByte a v).seq = s.seq := rfl
@[simp] theorem State.setByte_port (a : Nat) (v : Byte) : (s.setByte a v).port = s.port := rfl
@[simp] theorem State.setByte_host (a : Nat) (v : Byte) : (s.setByte a v).host = s.host := rfl
@[simp] theorem State.setByte_uart (a : Nat) (v : Byte) : (s.setByte a v).uart = s.uart := rfl
@[simp] theorem State.setByte_adc (a : Nat) (v : Byte) : (s.setByte a v).adc = s.adc := rfl
@[simp] theorem State.setByte_therm (a : Nat) (v : Byte) : (s.setByte a v).therm = s.therm := rfl
@[simp] theorem State.setByte_bak (a : Nat) (v : Byte) : (s.setByte a v).bak = s.bak := rfl
@[simp] theorem State.setByte_pwm (a : Nat) (v : Byte) : (s.setByte a v).pwm = s.pwm := rfl
@[simp] theorem State.setByte_free (a : Nat) (v : Byte) : (s.setByte a v).free = s.free := rfl
@[simp] theorem State.setByte_pins (a : Nat) (v : Byte) : (s.setByte a v).pins = s.pins := rfl

@[simp] theorem State.forget_pending (lo hi : Nat) : (s.forget lo hi).pending = s.pending := rfl
@[simp] theorem State.forget_regs (lo hi : Nat) : (s.forget lo hi).regs = s.regs := rfl
@[simp] theorem State.forget_core (lo hi : Nat) : (s.forget lo hi).core = s.core := rfl
@[simp] theorem State.forget_pwr (lo hi : Nat) : (s.forget lo hi).pwr = s.pwr := rfl
@[simp] theorem State.forget_nvc (lo hi : Nat) : (s.forget lo hi).nvc = s.nvc := rfl
@[simp] theorem State.forget_sw (lo hi : Nat) : (s.forget lo hi).sw = s.sw := rfl
@[simp] theorem State.forget_store (lo hi : Nat) : (s.forget lo hi).store = s.store := rfl
@[simp] theorem State.forget_seq (lo hi : Nat) : (s.forget lo hi).seq = s.seq := rfl
@[simp] theorem State.forget_port (lo hi : Nat) : (s.forget lo hi).port = s.port := rfl
@[simp] theorem State.forget_host (lo hi : Nat) : (s.forget lo hi).host = s.host := rfl
@[simp] theorem State.forget_uart (lo hi : Nat) : (s.forget lo hi).uart = s.uart := rfl
@[simp] theorem State.forget_adc (lo hi : Nat) : (s.forget lo hi).adc = s.adc := rfl
@[simp] theorem State.forget_therm (lo hi : Nat) : (s.forget lo hi).therm = s.therm := rfl
@[simp] theorem State.forget_bak (lo hi : Nat) : (s.forget lo hi).bak = s.bak := rfl
@[simp] theorem State.forget_pwm (lo hi : Nat) : (s.forget lo hi).pwm = s.pwm := rfl
@[simp] theorem State.forget_free (lo hi : Nat) : (s.forget lo hi).free = s.free := rfl
@[simp] theorem State.forget_pins (lo hi : Nat) : (s.forget lo hi).pins = s.pins := rfl

@[simp] theorem State.setOtpRow_pending (r : Nat) (v : Word) : (s.setOtpRow r v).pending = s.pending := rfl
@[simp] theorem State.setOtpRow_regs (r : Nat) (v : Word) : (s.setOtpRow r v).regs = s.regs := rfl
@[simp] theorem State.setOtpRow_core (r : Nat) (v : Word) : (s.setOtpRow r v).core = s.core := rfl
@[simp] theorem State.setOtpRow_pwr (r : Nat) (v : Word) : (s.setOtpRow r v).pwr = s.pwr := rfl
@[simp] theorem State.setOtpRow_nvc (r : Nat) (v : Word) : (s.setOtpRow r v).nvc = s.nvc := rfl
@[simp] theorem State.setOtpRow_sw (r : Nat) (v : Word) : (s.setOtpRow r v).sw = s.sw := rfl
@[simp] theorem State.setOtpRow_store (r : Nat) (v : Word) : (s.setOtpRow r v).store = s.store := rfl
@[simp] theorem State.setOtpRow_seq (r : Nat) (v : Word) : (s.setOtpRow r v).seq = s.seq := rfl
@[simp] theorem State.setOtpRow_port (r : Nat) (v : Word) : (s.setOtpRow r v).port = s.port := rfl
@[simp] theorem State.setOtpRow_host (r : Nat) (v : Word) : (s.setOtpRow r v).host = s.host := rfl
@[simp] theorem State.setOtpRow_uart (r : Nat) (v : Word) : (s.setOtpRow r v).uart = s.uart := rfl
@[simp] theorem State.setOtpRow_adc (r : Nat) (v : Word) : (s.setOtpRow r v).adc = s.adc := rfl
@[simp] theorem State.setOtpRow_therm (r : Nat) (v : Word) : (s.setOtpRow r v).therm = s.therm := rfl
@[simp] theorem State.setOtpRow_bak (r : Nat) (v : Word) : (s.setOtpRow r v).bak = s.bak := rfl
@[simp] theorem State.setOtpRow_pwm (r : Nat) (v : Word) : (s.setOtpRow r v).pwm = s.pwm := rfl
@[simp] theorem State.setOtpRow_free (r : Nat) (v : Word) : (s.setOtpRow r v).free = s.free := rfl
@[simp] theorem State.setOtpRow_pins (r : Nat) (v : Word) : (s.setOtpRow r v).pins = s.pins := rfl

@[simp] theorem State.setGran_pending (a v : Nat) : (s.setGran a v).pending = s.pending := rfl
@[simp] theorem State.setGran_regs (a v : Nat) : (s.setGran a v).regs = s.regs := rfl
@[simp] theorem State.setGran_core (a v : Nat) : (s.setGran a v).core = s.core := rfl
@[simp] theorem State.setGran_pwr (a v : Nat) : (s.setGran a v).pwr = s.pwr := rfl
@[simp] theorem State.setGran_nvc (a v : Nat) : (s.setGran a v).nvc = s.nvc := rfl
@[simp] theorem State.setGran_sw (a v : Nat) : (s.setGran a v).sw = s.sw := rfl
@[simp] theorem State.setGran_store (a v : Nat) : (s.setGran a v).store = s.store := rfl
@[simp] theorem State.setGran_seq (a v : Nat) : (s.setGran a v).seq = s.seq := rfl
@[simp] theorem State.setGran_port (a v : Nat) : (s.setGran a v).port = s.port := rfl
@[simp] theorem State.setGran_host (a v : Nat) : (s.setGran a v).host = s.host := rfl
@[simp] theorem State.setGran_uart (a v : Nat) : (s.setGran a v).uart = s.uart := rfl
@[simp] theorem State.setGran_adc (a v : Nat) : (s.setGran a v).adc = s.adc := rfl
@[simp] theorem State.setGran_therm (a v : Nat) : (s.setGran a v).therm = s.therm := rfl
@[simp] theorem State.setGran_bak (a v : Nat) : (s.setGran a v).bak = s.bak := rfl
@[simp] theorem State.setGran_pwm (a v : Nat) : (s.setGran a v).pwm = s.pwm := rfl
@[simp] theorem State.setGran_free (a v : Nat) : (s.setGran a v).free = s.free := rfl
@[simp] theorem State.setGran_pins (a v : Nat) : (s.setGran a v).pins = s.pins := rfl

@[simp] theorem State.setThr_pending (t : Tid) (x : Thread) : (s.setThr t x).pending = s.pending := rfl
@[simp] theorem State.setThr_regs (t : Tid) (x : Thread) : (s.setThr t x).regs = s.regs := rfl
@[simp] theorem State.setThr_mem (t : Tid) (x : Thread) : (s.setThr t x).mem = s.mem := rfl
@[simp] theorem State.setThr_pwr (t : Tid) (x : Thread) : (s.setThr t x).pwr = s.pwr := rfl
@[simp] theorem State.setThr_nvc (t : Tid) (x : Thread) : (s.setThr t x).nvc = s.nvc := rfl
@[simp] theorem State.setThr_sw (t : Tid) (x : Thread) : (s.setThr t x).sw = s.sw := rfl
@[simp] theorem State.setThr_store (t : Tid) (x : Thread) : (s.setThr t x).store = s.store := rfl
@[simp] theorem State.setThr_seq (t : Tid) (x : Thread) : (s.setThr t x).seq = s.seq := rfl
@[simp] theorem State.setThr_port (t : Tid) (x : Thread) : (s.setThr t x).port = s.port := rfl
@[simp] theorem State.setThr_host (t : Tid) (x : Thread) : (s.setThr t x).host = s.host := rfl
@[simp] theorem State.setThr_uart (t : Tid) (x : Thread) : (s.setThr t x).uart = s.uart := rfl
@[simp] theorem State.setThr_adc (t : Tid) (x : Thread) : (s.setThr t x).adc = s.adc := rfl
@[simp] theorem State.setThr_therm (t : Tid) (x : Thread) : (s.setThr t x).therm = s.therm := rfl
@[simp] theorem State.setThr_bak (t : Tid) (x : Thread) : (s.setThr t x).bak = s.bak := rfl
@[simp] theorem State.setThr_pwm (t : Tid) (x : Thread) : (s.setThr t x).pwm = s.pwm := rfl
@[simp] theorem State.setThr_free (t : Tid) (x : Thread) : (s.setThr t x).free = s.free := rfl
@[simp] theorem State.setThr_pins (t : Tid) (x : Thread) : (s.setThr t x).pins = s.pins := rfl

@[simp] theorem State.mapThr_pending (f : Thread → Thread) : (s.mapThr f).pending = s.pending := rfl
@[simp] theorem State.mapThr_regs (f : Thread → Thread) : (s.mapThr f).regs = s.regs := rfl
@[simp] theorem State.mapThr_mem (f : Thread → Thread) : (s.mapThr f).mem = s.mem := rfl
@[simp] theorem State.mapThr_pwr (f : Thread → Thread) : (s.mapThr f).pwr = s.pwr := rfl
@[simp] theorem State.mapThr_nvc (f : Thread → Thread) : (s.mapThr f).nvc = s.nvc := rfl
@[simp] theorem State.mapThr_sw (f : Thread → Thread) : (s.mapThr f).sw = s.sw := rfl
@[simp] theorem State.mapThr_store (f : Thread → Thread) : (s.mapThr f).store = s.store := rfl
@[simp] theorem State.mapThr_seq (f : Thread → Thread) : (s.mapThr f).seq = s.seq := rfl
@[simp] theorem State.mapThr_port (f : Thread → Thread) : (s.mapThr f).port = s.port := rfl
@[simp] theorem State.mapThr_host (f : Thread → Thread) : (s.mapThr f).host = s.host := rfl
@[simp] theorem State.mapThr_uart (f : Thread → Thread) : (s.mapThr f).uart = s.uart := rfl
@[simp] theorem State.mapThr_adc (f : Thread → Thread) : (s.mapThr f).adc = s.adc := rfl
@[simp] theorem State.mapThr_therm (f : Thread → Thread) : (s.mapThr f).therm = s.therm := rfl
@[simp] theorem State.mapThr_bak (f : Thread → Thread) : (s.mapThr f).bak = s.bak := rfl
@[simp] theorem State.mapThr_pwm (f : Thread → Thread) : (s.mapThr f).pwm = s.pwm := rfl
@[simp] theorem State.mapThr_free (f : Thread → Thread) : (s.mapThr f).free = s.free := rfl
@[simp] theorem State.mapThr_pins (f : Thread → Thread) : (s.mapThr f).pins = s.pins := rfl

@[simp] theorem State.retryStalls_pending : (s.retryStalls).pending = s.pending := rfl
@[simp] theorem State.retryStalls_regs : (s.retryStalls).regs = s.regs := rfl
@[simp] theorem State.retryStalls_mem : (s.retryStalls).mem = s.mem := rfl
@[simp] theorem State.retryStalls_pwr : (s.retryStalls).pwr = s.pwr := rfl
@[simp] theorem State.retryStalls_nvc : (s.retryStalls).nvc = s.nvc := rfl
@[simp] theorem State.retryStalls_sw : (s.retryStalls).sw = s.sw := rfl
@[simp] theorem State.retryStalls_store : (s.retryStalls).store = s.store := rfl
@[simp] theorem State.retryStalls_seq : (s.retryStalls).seq = s.seq := rfl
@[simp] theorem State.retryStalls_port : (s.retryStalls).port = s.port := rfl
@[simp] theorem State.retryStalls_host : (s.retryStalls).host = s.host := rfl
@[simp] theorem State.retryStalls_uart : (s.retryStalls).uart = s.uart := rfl
@[simp] theorem State.retryStalls_adc : (s.retryStalls).adc = s.adc := rfl
@[simp] theorem State.retryStalls_therm : (s.retryStalls).therm = s.therm := rfl
@[simp] theorem State.retryStalls_bak : (s.retryStalls).bak = s.bak := rfl
@[simp] theorem State.retryStalls_pwm : (s.retryStalls).pwm = s.pwm := rfl
@[simp] theorem State.retryStalls_free : (s.retryStalls).free = s.free := rfl
@[simp] theorem State.retryStalls_pins : (s.retryStalls).pins = s.pins := rfl

@[simp] theorem State.pendAll_pending (m : BitVec 64) : (s.pendAll m).pending = s.pending := rfl
@[simp] theorem State.pendAll_regs (m : BitVec 64) : (s.pendAll m).regs = s.regs := rfl
@[simp] theorem State.pendAll_mem (m : BitVec 64) : (s.pendAll m).mem = s.mem := rfl
@[simp] theorem State.pendAll_pwr (m : BitVec 64) : (s.pendAll m).pwr = s.pwr := rfl
@[simp] theorem State.pendAll_nvc (m : BitVec 64) : (s.pendAll m).nvc = s.nvc := rfl
@[simp] theorem State.pendAll_sw (m : BitVec 64) : (s.pendAll m).sw = s.sw := rfl
@[simp] theorem State.pendAll_store (m : BitVec 64) : (s.pendAll m).store = s.store := rfl
@[simp] theorem State.pendAll_seq (m : BitVec 64) : (s.pendAll m).seq = s.seq := rfl
@[simp] theorem State.pendAll_port (m : BitVec 64) : (s.pendAll m).port = s.port := rfl
@[simp] theorem State.pendAll_host (m : BitVec 64) : (s.pendAll m).host = s.host := rfl
@[simp] theorem State.pendAll_uart (m : BitVec 64) : (s.pendAll m).uart = s.uart := rfl
@[simp] theorem State.pendAll_adc (m : BitVec 64) : (s.pendAll m).adc = s.adc := rfl
@[simp] theorem State.pendAll_therm (m : BitVec 64) : (s.pendAll m).therm = s.therm := rfl
@[simp] theorem State.pendAll_bak (m : BitVec 64) : (s.pendAll m).bak = s.bak := rfl
@[simp] theorem State.pendAll_pwm (m : BitVec 64) : (s.pendAll m).pwm = s.pwm := rfl
@[simp] theorem State.pendAll_free (m : BitVec 64) : (s.pendAll m).free = s.free := rfl
@[simp] theorem State.pendAll_pins (m : BitVec 64) : (s.pendAll m).pins = s.pins := rfl

@[simp] theorem State.raise_pending (k : Nat) : (s.raise k).pending = s.pending := rfl
@[simp] theorem State.raise_regs (k : Nat) : (s.raise k).regs = s.regs := rfl
@[simp] theorem State.raise_mem (k : Nat) : (s.raise k).mem = s.mem := rfl
@[simp] theorem State.raise_pwr (k : Nat) : (s.raise k).pwr = s.pwr := rfl
@[simp] theorem State.raise_nvc (k : Nat) : (s.raise k).nvc = s.nvc := rfl
@[simp] theorem State.raise_sw (k : Nat) : (s.raise k).sw = s.sw := rfl
@[simp] theorem State.raise_store (k : Nat) : (s.raise k).store = s.store := rfl
@[simp] theorem State.raise_seq (k : Nat) : (s.raise k).seq = s.seq := rfl
@[simp] theorem State.raise_port (k : Nat) : (s.raise k).port = s.port := rfl
@[simp] theorem State.raise_host (k : Nat) : (s.raise k).host = s.host := rfl
@[simp] theorem State.raise_uart (k : Nat) : (s.raise k).uart = s.uart := rfl
@[simp] theorem State.raise_adc (k : Nat) : (s.raise k).adc = s.adc := rfl
@[simp] theorem State.raise_therm (k : Nat) : (s.raise k).therm = s.therm := rfl
@[simp] theorem State.raise_bak (k : Nat) : (s.raise k).bak = s.bak := rfl
@[simp] theorem State.raise_pwm (k : Nat) : (s.raise k).pwm = s.pwm := rfl
@[simp] theorem State.raise_free (k : Nat) : (s.raise k).free = s.free := rfl
@[simp] theorem State.raise_pins (k : Nat) : (s.raise k).pins = s.pins := rfl

@[simp] theorem State.coreUpd_pending (f : Core → Core) : (s.coreUpd f).pending = s.pending := rfl
@[simp] theorem State.coreUpd_regs (f : Core → Core) : (s.coreUpd f).regs = s.regs := rfl
@[simp] theorem State.coreUpd_mem (f : Core → Core) : (s.coreUpd f).mem = s.mem := rfl
@[simp] theorem State.coreUpd_pwr (f : Core → Core) : (s.coreUpd f).pwr = s.pwr := rfl
@[simp] theorem State.coreUpd_nvc (f : Core → Core) : (s.coreUpd f).nvc = s.nvc := rfl
@[simp] theorem State.coreUpd_sw (f : Core → Core) : (s.coreUpd f).sw = s.sw := rfl
@[simp] theorem State.coreUpd_store (f : Core → Core) : (s.coreUpd f).store = s.store := rfl
@[simp] theorem State.coreUpd_seq (f : Core → Core) : (s.coreUpd f).seq = s.seq := rfl
@[simp] theorem State.coreUpd_port (f : Core → Core) : (s.coreUpd f).port = s.port := rfl
@[simp] theorem State.coreUpd_host (f : Core → Core) : (s.coreUpd f).host = s.host := rfl
@[simp] theorem State.coreUpd_uart (f : Core → Core) : (s.coreUpd f).uart = s.uart := rfl
@[simp] theorem State.coreUpd_adc (f : Core → Core) : (s.coreUpd f).adc = s.adc := rfl
@[simp] theorem State.coreUpd_therm (f : Core → Core) : (s.coreUpd f).therm = s.therm := rfl
@[simp] theorem State.coreUpd_bak (f : Core → Core) : (s.coreUpd f).bak = s.bak := rfl
@[simp] theorem State.coreUpd_pwm (f : Core → Core) : (s.coreUpd f).pwm = s.pwm := rfl
@[simp] theorem State.coreUpd_free (f : Core → Core) : (s.coreUpd f).free = s.free := rfl
@[simp] theorem State.coreUpd_pins (f : Core → Core) : (s.coreUpd f).pins = s.pins := rfl

@[simp] theorem State.tickFree_pending : (s.tickFree).pending = s.pending := rfl
@[simp] theorem State.tickFree_regs : (s.tickFree).regs = s.regs := rfl
@[simp] theorem State.tickFree_mem : (s.tickFree).mem = s.mem := rfl
@[simp] theorem State.tickFree_core : (s.tickFree).core = s.core := rfl
@[simp] theorem State.tickFree_pwr : (s.tickFree).pwr = s.pwr := rfl
@[simp] theorem State.tickFree_nvc : (s.tickFree).nvc = s.nvc := rfl
@[simp] theorem State.tickFree_sw : (s.tickFree).sw = s.sw := rfl
@[simp] theorem State.tickFree_store : (s.tickFree).store = s.store := rfl
@[simp] theorem State.tickFree_seq : (s.tickFree).seq = s.seq := rfl
@[simp] theorem State.tickFree_port : (s.tickFree).port = s.port := rfl
@[simp] theorem State.tickFree_host : (s.tickFree).host = s.host := rfl
@[simp] theorem State.tickFree_uart : (s.tickFree).uart = s.uart := rfl
@[simp] theorem State.tickFree_adc : (s.tickFree).adc = s.adc := rfl
@[simp] theorem State.tickFree_therm : (s.tickFree).therm = s.therm := rfl
@[simp] theorem State.tickFree_bak : (s.tickFree).bak = s.bak := rfl
@[simp] theorem State.tickFree_pwm : (s.tickFree).pwm = s.pwm := rfl

@[simp] theorem State.swUpd_pending (n : Fin 6) (f : SwSt → SwSt) : (s.swUpd n f).pending = s.pending := rfl
@[simp] theorem State.swUpd_regs (n : Fin 6) (f : SwSt → SwSt) : (s.swUpd n f).regs = s.regs := rfl
@[simp] theorem State.swUpd_mem (n : Fin 6) (f : SwSt → SwSt) : (s.swUpd n f).mem = s.mem := rfl
@[simp] theorem State.swUpd_core (n : Fin 6) (f : SwSt → SwSt) : (s.swUpd n f).core = s.core := rfl
@[simp] theorem State.swUpd_pwr (n : Fin 6) (f : SwSt → SwSt) : (s.swUpd n f).pwr = s.pwr := rfl
@[simp] theorem State.swUpd_nvc (n : Fin 6) (f : SwSt → SwSt) : (s.swUpd n f).nvc = s.nvc := rfl
@[simp] theorem State.swUpd_store (n : Fin 6) (f : SwSt → SwSt) : (s.swUpd n f).store = s.store := rfl
@[simp] theorem State.swUpd_seq (n : Fin 6) (f : SwSt → SwSt) : (s.swUpd n f).seq = s.seq := rfl
@[simp] theorem State.swUpd_port (n : Fin 6) (f : SwSt → SwSt) : (s.swUpd n f).port = s.port := rfl
@[simp] theorem State.swUpd_host (n : Fin 6) (f : SwSt → SwSt) : (s.swUpd n f).host = s.host := rfl
@[simp] theorem State.swUpd_uart (n : Fin 6) (f : SwSt → SwSt) : (s.swUpd n f).uart = s.uart := rfl
@[simp] theorem State.swUpd_adc (n : Fin 6) (f : SwSt → SwSt) : (s.swUpd n f).adc = s.adc := rfl
@[simp] theorem State.swUpd_therm (n : Fin 6) (f : SwSt → SwSt) : (s.swUpd n f).therm = s.therm := rfl
@[simp] theorem State.swUpd_bak (n : Fin 6) (f : SwSt → SwSt) : (s.swUpd n f).bak = s.bak := rfl
@[simp] theorem State.swUpd_pwm (n : Fin 6) (f : SwSt → SwSt) : (s.swUpd n f).pwm = s.pwm := rfl
@[simp] theorem State.swUpd_free (n : Fin 6) (f : SwSt → SwSt) : (s.swUpd n f).free = s.free := rfl
@[simp] theorem State.swUpd_pins (n : Fin 6) (f : SwSt → SwSt) : (s.swUpd n f).pins = s.pins := rfl

@[simp] theorem State.portUpd_pending (p : Fin 2) (f : PortSt → PortSt) : (s.portUpd p f).pending = s.pending := rfl
@[simp] theorem State.portUpd_regs (p : Fin 2) (f : PortSt → PortSt) : (s.portUpd p f).regs = s.regs := rfl
@[simp] theorem State.portUpd_mem (p : Fin 2) (f : PortSt → PortSt) : (s.portUpd p f).mem = s.mem := rfl
@[simp] theorem State.portUpd_core (p : Fin 2) (f : PortSt → PortSt) : (s.portUpd p f).core = s.core := rfl
@[simp] theorem State.portUpd_pwr (p : Fin 2) (f : PortSt → PortSt) : (s.portUpd p f).pwr = s.pwr := rfl
@[simp] theorem State.portUpd_nvc (p : Fin 2) (f : PortSt → PortSt) : (s.portUpd p f).nvc = s.nvc := rfl
@[simp] theorem State.portUpd_sw (p : Fin 2) (f : PortSt → PortSt) : (s.portUpd p f).sw = s.sw := rfl
@[simp] theorem State.portUpd_store (p : Fin 2) (f : PortSt → PortSt) : (s.portUpd p f).store = s.store := rfl
@[simp] theorem State.portUpd_seq (p : Fin 2) (f : PortSt → PortSt) : (s.portUpd p f).seq = s.seq := rfl
@[simp] theorem State.portUpd_host (p : Fin 2) (f : PortSt → PortSt) : (s.portUpd p f).host = s.host := rfl
@[simp] theorem State.portUpd_uart (p : Fin 2) (f : PortSt → PortSt) : (s.portUpd p f).uart = s.uart := rfl
@[simp] theorem State.portUpd_adc (p : Fin 2) (f : PortSt → PortSt) : (s.portUpd p f).adc = s.adc := rfl
@[simp] theorem State.portUpd_therm (p : Fin 2) (f : PortSt → PortSt) : (s.portUpd p f).therm = s.therm := rfl
@[simp] theorem State.portUpd_bak (p : Fin 2) (f : PortSt → PortSt) : (s.portUpd p f).bak = s.bak := rfl
@[simp] theorem State.portUpd_pwm (p : Fin 2) (f : PortSt → PortSt) : (s.portUpd p f).pwm = s.pwm := rfl
@[simp] theorem State.portUpd_free (p : Fin 2) (f : PortSt → PortSt) : (s.portUpd p f).free = s.free := rfl
@[simp] theorem State.portUpd_pins (p : Fin 2) (f : PortSt → PortSt) : (s.portUpd p f).pins = s.pins := rfl

@[simp] theorem State.uartUpd_pending (u : Fin 5) (f : UartSt → UartSt) : (s.uartUpd u f).pending = s.pending := rfl
@[simp] theorem State.uartUpd_regs (u : Fin 5) (f : UartSt → UartSt) : (s.uartUpd u f).regs = s.regs := rfl
@[simp] theorem State.uartUpd_mem (u : Fin 5) (f : UartSt → UartSt) : (s.uartUpd u f).mem = s.mem := rfl
@[simp] theorem State.uartUpd_core (u : Fin 5) (f : UartSt → UartSt) : (s.uartUpd u f).core = s.core := rfl
@[simp] theorem State.uartUpd_pwr (u : Fin 5) (f : UartSt → UartSt) : (s.uartUpd u f).pwr = s.pwr := rfl
@[simp] theorem State.uartUpd_nvc (u : Fin 5) (f : UartSt → UartSt) : (s.uartUpd u f).nvc = s.nvc := rfl
@[simp] theorem State.uartUpd_sw (u : Fin 5) (f : UartSt → UartSt) : (s.uartUpd u f).sw = s.sw := rfl
@[simp] theorem State.uartUpd_store (u : Fin 5) (f : UartSt → UartSt) : (s.uartUpd u f).store = s.store := rfl
@[simp] theorem State.uartUpd_seq (u : Fin 5) (f : UartSt → UartSt) : (s.uartUpd u f).seq = s.seq := rfl
@[simp] theorem State.uartUpd_port (u : Fin 5) (f : UartSt → UartSt) : (s.uartUpd u f).port = s.port := rfl
@[simp] theorem State.uartUpd_host (u : Fin 5) (f : UartSt → UartSt) : (s.uartUpd u f).host = s.host := rfl
@[simp] theorem State.uartUpd_adc (u : Fin 5) (f : UartSt → UartSt) : (s.uartUpd u f).adc = s.adc := rfl
@[simp] theorem State.uartUpd_therm (u : Fin 5) (f : UartSt → UartSt) : (s.uartUpd u f).therm = s.therm := rfl
@[simp] theorem State.uartUpd_bak (u : Fin 5) (f : UartSt → UartSt) : (s.uartUpd u f).bak = s.bak := rfl
@[simp] theorem State.uartUpd_pwm (u : Fin 5) (f : UartSt → UartSt) : (s.uartUpd u f).pwm = s.pwm := rfl
@[simp] theorem State.uartUpd_free (u : Fin 5) (f : UartSt → UartSt) : (s.uartUpd u f).free = s.free := rfl
@[simp] theorem State.uartUpd_pins (u : Fin 5) (f : UartSt → UartSt) : (s.uartUpd u f).pins = s.pins := rfl

@[simp] theorem State.pwmUpd_pending (n : Fin 6) (f : PwmSt → PwmSt) : (s.pwmUpd n f).pending = s.pending := rfl
@[simp] theorem State.pwmUpd_regs (n : Fin 6) (f : PwmSt → PwmSt) : (s.pwmUpd n f).regs = s.regs := rfl
@[simp] theorem State.pwmUpd_mem (n : Fin 6) (f : PwmSt → PwmSt) : (s.pwmUpd n f).mem = s.mem := rfl
@[simp] theorem State.pwmUpd_core (n : Fin 6) (f : PwmSt → PwmSt) : (s.pwmUpd n f).core = s.core := rfl
@[simp] theorem State.pwmUpd_pwr (n : Fin 6) (f : PwmSt → PwmSt) : (s.pwmUpd n f).pwr = s.pwr := rfl
@[simp] theorem State.pwmUpd_nvc (n : Fin 6) (f : PwmSt → PwmSt) : (s.pwmUpd n f).nvc = s.nvc := rfl
@[simp] theorem State.pwmUpd_sw (n : Fin 6) (f : PwmSt → PwmSt) : (s.pwmUpd n f).sw = s.sw := rfl
@[simp] theorem State.pwmUpd_store (n : Fin 6) (f : PwmSt → PwmSt) : (s.pwmUpd n f).store = s.store := rfl
@[simp] theorem State.pwmUpd_seq (n : Fin 6) (f : PwmSt → PwmSt) : (s.pwmUpd n f).seq = s.seq := rfl
@[simp] theorem State.pwmUpd_port (n : Fin 6) (f : PwmSt → PwmSt) : (s.pwmUpd n f).port = s.port := rfl
@[simp] theorem State.pwmUpd_host (n : Fin 6) (f : PwmSt → PwmSt) : (s.pwmUpd n f).host = s.host := rfl
@[simp] theorem State.pwmUpd_uart (n : Fin 6) (f : PwmSt → PwmSt) : (s.pwmUpd n f).uart = s.uart := rfl
@[simp] theorem State.pwmUpd_adc (n : Fin 6) (f : PwmSt → PwmSt) : (s.pwmUpd n f).adc = s.adc := rfl
@[simp] theorem State.pwmUpd_therm (n : Fin 6) (f : PwmSt → PwmSt) : (s.pwmUpd n f).therm = s.therm := rfl
@[simp] theorem State.pwmUpd_bak (n : Fin 6) (f : PwmSt → PwmSt) : (s.pwmUpd n f).bak = s.bak := rfl
@[simp] theorem State.pwmUpd_free (n : Fin 6) (f : PwmSt → PwmSt) : (s.pwmUpd n f).free = s.free := rfl
@[simp] theorem State.pwmUpd_pins (n : Fin 6) (f : PwmSt → PwmSt) : (s.pwmUpd n f).pins = s.pins := rfl

@[simp] theorem State.winUpd_pending (w : Fin 4) (f : Win → Win) : (s.winUpd w f).pending = s.pending := rfl
@[simp] theorem State.winUpd_regs (w : Fin 4) (f : Win → Win) : (s.winUpd w f).regs = s.regs := rfl
@[simp] theorem State.winUpd_mem (w : Fin 4) (f : Win → Win) : (s.winUpd w f).mem = s.mem := rfl
@[simp] theorem State.winUpd_core (w : Fin 4) (f : Win → Win) : (s.winUpd w f).core = s.core := rfl
@[simp] theorem State.winUpd_pwr (w : Fin 4) (f : Win → Win) : (s.winUpd w f).pwr = s.pwr := rfl
@[simp] theorem State.winUpd_nvc (w : Fin 4) (f : Win → Win) : (s.winUpd w f).nvc = s.nvc := rfl
@[simp] theorem State.winUpd_sw (w : Fin 4) (f : Win → Win) : (s.winUpd w f).sw = s.sw := rfl
@[simp] theorem State.winUpd_store (w : Fin 4) (f : Win → Win) : (s.winUpd w f).store = s.store := rfl
@[simp] theorem State.winUpd_seq (w : Fin 4) (f : Win → Win) : (s.winUpd w f).seq = s.seq := rfl
@[simp] theorem State.winUpd_port (w : Fin 4) (f : Win → Win) : (s.winUpd w f).port = s.port := rfl
@[simp] theorem State.winUpd_uart (w : Fin 4) (f : Win → Win) : (s.winUpd w f).uart = s.uart := rfl
@[simp] theorem State.winUpd_adc (w : Fin 4) (f : Win → Win) : (s.winUpd w f).adc = s.adc := rfl
@[simp] theorem State.winUpd_therm (w : Fin 4) (f : Win → Win) : (s.winUpd w f).therm = s.therm := rfl
@[simp] theorem State.winUpd_bak (w : Fin 4) (f : Win → Win) : (s.winUpd w f).bak = s.bak := rfl
@[simp] theorem State.winUpd_pwm (w : Fin 4) (f : Win → Win) : (s.winUpd w f).pwm = s.pwm := rfl
@[simp] theorem State.winUpd_free (w : Fin 4) (f : Win → Win) : (s.winUpd w f).free = s.free := rfl
@[simp] theorem State.winUpd_pins (w : Fin 4) (f : Win → Win) : (s.winUpd w f).pins = s.pins := rfl

@[simp] theorem State.bakUpd_pending (f : BakSt → BakSt) : (s.bakUpd f).pending = s.pending := rfl
@[simp] theorem State.bakUpd_regs (f : BakSt → BakSt) : (s.bakUpd f).regs = s.regs := rfl
@[simp] theorem State.bakUpd_mem (f : BakSt → BakSt) : (s.bakUpd f).mem = s.mem := rfl
@[simp] theorem State.bakUpd_core (f : BakSt → BakSt) : (s.bakUpd f).core = s.core := rfl
@[simp] theorem State.bakUpd_pwr (f : BakSt → BakSt) : (s.bakUpd f).pwr = s.pwr := rfl
@[simp] theorem State.bakUpd_nvc (f : BakSt → BakSt) : (s.bakUpd f).nvc = s.nvc := rfl
@[simp] theorem State.bakUpd_sw (f : BakSt → BakSt) : (s.bakUpd f).sw = s.sw := rfl
@[simp] theorem State.bakUpd_store (f : BakSt → BakSt) : (s.bakUpd f).store = s.store := rfl
@[simp] theorem State.bakUpd_seq (f : BakSt → BakSt) : (s.bakUpd f).seq = s.seq := rfl
@[simp] theorem State.bakUpd_port (f : BakSt → BakSt) : (s.bakUpd f).port = s.port := rfl
@[simp] theorem State.bakUpd_host (f : BakSt → BakSt) : (s.bakUpd f).host = s.host := rfl
@[simp] theorem State.bakUpd_uart (f : BakSt → BakSt) : (s.bakUpd f).uart = s.uart := rfl
@[simp] theorem State.bakUpd_adc (f : BakSt → BakSt) : (s.bakUpd f).adc = s.adc := rfl
@[simp] theorem State.bakUpd_therm (f : BakSt → BakSt) : (s.bakUpd f).therm = s.therm := rfl
@[simp] theorem State.bakUpd_pwm (f : BakSt → BakSt) : (s.bakUpd f).pwm = s.pwm := rfl
@[simp] theorem State.bakUpd_free (f : BakSt → BakSt) : (s.bakUpd f).free = s.free := rfl
@[simp] theorem State.bakUpd_pins (f : BakSt → BakSt) : (s.bakUpd f).pins = s.pins := rfl

@[simp] theorem State.seqUpd_pending (f : SeqSt → SeqSt) : (s.seqUpd f).pending = s.pending := rfl
@[simp] theorem State.seqUpd_regs (f : SeqSt → SeqSt) : (s.seqUpd f).regs = s.regs := rfl
@[simp] theorem State.seqUpd_mem (f : SeqSt → SeqSt) : (s.seqUpd f).mem = s.mem := rfl
@[simp] theorem State.seqUpd_core (f : SeqSt → SeqSt) : (s.seqUpd f).core = s.core := rfl
@[simp] theorem State.seqUpd_pwr (f : SeqSt → SeqSt) : (s.seqUpd f).pwr = s.pwr := rfl
@[simp] theorem State.seqUpd_nvc (f : SeqSt → SeqSt) : (s.seqUpd f).nvc = s.nvc := rfl
@[simp] theorem State.seqUpd_sw (f : SeqSt → SeqSt) : (s.seqUpd f).sw = s.sw := rfl
@[simp] theorem State.seqUpd_store (f : SeqSt → SeqSt) : (s.seqUpd f).store = s.store := rfl
@[simp] theorem State.seqUpd_port (f : SeqSt → SeqSt) : (s.seqUpd f).port = s.port := rfl
@[simp] theorem State.seqUpd_host (f : SeqSt → SeqSt) : (s.seqUpd f).host = s.host := rfl
@[simp] theorem State.seqUpd_uart (f : SeqSt → SeqSt) : (s.seqUpd f).uart = s.uart := rfl
@[simp] theorem State.seqUpd_adc (f : SeqSt → SeqSt) : (s.seqUpd f).adc = s.adc := rfl
@[simp] theorem State.seqUpd_therm (f : SeqSt → SeqSt) : (s.seqUpd f).therm = s.therm := rfl
@[simp] theorem State.seqUpd_bak (f : SeqSt → SeqSt) : (s.seqUpd f).bak = s.bak := rfl
@[simp] theorem State.seqUpd_pwm (f : SeqSt → SeqSt) : (s.seqUpd f).pwm = s.pwm := rfl
@[simp] theorem State.seqUpd_free (f : SeqSt → SeqSt) : (s.seqUpd f).free = s.free := rfl
@[simp] theorem State.seqUpd_pins (f : SeqSt → SeqSt) : (s.seqUpd f).pins = s.pins := rfl

@[simp] theorem State.pwrUpd_pending (f : PowerSt → PowerSt) : (s.pwrUpd f).pending = s.pending := rfl
@[simp] theorem State.pwrUpd_regs (f : PowerSt → PowerSt) : (s.pwrUpd f).regs = s.regs := rfl
@[simp] theorem State.pwrUpd_mem (f : PowerSt → PowerSt) : (s.pwrUpd f).mem = s.mem := rfl
@[simp] theorem State.pwrUpd_core (f : PowerSt → PowerSt) : (s.pwrUpd f).core = s.core := rfl
@[simp] theorem State.pwrUpd_nvc (f : PowerSt → PowerSt) : (s.pwrUpd f).nvc = s.nvc := rfl
@[simp] theorem State.pwrUpd_sw (f : PowerSt → PowerSt) : (s.pwrUpd f).sw = s.sw := rfl
@[simp] theorem State.pwrUpd_store (f : PowerSt → PowerSt) : (s.pwrUpd f).store = s.store := rfl
@[simp] theorem State.pwrUpd_seq (f : PowerSt → PowerSt) : (s.pwrUpd f).seq = s.seq := rfl
@[simp] theorem State.pwrUpd_port (f : PowerSt → PowerSt) : (s.pwrUpd f).port = s.port := rfl
@[simp] theorem State.pwrUpd_host (f : PowerSt → PowerSt) : (s.pwrUpd f).host = s.host := rfl
@[simp] theorem State.pwrUpd_uart (f : PowerSt → PowerSt) : (s.pwrUpd f).uart = s.uart := rfl
@[simp] theorem State.pwrUpd_adc (f : PowerSt → PowerSt) : (s.pwrUpd f).adc = s.adc := rfl
@[simp] theorem State.pwrUpd_therm (f : PowerSt → PowerSt) : (s.pwrUpd f).therm = s.therm := rfl
@[simp] theorem State.pwrUpd_bak (f : PowerSt → PowerSt) : (s.pwrUpd f).bak = s.bak := rfl
@[simp] theorem State.pwrUpd_pwm (f : PowerSt → PowerSt) : (s.pwrUpd f).pwm = s.pwm := rfl
@[simp] theorem State.pwrUpd_free (f : PowerSt → PowerSt) : (s.pwrUpd f).free = s.free := rfl
@[simp] theorem State.pwrUpd_pins (f : PowerSt → PowerSt) : (s.pwrUpd f).pins = s.pins := rfl

@[simp] theorem State.swUpd_sw (n : Fin 6) (f : SwSt → SwSt) : (s.swUpd n f).sw = s.sw.set n (f s.sw[n]) := rfl
@[simp] theorem State.portUpd_port (p : Fin 2) (f : PortSt → PortSt) : (s.portUpd p f).port = s.port.set p (f s.port[p]) := rfl
@[simp] theorem State.uartUpd_uart (u : Fin 5) (f : UartSt → UartSt) : (s.uartUpd u f).uart = s.uart.set u (f s.uart[u]) := rfl
@[simp] theorem State.pwmUpd_pwm (n : Fin 6) (f : PwmSt → PwmSt) : (s.pwmUpd n f).pwm = s.pwm.set n (f s.pwm[n]) := rfl
@[simp] theorem State.bakUpd_bak (f : BakSt → BakSt) : (s.bakUpd f).bak = f s.bak := rfl
@[simp] theorem State.seqUpd_seq (f : SeqSt → SeqSt) : (s.seqUpd f).seq = f s.seq := rfl
@[simp] theorem State.pwrUpd_pwr (f : PowerSt → PowerSt) : (s.pwrUpd f).pwr = f s.pwr := rfl
@[simp] theorem State.coreUpd_core (f : Core → Core) : (s.coreUpd f).core = f s.core := rfl
@[simp] theorem State.tickFree_pins : s.tickFree.pins = s.pins := rfl
@[simp] theorem State.tickFree_free : (s.tickFree).free = s.free + 1 := rfl

@[simp] theorem State.pinsNext_pending : s.pinsNext.pending = s.pending := rfl
@[simp] theorem State.pinsNext_regs : s.pinsNext.regs = s.regs := rfl
@[simp] theorem State.pinsNext_mem : s.pinsNext.mem = s.mem := rfl
@[simp] theorem State.pinsNext_core : s.pinsNext.core = s.core := rfl
@[simp] theorem State.pinsNext_pwr : s.pinsNext.pwr = s.pwr := rfl
@[simp] theorem State.pinsNext_nvc : s.pinsNext.nvc = s.nvc := rfl
@[simp] theorem State.pinsNext_sw : s.pinsNext.sw = s.sw := rfl
@[simp] theorem State.pinsNext_store : s.pinsNext.store = s.store := rfl
@[simp] theorem State.pinsNext_seq : s.pinsNext.seq = s.seq := rfl
@[simp] theorem State.pinsNext_port : s.pinsNext.port = s.port := rfl
@[simp] theorem State.pinsNext_host : s.pinsNext.host = s.host := rfl
@[simp] theorem State.pinsNext_uart : s.pinsNext.uart = s.uart := rfl
@[simp] theorem State.pinsNext_adc : s.pinsNext.adc = s.adc := rfl
@[simp] theorem State.pinsNext_therm : s.pinsNext.therm = s.therm := rfl
@[simp] theorem State.pinsNext_bak : s.pinsNext.bak = s.bak := rfl
@[simp] theorem State.pinsNext_pwm : s.pinsNext.pwm = s.pwm := rfl
@[simp] theorem State.pinsNext_free : s.pinsNext.free = s.free + 1 := rfl
@[simp] theorem State.thr_pinsNext (t : Tid) : s.pinsNext.thr t = s.thr t := rfl
@[simp] theorem State.get_pinsNext (f : Fld) : s.pinsNext.get f = s.get f := rfl

/-! ## Threads -/

@[simp] theorem State.thr_setThr_self (t : Tid) (x : Thread) : (s.setThr t x).thr t = x := by
  simp [State.thr, State.setThr]

theorem State.thr_setThr_ne (t u : Tid) (x : Thread) (h : u ≠ t) : (s.setThr t x).thr u = s.thr u := by
  have h2 : t.val ≠ u.val := fun e => h (Fin.ext e.symm)
  simp [State.thr, State.setThr, Vector.getElem_set_ne, h2]

@[simp] theorem State.setThr_setThr (t : Tid) (x y : Thread) : (s.setThr t x).setThr t y = s.setThr t y := by
  simp [State.setThr, Vector.set_set]

@[simp] theorem State.thr_put (f : Fld) (v : Nat) (t : Tid) : (s.put f v).thr t = s.thr t := rfl
@[simp] theorem State.thr_tickFree (t : Tid) : s.tickFree.thr t = s.thr t := rfl
@[simp] theorem State.thr_setByte (a : Nat) (v : Byte) (t : Tid) : (s.setByte a v).thr t = s.thr t := rfl
@[simp] theorem State.thr_raise (k : Nat) (t : Tid) : (s.raise k).thr t = s.thr t := rfl
@[simp] theorem State.thr_portUpd (p : Fin 2) (f : PortSt → PortSt) (t : Tid) : (s.portUpd p f).thr t = s.thr t := rfl
@[simp] theorem State.thr_swUpd (n : Fin 6) (f : SwSt → SwSt) (t : Tid) : (s.swUpd n f).thr t = s.thr t := rfl

/-! ## Register fields -/

/-- A field reads what was last put into it, cut to its width. -/
@[simp] theorem State.get_put_self (f : Fld) (v : Nat) : (s.put f v).get f = v % 2 ^ f.width := by
  simp [State.get, State.put]

/-- Fields of other keys stay. -/
theorem State.get_put_ne (f g : Fld) (v : Nat) (h : f.key ≠ g.key) : (s.put f v).get g = s.get g := by
  simp [State.get, State.put, Sparse.get_set_ne _ _ _ h]

@[simp] theorem State.get_setThr (t : Tid) (x : Thread) (f : Fld) : (s.setThr t x).get f = s.get f := rfl
@[simp] theorem State.get_coreUpd (g : Core → Core) (f : Fld) : (s.coreUpd g).get f = s.get f := rfl
@[simp] theorem State.get_pwrUpd (g : PowerSt → PowerSt) (f : Fld) : (s.pwrUpd g).get f = s.get f := rfl
@[simp] theorem State.get_bakUpd (g : BakSt → BakSt) (f : Fld) : (s.bakUpd g).get f = s.get f := rfl
@[simp] theorem State.get_seqUpd (g : SeqSt → SeqSt) (f : Fld) : (s.seqUpd g).get f = s.get f := rfl
@[simp] theorem State.get_swUpd (n : Fin 6) (g : SwSt → SwSt) (f : Fld) : (s.swUpd n g).get f = s.get f := rfl
@[simp] theorem State.get_portUpd (p : Fin 2) (g : PortSt → PortSt) (f : Fld) : (s.portUpd p g).get f = s.get f := rfl
@[simp] theorem State.get_uartUpd (u : Fin 5) (g : UartSt → UartSt) (f : Fld) : (s.uartUpd u g).get f = s.get f := rfl
@[simp] theorem State.get_pwmUpd (n : Fin 6) (g : PwmSt → PwmSt) (f : Fld) : (s.pwmUpd n g).get f = s.get f := rfl
@[simp] theorem State.get_winUpd (w : Fin 4) (g : Win → Win) (f : Fld) : (s.winUpd w g).get f = s.get f := rfl
@[simp] theorem State.get_raise (k : Nat) (f : Fld) : (s.raise k).get f = s.get f := rfl
@[simp] theorem State.get_tickFree (f : Fld) : s.tickFree.get f = s.get f := rfl
@[simp] theorem State.get_setByte (a : Nat) (v : Byte) (f : Fld) : (s.setByte a v).get f = s.get f := rfl
@[simp] theorem State.get_retryStalls (f : Fld) : s.retryStalls.get f = s.get f := rfl
@[simp] theorem State.get_pendAll (m : BitVec 64) (f : Fld) : (s.pendAll m).get f = s.get f := rfl

/-! ## Bytes -/

@[simp] theorem State.byte_setByte_self (a : Nat) (v : Byte) : (s.setByte a v).byte a = v := by
  simp [State.byte, State.setByte]

theorem State.byte_setByte_ne {a b : Nat} (v : Byte) (h : a ≠ b) : (s.setByte a v).byte b = s.byte b := by
  simp [State.byte, State.setByte, Sparse.get_set_ne _ _ _ h]

@[simp] theorem State.byte_put (f : Fld) (v a : Nat) : (s.put f v).byte a = s.byte a := rfl
@[simp] theorem State.byte_setThr (t : Tid) (x : Thread) (a : Nat) : (s.setThr t x).byte a = s.byte a := rfl
@[simp] theorem State.byte_coreUpd (g : Core → Core) (a : Nat) : (s.coreUpd g).byte a = s.byte a := rfl

/-- Writing a list of bytes leaves every byte outside it alone. -/
theorem State.byte_setBytes_out (a : Nat) (bs : List Byte) (b : Nat) (h : b < a ∨ a + bs.length ≤ b) :
    (s.setBytes a bs).byte b = s.byte b := by
  induction bs generalizing s a with
  | nil => rfl
  | cons v t ih =>
    simp only [State.setBytes]
    rw [ih _ _ (by simp at h; omega)]
    exact State.byte_setByte_ne s v (by simp at h; omega)

/-- The four bytes of a word, joined again. -/
theorem word_join (v : Word) :
    v.extractLsb' 24 8 ++ v.extractLsb' 16 8 ++ v.extractLsb' 8 8 ++ v.extractLsb' 0 8 = v := by
  rw [BitVec.extractLsb'_append_extractLsb'_eq_extractLsb' (by rfl),
    BitVec.extractLsb'_append_extractLsb'_eq_extractLsb' (by rfl),
    BitVec.extractLsb'_append_extractLsb'_eq_extractLsb' (by rfl)]
  simp

/-- A word written is read back. -/
@[simp] theorem State.word_setWord_self (a : Nat) (v : Word) : (s.setWord a v).word a = v := by
  simp only [State.word, State.setWord, State.setBytes]
  rw [State.byte_setByte_self, State.byte_setByte_ne (h := by omega), State.byte_setByte_self,
    State.byte_setByte_ne (h := by omega), State.byte_setByte_ne (h := by omega), State.byte_setByte_self,
    State.byte_setByte_ne (h := by omega), State.byte_setByte_ne (h := by omega),
    State.byte_setByte_ne (h := by omega), State.byte_setByte_self]
  exact word_join v

/-- A word write leaves every byte outside it alone. -/
theorem State.byte_setWord_out (a : Nat) (v : Word) (b : Nat) (h : b < a ∨ a + 4 ≤ b) :
    (s.setWord a v).byte b = s.byte b := State.byte_setBytes_out s a _ b (by simpa using h)

end Sys2Proof.Machine
end

