-- ==== Sys2Proof/Laws/Issue.lean ====
section
/-!
SUPPORT. The issue of an instruction, once and for all: what it counts, and what an instruction that runs comes to.
-/

namespace Sys2Proof.Machine

namespace State

/-- What a chosen thread shows of the core. -/
theorem canIssue_squall {s : State} {t : Tid} (h : s.canIssue t = true) : s.core.squall = false := by
  simp [canIssue, coreLive] at h
  exact h.1.1.1.1.2

/-- An instruction that runs comes to what its own rules say. -/
theorem issue_of_runs {s : State} {t : Tid} {len : Nat} {body : State → Thread → Res} (h : Runs s t len) :
    s.issue t len body =
      match body s (s.thr t) with
      | .done s1 n => account s s1 t n
      | .flt c a => faulted s s t 1 c a
      | .part s1 n c a => faulted s s1 t n c a
      | .stall s1 y => s1.stallOn t y := by
  obtain ⟨h1, h2, h3, h4⟩ := h
  cases hb : body s (s.thr t) <;> simp only [issue, h1, h2, h3, h4, hb, if_true, Bool.false_eq_true, if_false]

/-- A thread that is not chosen does nothing. -/
theorem issue_of_not_chosen {s : State} {t : Tid} {len : Nat} {body : State → Thread → Res} (h : s.canIssue t = false) :
    s.issue t len body = s := by
  simp [issue, h]

/-- What the issue of `n` cycles counts, while no limit is passed. -/
theorem account_eq {s0 s : State} {t : Tid} {n : Nat} (hs : s.core.squall = false)
    (hg : ∀ g, s.core.gale = some g → g.tid = t → g.count + n ≤ 256)
    (hm : ((s0.thr t).gm || (s.thr t).gm) = true → s.core.gmHold + n ≤ 48) :
    account s0 s t n = { s with core := { s.core with
      threads := s.core.threads.set t { s.thr t with icnt := (s.thr t).icnt + BitVec.ofNat 32 n }
      rr := s.core.rr.set (Fin.ofNat 4 (s0.cls t)) (t + 1)
      awake := true
      eddySeen := false
      gale := s.core.gale.map (fun g => if g.tid = t then { g with count := g.count + n } else g)
      gmHold := if (s.thr t).gm then s.core.gmHold + n else 0 } } := by
  have key : ∀ z : State, (z.thr t).gm = (s.thr t).gm → z.core.gmHold = s.core.gmHold →
      gmCount z t (s0.thr t).gm n =
        z.coreUpd (fun c => { c with gmHold := if (s.thr t).gm then s.core.gmHold + n else 0 }) := by
    intro z h1 h2
    simp only [gmCount, h1, h2]
    by_cases hb : ((s0.thr t).gm || (s.thr t).gm) = true
    · have := hm hb
      simp [hb]; omega
    · simp at hb; simp [hb]
  have e : (s.core.threads[t]) = s.thr t := rfl
  simp only [account, hs, Bool.false_eq_true, if_false]
  rcases hga : s.core.gale with _ | g
  · rw [key]
    · simp [galeCount, coreUpd, setThr, hga, thr, hs]
    · simp [galeCount, coreUpd, setThr, hga, thr, Thread.gm]
    · simp [galeCount, coreUpd, setThr, hga, thr]
  · by_cases ht : g.tid = t
    · have := hg g hga ht
      have hn : ¬ 257 ≤ g.count + n := by omega
      rw [key]
      · simp [galeCount, coreUpd, setThr, hga, thr, ht, hn, hs]
      · simp [galeCount, coreUpd, setThr, hga, thr, ht, hn, Thread.gm]
      · simp [galeCount, coreUpd, setThr, hga, thr, ht, hn]
    · rw [key]
      · simp [galeCount, coreUpd, setThr, hga, thr, ht, hs]
      · simp [galeCount, coreUpd, setThr, hga, thr, ht, Thread.gm]
      · simp [galeCount, coreUpd, setThr, hga, thr, ht]

/-- A plain instruction that runs changes its own thread and what its issue counts, and nothing else. -/
theorem plain_only {s : State} {t : Tid} {len n : Nat} {f : Thread → Thread} (hr : Runs s t len) (hb : InBudget s t n)
    (hgm : (f (s.thr t)).gm = (s.thr t).gm) :
    OnlyThread s (s.plain t len n f) t n { f (s.thr t) with pc := (f (s.thr t)).pc + BitVec.ofNat 32 len } := by
  have hsq := canIssue_squall hr.1
  rw [plain, issue_of_runs hr]
  have hx : (s.advance t len (f (s.thr t))).thr t
      = { f (s.thr t) with pc := (f (s.thr t)).pc + BitVec.ofNat 32 len } := by simp [advance]
  have hg2 : ((s.advance t len (f (s.thr t))).thr t).gm = (s.thr t).gm := by rw [hx]; exact hgm
  simp only
  rw [account_eq (s := s.advance t len (f (s.thr t))) hsq hb.1
    (by rw [hg2]; simp only [Bool.or_self]; exact hb.2)]
  refine ⟨⟨?_, ?_⟩, ⟨rfl, rfl⟩, ?_, rfl, rfl, ⟨fun a => rfl, rfl⟩, ?_⟩
  · rw [hx]; simp [thr]
  · intro v hv
    have : (t : Nat) ≠ v := fun e => hv (Fin.ext e.symm)
    simp [thr, advance, setThr, Vector.getElem_set_ne, this]
  · simp [CoreSame, advance, setThr]
  · simp [BlocksSame, advance, setThr]

end State

end Sys2Proof.Machine
end

