-- ==== Sys2Proof/Laws/Memory.lean ====
section
/-!
SUPPORT. The memories: what a read gives after each write, and that every memory operation keeps the canonical form.
-/

namespace Sys2Proof.Machine

/-- The five parts of the canonical form. -/
theorem MemSt.wf_iff (m : MemSt) : m.wf = true ↔
    Sparse.wf unlistedByte m.cells = true ∧ Sparse.wf unlistedGran m.gran = true ∧ Sparse.wf unlistedExt m.ext = true ∧
      Sparse.wf unlistedRow m.otp = true ∧ Sparse.wf unlistedRow m.otpEcc = true := by
  simp [MemSt.wf, and_assoc]

/-- A key that a filter keeps reads as before; one that it drops reads as unlisted. -/
theorem Sparse.get_filter {β : Type} (d : Nat → β) (l : List (Nat × β)) (q : Nat → Bool) (a : Nat) :
    Sparse.get d (l.filter (fun c => q c.1)) a = if q a then Sparse.get d l a else d a := by
  induction l with
  | nil => simp [Sparse.get]
  | cons c t ih =>
    obtain ⟨k, v⟩ := c
    by_cases hk : k = a
    · subst hk
      by_cases hq : q k = true <;> simp_all [Sparse.get]
    · by_cases hq : q k = true <;> simp_all [Sparse.get]

namespace State

variable (s : State)

/-! ## Reads after writes -/

/-- A byte inside a written list reads as the list gives it. -/
theorem byte_setBytes_inside (l : List Byte) (a i : Nat) (h : i < l.length) :
    (s.setBytes a l).byte (a + i) = l[i] := by
  induction l generalizing s a i with
  | nil => simp at h
  | cons v t ih =>
    simp only [setBytes]
    cases i with
    | zero => rw [byte_setBytes_out _ _ _ _ (by omega)]; simp
    | succ j =>
      have := ih (s.setByte a v) (a + 1) j (by simpa using h)
      rw [show a + (j + 1) = a + 1 + j by omega, this]
      rfl

/-- A written list is read back. -/
theorem bytes_setBytes (l : List Byte) (a : Nat) : (s.setBytes a l).bytes a l.length = l := by
  have key : ∀ (u : State) (n b : Nat) (m : List Byte), m.length = n → (∀ i (h : i < m.length), u.byte (b + i) = m[i]) →
      u.bytes b n = m := by
    intro u n
    induction n with
    | zero => intro b m hm _; simp at hm; simp [hm, bytes]
    | succ k ih =>
      intro b m hm h
      cases m with
      | nil => simp at hm
      | cons v t =>
        simp only [bytes]
        have h0 := h 0 (by simp)
        have h1 : ∀ i (hi : i < t.length), u.byte (b + 1 + i) = t[i] := by
          intro i hi
          have := h (i + 1) (by simpa using hi)
          rwa [show b + (i + 1) = b + 1 + i by omega] at this
        rw [ih (b + 1) t (by simpa using hm) h1]
        simpa using h0
  exact key _ _ _ _ rfl (fun i h => byte_setBytes_inside s l a i h)

/-- A write under byte enables leaves every byte outside the word alone. -/
theorem byte_setWordBe_outside {a b : Nat} (be : BitVec 4) (v : Word) (h : b < a ∨ a + 4 ≤ b) :
    (s.setWordBe a be v).byte b = s.byte b := by
  have key : ∀ (u : State) (c : Bool) (k : Nat) (x : Byte), k < 4 →
      (if c then u.setByte (a + k) x else u).byte b = u.byte b := by
    intro u c k x hk
    cases c
    · rfl
    · exact byte_setByte_ne u x (by omega)
  have h0 := key s (be.getLsbD 0) 0 (v.extractLsb' 0 8) (by omega)
  rw [Nat.add_zero] at h0
  simp only [setWordBe]
  rw [key _ _ 3 _ (by omega), key _ _ 2 _ (by omega), key _ _ 1 _ (by omega), h0]

/-- What is forgotten reads as unlisted, the rest as before. -/
theorem byte_forget (lo hi a : Nat) :
    (s.forget lo hi).byte a = if a < lo ∨ hi ≤ a then s.byte a else unlistedByte a := by
  have := Sparse.get_filter unlistedByte s.mem.cells (fun k => decide (k < lo) || decide (hi ≤ k)) a
  simp only [Bool.or_eq_true, decide_eq_true_eq] at this
  simpa [byte, forget] using this

/-! ## The canonical form is kept -/

section Canonical

variable {s}

theorem setByte_wf (h : s.mem.wf = true) (a : Nat) (v : Byte) : (s.setByte a v).mem.wf = true := by
  rw [MemSt.wf_iff] at h ⊢
  exact ⟨Sparse.wf_set _ _ _ _ h.1, h.2⟩

theorem setBytes_wf (h : s.mem.wf = true) (a : Nat) (l : List Byte) : (s.setBytes a l).mem.wf = true := by
  induction l generalizing s a with
  | nil => exact h
  | cons v t ih => exact ih (setByte_wf h a v) (a + 1)

theorem setWord_wf (h : s.mem.wf = true) (a : Nat) (v : Word) : (s.setWord a v).mem.wf = true := setBytes_wf h a _

theorem setWordBe_wf (h : s.mem.wf = true) (a : Nat) (be : BitVec 4) (v : Word) :
    (s.setWordBe a be v).mem.wf = true := by
  have key : ∀ (u : State) (c : Bool) (k : Nat) (x : Byte), u.mem.wf = true →
      (if c then u.setByte k x else u).mem.wf = true := by
    intro u c k x hu
    cases c
    · exact hu
    · exact setByte_wf hu k x
  simp only [setWordBe]
  exact key _ _ _ _ (key _ _ _ _ (key _ _ _ _ (key _ _ _ _ h)))

theorem forget_wf (h : s.mem.wf = true) (lo hi : Nat) : (s.forget lo hi).mem.wf = true := by
  rw [MemSt.wf_iff] at h ⊢
  exact ⟨Sparse.wf_filter _ _ _ h.1, h.2⟩

theorem setGran_wf (h : s.mem.wf = true) (a v : Nat) : (s.setGran a v).mem.wf = true := by
  rw [MemSt.wf_iff] at h ⊢
  exact ⟨h.1, Sparse.wf_set _ _ _ _ h.2.1, h.2.2⟩

theorem setOtpRow_wf (h : s.mem.wf = true) (r : Nat) (v : Word) : (s.setOtpRow r v).mem.wf = true := by
  rw [MemSt.wf_iff] at h ⊢
  exact ⟨h.1, h.2.1, h.2.2.1, Sparse.wf_set _ _ _ _ h.2.2.2.1, h.2.2.2.2⟩

theorem setOtpEcc_wf (h : s.mem.wf = true) (r v : Nat) : (s.setOtpEcc r v).mem.wf = true := by
  rw [MemSt.wf_iff] at h ⊢
  exact ⟨h.1, h.2.1, h.2.2.1, h.2.2.2.1, Sparse.wf_set _ _ _ _ h.2.2.2.2⟩

theorem dropLines_mem (u : State) (lo hi : Nat) : (u.dropLines lo hi).mem = u.mem := rfl

/-- What every programming of a granule comes to. -/
theorem granule_wf (h : s.mem.wf = true) (a st lo hi : Nat) (l : List Byte) :
    (((s.setBytes a l).setGran a st).dropLines lo hi).mem.wf = true := by
  rw [dropLines_mem]
  exact setGran_wf (setBytes_wf h a l) a st

theorem progGran_wf (h : s.mem.wf = true) (a : Nat) (l : List Byte) : (s.progGran a l).mem.wf = true := by
  unfold progGran
  apply granule_wf h

theorem tearGran_wf (h : s.mem.wf = true) (a : Nat) : (s.tearGran a).mem.wf = true := by
  unfold tearGran
  rw [tickFree_mem]
  apply granule_wf h

theorem eraseSector_wf (h : s.mem.wf = true) (k : Nat) : (s.eraseSector k).mem.wf = true := by
  simp only [eraseSector, dropLines_mem]
  rw [MemSt.wf_iff] at h ⊢
  exact ⟨Sparse.wf_filter _ _ _ h.1, Sparse.wf_filter _ _ _ h.2.1, h.2.2⟩

theorem tearSector_wf (h : s.mem.wf = true) (k : Nat) : (s.tearSector k).mem.wf = true := by
  have key : ∀ (l : List Nat) (f : State → Nat → State) (u : State), u.mem.wf = true →
      (∀ u i, u.mem.wf = true → (f u i).mem.wf = true) → (l.foldl f u).mem.wf = true := by
    intro l f
    induction l with
    | nil => intro u hu _; exact hu
    | cons i t ih => intro u hu hf; exact ih (f u i) (hf u i hu) hf
  unfold tearSector
  rw [tickFree_mem]
  apply key _ _ _ (eraseSector_wf h k)
  intro u i hu
  apply setGran_wf
  apply setBytes_wf hu

end Canonical

end State

end Sys2Proof.Machine
end

