-- ==== Sys2Proof/Laws/Psw.lean ====
section
/-!
SUPPORT. The PSW put together from its fields (R89) and read back, and the flags.
-/

namespace Sys2Proof.Machine

theorem mkPsw_toNat (l : Nat) (g : Bool) (r f : Nat) :
    (mkPsw l g r f).toNat = l % 8 + (if g then 8 else 0) + r % 4 * 16 + f % 16 * 256 := by
  have : l % 8 + (if g then 8 else 0) + r % 4 * 16 + f % 16 * 256 < 2 ^ 32 := by
    have := Nat.mod_lt l (y := 8) (by decide)
    have := Nat.mod_lt r (y := 4) (by decide)
    have := Nat.mod_lt f (y := 16) (by decide)
    cases g <;> simp <;> omega
  simp only [mkPsw, BitVec.toNat_ofNat]
  exact Nat.mod_eq_of_lt this

/-- LVL, GM and RING of a PSW put together. -/
@[simp] theorem mkPsw_lvl (l : Nat) (g : Bool) (r f : Nat) : bitsOf (mkPsw l g r f) 0 3 = l % 8 := by
  rw [bitsOf, mkPsw_toNat]; cases g <;> simp <;> omega

@[simp] theorem mkPsw_ring (l : Nat) (g : Bool) (r f : Nat) : bitsOf (mkPsw l g r f) 4 2 = r % 4 := by
  rw [bitsOf, mkPsw_toNat]; cases g <;> simp <;> omega

@[simp] theorem mkPsw_flags (l : Nat) (g : Bool) (r f : Nat) : bitsOf (mkPsw l g r f) 8 4 = f % 16 := by
  rw [bitsOf, mkPsw_toNat]; cases g <;> simp <;> omega

theorem bitOf_eq (v : Word) (i : Nat) : bitOf v i = decide (v.toNat / 2 ^ i % 2 = 1) := by
  rw [bitOf, BitVec.getLsbD, Nat.testBit_eq_decide_div_mod_eq]

@[simp] theorem mkPsw_gm (l : Nat) (g : Bool) (r f : Nat) : bitOf (mkPsw l g r f) 3 = g := by
  rw [bitOf_eq, mkPsw_toNat]; cases g <;> simp <;> omega

/-- The reserved bits of a PSW put together read 0. -/
theorem mkPsw_reserved (l : Nat) (g : Bool) (r f : Nat) :
    bitsOf (mkPsw l g r f) 6 2 = 0 ∧ bitsOf (mkPsw l g r f) 12 20 = 0 := by
  rw [bitsOf, bitsOf, mkPsw_toNat]; cases g <;> simp <;> omega

/-- The flags of a PSW put together. -/
theorem mkPsw_flag (l : Nat) (g : Bool) (r : Nat) (f : Flags) :
    bitOf (mkPsw l g r f.num) 8 = f.z ∧ bitOf (mkPsw l g r f.num) 9 = f.n ∧
      bitOf (mkPsw l g r f.num) 10 = f.c ∧ bitOf (mkPsw l g r f.num) 11 = f.v := by
  rcases f with ⟨z, n, c, v⟩
  simp only [bitOf_eq, mkPsw_toNat, Flags.num]
  cases g <;> cases z <;> cases n <;> cases c <;> cases v <;> simp <;> omega

@[simp] theorem Thread.fl_setFl (x : Thread) (f : Flags) : (x.setFl f).fl = f := by
  simp only [Thread.fl, Thread.setFl, mkPsw_flag]

@[simp] theorem Thread.gm_setFl (x : Thread) (f : Flags) : (x.setFl f).gm = x.gm := by
  simp [Thread.gm, Thread.setFl]

@[simp] theorem Thread.lvl_setFl (x : Thread) (f : Flags) : (x.setFl f).lvl = x.lvl := by
  simp only [Thread.lvl, Thread.setFl, mkPsw_lvl]
  exact Nat.mod_eq_of_lt (Nat.mod_lt _ (by decide))

@[simp] theorem Thread.ring_setFl (x : Thread) (f : Flags) : (x.setFl f).ring = x.ring := by
  simp only [Thread.ring, Thread.setFl, mkPsw_ring]
  exact Nat.mod_eq_of_lt (Nat.mod_lt _ (by decide))

@[simp] theorem Thread.gm_setReg (x : Thread) (r : Gpr) (v : Word) : (x.setReg r v).gm = x.gm := rfl
@[simp] theorem Thread.lvl_setReg (x : Thread) (r : Gpr) (v : Word) : (x.setReg r v).lvl = x.lvl := rfl
@[simp] theorem Thread.ring_setReg (x : Thread) (r : Gpr) (v : Word) : (x.setReg r v).ring = x.ring := rfl
@[simp] theorem Thread.fl_setReg (x : Thread) (r : Gpr) (v : Word) : (x.setReg r v).fl = x.fl := rfl

@[simp] theorem Thread.reg_setReg_self (x : Thread) (r : Gpr) (v : Word) : (x.setReg r v).reg r = v := by
  simp [Thread.reg, Thread.setReg]

theorem Thread.reg_setReg_ne (x : Thread) {r q : Gpr} (v : Word) (h : r ≠ q) : (x.setReg r v).reg q = x.reg q := by
  have : (r : Nat) ≠ q := fun e => h (Fin.ext e)
  simp [Thread.reg, Thread.setReg, Vector.getElem_set_ne, this]

@[simp] theorem Thread.reg_setFl (x : Thread) (r : Gpr) (f : Flags) : (x.setFl f).reg r = x.reg r := rfl

end Sys2Proof.Machine
end

