-- ==== Sys2Proof/WellFormed.lean ====
section
/-!
DEFINITION. Which commands are well formed: operands that no encoding, no register map and no sender of the spec gives
are refused here, each by a check of its own.
-/

namespace Sys2Proof

/-- Memory forms of a word access: region 3 of format A is reserved (R116). -/
def wfMemWord (f : MemForm) : Bool :=
  match f with
  | .abs _ k _ => k != 3
  | .u4 _ _ _ => true
  | .sp _ _ => true
  | .base _ _ _ => true

/-- Memory forms of a halfword or byte access: the 16-bit forms exist for words only (R114). -/
def wfMemPart (f : MemForm) : Bool :=
  match f with
  | .abs _ k _ => k != 3
  | .u4 _ _ _ => false
  | .sp _ _ => false
  | .base _ _ _ => true

/-- A register pair starts at an even register (R92, R128). -/
def wfPair (g : Gpr) : Bool := g.val % 2 == 0

/-- A rail code of the table of R131. -/
def wfRail (c : Fin 32) : Bool := decide (1 ≤ c.val) && decide (c.val ≤ 20)

/-- A switching controller, LDO or load switch: a rail with a ramp or a discharge path of its own. -/
def wfDischarge (c : Fin 32) : Bool := decide (1 ≤ c.val) && decide (c.val ≤ 16)

/-- An address in the register range of R94. -/
def wfRegAddr (a : Word) : Bool := decide (0x40000000 ≤ a.toNat) && decide (a.toNat < 0x40027000) && a.toNat % 4 == 0

/-- A measured phase error lies within ±180° (R186). -/
def wfPhase (o : SwObs) : Bool := decide (o.phaseErr.natAbs ≤ 180000)

/-- Sixty-four samples (R257). -/
def wfSamples (l : List Nat) : Bool := l.length == 64

/-- A UART command frame whose character in error, if any, is one of its own. -/
def wfBadAt (bs : List Byte) (badAt : Option Nat) : Bool :=
  match badAt with
  | none => true
  | some i => decide (i < bs.length)

/-- A well-formed command. -/
def Instr.wf (i : Instr) : Bool :=
  match i with
  | .registerWrite a _ _ _ => wfRegAddr a
  | .ldW _ f => wfMemWord f
  | .stW _ f => wfMemWord f
  | .ldH _ f => wfMemPart f
  | .ldHs _ f => wfMemPart f
  | .ldB _ f => wfMemPart f
  | .ldBs _ f => wfMemPart f
  | .stH _ f => wfMemPart f
  | .stB _ f => wfMemPart f
  | .wait _ g => wfPair g
  | .tick _ g => wfPair g
  | .rampStep c => wfRail c
  | .dischargeEnd c => wfDischarge c
  | .railRampEnd c => wfDischarge c
  | .supervisorAssert c _ => wfRail c
  | .swCycle _ o => wfPhase o
  | .supervisorRelease c _ => wfRail c
  | .powerGoodRise c => wfRail c
  | .portCalDone _ l => wfSamples l
  | .uartCommandFrame _ bs b => wfBadAt bs b
  | _ => true

end Sys2Proof
end

