-- ==== Sys2Proof/Tests/Slice0.lean ====
section
/-!
SUPPORT. Tests: ill-formed commands that WellFormed refuses, words decoded from the encodings of spec/05, single steps
on small states with results taken from the spec, and for each statement of Certificates/Slice0/Obligations.lean a
witness: concrete states and operands that meet the hypotheses of each of its clauses.
-/

namespace Sys2Proof.Tests

open Sys2Proof Sys2Proof.Machine

set_option Elab.async false

/-! ## Small states -/

/-- Reset with CORE released. -/
def live : State := { State.reset with pwr := { PowerSt.cold with coreHeld := false } }

/-- Every domain on and at power-good. -/
def dp (s : State) : State := (s.put F.SYS_DOMSTAT_PG 0xFFFF).put F.SYS_DOMCTL_DSW 0x3FFF

def pw (s : State) (f : PowerSt → PowerSt) : State := { s with pwr := f s.pwr }

def regsA : Vector Word 16 :=
  #v[0x80000000, 0xFFFFFFFF, 0x20001000, 7, 0, 0x7FFFFFFF, 0x20001001, 33, 0x100, 0x20002008, 0x20001002, 3, 1,
    0x40003200, 0x20000100, 0x200BFFC0]

/-- T0 runs from SRAM. -/
def t0With (g : Vector Word 16) (pc psw : Word) : State :=
  live.setThr 0 { Thread.cold0 with g := g, pc := pc, psw := psw }

def sA : State := (t0With regsA 0x20000000 0x007).setWord 0x20001000 0x8091A2F3

/-- Region 0 of ring `r` opens the whole address space; ring 0 needs none. -/
def openRing (r : Nat) (s : State) : State :=
  if r = 0 then s else (s.put ⟨0x40003000 + 0x100 * r, 0, 4⟩ 15).put ⟨0x40003004 + 0x100 * r, 8, 24⟩ 0xFFFFFF

/-- T5 runs at ring 2, T0 is halted. -/
def sC : State :=
  openRing 2 ((live.setThr 0 { Thread.cold0 with st := .halted }).setThr 5
    { Thread.cold with st := .ready, g := regsA, pc := 0x20000010, psw := 0x527 })

/-- T0 holds GM for its 48th cycle. -/
def sGm : State := (sA.setThr 0 { sA.thr 0 with psw := 0xA0F }).coreUpd (fun c => { c with gmHold := 47 })

/-- A GALE handler runs on T0 with 6 cycles left. -/
def sGale : State := sA.coreUpd (fun c => { c with gale := some ⟨0, 3, 32, 250⟩ })

/-- Two buffered stores. -/
def sBuf : State :=
  (sA.sbPush ⟨0, 0, 0x20001000, .store 15 0xDEADBEEF⟩).sbPush ⟨3, 1, 0x20002000, .store 6 0x12345678⟩

/-- `s` with `c` at the front of its queue, stepped. -/
def stepOf (s : State) (c : Instr) : State :=
  match step { s with pending := c :: s.pending } with
  | .next u => u
  | .fault _ => s
  | .refused _ => s

/-! ## WellFormed refuses -/

theorem test_wf_abs_region3 : (Instr.ldW 0 (.abs 1 3 0)).wf = false := by decide
theorem test_wf_halfword_has_no_short_form : (Instr.ldH 0 (.u4 1 2 0)).wf = false := by decide
theorem test_wf_odd_pair : (Instr.wait 0 3).wf = false := by decide
theorem test_wf_rail_code_0 : (Instr.powerGoodRise 0).wf = false := by decide
theorem test_wf_port_rail_has_no_path : (Instr.dischargeEnd 17).wf = false := by decide
theorem test_wf_register_address : (Instr.registerWrite 0x40027000 0 0 Sense.quiet).wf = false := by decide
theorem test_wf_63_samples : (Instr.portCalDone 0 (List.replicate 63 0)).wf = false := by decide
theorem test_wf_bad_character_beyond_frame : (Instr.uartCommandFrame 0 [1, 0] (some 2)).wf = false := by decide
theorem test_wf_accepts : (Instr.ldW 0 (.abs 1 2 0)).wf = true := by decide

/-! ## Words of the instruction maps (R114, R115) -/

theorem test_decode_nop : decodeRamtan 2 0x0000 0 = some (.nop 2) := by decide
/-- op4 1, func 1: add g2, g3 (R119). -/
theorem test_decode_alu_short : decodeRamtan 0 0x1123 0 = some (.add 0 (.short 2 3)) := by decide
/-- op4 2: movi g5, −1. -/
theorem test_decode_movi_short : decodeRamtan 0 0x25FF 0 = some (.movi 0 (.short 5 0xFF)) := by decide
/-- op4 5: kind 2, amount 9, g4: 01 0100 1001 0 0100 with bit 11 set. -/
theorem test_decode_sari : decodeRamtan 0 0x5924 0 = some (.sari 0 4 9) := by decide
/-- op4 6: ld.w g1, [g2, 12]. -/
theorem test_decode_ldw_short : decodeRamtan 0 0x6123 0 = some (.ldW 0 (.u4 1 2 3)) := by decide
/-- op4 A: b with cond 7, −2 halfwords. -/
theorem test_decode_bcond : decodeRamtan 0 0xA7FE 0 = some (.bCond 0 .slt (.short 0xFE)) := by decide
/-- op6 0x09: ld.h g3, [g4, 0x10]. -/
theorem test_decode_ldh : decodeRamtan 0 0xC934 0x0010 = some (.ldH 0 (.base 3 4 0x10)) := by decide
/-- op6 0x15: st.w g1, format A, region 2, u18 0x3FFFF: 0001 10 11 and sixteen ones. -/
theorem test_decode_stw_abs : decodeRamtan 0 0xD51B 0xFFFF = some (.stW 0 (.abs 1 2 0x3FFFF)) := by decide
/-- op6 0x2A: spawn t3, g4, g5, ring 2, class 1. -/
theorem test_decode_spawn : decodeRamtan 0 0xEA34 0x5900 = some (.spawn 0 3 4 5 2 1) := by decide
/-- op6 0x2C: gate 63. -/
theorem test_decode_gate : decodeRamtan 0 0xEC00 0x003F = some (.gate 0 63) := by decide
/-- op6 0x33: tmo 0x12, rail 17, −1. -/
theorem test_decode_pgwait : decodeRamtan 0 0xF312 0x8FFF = some (.pgwait 0 17 0x12 0x7FF) := by decide
theorem test_decode_odd_pair_reserved : decodeRamtan 0 0x0403 0 = none := by decide
theorem test_decode_region3_reserved : decodeRamtan 0 0xD01C 0 = none := by decide
theorem test_table_word : decodeTableWord 32 0 = none := rfl

/-! ## Single steps -/

/-- 0xFFFFFFFF + 0xFFFFFFFF: carry, no signed overflow, result 0xFFFFFFFE (R118). -/
theorem test_add_carries : ((stepOf sA (.add 0 (.long 3 1 1))).thr 0).reg 3 = 0xFFFFFFFE ∧
    ((stepOf sA (.add 0 (.long 3 1 1))).thr 0).fl = ⟨false, true, true, false⟩ := by decide +kernel
/-- 0x80000000 − 7: no borrow, signed overflow. -/
theorem test_sub_overflows : ((stepOf sA (.sub 0 (.long 4 0 3))).thr 0).fl = ⟨false, false, true, true⟩ := by
  decide +kernel
/-- A word load of a misaligned address raises ALIGN; no vector is set up and LVL is 7, so a SQUALL follows (R152). -/
theorem test_misaligned_load : (stepOf sA (.ldW 0 (.u4 1 6 0))).core.squall = true := by decide +kernel
theorem test_load_sign_extends : ((stepOf sA (.ldHs 0 (.base 3 2 2))).thr 0).reg 3 = 0xFFFF8091 := by decide +kernel
theorem test_branch_back : ((stepOf sA (.br 0 (.long 0xFFFFFF))).thr 0).pc = 0x1FFFFFFE := by decide +kernel
theorem test_idle_step : step live = .next live := rfl
/-- RSTCAUSE is W1C: writing bit 0 clears COLD_VIN and leaves BAKLOST. -/
theorem test_w1c : (stepOf live (.registerWrite 0x40000004 0 1 Sense.quiet)).on F.SYS_RSTCAUSE_COLD_VIN = false ∧
    (stepOf live (.registerWrite 0x40000004 0 1 Sense.quiet)).on F.SYS_RSTCAUSE_BAKLOST = true := by decide +kernel
/-- SWSIG at ring 3 changes nothing. -/
theorem test_swsig_ring3 : stepOf live (.evtSwsigWrite 3 0xFFFFFFFF) = live := by decide +kernel
theorem test_kernel_tick : (stepOf live .kernelTick).core.raised = 1 := by decide +kernel
/-- CRC-8 with polynomial 0x07 of the ASCII digits 1 to 9 is 0xF4. -/
theorem test_crc8 : crc8 [0x31, 0x32, 0x33, 0x34, 0x35, 0x36, 0x37, 0x38, 0x39] = 0xF4 := by decide +kernel
/-- CRC-32 of the same digits is 0xCBF43926. -/
theorem test_crc32 : crc32 [0x31, 0x32, 0x33, 0x34, 0x35, 0x36, 0x37, 0x38, 0x39] = 0xCBF43926 := by decide +kernel
/-- SHA-256 of "abc" begins BA7816BF. -/
theorem test_sha256 : (sha256 [0x61, 0x62, 0x63]).take 4 = [0xBA, 0x78, 0x16, 0xBF] := by decide +kernel
/-- SND_NKE to address 5: 10 40 05 45 16 (R262). -/
theorem test_short_frame : shortFrame 0x40 5 = [0x10, 0x40, 0x05, 0x45, 0x16] := by decide
/-- 29 February 2000 exists, 29 February 2100 does not; second 0 is 2000-01-01 (R340). -/
theorem test_calendar : calValid 2000 2 29 23 59 59 = true ∧ calValid 2100 2 29 0 0 0 = false ∧
    calSec 2000 1 1 0 0 0 = 0 ∧ calSec 2001 1 1 0 0 0 = 366 * 86400 := by decide +kernel

/-! ## Witnesses: the queue, the core's instructions -/

theorem witness_StepTakesTheFrontCommand :
    ({ live with pending := [.nop 0, .kernelTick] } : State).pending = .nop 0 :: [.kernelTick] ∧
      live.pending = [] := ⟨rfl, rfl⟩

theorem witness_CommandsLeaveTheQueue : exec .kernelTick live = .next (live.raise 0) := by rfl

theorem witness_StepsKeepMemoryCanonical : MemoryCanonical sA ∧
    ∃ t, step { sA with pending := [.kernelTick] } = .next t := by
  refine ⟨by unfold MemoryCanonical; decide +kernel, ?_⟩
  exact ⟨_, rfl⟩

theorem witness_StepsNeverHaltT0 : (sA.thr 0).st ≠ .halted ∧ ∃ t, step { sA with pending := [.halt 0] } = .next t :=
  ⟨by decide +kernel, _, rfl⟩

/-- Every form's length, the last cycle of a hold of GM and of a GALE span. -/
theorem witness_AddSubtractAndCompare : InBudget sA 0 1 ∧ Runs sA 0 2 ∧ Runs sA 0 4 ∧ InBudget sGm 0 1 ∧
    Runs sGm 0 4 ∧ InBudget sGale 0 6 ∧ Runs sGale 0 2 ∧ InBudget sC 5 1 ∧ Runs sC 5 4 := by decide +kernel

theorem witness_LogicAndProducts : Runs sA 0 2 ∧ Runs sA 0 4 ∧ InBudget sA 0 1 ∧ InBudget sA 0 2 ∧ InBudget sA 0 3 := by
  decide +kernel

/-- Amounts 0, 33 and 255 beside the short ones: g4 = 0, g7 = 33, g1 = 0xFFFFFFFF. -/
theorem witness_ShiftsAndRotate : InBudget sA 0 1 ∧ Runs sA 0 2 ∧ Runs sA 0 4 ∧
    ((sA.thr 0).reg 7).toNat % 256 = 33 ∧ ((sA.thr 0).reg 1).toNat % 256 = 255 := by decide +kernel

/-- T0 has done `n` steps of the division at its PC. -/
def sDiv (n : Nat) : State := sA.setThr 0 { sA.thr 0 with divAt := some (0x20000000, n) }

/-- 0x80000000 / −1 with g0 and g1, 33 / 7 with g7 and g3, at each of the three issues. -/
theorem witness_Divisions : Runs sA 0 4 ∧ InBudget sA 0 12 ∧ (sA.thr 0).reg 1 ≠ 0 ∧ (sA.thr 0).reg 3 ≠ 0 ∧
    (sA.thr 0).reg 0 = 0x80000000 ∧ (sA.thr 0).reg 1 = 0xFFFFFFFF ∧ State.divDone (sA.thr 0) < 2 ∧
    Runs (sDiv 1) 0 4 ∧ InBudget (sDiv 1) 0 12 ∧ State.divDone ((sDiv 1).thr 0) = 1 ∧
    Runs (sDiv 2) 0 4 ∧ InBudget (sDiv 2) 0 10 ∧ 2 ≤ State.divDone ((sDiv 2).thr 0) := by decide +kernel

theorem witness_ZeroDivisorAndReservedEncodingFault : Runs sA 0 4 ∧ InBudget sA 0 1 ∧ (sA.thr 0).reg 4 = 0 ∧
    decodeRamtan 0 0x0006 0 = none ∧ Runs sA 0 (fetchLen 0x0006) ∧
    decodeRamtan 0 0xE000 1 = none ∧ Runs sA 0 (fetchLen 0xE000) := by decide +kernel

theorem witness_MovesAndNop : InBudget sA 0 1 ∧ Runs sA 0 2 ∧ Runs sA 0 4 := by decide +kernel

/-- [g2] a word, [g2, 2] a halfword, [g2, 3] a byte, and a load that the buffer serves. -/
theorem witness_LoadsFromSram :
    (let x := sA.thr 0
     let a := fun (f : MemForm) (n : Nat) => (f.addr x n).toNat
     let ready := fun (f : MemForm) (n : Nat) => f.reserved = false ∧ Runs sA 0 f.len ∧ InBudget sA 0 1 ∧
       sA.dataFault x.ring (a f n) n accR = none ∧ inSram (a f n) = true ∧ sA.youngest (a f n) n = none
     ready (.u4 1 2 0) 4 ∧ ready (.base 1 2 2) 2 ∧ ready (.base 1 2 3) 1 ∧ ready (.abs 1 1 0x2FFFF) 4) ∧
    (let f : MemForm := .u4 1 2 0
     let a := (f.addr (sA.thr 0) 4).toNat
     let s' := sA.sbPush (State.storeEntry 3 1 a 4 0xDEADBEEF)
     Runs s' 0 f.len ∧ InBudget s' 0 1 ∧ s'.dataFault (sA.thr 0).ring a 4 accR = none ∧ inSram a = true) := by
  decide +kernel

theorem witness_StoresEnterTheBuffer :
    (let x := sA.thr 0
     let a := fun (f : MemForm) (n : Nat) => (f.addr x n).toNat
     let ready := fun (f : MemForm) (n : Nat) => f.reserved = false ∧ Runs sA 0 f.len ∧ InBudget sA 0 1 ∧
       sA.dataFault x.ring (a f n) n accW = none ∧ sA.storeBlocked (a f n) = false
     ready (.sp 1 0) 4 ∧ ready (.base 1 2 2) 2 ∧ ready (.base 1 2 3) 1 ∧ ready (.abs 1 2 4) 4) := by decide +kernel

theorem witness_StoreRetiresIntoSram : sBuf.powered = true ∧
    sBuf.core.sb = ⟨0, 0, 0x20001000, .store 15 0xDEADBEEF⟩ :: [⟨3, 1, 0x20002000, .store 6 0x12345678⟩] ∧
    inSram 0x20001000 = true := by decide +kernel

/-- A register target with bit 0 clear: g2 for jr and jalr, lk for ret. -/
theorem witness_Branches : Runs sA 0 2 ∧ Runs sA 0 4 ∧ InBudget sA 0 2 ∧ ((sA.thr 0).reg 2).getLsbD 0 = false ∧
    ((sA.thr 0).reg 14).getLsbD 0 = false ∧ ((sA.thr 0).reg 1).getLsbD 0 = true ∧
    (let u := t0With (regsA.set 14 0x20000101) 0x20000000 7
     Runs u 0 2 ∧ ((u.thr 0).reg 14).getLsbD 0 = true) := by decide +kernel

theorem witness_YieldHaltSignal : Runs sA 0 2 ∧ InBudget sA 0 1 ∧ (5 : Tid) ≠ 0 ∧ Runs sC 5 2 ∧ InBudget sC 5 1 := by
  decide +kernel

def sPend : State := sA.mapThr (fun x => { x with pend := 0x8000000000001000#64 })

/-- g2 and g3 hold lines 12, 29, 32 to 34: nothing pending in `sA`; line 12 pending and lowest in `sPend`. With g2 cleared
the mask has no hardware line, and g3 is no pair. -/
theorem witness_WaitConsumesTheLowestLine : Runs sA 0 2 ∧ InBudget sA 0 1 ∧ (2 : Gpr).val % 2 = 0 ∧ (3 : Gpr).val % 2 = 1 ∧
    (let u := t0With (regsA.set 2 0) 0x20000000 7
     Runs u 0 2 ∧ InBudget u 0 1 ∧ ((u.thr 0).reg (2 + 1) ++ (u.thr 0).reg 2).extractLsb' 0 32 = 0) ∧
    (let m := (sA.thr 0).reg (2 + 1) ++ (sA.thr 0).reg 2
     m ≠ 0 ∧ m.extractLsb' 0 32 ≠ 0 ∧ (sA.thr 0).pend &&& m = 0) ∧
    Runs sPend 0 2 ∧ InBudget sPend 0 1 ∧
    (let m := (sPend.thr 0).reg (2 + 1) ++ (sPend.thr 0).reg 2
     (sPend.thr 0).pend.getLsbD 12 = true ∧ m.getLsbD 12 = true ∧
       ∀ j, j < 12 → ((sPend.thr 0).pend.getLsbD j && m.getLsbD j) = false) := by decide +kernel

/-- T0 at ring `r` with codes in g0 and g1, and permission for rails 2, 4 and so on. -/
def sRail (r : Nat) (a b : Word) : State :=
  (openRing r (t0With ((regsA.set 0 a).set 1 b) 0x20000000 (mkPsw 2 false r 0))).put (F.EVT_RPERM_RAILS 0) 0x2AAAA

theorem witness_SpawnStartsAThread :
    (Runs sA 0 4 ∧ InBudget sA 0 4 ∧ (15 : Tid) ≠ 0 ∧ (sA.thr 15).st = .halted ∧ (sA.thr 0).ring = 0 ∧
      ((sA.thr 0).reg 2).getLsbD 0 = false ∧ ((sA.thr 0).reg 1).getLsbD 0 = true) ∧
    (Runs sC 5 4 ∧ InBudget sC 5 4 ∧ (sC.thr 5).ring = 2 ∧ (3 : Tid) ≠ 0 ∧ (sC.thr 3).st = .halted ∧
      (sC.thr 5).ring ≤ (2 : Ring).val ∧ 2 ≤ (2 : Ring).val ∧ (2 : Fin 4).val ≤ 2) ∧
    ((sRail 3 1250 4095).thr 0).ring = 3 ∧ Runs (sRail 3 1250 4095) 0 4 ∧ InBudget (sRail 3 1250 4095) 0 4 := by
  decide +kernel

/-- The gate table of ring 0 at 0x20004000 with gate 3; the fault stacks of rings 1 and 2 in SRAM. -/
def sGate : State :=
  ((sA.coreUpd (fun c => { c with gbase := #v[0x20004000, 0, 0, 0] })).setWord 0x20004018 0x10002220).setWord
    0x2000401C 0x8000000F

/-- Room for a frame, as a test that evaluates. -/
abbrev Room (s : State) (t : Tid) (r : Fin 3) : Prop :=
  s.core.sb = [] ∧ (s.fstackSpan r).any (fun span => decide ((s.thr t).fsUsed[r] + 32 ≤ span / 16)) = true ∧
    (s.sliceTop t r - BitVec.ofNat 32 ((s.thr t).fsUsed[r] + 32)).toNat % 4 = 0

theorem canPush_of_room {s : State} {t : Tid} {r : Fin 3} (h : Room s t r) : CanPush s t r := by
  obtain ⟨h1, h2, h3⟩ := h
  cases hs : s.fstackSpan r with
  | none => simp [hs] at h2
  | some span => exact ⟨h1, ⟨span, hs, by simpa [hs] using h2⟩, h3⟩

/-- T5 at ring 3 with the gate table of ring 3 at 0x20004300, where gate 50 allows it, and its stack at 0x20002020. -/
def sGate3 : State :=
  let s := (sC.setThr 5 { sC.thr 5 with psw := 0xF37, g := (sC.thr 5).g.set 15 0x20002020 }).coreUpd (fun c =>
    { c with gbase := #v[0, 0, 0, 0x20004300] })
  ((openRing 3 s).setWord 0x20004310 0x10002220).setWord 0x20004314 0x80000008

theorem witness_GatePushesItsFrame :
    (let e := (sGate.gateAddr 3).toNat
     let w := sGate.word (e + 4)
     Runs sGate 0 4 ∧ InBudget sGate 0 48 ∧ (3 : Fin 64).val / 16 = (0 : Fin 3).val ∧ e % 8 = 0 ∧
       inSram e = true ∧ sGate.protAllows 0 e accR = true ∧ sGate.domOff e = false ∧ bitOf w 31 = true ∧
       bitsOf w 4 27 = 0 ∧ bitOf (sGate.word e) 0 = false ∧ bitOf w (sGate.thr 0).ring = true ∧ Room sGate 0 0 ∧
       sGate.fstackSpan 0 = some 0x2000) ∧
    (let e := (sGate3.gateAddr 50).toNat
     let w := sGate3.word (e + 4)
     let a := ((sGate3.thr 5).reg 15 - 32).toNat
     Runs sGate3 5 4 ∧ InBudget sGate3 5 48 ∧ sGate3.core.sb = [] ∧ e % 8 = 0 ∧ inSram e = true ∧
       sGate3.protAllows 0 e accR = true ∧ sGate3.domOff e = false ∧ bitOf w 31 = true ∧ bitsOf w 4 27 = 0 ∧
       bitOf (sGate3.word e) 0 = false ∧ bitOf w (sGate3.thr 5).ring = true ∧ (50 : Fin 64).val / 16 = 3 ∧
       inSram a = true ∧ inSram (a + 31) = true ∧ ∀ i, i < 8 → sGate3.dataFault 3 (a + 4 * i) 4 accW = none) ∧
    (bitOf (sGate.word ((sGate.gateAddr 4).toNat + 4)) 31 = false ∧ InBudget sGate 0 1 ∧
      (let u := sA.coreUpd (fun c => { c with gbase := #v[0x20004004, 0, 0, 0] })
       Runs u 0 4 ∧ (u.gateAddr 3).toNat % 8 ≠ 0) ∧
      (let u := sA.coreUpd (fun c => { c with gbase := #v[0x00001000, 0, 0, 0] })
       Runs u 0 4 ∧ inSram (u.gateAddr 3).toNat = false ∧ inFlash (u.gateAddr 3).toNat = false)) := by decide +kernel

/-- A frame with INFO `info` on T0's slice of the ring-0 stack. -/
def sFrame (info : Word) : State :=
  (sA.setThr 0 { sA.thr 0 with fsUsed := #v[32, 0, 0] }).writeWords 0x200BFFE0
    [0x20001235, 0x33A, info, 9, 0x11, 0x22, 0x33, 0x44]

/-- T5 at ring 3 with a frame on its own stack. -/
def sFrame3 : State := sGate3.writeWords 0x20002020 [0x20001235, 0xF0F, 0x80, 9, 0x11, 0x22, 0x33, 0x44]

/-- A gate's frame and a fault's frame at ring 0, and none at all. -/
theorem witness_ReturnsRestoreTheFrame :
    (let ok := fun (s : State) =>
       let a := (s.fsp 0 0).toNat
       Runs s 0 2 ∧ InBudget s 0 10 ∧ s.core.sb = [] ∧ s.core.gmHold + 10 ≤ 48 ∧ (s.thr 0).ring = (0 : Fin 3).val ∧
         (s.thr 0).fsUsed[0] ≠ 0 ∧ a % 4 = 0 ∧ inSram a = true ∧ inSram (a + 31) = true ∧ s.cls 0 ≤ 3
     ok (sFrame 0x30080) ∧ bitsOf ((sFrame 0x30080).word (0x200BFFE0 + 8)) 0 8 = 0x80 ∧ ok (sFrame 0x306) ∧
       bitsOf ((sFrame 0x306).word (0x200BFFE0 + 8)) 0 8 ≠ 0x80) ∧
    Runs sA 0 2 ∧ InBudget sA 0 10 ∧ sA.core.gmHold + 10 ≤ 48 ∧ sA.cls 0 ≤ 3 ∧ (sA.thr 0).fsUsed[0] = 0 := by
  decide +kernel

/-- A frame at ring 3. -/
theorem witness_ReturnsRestoreTheFrame_ring3 :
    (let a := ((sFrame3.thr 5).reg 15).toNat
     Runs sFrame3 5 2 ∧ InBudget sFrame3 5 10 ∧ sFrame3.core.gmHold + 10 ≤ 48 ∧ sFrame3.cls 5 ≤ 3 ∧
       (sFrame3.thr 5).ring = 3 ∧ sFrame3.core.sb = [] ∧ inSram a = true ∧ inSram (a + 31) = true ∧
       ∀ i, i < 8 → sFrame3.dataFault 3 (a + 4 * i) 4 accR = none) := by decide +kernel

theorem witness_FencesComplete : Runs sA 0 2 ∧ InBudget sA 0 1 ∧ sA.core.sb = [] ∧ sA.core.latch = [] ∧
    sA.core.fenceP[0] = false ∧ sA.core.fenceP[1] = false ∧
    Runs sBuf 0 2 ∧ InBudget sBuf 0 1 ∧ sBuf.core.sb ≠ [] ∧
    (let u := sA.coreUpd (fun c => { c with latch := [⟨.sys, ⟨0, 0, 0x40000010, .store 15 0⟩⟩], fenceP := #v[false, true] })
     Runs u 0 2 ∧ u.core.latch ≠ [] ∧ u.core.fenceP[1] = true) := by decide +kernel

/-- T0 at ring `r`. -/
def sRing (r : Nat) : State := openRing r (t0With regsA 0x20000000 (mkPsw 4 false r 9))

theorem witness_ReadControlRegister : (∀ r, r < 4 → Runs (sRing r) 0 4 ∧ InBudget (sRing r) 0 1 ∧
    ((sRing r).thr 0).ring = r) ∧ State.crReadable 39 1 = false := by decide +kernel

theorem witness_WriteControlRegister : Runs (sRing 0) 0 4 ∧ InBudget (sRing 0) 0 2 ∧ (sRing 0).core.gmHold + 2 ≤ 48 ∧
    (sRing 0).fsBusy 1 = false ∧ Runs (sRing 3) 0 4 := by decide +kernel

theorem witness_Atomics : Runs sA 0 4 ∧ InBudget sA 0 4 ∧ sA.core.sb = [] ∧
    (let a := ((sA.thr 0).reg 2).toNat
     a % 4 = 0 ∧ inSram a = true ∧ sA.protAllows (sA.thr 0).ring a accRW = true) ∧
    ((sA.thr 0).reg 6).toNat % 4 ≠ 0 ∧ ((sA.thr 0).reg 8).toNat % 4 = 0 ∧
    inSram ((sA.thr 0).reg 8).toNat = false := by decide +kernel

/-- 7 words from g2, or of g5, to g14: a step of four and one of three; with g11 = 3 bset ends in its first step. With
g4 = 0 there is nothing to move; g6 is misaligned. -/
theorem witness_BlockMovesAdvance : Runs sA 0 4 ∧ InBudget sA 0 12 ∧ sA.core.sb = [] ∧
    (let x := sA.thr 0
     let past := fun (move : Bool) (gt : Gpr) (y : Thread) =>
       let y1 := y.setReg 14 (y.reg 14 + 4)
       let y2 := if move then y1.setReg 2 (y1.reg 2 + 4) else y1
       y2.setReg gt (y2.reg gt - 1)
     let done := fun (move : Bool) (gt : Gpr) (n : Nat) => Nat.repeat (past move gt) n x
     let dst := fun (move : Bool) (gt : Gpr) (i : Nat) => ((done move gt i).reg 14).toNat
     let src := fun (i : Nat) => ((done true 3 i).reg 2).toNat
     let is := fun (move : Bool) (gt : Gpr) (top m : Nat) => 0 < m ∧ m ≤ top ∧ (∀ i, i < m → (done move gt i).reg gt ≠ 0) ∧
       (m = top ∨ (done move gt m).reg gt = 0) ∧ ∀ i, i < m → sA.blockFault x.ring (dst move gt i) true = none
     is false 3 4 4 ∧ is true 3 3 3 ∧ is false 11 4 3 ∧ (done false 11 3).reg 11 = 0 ∧
       (∀ i, i < 3 → sA.blockFault x.ring (src i) false = none ∧ inSram (src i) = true ∧
         ∀ j, j < i → dst true 3 j ≠ src i) ∧
       x.reg 4 = 0 ∧ x.reg 3 ≠ 0 ∧ (x.reg 6).toNat % 4 ≠ 0 ∧ (x.reg 14).toNat % 4 = 0) := by decide +kernel

/-- Codes 1250 and 4095 for SW1 to SW6; permission for rail 2 and not for rail 1 at ring 2; an LDO with a code too high; a
rail at power-good and one that is not. -/
theorem witness_RailInstructionsCheckTheirPermission :
    (∀ r, r < 4 → Runs (sRail r 1250 4095) 0 4 ∧ InBudget (sRail r 1250 4095) 0 1) ∧
    (sRail 2 1250 4095).bit (F.EVT_RPERM_RAILS 0) 1 = true ∧ (sRail 2 1250 4095).bit (F.EVT_RPERM_RAILS 0) 0 = false ∧
    (sRail 2 1250 4095).storeBlocked 0x40008000 = false ∧ ((sRail 2 1250 4095).thr 0).reg 0 = 1250 ∧
    (((sRail 2 1250 4095).thr 0).reg 1).toNat ≤ 4095 ∧ ¬(((sRail 2 1250 4095).thr 0).reg 0).toNat ≤ 50 ∧
    ((sRail 0 1250 4095).put F.SEQ_PG_PG 4).pg (3 : Fin 32) = true ∧
    InBudget ((sRail 0 1250 4095).put F.SEQ_PG_PG 4) 0 2 ∧ (sRail 0 1250 4095).pg (20 : Fin 32) = false ∧
    (20 : Fin 32).val ≤ 20 ∧ 20 < (21 : Fin 32).val := by
  decide +kernel

def sPgw : State := sA.setThr 4 { sA.thr 4 with st := .waiting (.pg 3 0x20000004 0x20000100) }

/-- T0 at LVL 2 with a handler for vector `k` at ring 0. -/
def sVec (k : Nat) : State :=
  ((sA.setThr 0 { sA.thr 0 with psw := 0x502 }).setWord (0x200B8000 + 8 * k) 0x10002220).setWord (0x200B8004 + 8 * k)
    0x80000000

/-- DIVZERO with its vector, at LVL 2 below FLVL; and at LVL 6 with vector 64, for DOUBLE. -/
theorem witness_FaultEntry :
    (let s := sVec 70
     s.vecUsable (64 + 6) = some (0x10002220, (0 : Fin 3).val) ∧ (s.thr 0).gm = false ∧
       (s.thr 0).lvl < s.core.flvl ∧ (0 : Fin 3).val ≤ (s.thr 0).ring ∧ (s.thr 0).st ≠ .halted ∧ Room s 0 0) ∧
    (let s := (sVec 64).setThr 0 { (sVec 64).thr 0 with psw := 0x506 }
     s.vecUsable 64 = some (0x10002220, (0 : Fin 3).val) ∧ s.core.flvl ≤ (s.thr 0).lvl ∧ (s.thr 0).lvl < 7 ∧
       (s.thr 0).gm = false ∧ (s.thr 0).st ≠ .halted ∧ Room s 0 0) := by decide +kernel

theorem witness_RaisedLineBecomesPending : (sPgw.raise 31).coreLive = true ∧
    (sPgw.raise 31).core.raised.getLsbD (31 : Fin 32) = true ∧
    (let s := pw ((sC.setThr 5 { sC.thr 5 with st := .waiting (.event 2) }).raise 1) (fun p => { p with state := .doze })
     s.coreLive = true ∧ s.core.raised.getLsbD (1 : Fin 32) = true ∧ s.pwr.state = .doze) := by decide +kernel

/-- Line 9 pending on T0 with its route at level 3; GALE line 3 pending with GALEEN. -/
def sLine (k : Nat) : State :=
  let s := sVec k
  ((s.setThr 0 { s.thr 0 with pend := BitVec.twoPow 64 k }).put (F.EVT_ROUTE_LEVEL k) 3).put F.PROT_ECFG_GALEEN 1

theorem witness_EventAndGaleEntries :
    (let ok := fun (s : State) (k : Nat) => s.canEnter = true ∧
       s.vecUsable k = some (0x10002220, (0 : Fin 3).val) ∧ (s.thr (s.target k)).st ≠ .halted ∧ Room s (s.target k) 0
     ok (sLine 9) 9 ∧ (sLine 9).lineCan 9 = true ∧ (sLine 9).lineFirst 9 = true ∧ ok (sLine 3) 3 ∧
       (sLine 3).galeNext = some 3) ∧
    (let bare := fun (k : Nat) => (sLine k).setWord (0x200B8004 + 8 * k) 0
     (bare 9).canEnter = true ∧ (bare 9).vecUsable 9 = none ∧ (bare 9).lineAsks 9 = true ∧ (bare 3).canEnter = true ∧
       (bare 3).vecUsable 3 = none ∧ (bare 3).galeAsks 3 = true) := by decide +kernel

def waits (s : State) (t : Tid) (m : BitVec 64) : State := s.setThr t { s.thr t with st := .waiting (.event m) }

def sEddy : State := (waits (waits live 0 0xF) 9 0x100000000).put F.PROT_ECFG_EDDYEN 1
def sEddyHeld : State := (sVec 0x50).coreUpd (fun c => { c with eddyHeld := true })

theorem witness_EddyDetectedAndEntered : sEddy.coreLive = true ∧ sEddy.on F.PROT_ECFG_EDDYEN = true ∧
    sEddy.core.eddySeen = false ∧ sEddy.eddyCond = true ∧
    (let s := sEddyHeld
     s.canEnter = true ∧ s.eddyFirst = true ∧ s.vecUsable 0x50 = some (0x10002220, 0) ∧ Room s 0 0 ∧
       (s.thr 0).st ≠ .halted ∧ s.cls 0 ≤ 3) := by decide +kernel
/-! ## Witnesses: limits, resets, clocks, power -/

def sGm48 : State := sGm.coreUpd (fun c => { c with gmHold := 48 })

theorem witness_LongHoldsCauseASquall :
    (let ok := fun (s : State) => s.coreLive = true ∧ s.core.sb = [] ∧ s.pwr.stop = .none
     ok sGm ∧ (sGm.thr 0).gm = true ∧ ok sGm48 ∧ Runs sGm48 0 2 ∧ sGm48.core.gale = none ∧ 48 ≤ sGm48.core.gmHold ∧
       ok sGale ∧ sGale.core.gale = some ⟨0, 3, 32, 250⟩) := by decide +kernel

def sOff : State := pw sA (fun p => { p with state := .off })
def sCorePend : State := (dp sA).put F.SYS_RSTSTAT_CORE_PEND 1

theorem witness_T0RunsAtRingZeroAndCannotBeHalted : sOff.powered = false ∧ (sOff.put F.SC_STAT_MODE 3).scMode = 3 ∧
    (sOff.put F.SC_STAT_MODE 3).powered = false ∧ (pw sA (fun p => { p with sysDue := true })).powered = true ∧
    (pw sA (fun p => { p with sysDue := true })).pwr.sysDue = true ∧ sCorePend.coreResetDue = true ∧ Runs sA 0 2 ∧
    InBudget sA 0 1 ∧ sA.powered = true ∧ (3 : Tid) ≠ 0 ∧ (1 : Ring) ≠ 0 := by decide +kernel

/-- OTP.PROGDATA, whose write has no action of its own: its one field. -/
theorem witness_RegisterWriteRules : sA.canTake (0x4000104C : Word).toNat = true ∧
    (∀ x r w d, State.writeWord x (0x4000104C : Word).toNat r w d = x.plainWrite (0x4000104C : Word).toNat r w) ∧
    (⟨0, 32, .rw, 0, 0, .any, 0xFC, 0⟩ : Field) ∈ fieldsAt (0x4000104C : Word).toNat := by
  refine ⟨by decide +kernel, fun x r w d => ?_, by decide +kernel⟩
  simp [State.writeWord]

theorem witness_EvtAndProtStores : sA.powered = true ∧ protRegion (0 : BitVec 12).toNat = true ∧
    protRegion (0x37C : BitVec 12).toNat = true ∧ (0x37C : BitVec 12).toNat % 4 = 0 ∧ (1 : Ring) ≠ 0 := by decide +kernel

/-- T0's load of the register at `a` into g3 has left CORE, with `k` writes ahead of it. -/
def sWin (s : State) (a : Nat) (k : Nat := 0) : State := s.setThr 0 { s.thr 0 with stall := some (.window ⟨a, 3, 2, k⟩) }

/-- T0 at ring 1 runs from SRAM; its one region ends below the register windows. -/
def sNarrow : State :=
  ((sRing 1).put ⟨0x40003104, 8, 24⟩ 0x3FFFFF)

/-- Something to read in each FIFO and port. -/
def sFull : State :=
  { dp sA with
    bak := { sA.bak with tick := 0x123456789ABC, fifo := [⟨0x11223344, 2, true, false, 0⟩] }
    adc := { sA.adc with fifo := [⟨0x123, 4, true, false, false⟩] }
    uart := sA.uart.set 1 { sA.uart[1] with rx := [⟨0x141, true, false, false, true, false⟩] }
    port := sA.port.set 1 { sA.port[1] with cq := [⟨300, true, 0x50⟩] }
    host := { sA.host with kernel := some ⟨2, ⟨1, 2, false, [1, 2, 3, 4, 5]⟩, 1, []⟩ } }

theorem witness_WindowReadsReturn :
    (let waits := fun (a : Nat) => (sWin sFull a).coreLive = true ∧
       ((sWin sFull a).thr 0).stall = some (.window ⟨a, 3, 2, 0⟩) ∧ (sWin sFull a).domOff a = false
     waits 0x40000018 ∧ ((sWin sFull 0x40000018).regRead 0 0x40000018).2.core.threads = (sWin sFull 0x40000018).core.threads ∧
       ((sWin sFull 0x40000018).regRead 0 0x40000018).2.mem = (sWin sFull 0x40000018).mem ∧ waits 0x40024000 ∧
       waits 0x40024040 ∧ sFull.bak.fifo = ⟨0x11223344, 2, true, false, 0⟩ :: [] ∧ waits 0x40012010 ∧
       sFull.adc.fifo = ⟨0x123, 4, true, false, false⟩ :: [] ∧ waits (0x40012108 + 16 * 31) ∧
       waits (0x4001C008 + 0x1000 * 1) ∧ sFull.fwOwns 1 = true ∧
       sFull.uart[1].rx = ⟨0x141, true, false, false, true, false⟩ :: [] ∧ waits (0x40014110 + 0x1000 * 1) ∧
       sFull.port[1].cq = ⟨300, true, 0x50⟩ :: [] ∧ waits 0x40018204 ∧ (sFull.presented .kernel).isSome = true ∧
       ((sWin sFull 0x40000018 2).thr 0).stall = some (.window ⟨0x40000018, 3, 2, 2⟩)) ∧
    (let off := sWin ((sVec 76).put F.SYS_DOMCTL_DSW 0) 0x40012010
     off.coreLive = true ∧ (off.thr 0).stall = some (.window ⟨0x40012010, 3, 2, 0⟩) ∧ off.domOff 0x40012010 = true ∧
       off.faultWaits 0 = false) ∧
    Runs sNarrow 0 2 ∧ InBudget sNarrow 0 1 ∧ sNarrow.protAllows (sNarrow.thr 0).ring 0x40024000 accR = false ∧
    (3 : Gpr).val % 2 = 1 ∧ (4 : Gpr).val % 2 = 0 ∧
    ((sA.setThr 0 { sA.thr 0 with stall := some (.tick 4 0) }).thr 0).stall = some (.tick 4 0) ∧ Runs sA 0 2 ∧
    InBudget sA 0 1 ∧ sA.protAllows (sA.thr 0).ring 0x40024000 accR = true ∧ sA.windowBusy 0x40024000 = false ∧
    sFull.domPg 2 = true ∧ sFull.flashReadable = true ∧
    ((sFull.setThr 0 { sFull.thr 0 with stall := some (.fetchMiss 0x10000100) }).thr 0).stall =
      some (.fetchMiss 0x10000100) ∧
    ((sFull.setThr 0 { sFull.thr 0 with stall := some (.dataMiss 0x10000100) }).thr 0).stall =
      some (.dataMiss 0x10000100) := by
  refine ⟨?_, ?_, ?_⟩ <;> decide +kernel

def sVote : State := (pw sA (fun p => { p with otpOk := false })).setOtpRow 0 0xF0F01234
def mosc (s : State) : State := (dp s).put F.SYS_OSCSTAT_MOSC_OK 1

theorem witness_ResetsAndTheWiredVote : sOff.powered = false ∧ (pw sA (fun p => { p with sysDue := true })).pwr.sysDue = true ∧
    (pw sA (fun p => { p with sysDue := true })).powered = true ∧ sA.scMode < 2 ∧ sA.nvc.cmd = none ∧ sA.nvc.er = none ∧
    sA.nvc.held = none ∧ sVote.powered = true ∧ sVote.pwr.otpOk = false ∧ sVote.pwr.rstLow = false ∧
    sVote.pwr.otpBusy = none ∧ bitsOf 0xA5000001 24 8 = 0xA5 ∧ bitsOf 0xA5000001 0 2 = 1 ∧
    (let takes := fun (s : State) (w : Nat) => State.islandResets w = true ∧ s.islandBusy w = false
     (∀ w, w = 0x11 ∨ w = 0xFF → bitsOf (0xA5000002 + BitVec.ofNat 32 (256 * w)) 24 8 = 0xA5 ∧
       bitsOf (0xA5000002 + BitVec.ofNat 32 (256 * w)) 0 2 = 2 ∧ bitsOf (0xA5000002 + BitVec.ofNat 32 (256 * w)) 8 8 = w) ∧
       ¬takes sA 0xFF ∧ takes (dp sA) 0x11 ∧ windowDomain 0x11 = some 3 ∧ (dp sA).domPg 3 = true ∧ takes sA 0x11 ∧
       sA.domPg 3 = false) ∧
    sCorePend.coreResetDue = true ∧ sCorePend.core.sb = [] ∧ sOff.pwr.state = .off ∧
    (let s := pw (mosc sA) (fun p => { p with earlyDone := false })
     s.powered = true ∧ s.pwr.otpOk = true ∧ s.on F.SYS_OSCSTAT_MOSC_OK = true ∧ s.pwr.rstLow = false ∧
       s.pwr.earlyDone = false ∧ s.stopping = false ∧ s.earlyChannel = none) := by
  refine ⟨by decide +kernel, by decide +kernel, by decide +kernel, by decide +kernel, by decide +kernel, by decide +kernel,
    by decide +kernel, by decide +kernel, by decide +kernel, by decide +kernel, by decide +kernel, by decide +kernel,
    by decide +kernel, ⟨?_, by decide +kernel⟩, by decide +kernel⟩
  rintro w (rfl | rfl) <;> decide +kernel

/-- No stop, a LULL that has not ended, a fast stop with and without a rail left, and with the supply falling. -/
theorem witness_PinResetAndLossOfSupply :
    (let ok := fun (s : State) => s.powered = true ∧ s.on F.SYS_OSCSTAT_MOSC_OK = true
     let lull := pw (mosc sA) (fun p => { p with stop := .lull 3 1 77 })
     let sw1 := (mosc sA).put (F.SW_CTL_EN 0) 1
     ok (mosc sA) ∧ (mosc sA).pwr.stop = .none ∧ (mosc sA).stopLines.stopNext = none ∧ ok lull ∧
       lull.pwr.stop = .lull 3 1 77 ∧ ok sw1 ∧ sw1.stopLines.stopNext = some 1) ∧
    (let fast := fun (s : State) (sys : Bool) => pw s (fun p => { p with stop := .fast, endSys := sys })
     let ok := fun (s : State) (sys : Bool) => s.pwr.stop = .fast ∧ s.pwr.sysDue = false ∧ s.pwr.endSys = sys
     ok (fast sA true) true ∧ (fast sA true).stopNext = none ∧ ok (fast sA false) false ∧
       (fast sA false).stopNext = none ∧ ok (fast (sA.put (F.SW_CTL_EN 0) 1) true) true ∧
       (fast (sA.put (F.SW_CTL_EN 0) 1) true).stopNext = some 1) ∧ sA.powered = true ∧
    (pw sA (fun p => { p with state := .backup })).pwr.state = .backup := by decide +kernel

/-- BOOTSRC is bits 60:59 of the wired words. -/
def sBoot : State := (mosc State.reset).put (F.OTP_WIRED_W 1) 0x8000000

theorem witness_BootWithoutImage : sBoot.bootReady = true ∧ sBoot.bootSrc = 1 := by decide +kernel

theorem witness_ClockCommands :
    (let s := mosc sA
     let pll := s.put F.SYS_CLKCFG_PLLEN 1
     let both := pll.put F.SYS_CLKCFG_CSRC 1
     s.pwr.state = .run ∧ pll.pwr.state = .run ∧ pll.on F.SYS_CLKCFG_PLLEN = true ∧ s.powered = true ∧
       s.on F.SYS_OSCSTAT_MOSC_OK = true ∧ s.pwr.fllFrozen = false ∧
       (pw s (fun p => { p with fllGood := 3 })).pwr.fllFrozen = false ∧ 3 ≤ (pw s (fun p => { p with fllGood := 3 })).pwr.fllGood ∧
       s.pwr.fllGood < 3 ∧ (pw s (fun p => { p with fllFrozen := true })).powered = true ∧
       (pw s (fun p => { p with fllFrozen := true })).pwr.fllFrozen = true ∧ (s.put F.SYS_SYNC_SIVALID 1).powered = true ∧
       (s.put F.SYS_SYNC_SIVALID 1).on F.SYS_SYNC_SIVALID = true ∧ s.on F.SYS_LOCK_LOCK = false ∧
       (s.put F.SYS_LOCK_LOCK 1).on F.SYS_LOCK_LOCK = true ∧ s.on F.SYS_CLKCFG_CSRC = false ∧
       s.on F.SYS_OSCSTAT_PLL_LOCK = false ∧ both.on F.SYS_CLKCFG_CSRC = true ∧ both.on F.SYS_CLKCFG_PLLEN = true ∧
       both.on F.SYS_LOCK_LOCK = false ∧ both.powered = true) ∧
    (1 : Word).getLsbD 0 = true ∧ (1 : Word).getLsbD 1 = false ∧ bitsOf 11 2 6 = 2 ∧ bitsOf 131 2 6 = 32 := by
  decide +kernel

def sDoze : State := live.setThr 0 { Thread.cold0 with st := .waiting (.event 1) }
def sCalm : State :=
  (pw ((sDoze.put F.SYS_WAKEEN_EN 0x7FFFFFFF).raise 31) (fun p => { p with state := .calm })).put F.SYS_DOMCTL_DSW 0

theorem witness_DomainsAndPowerStates :
    (let s := sA.put F.SYS_DOMCTL_DSW 0x3FFF
     s.powered = true ∧ s.pwr.state ≠ .calm ∧ s.domOn 15 = true ∧ s.domPg 15 = false ∧
       (pw s (fun p => { p with state := .calm })).domPg 3 = false ∧ (pw s (fun p => { p with state := .calm })).domOn 3 = true) ∧
    (let s := dp sA
     let same := fun (v : Word) (s : State) (d : Nat) => ∀ k, k < 16 → 2 ≤ k → k ≠ d → bitOf v k = s.domOn k
     let off := s.put F.SYS_DOMCTL_DSW 0x2FFF
     (s.powered = true ∧ same 0xFFFF s 16 ∧ s.domOn 3 = true) ∧
       (off.powered = true ∧ off.domOn 14 = false ∧ off.domOn 3 = true ∧ same 0xFFFF off 14) ∧
       (let en := s.put (F.SW_CTL_EN 5) 1
        en.powered = true ∧ en.domOn 3 = true ∧ bitOf 0xEFFF 12 = false ∧ en.on (F.SW_CTL_EN 5) = true ∧
          en.domOn 12 = true ∧ same 0xEFFF en 12) ∧
       bitOf 0xBFFF 14 = false ∧ s.domOn 14 = true ∧ s.core.latch = [] ∧ same 0xBFFF s 14) ∧
    (sDoze.pwr.state = .run ∧ sDoze.coreLive = true ∧ (∀ t, (sDoze.thr t).st ≠ .ready ∧ (sDoze.thr t).gm = false) ∧
      sDoze.core.eddyHeld = false ∧ sDoze.core.sb = [] ∧ sDoze.pwr.coreHeld = false) ∧
    (let s := (sDoze.put F.SYS_PWRCTL_CALM 1).put F.SYS_SRET_BANKSW 0x200
     s.coreLive = true ∧ s.stopping = false ∧ s.on F.SYS_PWRCTL_CALM = true ∧ s.bit F.SYS_SRET_BANKSW 9 = true ∧
       s.bit F.SYS_SRET_BANKSW 0 = false ∧ (∀ t, (s.thr t).st ≠ .ready ∧ (s.thr t).gm = false) ∧
       s.core.eddyHeld = false ∧ s.core.sb = [] ∧ s.nvc.cmd = none ∧ s.nvc.er = none ∧ s.nvc.held = none ∧
       s.pwr.qspi = none ∧ s.host.kernel = none ∧ (∀ w : Fin 4, s.host.svc[w] = none) ∧
       ∀ p : Fin 2, s.port[p].exch = none ∧ s.port[p].answer = none) ∧
    sCalm.pwr.state = .calm ∧ sCalm.wakes (.line 31) = true ∧ sCalm.domOn 2 = false := by
  refine ⟨?_, ⟨?_, ?_, ?_, ?_⟩, ?_, ?_, ?_⟩ <;> decide +kernel

/-! ## Witnesses: OTP, QSPI, NVC -/

def sRow (k : Nat) : State := sA.put F.OTP_ROWADDR_ROW k
def sOtp (op r : Nat) (d : Word) : State := pw sA (fun p => { p with otpBusy := some (op, r, d) })

theorem witness_OtpCommands :
    (let bad := fun (s : State) (key : Byte) (v : Nat) =>
       s.pwr.otpBusy.isSome = true ∨ s.on F.OTP_LOCK_PLOCK = true ∨ v < 8500 ∨ key ≠ 0x5A
     sA.powered = true ∧ sA.pwr.otpBusy = none ∧ ¬bad (sRow 12) 0x5A 8500 ∧ (sRow 12).get F.OTP_ROWADDR_ROW = 12 ∧
       (sRow 12).otpRow 12 = 0 ∧ (sRow 12).otpStatus 12 = 0 ∧ ¬bad (sRow 3) 0x5A 9000 ∧
       (sRow 3).get F.OTP_ROWADDR_ROW ≤ 3 ∧ bad (sA.put F.OTP_LOCK_PLOCK 1) 0x5A 8500 ∧ bad sA 0x5A 8499 ∧ bad sA 0 8500 ∧
       bad (sOtp 1 200 0) 0x5A 8500) ∧
    (sOtp 1 200 0).pwr.otpBusy = some (1, 200, 0) ∧ (sOtp 2 12 5).pwr.otpBusy = some (2, 12, 5) ∧
    (sOtp 3 3 5).pwr.otpBusy = some (3, 3, 5) ∧ (sOtp 3 3 5).powered = true := by decide +kernel

/-- With these pins. -/
def withPins (s : State) (vin vsys : Nat) (vio rc : Bool) : State := { s with pins := ⟨vin, vsys, 9000, vio, rc⟩ }

/-- The last place that 4096 bytes fit below the GALE bank, and one byte further; 9 bytes from 0x10 to 0x20001001. -/
theorem witness_QspiCopies :
    (let fits := fun (s : State) (v : Word) => 1 ≤ bitsOf v 0 13 ∧ bitsOf v 0 13 ≤ 4096 ∧ 0x20000000 ≤ s.get F.QSPI_DST_DST ∧
       s.get F.QSPI_DST_DST + bitsOf v 0 13 ≤ 0x200B8000
     let dst := fun (d : Nat) => (dp sA).put F.QSPI_DST_DST d
     (dst 0x200B7000).qspiLive = true ∧ (dst 0x200B7000).pwr.qspi = none ∧ (0x80001000 : Word).getLsbD 31 = true ∧
       fits (dst 0x200B7000) 0x80001000 ∧ ¬fits (dst 0x200B7001) 0x80001000 ∧ ¬fits (dst 0x1FFFFFFF) 0x80001000 ∧
       ¬fits (dst 0x20000000) 0x80000000 ∧ ¬fits (dst 0x20000000) 0x80001001) ∧
    (let s := pw (dp sA) (fun p => { p with qspi := some (0x10, 0x20001001, 9) })
     s.qspiLive = true ∧ s.pwr.qspi = some (0x10, 0x20001001, 9) ∧ s.qspiFits = true ∧
       (withPins s 0 0 false false).pins.vio = false ∧ (withPins s 0 0 false false).qspiLive = true) := by decide +kernel

def sNvc (a : Nat) : State := (dp sA).put F.NVC_ADDR_ADDR a
def withEr (s : State) (e : NvErase) : State := { s with nvc := { s.nvc with er := some e } }
def withCmd (s : State) (c : NvCmd) : State := { s with nvc := { s.nvc with cmd := some c } }
def journal (s : State) (n : Nat) : State := (s.put F.NVC_JGEN_GEN 1).put F.NVC_JSTAT_FREE n

/-- The first state of each outcome of a PROGRAM, in the table's order, at the last granule below the journal. -/
theorem witness_NvcCommandsStartOrAreRefused :
    (let idle := fun (s : State) => s.nvc.cmd = none ∧ s.erRunning = false ∧ s.nvc.flushing = false
     let sane := fun (s : State) => inFlash s.nvcAddr = true ∧ sectorOf s.nvcAddr < 126
     let sealed := fun (s : State) (k : Nat) =>
       s.get F.NVC_SEAL_FIRST ≤ k ∧ k < s.get F.NVC_SEAL_FIRST + s.get F.NVC_SEAL_COUNT
     let top := sNvc 0x1007DFF0
     top.nvcLive = true ∧ idle top ∧ sane top ∧ top.nvcAddr % 16 = 0 ∧ ¬sealed top 125 ∧ top.dirty 125 = false ∧
       top.granStatus top.nvcAddr = 3 ∧ top.erHolds 125 = false ∧
       ¬idle (withEr top ⟨.erase 2, .array, false, 77⟩) ∧ ¬sane (sNvc 0x1007E000) ∧ (sNvc 0x10000001).nvcAddr % 16 ≠ 0 ∧
       sealed (((sNvc 0x10001000).put F.NVC_SEAL_FIRST 1).put F.NVC_SEAL_COUNT 1) 1 ∧
       top.bit (F.NVC_PEN_PEN (125 / 32)) (125 % 32) = false ∧ ((sNvc 0x10001010).setDirty 1 true).dirty 1 = true ∧
       ((sNvc 0x10001010).setGran 0x10001010 0).granStatus 0x10001010 ≠ 3 ∧
       (withEr (sNvc 0x10002010) ⟨.erase 2, .array, true, 77⟩).erHolds 2 = true) ∧
    (let whole := sNvc 0x1007D000
     let susp := withEr whole ⟨.erase 2, .array, true, 77⟩
     whole.nvcAddr % 0x1000 = 0 ∧ sectorOf whole.nvcAddr = 125 ∧ whole.erSuspended = false ∧ susp.erSuspended = true ∧
       (withEr whole ⟨.erase 2, .array, false, 77⟩).erRunning = true ∧ whole.nvc.er = none ∧
       (withCmd whole .scan).nvc.er = none ∧ (withCmd whole .scan).nvc.cmd.isSome = true ∧ whole.erJournal = false ∧
       (withEr whole ⟨.erase 2, .jErase, true, 77⟩).erJournal = true ∧ 1 ≤ (journal whole 1).jFree ∧ whole.jFree = 0 ∧
       2 ≤ (journal whole 2).jFree ∧ (0 : Byte) ≠ 0xC3 ∧ 2 < (3 : Ring).val ∧ 1 < (2 : Ring).val) := by
  refine ⟨?_, ?_⟩ <;> decide +kernel

theorem witness_NvcOperationsEnd :
    (let s := journal (dp sA) 9
     let bs : List Byte := [1, 2, 3, 4, 5, 6, 7, 8, 9, 10, 11, 12, 13, 14, 15, 16]
     s.nvcLive = true ∧ (withCmd s (.program 0x10001010 bs)).nvc.cmd = some (.program 0x10001010 bs) ∧ bs.length = 16 ∧
       0x10001010 % 16 = 0 ∧ (∃ b ∈ bs, b ≠ 0xFF) ∧ (withCmd s (.mark 7 77)).nvc.cmd = some (.mark 7 77) ∧
       (withCmd s (.checkread 0x10002000)).nvc.cmd = some (.checkread 0x10002000) ∧
       (withCmd s .scan).nvc.cmd = some .scan ∧ s.jHeaderGen 126 = 0 ∧ s.jHeaderGen 127 = 0) ∧
    (let s := journal (dp sA) 9
     s.nvc.cmd = none ∧ 125 < 126 ∧ 1 ≤ s.jFree ∧ s.jTarget < 128 ∧
       (∀ p ∈ [ErPhase.jErase, .jVerify, .jCopy 0, .intent, .array, .verify, .done],
         (withEr s ⟨.erase 125, p, false, 77⟩).nvc.er = some ⟨.erase 125, p, false, 77⟩) ∧
       0 < ((withEr s ⟨.erase 125, .jCopy 0, false, 77⟩).setDirty 3 true).jCopies.length) ∧
    (let s := withEr (dp sA) ⟨.erase 3, .array, false, 77⟩
     { s with nvc := { s.nvc with suspReq := true } }.nvc.suspReq = true) ∧
    (let s := withEr (dp sA) ⟨.erase 3, .array, true, 77⟩
     { s with nvc := { s.nvc with autoSusp := true } }.nvc.autoSusp = true) := by
  refine ⟨?_, ?_, ?_, ?_⟩ <;> decide +kernel
/-! ## Witnesses: converters, rails, storage, supervision -/

/-- SW `n` runs, its soft-start done. -/
def sSw (n : Fin 6) : State :=
  (((dp sA).put (F.SW_STAT_RUN n) 1).put (F.SW_CTL_EN n) 1).put (F.SW_STAT_SSDONE n) 1

theorem witness_SwitchingCyclesAndLimits :
    (let s := sSw 5
     let up := fun (f : SwSt → SwSt) => s.swUpd 5 f
     s.swLive 5 = true ∧ s.on (F.SW_STAT_RUN 5) = true ∧ s.ovpHeld 5 = false ∧ s.swTurn 5 = true ∧ s.swDiode 5 = false ∧
       s.sw[5].relock = none ∧ (-5625 : Int).natAbs ≤ 5625 ∧ 15 ≤ (up (fun x => { x with lockRun := 15 })).sw[5].lockRun ∧
       11250 < (-11251 : Int).natAbs ∧ (s.put (F.SW_STAT_LOCKED 5) 1).on (F.SW_STAT_LOCKED 5) = true ∧
       s.on (F.SW_STAT_YIELD 5) = false ∧ 4 * 749 < 3 * 1000 ∧ signedOf 256 10 ≤ 256 ∧ -256 ≤ signedOf 768 10 ∧
       (up (fun x => { x with relock := some (90000, 3) })).sw[5].relock = some (90000, 3) ∧
       s.atTrimLimit 5 = false) ∧
    (let s := sSw 5
     let up := fun (f : SwSt → SwSt) => s.swUpd 5 f
     let ss := up (fun x => { x with ss := true, ssTrips := 3 })
     4096 ≤ (up (fun x => { x with satRun := 4096 })).sw[5].satRun ∧ s.swInSs 5 = false ∧ ss.swInSs 5 = true ∧
       ss.on (F.SW_STAT_RUN 5) = true ∧ 3 ≤ ss.sw[5].ssTrips ∧ s.on (F.SW_STAT_SSDONE 5) = true ∧
       s.follower (5 : Fin 6) = false ∧ (s.put (F.SW_LIM_SLACT 5) 1).on (F.SW_LIM_SLACT 5) = true ∧
       ((s.put (F.SW_LIM_RETRY 5) 1).get (F.SW_STAT_RETRIES 5) < (s.put (F.SW_LIM_RETRY 5) 1).get (F.SW_LIM_RETRY 5)) ∧
       s.on (F.SW_LIM_SLACT 5) = false) ∧
    (let s := sSw 5
     let up := fun (f : SwSt → SwSt) => s.swUpd 5 f
     let both := up (fun x => { x with restart := true, vsysStop := true })
     s.on (F.SW_CTL_EN 5) = true ∧ s.sw[5].vsysStop = false ∧ (up (fun x => { x with restart := true })).sw[5].restart = true ∧
       s.swFalling (5 : Fin 6) = false ∧ s.sw[5].ovpHold = false ∧
       (up (fun x => { x with ovpHold := true })).sw[5].ovpHold = true ∧ s.sw[5].restart = false ∧
       (up (fun x => { x with vsysStop := true })).sw[5].vsysStop = true ∧ both.sw[5].vsysStop = true ∧
       both.sw[5].restart = true) := by
  refine ⟨?_, ?_, ?_⟩ <;> decide +kernel

theorem witness_SoftStartsRampsAndCalibration :
    (let s := fun (now target : Nat) => (((dp sA).put (F.SW_REF_NOW 0) now).put (F.SW_REF_TARGET 0) target).swUpd 0
       (fun x => { x with ss := true, dis := true, ramp := some (2047, 10) })
     (s 0 1).swLive 0 = true ∧ (s 0 1).sw[0].ss = true ∧ (s 0 1).get (F.SW_REF_NOW 0) < (s 0 1).get (F.SW_REF_TARGET 0) ∧
       (s 2047 9).get (F.SW_REF_TARGET 0) < (s 2047 9).get (F.SW_REF_NOW 0) ∧
       (s 9 9).get (F.SW_REF_NOW 0) = (s 9 9).get (F.SW_REF_TARGET 0) ∧ (s 9 9).sw[0].dis = true ∧
       (s 2046 0).sw[0].ramp = some (2047, 10) ∧ (s 2046 0).get (F.SW_REF_NOW 0) < 2047 ∧ 2047 < 2048) ∧
    (let s := dp sA
     s.swLive 0 = true ∧ s.on (F.SW_CAL_BUSY 0) = false ∧ (1 : Word).getLsbD 0 = true ∧ s.on (F.SW_CTL_EN 0) = false ∧
       s.on (F.SW_STAT_RUN 0) = false ∧ s.get (F.SW_STAT_CAUSE 0) = 0 ∧ (sSw 0).on (F.SW_CTL_EN 0) = true ∧
       (sSw 0).on (F.SW_CAL_BUSY 0) = false ∧ (s.put (F.SW_CAL_BUSY 0) 1).on (F.SW_CAL_BUSY 0) = true) ∧
    (let s := (dp sA).portUpd 1 (fun x => { x with ramp := some (180, 10) })
     (18 : Fin 32).val = 17 + (1 : Fin 2).val ∧ s.portLive (1 : Fin 2) = true ∧ s.port[1].ramp = some (180, 10) ∧
       s.get (F.P_LINE_MARK 1) < 180 ∧ 180 ≤ s.markCap) := by decide +kernel

/-- The landing latch of SW `n + 1` holds `op`. -/
def sLatch (n : Fin 6) (op : SbOp) : State :=
  (dp sA).coreUpd (fun c => { c with latch := [⟨.sw n, ⟨0, 0, railBase (n.val + 1), op⟩⟩] })

/-- A latched setv, ramp, rail on, rail off and plain store; a soft-start; a load that reads first; followers. -/
theorem witness_RailOperationsTakeEffect :
    (let ok := fun (n : Fin 6) (s : State) (op : SbOp) => s.powered = true ∧ s.loadFirst (.sw n) = false ∧
       State.latchTake (.sw n) s.core.latch = some (⟨0, 0, railBase (n.val + 1), op⟩, [])
     let one := fun (op : SbOp) => ok 0 (sLatch 0 op) op ∧ (sLatch 0 op).follower (0 : Fin 6) = false ∧
       (sLatch 0 op).sw[0].ss = false ∧ (sLatch 0 op).get (F.SW_STAT_CAUSE 0) = 0 ∧
       (sLatch 0 op).get (F.SW_REF_NOW 0) ≠ 1250
     (∀ op ∈ [SbOp.setv 1 1250, .ramp 1 1250 1, .ramp 1 1250 0, .rail 1 1, .rail 1 2, .store 15 0x21], one op) ∧
       (sLatch 0 (.store 15 0x21)).canTake (railBase 1) = true ∧
       ((sLatch 0 (.setv 1 1250)).swUpd 0 (fun x => { x with ss := true })).sw[0].ss = true) ∧
    (let s := sLatch 0 (.rail 1 1)
     s.stopping = false ∧ s.on (F.SW_CTL_EN 0) = false ∧ s.cutActive = false ∧
       (pw s (fun p => { p with stop := .fast })).stopping = true ∧
       (s.setThr 0 { s.thr 0 with stall := some (.window ⟨0x40008000, 3, 2, 0⟩) }).loadFirst (.sw 0) = true) ∧
    (let fol := fun (n : Fin 6) (op : SbOp) => (sLatch n op).put (F.SW_CTL_GANG (n - 1)) 1
     let ok := fun (n : Fin 6) (op : SbOp) => (fol n op).powered = true ∧ (fol n op).loadFirst (.sw n) = false ∧
       (fol n op).follower n = true ∧
       State.latchTake (.sw n) (fol n op).core.latch = some (⟨0, 0, railBase (n.val + 1), op⟩, [])
     ok 1 (.setv 2 700) ∧ ok 1 (.rail 2 0) ∧ ok 3 (.ramp 4 700 10) ∧ ok 3 (.rail 4 1)) ∧
    (let s := pw ((mosc sA).put (F.OTP_WIRED_W 2) 0xAF080) (fun p => { p with earlyDone := false })
     s.powered = true ∧ s.pwr.otpOk = true ∧ s.on F.SYS_OSCSTAT_MOSC_OK = true ∧ s.pwr.rstLow = false ∧
       s.pwr.earlyDone = false ∧ s.stopping = false ∧ s.earlyChannel = some 0 ∧ s.on (F.SW_CTL_EN 0) = false ∧
       s.cutActive = false) := by
  refine ⟨?_, ?_, ?_, ?_⟩ <;> decide +kernel

/-- REVEN and the charger's EN set. -/
def sRev : State := ((dp sA).put F.SC_CTL_REVEN 1).put F.CHG_CTL_EN 1

theorem witness_StorageConverter :
    (let s := sRev
     s.powered = true ∧ s.domOn 15 = true ∧ s.store.coldAfter = false ∧ s.scLive = true ∧ s.on F.SC_CTL_REVEN = true ∧
       s.on F.SC_STAT_SHORT = false ∧ s.get F.CHG_STAT_FAULT ≠ 1 ∧ s.vcutMv < s.vcutMv + 1 ∧ s.store.cutHold = false ∧
       s.scMode ≤ 1 ∧ s.cutActive = false ∧ s.on F.CHG_CTL_EN = true ∧ ((dp sA).put F.SC_CTL_REVEN 0).on F.SC_CTL_REVEN = false ∧
       sA.scLive = false) ∧
    (let d := withPins sRev 24000 24011 true false
     d.powered = true ∧ d.pins.vinMv + 10 < d.pins.vsysMv ∧ 42000 < (withPins sRev 42001 24000 true false).pins.vinMv ∧
       (withPins sRev 42000 42000 true false).pins.vsysMv ≤ (withPins sRev 42000 42000 true false).pins.vinMv ∧
       (withPins sRev 24000 24010 true false).pins.vsysMv ≤ (withPins sRev 24000 24010 true false).pins.vinMv + 10) ∧
    (let s := (sRev.put F.SC_STAT_MODE 2).put F.CHG_STAT_STATE 7
     s.scMode = 2 ∧ s.scLive = true ∧ s.on F.SC_STAT_VLOW = false ∧ s.on F.SC_STAT_CUTOFF = false ∧ s.domOn 15 = true ∧
       s.store.coldAfter = false ∧ s.get F.CHG_STAT_STATE = 7 ∧ s.on F.CHG_CTL_EN = true ∧
       (sRev.put F.SC_STAT_MODE 1).scMode ≠ 0 ∧ (s.put F.SYS_DOMCTL_DSW 0x1FFF).domOn 15 = false ∧
       (s.put F.SYS_DOMCTL_DSW 0x1FFF).scLive = true) ∧
    (let s := sOff
     s.pwr.state = .off ∧ s.scMode = 0 ∧ s.on F.SC_STAT_SHORT = false ∧ s.store.short = false ∧ s.store.fault ≠ 1 ∧
       7999 < 8000 ∧ 3000 < 3001 ∧ (s.put F.SC_STAT_MODE 3).powered = false ∧ (s.put F.SC_STAT_MODE 3).scMode = 3 ∧
       (s.put F.SC_STAT_MODE 3).pwr.state = .off) := by
  refine ⟨?_, ?_, ?_, ?_⟩ <;> decide +kernel

/-- The charger in state `st` with profile `prof` and VREG 3.4 V. -/
def sChg (st prof : Nat) : State :=
  ((((dp sA).put F.CHG_CTL_EN 1).put F.CHG_CTL_PROF prof).put F.CHG_STAT_STATE st).put F.CHG_SET_VREG 120

def withPresence (s : State) (k : Nat) : State := { s with store := { s.store with presence := k } }
def withNtc (s : State) (x : NtcSt) : State := { s with store := { s.store with ntc0 := x } }

/-- Every condition that runs the charger holds. -/
abbrev Charging (s : State) : Prop := s.scLive = true ∧ s.chgPermitted = true ∧ s.store.presence = 0

theorem witness_ChargerStates_settings :
    bitsOf 5 1 2 ≤ 2 ∧ (5 : Word).getLsbD 0 = true ∧ (sChg 3 0).scLive = true ∧ (sChg 3 0).on F.CHG_LOCK_LOCK = false ∧
    (sChg 3 0).on F.CHG_CTL_EN = true ∧ (sChg 3 0).get F.CHG_CTL_PROF ≠ bitsOf 5 1 2 ∧ (4 : Word).getLsbD 0 = false ∧
    (0x100 : Word).getLsbD 8 = true ∧ (dp sA).scLive = true ∧ (dp sA).on F.CHG_CTL_EN = false ∧ (dp sA).scMode ≤ 1 ∧
    (dp sA).store.presence = 0 := by decide +kernel

theorem witness_ChargerStates_transitions :
    (Charging (sChg 1 0) ∧ (sChg 1 0).get F.CHG_STAT_STATE = 1 ∧ (sChg 1 0).vpreMv ≤ 3000 ∧ 3000 < (sChg 1 0).vregMv ∧
      (sChg 1 0).vshortMv ≤ 2999 ∧ 2999 < (sChg 1 0).vpreMv ∧ 1999 < (sChg 1 0).vshortMv) ∧
    (Charging (sChg 2 1) ∧ (sChg 2 1).get F.CHG_STAT_STATE = 2 ∧ (sChg 2 1).vpreMv ≤ 2500 ∧ 2500 < (sChg 2 1).vregMv) ∧
    (Charging (sChg 3 0) ∧ (sChg 3 0).get F.CHG_STAT_STATE = 3 ∧ (sChg 3 0).vregMv ≤ 3400 ∧ (sChg 3 0).vpreMv ≤ 3400) ∧
    (Charging (sChg 5 0) ∧ (sChg 5 0).get F.CHG_STAT_STATE = 5 ∧ 3299 + 100 < (sChg 5 0).vregMv ∧
      (sChg 5 0).vpreMv ≤ 3299) ∧
    (let s := (sChg 3 0).put F.CHG_SET_TFAST 1
     Charging s ∧ s.get F.CHG_STAT_STATE = 3 ∧ s.get F.CHG_CTL_PROF ≤ 1 ∧ s.get F.CHG_SET_TFAST ≠ 0) ∧
    (Charging (sChg 4 2) ∧ (sChg 4 2).get F.CHG_STAT_STATE = 4 ∧ (sChg 4 2).get F.CHG_CTL_PROF = 2) := by
  decide +kernel

theorem witness_ChargerStates_zones :
    let s := (sChg 3 0).put F.CHG_CTL_TB0EN 1
    s.scLive = true ∧ s.on F.CHG_CTL_TB0EN = true ∧ s.on F.CHG_CTL_TB1EN = false ∧
      s.zoneOf 13 ≠ (withNtc s ⟨3, s.zoneOf 13, 2⟩).store.ntc0.zone ∧
      (withNtc s ⟨3, s.zoneOf 13, 2⟩).store.ntc0.count = 2 ∧ s.store.ntc0.cand ≠ s.zoneOf 13 ∧
      s.zoneOf 13 ≠ s.store.ntc0.zone := by decide +kernel

theorem witness_ChargerStates_presence :
    (let s := sChg 6 2
     s.scLive = true ∧ s.get F.CHG_STAT_STATE = 6 ∧ s.scMode ≤ 1 ∧ s.store.presence = 0 ∧
       (sChg 3 2).get F.CHG_STAT_STATE ≠ 5 ∧ (sChg 3 2).get F.CHG_STAT_STATE ≠ 6 ∧ (sChg 3 2).on F.CHG_STAT_ABSENT = false ∧
       (withPresence s 1).store.presence = 1 ∧ (withPresence s 2).store.presence = 2 ∧ 300 ≤ 300 ∧ 300 < 301 ∧
       (withPresence s 3).store.presence = 3 ∧ (withPresence s 3).store.testDue = false ∧ s.on F.CHG_CTL_EN = true) ∧
    (let s := (sChg 3 2).put F.CHG_CTL_BALEN 1
     s.get F.CHG_CTL_PROF = 2 ∧ s.on F.CHG_CTL_BALEN = true ∧ s.scMode ≤ 1 ∧ 1000 ≤ 479 + 521 ∧ 500 + 20 < 521 ∧
       s.vcellMaxMv < s.vcellMaxMv + 1 ∧ (s.put F.CHG_STAT_BAL 3).bit F.CHG_STAT_BAL 1 = true ∧ 500 + 5 ≤ 505 ∧
       (s.put F.CHG_STAT_CELLOV 1).on F.CHG_STAT_CELLOV = true ∧ s.vcellMaxMv ≤ s.vcellMaxMv - 50 + 50 ∧
       1000 + 50 < s.vcellMaxMv) ∧
    3500 ≤ 3500 ∧ 3201 ≤ 3201 ∧ 3399 ≤ 3399 := by decide +kernel

/-- Every LDO, load switch, controller and port enabled and started, power-good, rise order 3, 17, 11. -/
def sRails : State :=
  let s := (List.range 10).foldl (fun s k => s.put (State.linEN k) 1) (dp sA)
  let t := (List.range 6).foldl (fun s k => ((s.put (F.SW_CTL_EN k) 1).put (F.SW_STAT_RUN k) 1).put
    (F.SW_STAT_SSDONE k) 1) s
  let u := ((t.put (F.P_CTL_EN 0) 1).put (F.P_CTL_EN 1) 1).put F.SEQ_PG_PG 0xFFFFF
  { u with seq := { u.seq with rise := [3, 17, 11] } }

theorem witness_RailsAndSupervision :
    (let s := sRails
     s.powered = true ∧ s.on (State.linEN ((16 : Fin 32) - 7)) = true ∧ s.on (F.SEQ_LS_EN 5) = true ∧
       (s.put F.SEQ_PG_PG 0).pgReady (3 : Fin 32) = true ∧ (s.put F.SEQ_PG_PG 0).pg (3 : Fin 32) = false ∧
       (5 : Nat) ∉ s.seq.rise ∧ s.leads ((5 : Fin 32).val - 1) = false ∧
       ((sPgw.thr 4).st = .waiting (.pg 3 0x20000004 0x20000100))) ∧
    (let s := sRails
     s.tgoodRail (3 : Fin 32) = false ∧ s.supWatches (3 : Fin 32) false 2000 = true ∧
       s.supWatches (20 : Fin 32) true 2000 = true ∧ (sA.supWatches (3 : Fin 32) false 2000) = false ∧
       s.bit F.SEQ_UVF_UVF ((3 : Fin 32) - 1) = false ∧ (s.put (F.SEQ_SUP_UVACT 2) 1).supAction (3 : Fin 32) false = 1 ∧
       (s.put (F.SEQ_SUP_UVACT 2) 2).supAction (3 : Fin 32) false = 2 ∧
       (s.put (F.SEQ_SUP_UVACT 2) 0).supAction (3 : Fin 32) false = 0 ∧ s.pwr.stop = .none ∧
       (∀ m : Fin 6, s.gangMate m = none) ∧ (s.put (F.P_CTL_MODE 0) 1).tgoodRail (17 : Fin 32) = true) ∧
    (let s := sRails
     s.bit F.THERM_SUSP_S (7 : Fin 8) = false ∧ (s.put F.THERM_SUSP_S 0x80).bit F.THERM_SUSP_S (7 : Fin 8) = true ∧
       s.on (F.SW_CTL_EN 5) = true ∧ s.on (State.linEN 9) = true ∧ s.on (F.P_CTL_EN 1) = true) := by
  refine ⟨?_, ?_, ?_⟩ <;> decide +kernel

def sLull (k c : Nat) (e : Bool) (s : State) : State := pw s (fun p => { p with stop := .lull k c 77, endSys := e })

theorem witness_LullSequence :
    (let s := (dp sA).put (F.P_MEAS_BUSY 0) 1
     s.powered = true ∧ s.pwr.stop = .none ∧ s.on (F.P_MEAS_BUSY 0) = true ∧ (0x4C000003 : Word).getLsbD 0 = true ∧
       bitsOf 0x4C000003 24 8 = 0x4C ∧ bitsOf 0x4D000001 24 8 ≠ 0x4C) ∧
    (let s := sLull 3 7 true (dp sA)
     (sLull 2 1 true sA).pwr.stop = .lull 2 1 77 ∧ s.pwr.stop = .lull 3 7 77 ∧ 7 < 8 ∧ s.nvcLive = true ∧
       s.nvc.cmd = none ∧ s.nvc.er = none ∧ s.powered = true) ∧
    (let ok := fun (s : State) (e : Bool) => s.powered = true ∧ s.pwr.stop = .lull 5 1 77 ∧ s.pwr.endSys = e
     ok (sLull 5 1 true sRails) true ∧ (sLull 5 1 true sRails).stopNext = some 17 ∧ ok (sLull 5 1 true sA) true ∧
       (sLull 5 1 true sA).stopNext = none ∧ ok (sLull 5 1 false sA) false ∧ (sLull 5 1 false sA).stopNext = none) ∧
    (let s := { (dp sA).put F.BAK_WDCFG_EN 1 with bak := { sA.bak with wdRun := true, wdCount := 32768 } }.put
       F.BAK_WDCFG_PERIOD 0
     s.powered = true ∧ s.bak.wdRun = true ∧ s.on F.BAK_WDCFG_EN = true ∧ s.wdPeriod ≤ s.bak.wdCount ∧
       s.pwr.stop = .none ∧ sA.bak.wdRun = false) := by
  refine ⟨?_, ?_, ?_, ?_⟩ <;> decide +kernel
/-! ## Witnesses: ports and engines -/

/-- Port `p` enabled, at power-good, as target when `m` is 1; its power-good bit set. -/
def sPort (p : Fin 2) (m : Nat) : State :=
  ((((dp sA).put (F.P_CTL_MODE p) m).put (F.P_CTL_EN p) 1).put F.SEQ_PG_PG 0xFFFFF)

/-- Port `p` measures, in step `k`, with 1000 ns for its first step. -/
def sMeas (p : Fin 2) (k : Nat) : State :=
  (((dp sA).put (F.P_MEAS_BUSY p) 1).put (F.P_LEDG_ESTORE p) 100).portUpd p (fun x => { x with meas := k, t1 := 1000 })

theorem witness_PortCommands_mode :
    (let s := dp sA
     s.portLive 0 = true ∧ bitsOf 2 1 2 ≤ 1 ∧ bitsOf 2 1 2 ≠ s.get (F.P_CTL_MODE 0) ∧ s.otpPortMode 0 ≠ 3 ∧
       s.modeForbidden 0 (bitsOf 2 1 2) = false ∧ s.on (F.P_CTL_EN 0) = false ∧ 1 < bitsOf 4 1 2 ∧
       bitsOf 0 1 2 = s.get (F.P_CTL_MODE 0) ∧ (s.put (F.OTP_WIRED_W 1) 15).otpPortMode 0 = 3 ∧
       (s.put (F.OTP_WIRED_W 1) 1).modeForbidden 0 1 = true) ∧
    (let s := sPort 1 1
     s.portLive 1 = true ∧ bitsOf 0 1 2 ≤ 1 ∧ bitsOf 0 1 2 ≠ s.get (F.P_CTL_MODE 1) ∧ s.otpPortMode 1 ≠ 3 ∧
       s.modeForbidden 1 (bitsOf 0 1 2) = false ∧ s.on (F.P_CTL_EN 1) = true) ∧
    (let s := ((sPort 0 0).put (F.P_CTL_TRACK 0) 1).put (F.P_IBASE_IBASE 0) 65535
     s.portLive 0 = true ∧ s.isTarget 0 = false ∧ s.on (F.P_CTL_EN 0) = true ∧ s.on (F.P_CTL_TRACK 0) = true ∧
       s.get (F.P_IBASE_IBASE 0) ≤ 65535) := by
  refine ⟨?_, ?_, ?_⟩ <;> decide +kernel

theorem witness_PortCommands_line :
    (let s := sPort 0 1
     s.portLive 0 = true ∧ s.isTarget 0 = true ∧ s.on (F.P_CTL_EN 0) = true ∧ s.port[0].lineGone = false ∧
       (s.portUpd 0 (fun x => { x with lineGone := true })).port[0].lineGone = true ∧
       s.on (F.P_STAT_BREACH 0) = false ∧ (s.put (F.P_STAT_RAMPING 0) 1).on (F.P_STAT_RAMPING 0) = true) ∧
    (let s := (dp sA).put (F.P_MEAS_MEASOK 1) 1
     s.portLive 1 = true ∧ s.on (F.P_CTL_EN 1) = false ∧ s.on (F.P_MEAS_MEASOK 1) = true) := by decide +kernel

/-- An enabled port with a ledger. -/
def sLedg (f : Ledger → Ledger) : State := (sPort 0 0).portUpd 0 (fun x => { x with ledger := f x.ledger })

/-- R249 to R251 for port 0, as the statement reads them: short, E_FAULT, PLIM, and a target's bridge. -/
def trips (s : State) (x : LedgSample) : Bool × Bool × Bool × Bool :=
  let l := s.port[0].ledger
  let ibase := s.get (F.P_IBASE_IBASE 0)
  let level := ibase + 2500 + 500 * s.get (F.P_LEDG_IFAULT 0)
  let b := l.bucket + x.mv * x.line
  let window := if 4000 ≤ l.count + 1 then b + (l.buckets.take 999).sum else b + l.buckets.sum
  let e := l.episode.getD 0 + x.mv * (x.line - ibase)
  let goesOn := decide (l.episode ≠ none ∧ level ≤ x.line)
  let begins := decide (l.episode = none ∧ level < x.line)
  (decide (97 * (10000 + 1000 * s.get (F.P_LIM_ISHORT 0)) ≤ 100 * x.line),
    (goesOn || begins) && decide (19400000000 * s.get (F.P_LEDG_EFAULT 0) ≤ e + 40400000000),
    decide (38800000000000 * s.get (F.P_LEDG_PLIM 0) ≤ window), s.isTarget 0 && decide (4000 < x.bridge))

/-- None of them, each alone, and each of them on a disabled port. -/
theorem witness_PortCommands_ledger :
    trips (sPort 0 0) ⟨30000, 100, 0, none⟩ = (false, false, false, false) ∧
    trips (sPort 0 0) ⟨30000, 65535, 0, none⟩ = (true, false, false, false) ∧
    trips (sPort 0 1) ⟨30000, 100, 4001, none⟩ = (false, false, false, true) ∧
    trips (sLedg (fun l => { l with episode := some (2 ^ 60) })) ⟨30000, 9000, 0, none⟩ = (false, true, false, false) ∧
    trips (sLedg (fun l => { l with buckets := List.replicate 1000 (2 ^ 60), count := 3999 })) ⟨30000, 100, 0, none⟩ =
      (false, false, true, false) ∧ (dp sA).on (F.P_CTL_EN 0) = false := by decide +kernel

theorem witness_PortCommands_measurement :
    (let s := dp sA
     s.portLive 0 = true ∧ (1 : Word).getLsbD 0 = true ∧ s.on (F.P_MEAS_BUSY 0) = false ∧
       s.modeForbidden 0 (s.get (F.P_CTL_MODE 0)) = false ∧ s.on (F.P_CTL_EN 0) = false ∧
       s.on F.OTP_BOOT_PORTOFF = false ∧ s.stopping = false ∧ (s.put F.OTP_BOOT_PORTOFF 1).on F.OTP_BOOT_PORTOFF = true ∧
       (pw s (fun p => { p with stop := .fast })).stopping = true ∧ (s.put (F.OTP_WIRED_W 1) 2).modeForbidden 0 0 = true) ∧
    ((sMeas 0 1).portLive 0 = true ∧ (sMeas 0 1).on (F.P_MEAS_BUSY 0) = true ∧ (sMeas 0 1).port[0].meas = 1 ∧
      3000 < 3001 ∧ 12000 < 12001 ∧ (sMeas 0 2).port[0].meas = 2 ∧ 50000000 < 50000001) ∧
    (let s := sMeas 1 3
     let e := fun (t2 : Nat) => (105 * (5 * 1000 * t2) + 2000000 * (1000 - t2)) * (360 * 360)
     let top := s.get (F.P_LEDG_ESTORE 1) * 2000000000000 * (1000 - 999)
     s.portLive 1 = true ∧ s.on (F.P_MEAS_BUSY 1) = true ∧ s.port[1].meas = 3 ∧ s.port[1].bootEnable = false ∧
       999 < s.port[1].t1 ∧ s.port[1].t1 = 1000 ∧ 6 * 166 ≤ 1000 ∧ 1000 < 6 * 167 ∧ s.isTarget 1 = false ∧
       min (s.get (F.P_LINE_MARK 1)) s.markCap = 120 ∧ e 999 ≤ top ∧
       (s.put (F.P_LEDG_ESTORE 1) 0).get (F.P_LEDG_ESTORE 1) * 2000000000000 * (1000 - 999) < e 999) ∧
    (let s := ((sMeas 0 3).put (F.P_RX_ULMAX 0) 40).portUpd 0 (fun x => { x with bootEnable := true })
     s.on (F.P_MEAS_BUSY 0) = true ∧ s.port[0].meas = 3 ∧ s.port[0].bootEnable = true ∧ s.port[0].measVoid = false ∧
       s.modeForbidden 0 (s.get (F.P_CTL_MODE 0)) = false ∧ s.on (F.P_CTL_EN 0) = false ∧ s.stopping = false ∧
       s.on F.OTP_BOOT_PORTOFF = false ∧ s.cutActive = false ∧
       s.get (F.P_IBASE_IBASE 0) < 150 * s.get (F.P_RX_ULMAX 0) + 75) := by
  refine ⟨?_, ?_, ?_, ?_⟩ <;> decide +kernel

theorem witness_PortCommands_calibration :
    (let s := sPort 1 0
     s.portLive 1 = true ∧ s.on (F.P_CAL_BUSY 1) = false ∧ s.isTarget 1 = false ∧ s.on (F.P_CTL_EN 1) = true ∧
       s.pg (17 + (1 : Fin 2).val) = true ∧ s.port[1].exch = none ∧ (s.put (F.P_CAL_BUSY 1) 1).on (F.P_CAL_BUSY 1) = true) ∧
    (List.replicate 63 100 ++ [501]).length = 64 ∧ (100 ∈ List.replicate 63 100 ++ [501]) ∧
    (501 ∈ List.replicate 63 100 ++ [501]) ∧ 100 + 400 < 501 ∧ (List.replicate 64 65535).length = 64 := by
  decide +kernel

/-- The engine of port `p` runs and the endpoint list is in an open region. -/
def sEng (p : Fin 2) (m : Nat) : State :=
  let s := ((sPort p m).put (F.P_ENG_CTL_RUN p) 1).portUpd p (fun x => { x with resync := false })
  (s.put ⟨0x40003000 + 0x100 * 1, 0, 4⟩ 15).put ⟨0x40003004 + 0x100 * 1, 8, 24⟩ 0xFFFFFF

/-- Entry 7 of the endpoint list: kind `kind`, buffer `buf` of size code `z`, address `adr`, two retries. -/
def withEntry (p : Fin 2) (kind z adr buf : Nat) (s : State) : State :=
  s.setBytes (entAddr 7) ([BitVec.ofNat 8 (1 + 2 * p.val + 4 * kind + 16 * z), BitVec.ofNat 8 adr, 0x20, 0, 0, 0, 0, 0] ++
    le32 buf ++ [0, 0, 0, 0] ++ [1, 2, 3, 4, 5, 6, 7, 8, 0xFF, 0, 3, 0, 9, 0, 0, 0])

def rung (p : Fin 2) (s : State) : State := s.portUpd p (fun x => { x with door := some 7 })

def inExch (p : Fin 2) (tries : Nat) (sent : Bool) (s : State) : State :=
  s.portUpd p (fun x => { x with exch := some ⟨7, true, .request, tries, 0, sent, true, true⟩ })

theorem witness_EngineAsMaster_start :
    (3 ≤ (List.replicate 255 (8 : Byte)).length ∧ (List.replicate 255 (8 : Byte)).length ≤ 255 ∧
      3 ≤ ([1, 2, 3] : List Byte).length) ∧
    ((sEng 0 0).portLive 0 = true ∧ (1 : Ring).val ≤ 1 ∧ (sEng 0 0).port[0].door = none ∧
      (rung 0 (sEng 0 0)).port[0].door ≠ none) ∧
    (let s := rung 0 (withEntry 0 0 0 5 0x200A4000 (sEng 0 0))
     s.engLive 0 = true ∧ s.isTarget 0 = false ∧ s.port[0].exch = none ∧ s.port[0].resync = false ∧
       s.stopping = false ∧ s.port[0].door = some 7 ∧ 7 < 512 ∧ s.engAllows 0 (entAddr 7) 0x18 true false = true ∧
       s.entValid 7 = true ∧ s.entPort 7 = (0 : Fin 2).val ∧ s.entOk 7 = true ∧
       bufOk (s.entBuf 7) (s.entBufsz 7) = true) ∧
    (let s := rung 0 (withEntry 0 0 0 5 0x200A4000 (sEng 0 0))
     s.engAllows 0 (entAddr 7 + 0x18) 8 true true = true ∧
       s.engAllows 0 (s.entBuf 7) (bufSize (s.entBufsz 7)) true true = true ∧
       (s.byte (s.entBuf 7 + 3)).getLsbD 0 = false ∧ s.entKind 7 = 0 ∧ s.entNke 7 = false) ∧
    (let s := rung 0 (withEntry 0 0 0 5 0x200A4003 (sEng 0 0))
     s.entOk 7 = true ∧ bufOk (s.entBuf 7) (s.entBufsz 7) = false) := by decide +kernel

theorem witness_EngineAsMaster_exchange :
    (let s := inExch 1 0 false (withEntry 1 0 2 250 0x200A4100 (sEng 1 0))
     s.port[1].exch = some ⟨7, true, .request, 0, 0, false, true, true⟩ ∧ s.entKind 7 ≠ 2) ∧
    (let s := inExch 1 1 true (withEntry 1 0 2 250 0x200A4100 (sEng 1 0))
     s.port[1].exch = some ⟨7, true, .request, 1, 0, true, true, true⟩ ∧ 1 < s.entRetry 7 ∧ s.engLive 1 = true ∧
       s.stopping = false ∧ s.port[1].haltAfter = false ∧ s.isTarget 1 = false ∧ s.port[1].ignoring = false) ∧
    (let s := inExch 1 2 true (withEntry 1 2 2 5 0x200A4100 (sEng 1 0))
     s.port[1].exch = some ⟨7, true, .request, 2, 0, true, true, true⟩ ∧ s.entRetry 7 ≤ 2 ∧ s.entKind 7 = 2 ∧
       bufOk (s.entBuf 7) (s.entBufsz 7) = true) ∧
    (let s := inExch 1 0 true (withEntry 1 0 2 250 0x200A4100 (sEng 1 0))
     s.port[1].ignoring = false ∧ bufOk (s.entBuf 7) (s.entBufsz 7) = true ∧ s.entKind 7 = 0 ∧ s.entAdr 7 ≤ 250 ∧
       (List.replicate 245 (3 : Byte)).length ≤ bufSize (s.entBufsz 7) - 11) ∧
    (let s := (sEng 1 0).portUpd 1 (fun x => { x with resync := true })
     s.engLive 1 = true ∧ s.isTarget 1 = false ∧ s.port[1].resync = true) := by decide +kernel

/-- No region is open to the engines. -/
def unread (s : State) : State := ([0, 1, 2, 3] : List Nat).foldl (fun s k => s.put (F.PROT_ENGA_CTL k) 0) s

/-- An unreadable list, an entry of the other port, a buffer outside the regions, one still NEW; a free slot of the
schedule; a retry that the regions no longer allow; a broadcast; characters after the end; a stop. -/
theorem witness_EngineAsMaster_refusals :
    (let s := rung 0 (withEntry 0 0 0 5 0x200A4000 (sEng 0 0))
     (unread s).engAllows 0 (entAddr 7) 0x18 true false = false ∧ (rung 0 (withEntry 1 0 0 5 0x200A4000 (sEng 0 0))).entPort 7 ≠ 0 ∧
       s.frameAllowed 0 7 = true ∧ (s.setByte 0x200A4003 1).entKind 7 ≠ 2 ∧
       ((s.setByte 0x200A4003 1).byte ((s.setByte 0x200A4003 1).entBuf 7 + 3)).getLsbD 0 = true) ∧
    (let s := sEng 0 0
     s.port[0].door = none ∧ s.entFirst 0 = none ∧
       (s.setBytes 0x200A0000 [0x81, 5, 0, 0, 5, 0]).entFirst 0 = some 0) ∧
    (let s := inExch 1 1 true (withEntry 1 0 2 250 0x200A4100 (unread (sEng 1 0)))
     s.engAllows 1 (entAddr 7) 0x18 true false = false ∧ 1 < s.entRetry 7 ∧ s.engLive 1 = true) ∧
    (let s := inExch 1 0 false (withEntry 1 2 0 255 0x200A4100 (sEng 1 0))
     s.port[1].exch = some ⟨7, true, .request, 0, 0, false, true, true⟩ ∧ s.entKind 7 = 2 ∧ s.entAdr 7 = 255) ∧
    (let s := (inExch 1 0 true (withEntry 1 0 0 5 0x200A4100 (sEng 1 0)))
     (s.portUpd 1 (fun x => { x with ignoring := true })).port[1].ignoring = true ∧
       (s.portUpd 1 (fun x => { x with junk := true })).port[1].junk = true ∧ s.port[1].junk = false ∧
       afterGap [⟨5, false, false⟩] = [] ∧ afterGap [⟨5, false, true⟩] ≠ [] ∧ (judge [⟨0xE5, false, false⟩]).form = .ack ∧
       (judge [⟨0xE5, true, false⟩]).code ≠ 0 ∧ (pw s (fun q => { q with stop := .fast })).stopping = true) := by
  refine ⟨?_, ?_, ?_, ?_, ?_⟩ <;> decide +kernel

/-- Port `p` is a target at address 5 with 64-byte buffers; its response is ready. -/
def sTgt (p : Fin 2) : State :=
  ((((((sEng p 1).put (F.P_TSET_TADDR p) 5).put (F.P_TRSP_BUF p) 0x200A40).put (F.P_TRSP_SIZE p) 0).put
    (F.P_TRCV_BUF p) 0x200A50).put (F.P_TRCV_SIZE p) 0).setBytes 0x200A4000 [5, 0, 1, 1, 9, 9, 9, 9, 1, 2, 3, 4, 5]

theorem witness_EngineAsTarget :
    (let s := sTgt 0
     s.engLive 0 = true ∧ s.isTarget 0 = true ∧ s.port[0].ignoring = false ∧ s.port[0].junk = false ∧
       (5 : Byte).toNat = s.get (F.P_TSET_TADDR 0) ∧ (6 : Byte).toNat ≠ s.get (F.P_TSET_TADDR 0) ∧
       (s.put (F.P_TSEL_SELECTED 0) 1).on (F.P_TSEL_SELECTED 0) = true ∧
       bufOk (s.trsp 0).1 (s.trsp 0).2 = true ∧ s.engAllows 0 (s.trsp 0).1 (bufSize (s.trsp 0).2) true false = true ∧
       (s.byte ((s.trsp 0).1 + 3)).getLsbD 0 = true ∧
       ((s.setByte 0x200A4003 0).byte ((s.trsp 0).1 + 3)).getLsbD 0 = false ∧
       (unread s).engAllows 0 (s.trsp 0).1 (bufSize (s.trsp 0).2) true false = false) ∧
    (let s := sTgt 0
     bufOk (s.trcv 0).1 (s.trcv 0).2 = true ∧ s.engAllows 0 (s.trcv 0).1 (bufSize (s.trcv 0).2) true true = true ∧
       (unread s).engAllows 0 (s.trcv 0).1 (bufSize (s.trcv 0).2) true true = false ∧
       (List.replicate 252 (7 : Byte)).length ≤ 252 ∧ (judge [⟨0x10, false, false⟩, ⟨1, false, true⟩]).code ≠ 0 ∧
       (judge [⟨0xE5, true, false⟩]).code ≠ 0 ∧ afterGap (judge [⟨0xE5, true, false⟩]).rest = []) ∧
    (let s := (sTgt 1).portUpd 1 (fun x => { x with answer := some ([1, 2], 0x52) })
     s.engLive 1 = true ∧ s.isTarget 1 = true ∧ s.stopping = false ∧
       (s.portUpd 1 (fun x => { x with txWait := true })).port[1].txWait = true ∧
       (s.portUpd 1 (fun x => { x with txWait := false })).port[1].txWait = false ∧
       (pw s (fun q => { q with stop := .fast })).stopping = true ∧ s.port[1].answer = some ([1, 2], 0x52)) ∧
    (let s := (sTgt 1).put (F.P_TSEL_DECIDE 1) 1
     s.portLive 1 = true ∧ s.on (F.P_TSEL_DECIDE 1) = true ∧ (1 : Ring).val ≤ 1 ∧ 2 ≤ (2 : Ring).val ∧
       (sTgt 1).on (F.P_TSEL_DECIDE 1) = false) := by
  refine ⟨?_, ?_, ?_, ?_⟩ <;> decide +kernel

/-! ## Witnesses: host windows and the kernel's commands -/

def bindWin (w port adr thr tmo : Nat) (s : State) : State :=
  ((((s.put (F.HOST_WCFG_BOUND w) 1).put (F.HOST_WCFG_PORT w) port).put (F.HOST_WCFG_ADDR w) adr).put
    (F.HOST_WCFG_SVCTHR w) thr).put (F.HOST_WCFG_SVCTMO w) tmo

/-- Windows 0 and 1 on the two-wire slaves, 2 and 3 on UARTs; window 1 has the service thread T5. -/
def sHost : State :=
  (bindWin 3 3 0 0 0 (bindWin 2 2 0 9 5 (bindWin 1 1 0x31 5 5 (bindWin 0 0 0x30 3 0 (dp sA))))).put F.HOST_CTL_DISPEN 1

def hcmd (c : Byte) : HostCmd := ⟨c, 9, false, [1, 2, 3]⟩

theorem witness_HostWindows_frames :
    (let s := sHost
     s.hostLive = true ∧ s.pwr.state ≠ .calm ∧ s.core.awake = true ∧ s.twAcked 0 0x30 = some 0 ∧ s.twAcked 0 0x55 = none ∧
       s.twAcked 1 0x31 = some 1 ∧ cmdAssigned 1 = true ∧ cmdAssigned 0x07 = false ∧
       (List.replicate 1024 (7 : Byte)).length ≤ 1024 ∧ (s.win 0).queue.length < 4 ∧ (s.win 0).lvalid = false ∧
       s.uartWindow 0 = some 2 ∧ s.uartWindow 1 = some 3 ∧ s.uartWindow 2 = none ∧ s.twEnds 0 .stop = true) ∧
    (let s := (pw sHost (fun p => { p with state := .calm })).put F.SYS_DOMCTL_DSW 0
     s.hostLive = true ∧ s.pwr.state = .calm ∧ s.twWindow 0 ((0x60 : Byte).toNat / 2) = some 0 ∧
       s.twWindow 0 ((0xAA : Byte).toNat / 2) = none ∧ s.domOn 2 = false) ∧
    (let s := sHost.winUpd 0 (fun x => { x with lvalid := true, lseq := 7, queue := List.replicate 3 (hcmd 1) })
     (s.win 0).queue.length < 4 ∧ (s.win 0).lvalid = true ∧ (s.win 0).lseq = 7 ∧ (s.win 0).lseq ≠ 8 ∧
       4 ≤ ((s.winUpd 0 (fun x => { x with queue := hcmd 1 :: x.queue })).win 0).queue.length) ∧
    ((sHost.put (F.TW_CFG_TOEN 1) 1).on (F.TW_CFG_TOEN 1) = true ∧ (sHost.put (F.TW_CFG_TOEN 1) 0).on (F.TW_CFG_TOEN 1) = false ∧
      32 ≤ (32 : Byte).toNat ∧ (4 : Byte).toNat < 32 ∧ 1024 < (1 : Byte).toNat + 256 * ((4 : Byte).toNat % 16)) := by
  refine ⟨?_, ?_, ?_, ?_⟩ <;> decide +kernel

theorem witness_HostWindows_dispatch :
    (let s := sHost.winUpd 2 (fun x => { x with queue := [hcmd 1] })
     s.hostLive = true ∧ s.powered = true ∧ s.hostHeld = false ∧ s.winNext 2 = some (hcmd 1) ∧
       s.on F.HOST_CTL_SVC = false ∧ (hcmd 1).code.toNat < 0x40 ∧ s.kernelTurn 2 = true ∧ s.winNext 0 = none ∧
       (pw s (fun p => { p with stop := .lull 3 1 77, lulled := true })).hostHeld = true) ∧
    (let s := (sHost.winUpd 2 (fun x => { x with queue := [hcmd 0x10] })).put F.HOST_CTL_SVC 1
     s.hostHeld = false ∧ s.powered = true ∧ s.winNext 2 = some (hcmd 0x10) ∧ s.on F.HOST_CTL_SVC = true ∧
       cmdInService 0x10 = false) ∧
    (let s := (sHost.winUpd 1 (fun x => { x with queue := [hcmd 0x40] })).setThr 5 { Thread.cold with st := .ready }
     s.hostHeld = false ∧ s.powered = true ∧ s.winNext 1 = some (hcmd 0x40) ∧ s.on F.HOST_CTL_SVC = false ∧
       0x40 ≤ (hcmd 0x40).code.toNat ∧ s.get (F.HOST_WCFG_SVCTHR 1) = 5 ∧ (s.thr 5).st ≠ .halted ∧
       ((sHost.thr 5).st = .halted)) ∧
    (let s := { sHost.winUpd 1 (fun x => { x with queue := [hcmd 0x40] }) with
                  host := { (sHost.winUpd 1 (fun x => { x with queue := [hcmd 0x40] })).host with
                    svc := sHost.host.svc.set 1 (some ⟨1, hcmd 0x40, 0, [0x04030201, 7]⟩) } }
     s.host.svc[1] = some ⟨1, hcmd 0x40, 0, [0x04030201, 7]⟩ ∧ s.get (F.HOST_WCFG_SVCTMO 1) ≠ 0 ∧
       (s.win 1).queue = [hcmd 0x40] ∧ s.presented (.service 1) = some ⟨1, hcmd 0x40, 0, [0x04030201, 7]⟩ ∧
       s.presented .kernel = none) ∧
    (let s := { sHost.winUpd 2 (fun x => { x with queue := [hcmd 1, hcmd 2] }) with
                  host := { (sHost.winUpd 2 (fun x => { x with queue := [hcmd 1, hcmd 2] })).host with
                    kernel := some ⟨2, hcmd 1, 0, []⟩ } }
     s.kernelTurn 2 = false ∧ s.presented .kernel = some ⟨2, hcmd 1, 0, []⟩ ∧
       (s.win 2).queue.head? = some (hcmd 1)) := by
  refine ⟨?_, ?_, ?_, ?_, ?_⟩ <;> decide +kernel

/-- Window `w` holds the command `c` with payload `p`, presented to the kernel, in a state `s`. -/
def sKern (w : Fin 4) (c : Byte) (p : List Byte) (s : State) : State :=
  let x : Win := { s.win w with queue := [⟨c, 9, false, p⟩] }
  let h : HostSt := { s.host with kernel := some ⟨w, ⟨c, 9, false, p⟩, 0, []⟩, wins := s.host.wins.set w x }
  { s with host := h }

/-- Every right granted to window `w`. -/
def withRights (w : Nat) (s : State) : State :=
  (((s.put (F.HOST_WCFG_RIGHTS w) 7).put (F.HOST_WRAIL_RAILS w) 0x3FFFF).put (F.HOST_WEPL_M w) 0xFFFFFFFF).put
    (F.HOST_WEPH_M w) 0xFFFFFFFF

abbrev KernelHas (s : State) (w : Fin 4) (c : Byte) (p : List Byte) : Prop :=
  s.host.kernel = some ⟨w, ⟨c, 9, false, p⟩, 0, []⟩ ∧ s.kernelRuns = true ∧ (s.win w).queue = [⟨c, 9, false, p⟩]

theorem witness_KernelCommands_reads :
    KernelHas (sKern 0 1 [] (dp sA)) 0 1 [] ∧ KernelHas (sKern 3 1 [2] (dp sA)) 3 1 [2] ∧
    ([2] : List Byte).length ≠ 0 ∧ KernelHas (sKern 1 2 [] (dp sA)) 1 2 [] ∧
    (KernelHas (sKern 1 3 [200] (dp sA)) 1 3 [200] ∧ (sKern 1 3 [200] (dp sA)).pwr.otpBusy = none) ∧
    KernelHas (sKern 1 4 [] (dp sA)) 1 4 [] ∧ KernelHas (sKern 2 6 [] (dp sA)) 2 6 [] ∧
    ((sKern 1 0x30 [1] (dp sA)).put (F.HOST_WCFG_RING3 1) 1).on (F.HOST_WCFG_RING3 1) = true ∧
    (let s := ((dp sA).put F.SYS_RSTCAUSE_WINRST 1).put F.SYS_RSTCAUSE_WIN 2
     s.on F.SYS_RSTCAUSE_WINRST = true ∧ s.get F.SYS_RSTCAUSE_WIN = (2 : Fin 4).val) := by decide +kernel

theorem witness_KernelCommands_resetAndRails :
    (KernelHas (sKern 1 5 [0x52, 0x53] (dp sA)) 1 5 [0x52, 0x53] ∧
      (sKern 1 5 [0x52, 0x53] (dp sA)).resetRight 1 = false) ∧
    (let s := sKern 1 5 [0x52, 0x53] (withRights 1 (dp sA))
     KernelHas s 1 5 [0x52, 0x53] ∧ s.resetRight 1 = true ∧ s.pwr.stop = .none) ∧
    (let s := sKern 3 0x10 [10] (withRights 3 (dp sA))
     KernelHas s 3 0x10 [10] ∧ s.winRail 3 10 = true ∧ KernelHas (sKern 3 0x10 [21] s) 3 0x10 [21] ∧ s.swLive 0 = true ∧
       s.portLive 0 = true ∧ (dp sA).winRail 3 10 = false) ∧
    (let ok := fun (b op lo hi : Byte) (t : State) => let s := sKern 3 0x11 [b, op, lo, hi] (withRights 3 t)
       KernelHas s 3 0x11 [b, op, lo, hi] ∧ s.winRail 3 b.toNat = true ∧ s.railLive b.toNat = true ∧
         s.railEn b.toNat = false ∧ s.follower (b.toNat - 1) = false
     ok 7 3 50 0 (dp sA) ∧ ok 7 0 0xFF 0xFF (dp sA) ∧ ok 1 1 0xFF 0xFF (dp sA) ∧ (dp sA).stopping = false ∧
       (dp sA).cutActive = false ∧ ok 1 1 0xFF 0xFF (pw (dp sA) (fun p => { p with stop := .fast })) ∧
       ok 10 1 0xFF 0xFF ((dp sA).put F.SYS_DOMSTAT_PG 0xDFFF) ∧ ((dp sA).put F.SYS_DOMSTAT_PG 0xDFFF).domPg 13 = false) ∧
    (let s := sKern 3 0x11 [8, 3, 20, 0] (dp sA)
     KernelHas s 3 0x11 [8, 3, 20, 0] ∧ s.winRail 3 8 = false) := by
  refine ⟨?_, ?_, ?_, ?_, ?_⟩ <;> decide +kernel

/-- An enable of a port, refused and granted; a channel without its domain. -/
theorem witness_KernelCommands_ports :
    (let s := sKern 3 0x11 [17, 1, 0xFF, 0xFF] (withRights 3 (dp sA))
     KernelHas s 3 0x11 [17, 1, 0xFF, 0xFF] ∧ s.winRail 3 17 = true ∧ s.railLive 17 = true ∧ s.railEn 17 = false ∧
       s.portFails 0 false ≠ [] ∧ (sKern 3 0x11 [1, 1, 0xFF, 0xFF] (withRights 3 sA)).railLive 1 = false) ∧
    (let s := sKern 3 0x11 [17, 1, 0xFF, 0xFF] (((withRights 3 (dp sA)).put (F.P_MEAS_MEASOK 0) 1).put (F.P_RX_ULMAX 0) 40)
     KernelHas s 3 0x11 [17, 1, 0xFF, 0xFF] ∧ s.winRail 3 17 = true ∧ s.railEn 17 = false ∧ s.portFails 0 true = [] ∧
       s.modeForbidden 0 (s.get (F.P_CTL_MODE 0)) = false ∧ s.cutActive = false ∧
       s.get (F.P_IBASE_IBASE 0) < 150 * s.get (F.P_RX_ULMAX 0) + 75) := by
  refine ⟨?_, ?_⟩ <;> decide +kernel

theorem witness_KernelCommands_endpoints :
    (let s := sKern 3 0x20 [7, 0, 1] (withEntry 1 0 0 5 0x200A4000 (withRights 3 (dp sA)))
     KernelHas s 3 0x20 [7, 0, 1] ∧ s.winEp 3 7 = true ∧ bufOk (s.entBuf 7) (s.entBufsz 7) = true ∧
       (dp sA).winEp 3 7 = false ∧ 512 ≤ (0 : Byte).toNat + 256 * (2 : Byte).toNat ∧
       (let t := sKern 3 0x20 [7, 0, 1] (withEntry 1 0 0 5 0x200A4003 (withRights 3 (dp sA)))
        bufOk (t.entBuf 7) (t.entBufsz 7) = false)) ∧
    (let s := sKern 3 0x21 [7, 0] (withEntry 1 0 0 5 0x200A4000 (withRights 3 (dp sA)))
     KernelHas s 3 0x21 [7, 0] ∧ s.winEp 3 7 = true ∧ s.entPort 7 = 1 ∧ s.domPg (5 + 1) = true ∧
       (s.put F.SYS_DOMSTAT_PG 0xFFBF).domPg (5 + 1) = false ∧ s.port[1].door = none ∧
       (rung 1 s).port[1].door ≠ none) := by decide +kernel
/-- A log record of 3 bytes with identity 0x12345678, committed in sector 2. -/
def withRecord (s : State) : State :=
  let b : List Byte := [0x52, 0x4C, 1, 0, 3, 0, 0, 0, 0, 0, 0, 0, 0x78, 0x56, 0x34, 0x12, 0xAA, 0xBB, 0xCC]
  let crc := crc32 b
  let t := le32 crc.toNat ++ le32 (~~~crc).toNat ++ [0x78, 0x56, 0x34, 0x12, 0x31, 0x54, 0x4D, 0x43]
  let u := (s.put F.NVC_CFG_LOGFIRST 2).put F.NVC_CFG_LOGLAST 2
  (((u.setBytes 0x10002000 b).setBytes 0x10002020 t).setGran 0x10002000 0 |>.setGran 0x10002010 0).setGran 0x10002020 0

theorem witness_KernelCommands_log :
    (let s := sKern 1 0x30 [0x78, 0x56, 0x34, 0x12, 1, 0] (withRecord (withRights 1 (dp sA)))
     KernelHas s 1 0x30 [0x78, 0x56, 0x34, 0x12, 1, 0] ∧ s.on (F.HOST_WCFG_RING3 1) = false ∧ s.winRight 1 2 = true ∧
       s.nvcLive = true ∧ s.logFind (ldLe [0x78, 0x56, 0x34, 0x12, 1, 0] 0 4) = some (0x10002000, 3) ∧
       ldLe [0x78, 0x56, 0x34, 0x12, 1, 0] 4 2 < 3 ∧ s.logFind (ldLe [0x79, 0x56, 0x34, 0x12, 1, 0] 0 4) = none) := by
  decide +kernel

/-! An image of four bytes, signed with ECDSA on P-256 by a key made for this test; the key's rows of the OTP. -/

def imgBytes : List Byte :=
  [87, 71, 82, 49, 1, 0, 0, 0, 4, 0, 0, 0, 0, 0, 0, 32, 0, 0, 0, 32, 0, 0, 0, 0, 0, 0, 0, 0, 0, 0, 0, 0, 107, 23, 209,
   242, 225, 44, 66, 71, 248, 188, 230, 229, 99, 164, 64, 242, 119, 3, 125, 129, 45, 235, 51, 160, 244, 161, 57, 69,
   216, 152, 194, 150] ++
  [79, 227, 66, 226, 254, 26, 127, 155, 142, 231, 235, 74, 124, 15, 158, 22, 43, 206, 51, 87, 107, 49, 94, 206, 203,
   182, 64, 104, 55, 191, 81, 245, 1, 2, 3, 4, 107, 23, 209, 242, 225, 44, 66, 71, 248, 188, 230, 229, 99, 164, 64,
   242, 119, 3, 125, 129, 45, 235, 51, 160, 244, 161, 57, 69, 216, 152, 194, 150] ++
  [10, 134, 183, 231, 66, 178, 144, 93, 30, 20, 246, 192, 95, 235, 251, 28, 20, 236, 88, 115, 99, 199, 37, 191, 169, 6,
   169, 28, 109, 71, 69, 26]

def keyRows : List (Nat × Nat) :=
  [(12, 2111534552), (13, 908207087), (14, 3325609902), (15, 2151594928), (16, 257765140), (17, 618656984),
   (18, 4126070526), (19, 2668475851)]

/-- Slot 0 of the external flash holds the image, and the OTP its key. -/
def sImage : State :=
  withRights 1 (dp { sA with mem := { sA.mem with
    ext := ((List.range 164).zip imgBytes).filter (fun x => x.2 != 0xFF), otp := keyRows } })

theorem witness_KernelCommands_install :
    KernelHas (sKern 1 0x39 [0] sImage) 1 0x39 [0] ∧ (sKern 1 0x39 [0] sImage).on (F.HOST_WCFG_RING3 1) = false ∧
    (sKern 1 0x39 [0] sImage).qspiLive = true ∧ (sKern 1 0x39 [0] sImage).winRight 1 1 = true ∧
    (sKern 1 0x39 [0] sImage).pwr.stop = .none ∧
    hdrMagic ((sKern 1 0x39 [0] sImage).slotHdr true 0) = true ∧
    (sKern 1 0x39 [0] sImage).slotCode true 0 = 0 := by decide +kernel

theorem witness_KernelCommands_verify :
    KernelHas (sKern 1 0x38 [1] sImage) 1 0x38 [1] ∧ KernelHas (sKern 1 0x39 [1] sImage) 1 0x39 [1] ∧
    hdrMagic ((sKern 1 0x39 [1] sImage).slotHdr true 1) = false := by decide +kernel

/-! ## Witnesses: framers, converter, thermal scan, backup domain, calendar, PWM -/

def sUart (f : Fin 5) : State :=
  (((pw (dp sA) (fun p => { p with booted := true })).put (F.U_CFG_RXEN f) 1).put (F.U_CFG_TXEN f) 1).put (F.U_CFG_DBITS f) 8

/-- The frame of the character 0x55: a start bit, eight data bits and a stop bit, three samples each. -/
def bits55 : List (List Bool) :=
  [false, true, false, true, false, true, false, true, false, true].map (fun b => [b, b, b])

def withUart (f : Fin 5) (r t : Nat) (sh : Option (BitVec 9)) : State :=
  (sUart f).uartUpd f (fun x => { x with
    rx := List.replicate r ⟨5, false, false, false, false, false⟩, tx := List.replicate t 2, shift := sh })

theorem witness_UartCommands :
    (let s := sUart 1
     s.hostLive = true ∧ (2 : Ring).val ≤ 2 ∧ s.fwOwns 1 = true ∧ s.rxOn 1 = true ∧ s.uart[1].waitHigh = false ∧
       UFmtFits (s.rxFmt 1) bits55 = true ∧ (judgeChar (s.rxFmt 1) bits55).start = false ∧ s.loopHears 1 bits55 = true ∧
       s.rxBlanked 1 = false ∧ s.uart[1].tx = [] ∧ s.uart[1].shift = none ∧ s.uart[1].rxOld = [] ∧
       s.on (F.U_CFG_TXEN 1) = true ∧ s.on (F.U_CTL_TXBRK 1) = false ∧ (dp sA).rxOn 1 = false) ∧
    (bindWin 1 3 0 0 0 (sUart 1)).fwOwns 1 = false ∧ (sUart 3).fwOwns 3 = false ∧
    ((withUart 2 15 15 (some 9)).uart[2].rx.length < 16 ∧ (withUart 2 15 15 (some 9)).uart[2].tx.length < 16 ∧
      (withUart 2 15 15 (some 9)).uart[2].shift = some 9 ∧ 16 ≤ (withUart 2 16 16 none).uart[2].rx.length ∧
      16 ≤ (withUart 2 16 16 none).uart[2].tx.length) ∧
    (bitsOf 0xF 0 16 < 16 ∧ ¬bitsOf 0x10 0 16 < 16 ∧ bitsOf 1 0 16 < 2 ∧ ((sUart 0).put (F.U_CFG_PRESC 0) 1).on (F.U_CFG_PRESC 0) = true ∧
      5 ≤ bitsOf 0x1809 0 4 ∧ bitsOf 0x1809 0 4 ≤ 9 ∧ ((sUart 0).put (F.U_EVEN_IDLEEV 0) 1).on (F.U_EVEN_IDLEEV 0) = true ∧
      ((sUart 0).put (F.U_STAT_RXIDLE 0) 0).on (F.U_STAT_RXIDLE 0) = false) := by
  refine ⟨?_, ?_, ?_, ?_, ?_⟩ <;> decide +kernel

/-- The converter is in slot `k`, its window 10 to 1000 inside, its result pushed to the FIFO. -/
def sSlot (k last : Nat) (run : Bool) : State :=
  let s := (((dp sA).put F.ADC_STAT_BUSY 1).put F.ADC_STAT_CUR k).putB F.ADC_CTL_RUN run
  { s with adc := { s.adc with cfg := ⟨0x10, false, 0, true, 1, 10, 1000, false, 0⟩, last := last } }

/-- Whether R325's limits hold of a calibration's sums, with both trims 0, as the statement reads them. -/
def calPasses (o : AdcCalObs) : Bool :=
  let t := fun (sum : Int) => 4 * sum * 32768
  let unit : Int := 16 * 131072
  !(decide (128 * unit < (t o.gnd).natAbs) || decide (32 * unit < (t o.dac0 - t o.gnd).natAbs) ||
    decide (546 * unit < (t o.ref - 13653 * unit).natAbs) || decide (820 * unit < (5 * t o.dac512 - 3 * t o.ref).natAbs))

theorem witness_ConverterAndThermalScan :
    (let s := dp sA
     s.adcLive = true ∧ (1 : Ring).val ≤ 1 ∧ 2 ≤ (2 : Ring).val ∧ s.on F.ADC_CTL_RUN = false ∧
       s.on F.ADC_STAT_CALBUSY = false ∧ (s.put F.ADC_STAT_CALBUSY 1).on F.ADC_STAT_CALBUSY = true ∧
       calPasses ⟨2048, 2560, 218448, 131072, 453, 873603⟩ = true ∧
       calPasses ⟨2049, 2049, 218448, 131072, 0, 873792⟩ = false ∧
       calPasses ⟨-2048, -2561, 218448, 131072, 0, 873792⟩ = false) ∧
    (let s := sSlot 31 31 true
     s.adcLive = true ∧ s.on F.ADC_STAT_BUSY = true ∧ s.on F.ADC_STAT_CALBUSY = false ∧
       s.get F.ADC_STAT_CUR = (31 : Fin 32).val ∧ s.adc.cfg.avg = 0 ∧ State.adcSigned s.adc.cfg.input = false ∧
       s.adc.cfg.wmode = 1 ∧ (s.adc.cfg.lo : Int) ≤ 10 ∧ (1000 : Int) ≤ s.adc.cfg.hi ∧
       s.bit F.ADC_WSTAT_W 31 = false ∧ s.adc.cfg.fifo = true ∧ s.adc.fifo.length < 32 ∧ s.on F.ADC_CTL_RUN = true ∧
       s.adc.last ≤ s.get F.ADC_STAT_CUR) ∧
    ((sSlot 0 3 true).get F.ADC_STAT_CUR = 0 ∧ 0 < (sSlot 0 3 true).adc.last ∧
      ((sSlot 0 3 true).put F.ADC_FCFG_FTH 1).adc.fifo.length + 1 = ((sSlot 0 3 true).put F.ADC_FCFG_FTH 1).get F.ADC_FCFG_FTH ∧
      (sSlot 0 0 false).on F.ADC_CTL_RUN = false) ∧
    (let s := { dp sA with therm := { sA.therm with warn := ⟨1, 0⟩ } }
     (∀ x ∈ tsList ⟨-2048, 421, 0, 1, 2, 3, 4, 400⟩, -2048 ≤ x ∧ x < 2048 ∧ x < s.thrTemp 125 F.THERM_THR_LULLLOW) ∧
       (∃ i, i < 8 ∧ s.bit F.THERM_SUSP_S i = false) ∧ (s.put F.THERM_STAT_LULLZ 1).on F.THERM_STAT_LULLZ = true ∧
       sRails.stopNext ≠ none ∧ sRails.stopLines.stopNext ≠ none ∧ s.thrTemp 105 F.THERM_THR_WARNLOW ≤ 421 ∧
       s.on F.THERM_STAT_WARN = false ∧ s.on F.THERM_STAT_WARNEV = false ∧ 1 ≤ s.therm.warn.above ∧
       (s.put F.THERM_SUSP_S 0x80).bit F.THERM_SUSP_S (7 : Fin 8) = true ∧ (0x80 : Word).getLsbD 7 = true) := by
  refine ⟨?_, ?_, ?_, ?_⟩ <;> decide +kernel

def bk (f : BakSt → BakSt) (s : State) : State := { s with bak := f s.bak }

/-- A full event FIFO whose last entry is `e`. -/
def sEvFull (e : EvEntry) : State :=
  bk (fun b => { b with fifo := List.replicate 15 ⟨0x11223344, 2, true, false, 0⟩ ++ [e] }) ((dp sA).put F.BAK_EVEDGE_EDGE 0xFFF)

theorem witness_BackupCalendarAndPwm_tick :
    (let s := dp sA
     s.bakOn = true ∧ s.trimT = 0 ∧ s.bak.acc.natAbs < 2 ^ 24 ∧ s.on F.BAK_STAT_RCRUN = false ∧
       (s.put F.BAK_STAT_RCRUN 1).on F.BAK_STAT_RCRUN = true ∧
       (withPins s 0 0 true true).pins.rcCycle = true ∧ (withPins s 0 0 true false).pins.rcCycle = false ∧
       (withPins (s.put F.BAK_STAT_RCRUN 1) 0 0 true true).on F.BAK_STAT_RCRUN = true ∧
       (withPins s 0 0 true true).bakOn = true) ∧
    (let s := bk (fun b => { b with acc := 2 ^ 24 - 5 }) ((dp sA).put F.BAK_TRIM_T 5)
     (2 ^ 24 : Int) ≤ s.bak.acc + s.trimT) ∧
    (let s := bk (fun b => { b with acc := -(2 ^ 24) + 5 }) ((dp sA).put F.BAK_TRIM_T 32763)
     s.bak.acc + s.trimT ≤ -(2 ^ 24 : Int)) ∧
    (let s := (dp sA).put F.BAK_EVEDGE_EDGE 0xFFF
     s.edgeSel 5 true = true ∧ s.edgeSel 0 false = true ∧ s.edgeHeld 5 255 = true ∧ s.bak.fifo.length < 16 ∧
       (dp sA).edgeSel 5 true = false) ∧
    (let s := sEvFull ⟨7, 3, false, false, 0⟩
     s.edgeSel 5 true = true ∧ 16 ≤ s.bak.fifo.length ∧
       s.bak.fifo = List.replicate 15 ⟨0x11223344, 2, true, false, 0⟩ ++ [⟨7, 3, false, false, 0⟩]) ∧
    (let s := sEvFull ⟨7, 3, false, true, 1023⟩
     16 ≤ s.bak.fifo.length ∧
       s.bak.fifo = List.replicate 15 ⟨0x11223344, 2, true, false, 0⟩ ++ [⟨7, 3, false, true, 1023⟩]) := by decide +kernel

theorem witness_BackupCalendarAndPwm_events :
    (let s := bk (fun b => { b with tick := 50 }) (((dp sA).put F.BAK_BILLCMPH_ARM 1).put F.BAK_BILLCMPL_V 50)
     s.bakOn = true ∧ s.on F.BAK_BILLCMPH_ARM = true ∧ s.billcmp ≤ s.bak.tick.toNat ∧ s.pwr.state ≠ .backup ∧
       (pw s (fun p => { p with state := .backup })).pwr.state = .backup ∧
       (pw s (fun p => { p with state := .backup })).bakOn = true ∧
       3000 + 50 * s.get F.BAK_BILLCFG_RSTV ≤ 3000 + 50 * s.get F.BAK_BILLCFG_RSTV ∧
       2999 < 3000 + 50 * s.get F.BAK_BILLCFG_RSTV ∧
       (s.put F.BAK_BILLCFG_STARTEN 1).on F.BAK_BILLCFG_STARTEN = true ∧ s.store.fault ≠ 1 ∧ s.store.short = false ∧
       (let c := (pw s (fun p => { p with state := .calm })).put F.SYS_WAKEEN_EN (2 ^ 22)
        c.bakOn = true ∧ c.on F.BAK_BILLCMPH_ARM = true ∧ c.billcmp ≤ c.bak.tick.toNat ∧ c.pwr.state = .calm ∧
          c.bit F.SYS_WAKEEN_EN 22 = true)) ∧
    (bitsOf 0x6B000000 24 8 = 0x6B ∧ bitsOf 0x6C000000 24 8 ≠ 0x6B ∧ (dp sA).on F.BAK_LOCK_WDLOCK = false ∧
      (0x8FF : Word).getLsbD 11 = true ∧ ((dp sA).put F.BAK_WDCFG_EN 0).on F.BAK_WDCFG_EN = false ∧
      ((dp sA).put F.BAK_LOCK_WDLOCK 1).on F.BAK_LOCK_WDLOCK = true ∧ (1 : Word).getLsbD 0 = true) ∧
    (let s := bk (fun b => { b with wdRun := true, wdCount := 16384 }) (((dp sA).put F.BAK_WDCFG_EN 1).put F.BAK_WDCFG_EARLY 1)
     s.bakOn = true ∧ s.bak.wdRun = true ∧ s.wdEarlyAt = some s.bak.wdCount) := by decide +kernel

/-- T0 in the ROM at `pc` with R2 to R4 as given and the return address in R14. -/
def sCal (pc r2 r3 r4 : Word) (tick : BitVec 48) : State :=
  bk (fun b => { b with tick := tick }) (dp (live.setThr 0 { Thread.cold0 with
    pc := pc, g := (((regsA.set 2 r2).set 3 r3).set 4 r4).set 14 0x20000201 }))

/-- T0 came through gate `n`, whose frame holds the PSW 7. -/
def viaGate0 (n : Nat) (s : State) : State :=
  (s.setThr 0 { s.thr 0 with fsUsed := #v[32, 0, 0], g := (s.thr 0).g.set 15 0x200BFFE0 }).writeWords 0x200BFFE0
    [0x20000301, 7, BitVec.ofNat 32 (0x80 + n * 65536), 0, 0, 0, 0x77, 0x88]

theorem witness_BackupCalendarAndPwm_calendar :
    (let ok := fun (s : State) (rom gate : Nat) => (Runs s 0 2 ∧ InBudget s 0 400 ∧ (s.thr 0).ring = 0) ∧
       (s.thr 0).pc.toNat = rom ∧ (s.viaGate 0 (s.thr 0) gate = true → bitOf (s.wordNow ((s.fsp 0 0).toNat + 4)) 3 = false)
     (ok (sCal 0xFF00 0xFFFFFFFF 0 0 7) 0xFF00 12 ∧ pairNum ((sCal 0xFF00 0xFFFFFFFF 0 0 7).thr 0) 2 ≤ calLast ∧
       calLast < pairNum ((sCal 0xFF00 0xFFFFFFFF 0xFFFFFFFF 0 7).thr 0) 2) ∧
     (ok (viaGate0 12 (sCal 0xFF00 0 0 0 7)) 0xFF00 12 ∧
       (viaGate0 12 (sCal 0xFF00 0 0 0 7)).viaGate 0 ((viaGate0 12 (sCal 0xFF00 0 0 0 7)).thr 0) 12 = true) ∧
     ok (sCal 0xFF10 2024 0x021D173B 59 7) 0xFF10 13 ∧ calValid 2024 2 29 23 59 59 = true ∧
     calValid 2023 2 29 0 0 0 = false) := by decide +kernel

theorem witness_BackupCalendarAndPwm_clock :
    (let ok := fun (s : State) (rom gate : Nat) => (Runs s 0 2 ∧ InBudget s 0 400 ∧ (s.thr 0).ring = 0) ∧
       (s.thr 0).pc.toNat = rom ∧ (s.viaGate 0 (s.thr 0) gate = true → bitOf (s.wordNow ((s.fsp 0 0).toNat + 4)) 3 = false)
     (ok (sCal 0xFF20 0 0 0 7) 0xFF20 14 ∧ (sCal 0xFF20 0 0 0 7).bakSettled = true ∧
       (sCal 0xFF20 0 0 0 7).calSeconds < 2 ^ 64) ∧
     (let s := sCal 0xFF30 1 0 0 32768
      ok s 0xFF30 15 ∧ s.bakSettled = true ∧ s.on F.BAK_LOCK_TLOCK = false ∧
        (s.bak.tick.toNat + 16384) / 32768 = 1 ∧ 1 ≤ pairNum (s.thr 0) 2 ∧ pairNum (s.thr 0) 2 < 1 + 2 ^ 32 ∧
        s.storeBlocked F.BAK_EPOCH_S.addr = false ∧ (s.put F.BAK_LOCK_TLOCK 1).on F.BAK_LOCK_TLOCK = true ∧
        ok (s.put F.BAK_LOCK_TLOCK 1) 0xFF30 15 ∧ pairNum ((sCal 0xFF30 0 0 0 32768).thr 0) 2 < 1)) := by decide +kernel

/-- PWM 5 runs with both fault inputs routed. -/
def sPwm : State :=
  ((((dp sA).put (F.PWM_CTL_EN 5) 1).put (F.PWM_CTL_FROUTE 5) 3).put (F.PWM_PER_PER 5) 999).put (F.PWM_CTR_PHASE 5) 15

theorem witness_BackupCalendarAndPwm_pwm :
    (let s := sPwm
     s.pwmLive = true ∧ s.pwmRuns 5 = true ∧ s.on (F.PWM_STAT_TRUNC 5) = false ∧
       s.pwmRouted 5 ⟨false, 256, true⟩ ⟨true, 256, true⟩ = true ∧
       s.pwmRouted 5 ⟨true, 256, true⟩ ⟨true, 256, true⟩ = false ∧ s.pwm[5].win = none ∧
       2 ≤ (s.put (F.PWM_TRIP_N 5) 2).get (F.PWM_TRIP_N 5) ∧ (s.put (F.PWM_TRIP_N 5) 1).get (F.PWM_TRIP_N 5) ≤ 1) ∧
    (let s := (sPwm.pwmUpd 5 (fun x => { x with win := some 7 })).put (F.PWM_TRIP_W 5) 7
     s.pwm[5].win = some 7 ∧ s.get (F.PWM_TRIP_W 5) ≤ 7) ∧
    ((0x20 : Word).getLsbD 5 = true ∧ (0x1F : Word).getLsbD 5 = false ∧ (8 : Word).getLsbD 3 = true ∧
      (sPwm.put (F.PWM_STAT_LATCH 5) 1).on (F.PWM_STAT_LATCH 5) = true ∧ sPwm.on (F.PWM_CTL_EN 5) = true) := by
  decide +kernel

end Sys2Proof.Tests
end

section
/-!
SUPPORT. What an instruction that runs comes to, stated through the frames of Sys2Proof/Safety.lean: its accounting, a
fault of its own, a completion that writes one thread.
-/

namespace Sys2Proof.Machine

variable {s s1 u : State} {t : Tid} {len m n : Nat} {i : Instr} {body : State → Thread → Res}

/-- A thread that is chosen is READY. -/
theorem Runs.ready (h : Runs s t len) : (s.thr t).st = .ready := by
  have hc := h.1
  simp only [State.canIssue, State.chosen, State.mayIssue, State.isReady, Bool.and_eq_true, decide_eq_true_eq] at hc
  tauto

/-- A core that issues is live and in RUN. -/
theorem Runs.live (h : Runs s t len) : s.coreLive = true ∧ s.pwr.state = .run := by
  have hc := h.1
  simp only [State.canIssue, Bool.and_eq_true, decide_eq_true_eq] at hc
  tauto

theorem InBudget.mono (h : InBudget s t n) (hmn : m ≤ n) : InBudget s t m :=
  ⟨fun g hg ht => (Nat.add_le_add_left hmn _).trans (h.1 g hg ht),
    fun hm => (Nat.add_le_add_left hmn _).trans (h.2 hm)⟩

theorem State.get_of_regs (h : u.regs = s.regs) (f : Fld) : u.get f = s.get f := by
  rw [State.get, State.get, h]

theorem MemorySame.of_mem (h : u.mem = s.mem) : MemorySame s u :=
  ⟨fun a => by rw [State.byte, State.byte, h], h⟩

/-- What the accounting of an instruction leaves of the state `s1` it computed, if that differs from `s` inside CORE by
threads and store buffer alone and the issuing thread keeps GM. -/
theorem State.account_frame (hr : Runs s t len) (hb : InBudget s t n)
    (hcore : s1.core = { s.core with threads := s1.core.threads, sb := s1.core.sb })
    (hgm : (s1.thr t).gm = (s.thr t).gm) :
    let v := State.account s s1 t n
    ThreadBecomes s1 v t n (s1.thr t) ∧ Counts s v t n ∧ CoreSame s v ∧ v.core.sb = s1.core.sb ∧ v.regs = s1.regs ∧
      v.mem = s1.mem ∧ BlocksSame s1 v := by
  have hsq : s1.core.squall = false := by rw [hcore]; exact State.canIssue_squall hr.1
  have hgale : s1.core.gale = s.core.gale := by rw [hcore]
  have hhold : s1.core.gmHold = s.core.gmHold := by rw [hcore]
  have hacc := State.account_eq (s0 := s) (t := t) (n := n) hsq (by rw [hgale]; exact hb.1)
    (by rw [hgm, Bool.or_self, hhold]; exact hb.2)
  simp only [hacc]
  refine ⟨⟨?_, fun v hv => ?_⟩, ⟨?_, ?_⟩, ?_, trivial, trivial, trivial, ?_⟩
  · simp [State.thr]
  · exact State.thr_setThr_ne s1 t v _ hv
  · rw [hcore]
  · rw [hcore]
  · rw [CoreSame, hcore]; simp
  · simp [BlocksSame]

/-- An instruction that replaces its own thread, GM kept, has the frame of OnlyThread. -/
theorem State.account_setThr_only {y : Thread} (hr : Runs s t len) (hb : InBudget s t n)
    (hgm : y.gm = (s.thr t).gm) : OnlyThread s (State.account s (s.setThr t y) t n) t n y := by
  obtain ⟨⟨hself, hother⟩, hcounts, hcore, hsb, hregs, hmem, hblocks⟩ :=
    State.account_frame (s1 := s.setThr t y) hr hb rfl (by rw [State.thr_setThr_self]; exact hgm)
  rw [State.thr_setThr_self] at hself
  exact ⟨⟨hself, fun v hv => (hother v hv).trans (State.thr_setThr_ne s t v y hv)⟩, hcounts, hcore, hsb, hregs,
    MemorySame.of_mem hmem, hblocks⟩

/-- An instruction whose own rules complete gives what its accounting leaves. -/
theorem Gives.of_done {p : State → Prop} (hx : exec i s = .next (s.issue t len body)) (hr : Runs s t len)
    (hbody : body s (s.thr t) = .done s1 n) (hp : p (State.account s s1 t n)) : Gives i s p :=
  ⟨_, by rw [hx, State.issue_of_runs hr, hbody], hp⟩

/-- An instruction whose own rules fault raises that fault after an issue of one cycle. -/
theorem FaultsWith.of_flt {cause : Nat} {faddr : Word} (hx : exec i s = .next (s.issue t len body))
    (hr : Runs s t len) (hb : InBudget s t 1) (hbody : body s (s.thr t) = .flt cause faddr) :
    FaultsWith i s t cause faddr := by
  have hself : s.setThr t (s.thr t) = s := by simp [State.setThr, State.thr]
  have honly : OnlyThread s (State.account s s t 1) t 1 (s.thr t) := by
    simpa only [hself] using State.account_setThr_only (y := s.thr t) hr hb rfl
  have hsq : (State.account s s t 1).core.squall = false := by
    obtain ⟨-, -, hcore, -⟩ := honly
    obtain ⟨-, -, -, -, -, -, -, -, -, -, hsq, -⟩ := hcore
    rw [hsq, State.canIssue_squall hr.1]
  refine ⟨_, honly, ?_⟩
  simp [hx, State.issue_of_runs hr, hbody, State.faulted, hsq]

/-- A core left by an instruction of one thread is as live as before it. -/
theorem OnlyThread.live {y : Thread} (h : OnlyThread s u t n y) (hr : Runs s t len) :
    u.coreLive = true ∧ u.pwr.state = .run := by
  obtain ⟨-, -, ⟨-, -, -, -, -, -, -, -, -, -, hsq, -⟩, -, -, -, -, hpwr, -⟩ := h
  simpa only [State.coreLive, hsq, hpwr] using hr.live

end Sys2Proof.Machine
end

section
/-!
SUPPORT. spawn (R124): the permission table, the thread it starts, and the settlement of O19.
-/

namespace Sys2Proof.Machine

section

variable {s : State} {t tn : Tid} {gs ga : Gpr} {ring : Ring} {cls : Fin 4}

/-- The table of R124: what a thread at ring `cur` may start. -/
theorem spawnAllowed_iff (cur ring cls : Nat) (hcur : cur ≤ 3) : spawnAllowed cur ring cls = true ↔
    cur = 0 ∨ (cur = 3 ∧ ring = 3 ∧ cls ≤ 1) ∨ (1 ≤ cur ∧ cur ≤ 2 ∧ cur ≤ ring ∧ 2 ≤ ring ∧ cls ≤ 2) := by
  unfold spawnAllowed
  split_ifs with h0 h3
  · simp [h0]
  · simp [h3]
  · simp only [Bool.and_eq_true, decide_eq_true_eq]
    omega

theorem Thread.ring_le_three (x : Thread) : x.ring ≤ 3 := by
  have := Nat.mod_lt (x.psw.toNat / 2 ^ 4) (y := 2 ^ 2) (by decide)
  simp only [Thread.ring, bitsOf]
  omega

/-- The start state of R124. -/
theorem spawned_start (x : Thread) (pc arg : Word) (ring : Ring) {y : Thread} (hy : y = spawned x pc arg ring) :
    y.st = .ready ∧ y.pc = pc ∧ y.reg 0 = arg ∧ (∀ q, q ≠ 0 → y.reg q = 0) ∧
      y.psw = BitVec.ofNat 32 (ring.val * 16) ∧ y.pend = 0 ∧ y.icnt = 0 ∧ y.wmask = 0 ∧
      ∀ h : Fin 3, y.fsUsed[h] = 0 := by
  subst hy
  refine ⟨rfl, rfl, ?_, fun q hq => ?_, ?_, rfl, rfl, rfl, fun h => ?_⟩
  · simp [spawned, Thread.reg]
  · have hne : (0 : Nat) ≠ q.val := fun e => hq (Fin.ext e.symm)
    simp [spawned, Thread.reg, Vector.getElem_set_ne, hne]
  · simp [spawned, mkPsw, Nat.mod_eq_of_lt ring.isLt]
  · simp [spawned]

/-- Where spawn leaves the device, apart from its accounting. -/
def State.afterSpawn (s : State) (t tn : Tid) (gs ga : Gpr) (ring cls : Nat) : State :=
  ((s.setThr tn (spawned (s.thr tn) ((s.thr t).reg gs) ((s.thr t).reg ga) ring)).put (F.EVT_TCFG_CLASS tn)
    cls).advance t 4 (s.thr t)

theorem State.afterSpawn_thr_self (r c : Nat) :
    (s.afterSpawn t tn gs ga r c).thr t = { s.thr t with pc := (s.thr t).pc + 4 } := by
  simp [State.afterSpawn, State.advance]

theorem State.afterSpawn_thr_target (r c : Nat) (h : tn ≠ t) :
    (s.afterSpawn t tn gs ga r c).thr tn = spawned (s.thr tn) ((s.thr t).reg gs) ((s.thr t).reg ga) r := by
  simp [State.afterSpawn, State.advance, State.thr_setThr_ne _ _ _ _ h]

theorem State.afterSpawn_thr_other (r c : Nat) {v : Tid} (h : v ≠ t) (hn : v ≠ tn) :
    (s.afterSpawn t tn gs ga r c).thr v = s.thr v := by
  simp [State.afterSpawn, State.advance, State.thr_setThr_ne _ _ _ _ h, State.thr_setThr_ne _ _ _ _ hn]

theorem State.afterSpawn_cls (r : Nat) : (s.afterSpawn t tn gs ga r cls).cls tn = cls.val := by
  have := cls.isLt
  simp only [State.afterSpawn, State.advance, State.cls, State.get_setThr, State.get_put_self]
  exact Nat.mod_eq_of_lt this

theorem State.afterSpawn_onlyFields (r c : Nat) :
    OnlyFields s (s.afterSpawn t tn gs ga r c) [F.EVT_TCFG_CLASS tn] := by
  intro g hg
  simp only [List.map_cons, List.map_nil, List.mem_singleton] at hg
  simp [State.afterSpawn, State.advance, State.get_put_ne _ _ _ _ (Ne.symm hg)]

/-- A thread with nothing on its slice has its pointer at the slice's top. -/
theorem State.fsp_of_unused {h : Fin 3} (hu : (s.thr tn).fsUsed[h] = 0) : s.fsp tn h = s.sliceTop tn h := by
  rw [State.fsp, hu]
  exact BitVec.sub_zero _

theorem State.sliceTop_congr {u : State} (h : CoreSame s u) (v : Tid) (r : Fin 3) :
    u.sliceTop v r = s.sliceTop v r := by
  obtain ⟨-, -, -, hfstop, hfslim, -⟩ := h
  rw [State.sliceTop, State.sliceTop, hfstop, hfslim]

/-- The guard of `State.spawn` is the table of R124 with its two conditions on the thread named. -/
theorem State.maySpawn_iff (s : State) (t tn : Tid) (ring cls : Nat) :
    (tn ≠ 0 ∧ (s.thr tn).st = .halted ∧ ((s.thr t).ring = 0 ∨ ((s.thr t).ring = 3 ∧ ring = 3 ∧ cls ≤ 1) ∨
      (1 ≤ (s.thr t).ring ∧ (s.thr t).ring ≤ 2 ∧ (s.thr t).ring ≤ ring ∧ 2 ≤ ring ∧ cls ≤ 2))) ↔
    ¬(tn = 0 ∨ (s.thr tn).st ≠ .halted ∨ spawnAllowed (s.thr t).ring ring cls = false) := by
  rw [← Bool.not_eq_true, spawnAllowed_iff _ _ _ (s.thr t).ring_le_three]
  tauto

/-- A HALTED thread is not the one that issues. -/
theorem Runs.ne_of_halted {len : Nat} (hr : Runs s t len) (h : (s.thr tn).st = .halted) : tn ≠ t := by
  rintro rfl
  rw [hr.ready] at h
  cases h

end

/-- Settles O19: past the checks the state is `afterSpawn` and its accounting; each check that fails is a fault of an issue
of one cycle. -/
theorem spawnStartsAThread : Obligations.SpawnStartsAThread := by
  intro s t tn gs ga ring cls hr hb x allows may
  have hmay : may ↔ _ := s.maySpawn_iff t tn ring cls
  have hb1 : InBudget s t 1 := hb.mono (by decide)
  refine ⟨fun h heven => ?_, fun h => ?_, fun h hodd => ?_⟩
  · obtain ⟨-, hhalted, -⟩ := id h
    have hne : tn ≠ t := hr.ne_of_halted hhalted
    have heven' : ¬bitOf (x.reg gs) 0 = true := by simpa [bitOf] using heven
    refine Gives.of_done (s1 := s.afterSpawn t tn gs ga ring cls) rfl hr
      ((if_neg (hmay.mp h)).trans (if_neg heven')) ?_
    obtain ⟨⟨hself, hother⟩, -, hcore, -, hregs, hmem, hblocks⟩ :=
      State.account_frame (s1 := s.afterSpawn t tn gs ga ring cls) hr hb rfl (by rw [State.afterSpawn_thr_self]; rfl)
    rw [State.afterSpawn_thr_self] at hself
    obtain ⟨hst, hpc, harg, hzero, hpsw, hpend, hicnt, hwmask, hused⟩ :=
      spawned_start _ _ _ ring ((hother tn hne).trans (State.afterSpawn_thr_target ring cls hne))
    refine ⟨hst, hpc, harg, hzero, hpsw, hpend, hicnt, hwmask, ?cls, fun f => ?fsp, by rw [hself], by rw [hself],
      by rw [hself], by rw [hself]; rfl, fun v hv hvn => ?others, fun g hg => ?fields, MemorySame.of_mem hmem, hblocks⟩
    case cls => exact (State.get_of_regs hregs _).trans (State.afterSpawn_cls _)
    case fsp => rw [State.fsp_of_unused (hused f), State.sliceTop_congr hcore]
    case others => exact (hother v hv).trans (State.afterSpawn_thr_other _ _ hv hvn)
    case fields => exact (State.get_of_regs hregs g).trans (State.afterSpawn_onlyFields _ _ g hg)
  · exact FaultsWith.of_flt rfl hr hb1 (if_pos (not_not.mp (mt hmay.mpr h)))
  · exact FaultsWith.of_flt rfl hr hb1 ((if_neg (hmay.mp h)).trans (if_pos hodd))

end Sys2Proof.Machine
end

section
/-!
SUPPORT. The rail instructions (R131 to R134): the operands each takes, the entry a rail operation puts into the store
buffer, pgwait and the end of its timer, and the settlement of O27.
-/

namespace Sys2Proof.Machine

section

variable {s u : State} {t : Tid} {c len : Nat} {i : Instr} {op : SbOp} {good : Prop}
  {body : State → Thread → Res}

/-- The rails that setv takes and the highest code of each (R131, R132). -/
theorem setvMax_eq (c : Nat) : setvMax c = if (1 ≤ c ∧ c ≤ 10) ∨ c = 17 ∨ c = 18 then
    some (if c ≤ 6 then 1250 else if c ≤ 10 then 50 else 180) else none := by
  unfold setvMax
  by_cases hsw : 1 ≤ c ∧ c ≤ 6
  · rw [if_pos hsw, if_pos (by omega), if_pos hsw.2]
  by_cases hldo : 7 ≤ c ∧ c ≤ 10
  · rw [if_neg hsw, if_pos hldo, if_pos (by omega), if_neg (by omega), if_pos hldo.2]
  by_cases hport : c = 17 ∨ c = 18
  · rw [if_neg hsw, if_neg hldo, if_pos hport, if_pos (by omega), if_neg (by omega), if_neg (by omega)]
  · rw [if_neg hsw, if_neg hldo, if_neg hport, if_neg (by omega)]

/-- The rails that ramp takes: those of setv but the LDOs. -/
theorem rampMax_eq (c : Nat) : rampMax c =
    if ((1 ≤ c ∧ c ≤ 10) ∨ c = 17 ∨ c = 18) ∧ ¬(7 ≤ c ∧ c ≤ 10) then
      some (if c ≤ 6 then 1250 else if c ≤ 10 then 50 else 180) else none := by
  rw [rampMax, setvMax_eq]
  by_cases hldo : 7 ≤ c ∧ c ≤ 10
  · rw [if_pos hldo, if_neg fun h => h.2 hldo]
  · simp only [hldo, if_false, not_false_eq_true, and_true]

theorem railTakes_iff (c : Nat) : railTakes c = true ↔ 1 ≤ c ∧ c ≤ 18 := by
  simp [railTakes]

theorem pgwaitTakes_iff (c : Nat) : pgwaitTakes c = true ↔ 1 ≤ c ∧ c ≤ 20 := by
  simp [pgwaitTakes]

theorem State.railPerm_iff {ring : Nat} :
    s.railPerm t ring c = true ↔ ring = 0 ∨ s.bit (F.EVT_RPERM_RAILS t) (c - 1) = true := by
  simp [State.railPerm]

/-- A rail operation has become an entry for the island at `base`, and nothing else has changed. -/
def RailEntered (s u : State) (t : Tid) (base : Nat) (op : SbOp) : Prop :=
  u.core.sb = s.core.sb ++ [⟨t, Fin.ofNat 4 (s.thr t).ring, base, op⟩] ∧
    ThreadBecomes s u t 1 { s.thr t with pc := (s.thr t).pc + 4 } ∧ Counts s u t 1 ∧ CoreSame s u ∧
    u.regs = s.regs ∧ MemorySame s u ∧ BlocksSame s u

/-- The accounting of a rail operation that found room leaves its entry. -/
theorem railEntered_account (hr : Runs s t len) (hb : InBudget s t 1) (base : Nat) (op : SbOp) :
    RailEntered s (State.account s
      ((s.sbPush ⟨t, Fin.ofNat 4 (s.thr t).ring, base, op⟩).advance t 4 (s.thr t)) t 1) t base op := by
  obtain ⟨⟨hself, hother⟩, hcounts, hcore, hsb, hregs, hmem, hblocks⟩ :=
    State.account_frame (s1 := (s.sbPush ⟨t, Fin.ofNat 4 (s.thr t).ring, base, op⟩).advance t 4 (s.thr t)) hr hb rfl
      (by rw [State.advance, State.thr_setThr_self]; rfl)
  rw [State.advance, State.thr_setThr_self] at hself
  refine ⟨hsb, ⟨hself, fun v hv => ?_⟩, hcounts, hcore, hregs, MemorySame.of_mem hmem, hblocks⟩
  exact (hother v hv).trans (State.thr_setThr_ne _ t v _ hv)

/-- What setv, ramp and rail share: operands out of range raise RAIL, operands in range without permission RAILPERM, and
with permission and room the operation enters the buffer (R133). -/
theorem rail_instruction (hx : exec i s = .next (s.issue t 4 body)) (hr : Runs s t 4)
    (hgood : good → body s (s.thr t) = s.railEntry t (s.thr t) c op)
    (hbad : ¬good → body s (s.thr t) = .flt cRAIL 0) :
    (good → (s.thr t).ring = 0 ∨ s.bit (F.EVT_RPERM_RAILS t) (c - 1) = true →
      InBudget s t 1 ∧ s.storeBlocked (railBase c) = false → Gives i s (fun u => RailEntered s u t (railBase c) op)) ∧
    (good → ¬((s.thr t).ring = 0 ∨ s.bit (F.EVT_RPERM_RAILS t) (c - 1) = true) → InBudget s t 1 →
      FaultsWith i s t cRAILPERM 0) ∧
    (¬good → InBudget s t 1 → FaultsWith i s t cRAIL 0) := by
  refine ⟨fun hg hp ⟨hb, hroom⟩ => ?_, fun hg hp hb => ?_, fun hg hb => FaultsWith.of_flt hx hr hb (hbad hg)⟩
  · have hperm := State.railPerm_iff.mpr hp
    exact Gives.of_done hx hr (by rw [hgood hg, State.railEntry, hperm, hroom]; rfl) (railEntered_account hr hb _ op)
  · have hperm : s.railPerm t (s.thr t).ring c = false := Bool.eq_false_iff.mpr (mt State.railPerm_iff.mp hp)
    exact FaultsWith.of_flt hx hr hb (by rw [hgood hg, State.railEntry, if_pos hperm])

/-- What pgwait makes of its thread: on at power-good, at the label with a timeout of 0, else waiting (R134). -/
def State.pgwaited (s : State) (x : Thread) (c : Nat) (tmo : BitVec 8) (label : Word) : Thread :=
  if s.pg c then { x with pc := x.pc + 4 }
  else if tmo = 0 then { x with pc := label }
  else { x with st := .waiting (.pg c (x.pc + 4) label) }

theorem State.pgwaited_gm (x : Thread) (tmo : BitVec 8) (label : Word) : (s.pgwaited x c tmo label).gm = x.gm := by
  unfold State.pgwaited
  split_ifs <;> rfl

theorem State.pgwaited_st {x : Thread} {tmo : BitVec 8} {label : Word} (hpg : s.pg c = false) (ht : tmo ≠ 0) :
    (s.pgwaited x c tmo label).st = .waiting (.pg c (x.pc + 4) label) := by
  rw [State.pgwaited, if_neg (Bool.eq_false_iff.mp hpg), if_neg ht]

theorem State.dozeExit_of_run (h : s.pwr.state = .run) : s.dozeExit = s := by
  simp [State.dozeExit, h]

/-- The timer of a pgwait in RUN readies its thread at the label and changes nothing else. -/
theorem State.pgTimeout_of_waiting {nxt label : Word} (hlive : s.coreLive = true) (hrun : s.pwr.state = .run)
    (hst : (s.thr t).st = .waiting (.pg c nxt label)) :
    s.pgTimeout t = s.setThr t { s.thr t with st := .ready, pc := label } := by
  rw [State.pgTimeout, if_pos hlive, hst]
  exact State.dozeExit_of_run hrun

/-- With a timeout other than 0 and no power-good the thread waits, and the end of its timer sends it to its label. -/
theorem OnlyThread.pgwaitTimeout {x : Thread} {n : Nat} {tmo : BitVec 8} {label : Word} (hr : Runs s t len)
    (hu : OnlyThread s u t n (s.pgwaited x c tmo label)) (hpg : s.pg c = false) (ht : tmo ≠ 0) :
    Gives (.pgwaitTimeout t) u (fun v => v.thr t = { u.thr t with st := .ready, pc := label } ∧
      (∀ w, w ≠ t → v.thr w = u.thr w) ∧ CoreSame u v ∧ v.core.sb = u.core.sb ∧ v.regs = u.regs ∧ MemorySame u v ∧
      BlocksSame u v) := by
  obtain ⟨hlive, hrun⟩ := hu.live hr
  have hst : (u.thr t).st = .waiting (.pg c (x.pc + 4) label) := by
    obtain ⟨⟨hself, -⟩, -⟩ := hu
    rw [hself]
    exact State.pgwaited_st hpg ht
  refine ⟨_, congrArg Host.Outcome.next (State.pgTimeout_of_waiting hlive hrun hst), State.thr_setThr_self _ _ _,
    fun w hw => State.thr_setThr_ne _ _ _ _ hw, ?_, rfl, rfl, ⟨fun _ => rfl, rfl⟩, ?_⟩
  · simp [CoreSame, State.setThr]
  · simp [BlocksSame]

end

/-- Settles O27: each of setv, ramp and rail is a case of `rail_instruction`, and pgwait writes its own thread alone. -/
theorem railInstructionsCheckTheirPermission : Obligations.RailInstructionsCheckTheirPermission := by
  intro s t c hr x base allowed room enters faults top valued ramped railed
  refine ⟨?setv, ?ramp, ?rail, ?pgwait, ?pgwaitRail⟩
  case setv =>
    intro gs good
    refine rail_instruction (c := c) (good := good) rfl hr (fun ⟨hv, hcode⟩ => ?_) (fun hg => ?_)
    · simp only [(setvMax_eq c).trans (if_pos hv)]
      exact if_neg (not_lt.mpr hcode)
    · by_cases hv : valued
      · simp only [(setvMax_eq c).trans (if_pos hv)]
        exact if_pos (not_le.mp fun hcode => hg ⟨hv, hcode⟩)
      · simp only [(setvMax_eq c).trans (if_neg hv)]
  case ramp =>
    intro gs gt good
    refine rail_instruction (c := c) (good := good) rfl hr (fun ⟨hv, hcode, htime⟩ => ?_) (fun hg => ?_)
    · simp only [(rampMax_eq c).trans (if_pos hv)]
      exact if_neg (not_or.mpr ⟨not_lt.mpr hcode, not_lt.mpr htime⟩)
    · by_cases hv : ramped
      · simp only [(rampMax_eq c).trans (if_pos hv)]
        exact if_pos ((not_and_or.mp fun h => hg ⟨hv, h⟩).imp not_le.mp not_le.mp)
      · simp only [(rampMax_eq c).trans (if_neg hv)]
  case rail =>
    intro op
    exact rail_instruction (c := c) (good := railed) rfl hr (fun hg => if_pos ((railTakes_iff c).mpr hg))
      (fun hg => if_neg (mt (railTakes_iff c).mp hg))
  case pgwait =>
    intro tmo o h1 h20 hb label
    have htakes : ¬pgwaitTakes c = false := by simpa using (pgwaitTakes_iff c).mpr ⟨h1, h20⟩
    have honly := State.account_setThr_only (y := s.pgwaited x c tmo label) hr hb (State.pgwaited_gm _ _ _)
    refine Gives.of_done rfl hr (n := 2) (s1 := s.setThr t (s.pgwaited x c tmo label)) ?_ ⟨honly, honly.pgwaitTimeout hr⟩
    refine (if_neg htakes).trans ?_
    unfold State.pgwaited
    split_ifs <;> rfl
  case pgwaitRail =>
    intro tmo o hc hb
    have htakes : pgwaitTakes c = false := Bool.eq_false_iff.mpr (mt (pgwaitTakes_iff c).mp (by omega))
    exact FaultsWith.of_flt rfl hr hb (if_pos htakes)

end Sys2Proof.Machine
end

section
/-!
SUPPORT. What no command breaks: the queue is left as it is, the memories stay canonical, T0 is not halted (R88).
`Keeps s u` says it of the way from `s` to `u`. Each operation of the model keeps it in the form
`Keeps s₀ s → Keeps s₀ (s.f …)`, so the proof for an operation reads like the operation's own body.
-/

namespace Sys2Proof.Machine

/-- What no command breaks: the queue is left as it is, memory stays in canonical form, and T0 is not halted (R88). -/
structure Keeps (s u : State) : Prop where
  pending : u.pending = s.pending
  mem : s.mem.wf = true → u.mem.wf = true
  t0 : (u.thr 0).st = .halted → (s.thr 0).st = .halted

namespace Keeps

variable {s₀ s u : State}

theorem refl (s : State) : Keeps s s := ⟨rfl, id, id⟩

theorem trans (h : Keeps s₀ s) (h' : Keeps s u) : Keeps s₀ u :=
  ⟨h'.pending.trans h.pending, fun hm => h'.mem (h.mem hm), fun ht => h.t0 (h'.t0 ht)⟩

/-- An update of anything but the queue, the memories and the threads. -/
theorem quiet (h : Keeps s₀ s) (hp : u.pending = s.pending := by rfl) (hm : u.mem = s.mem := by rfl)
    (hc : u.core.threads = s.core.threads := by rfl) : Keeps s₀ u :=
  h.trans ⟨hp, fun hw => by rw [hm, hw], fun ht => by rwa [State.thr, hc] at ht⟩

/-- An update of the memories alone that keeps their canonical form. -/
theorem memory (h : Keeps s₀ s) (hm : s.mem.wf = true → u.mem.wf = true) (hp : u.pending = s.pending := by rfl)
    (hc : u.core.threads = s.core.threads := by rfl) : Keeps s₀ u :=
  h.trans ⟨hp, hm, fun ht => by rwa [State.thr, hc] at ht⟩

theorem ite {c : Prop} [Decidable c] (hs : Keeps s₀ s) (hu : Keeps s₀ u) : Keeps s₀ (if c then s else u) := by
  split
  · exact hs
  · exact hu

theorem dite {c : Prop} [Decidable c] {a : c → State} {b : ¬c → State} (ha : ∀ hc, Keeps s₀ (a hc))
    (hb : ∀ hc, Keeps s₀ (b hc)) : Keeps s₀ (if hc : c then a hc else b hc) := by
  split
  next hc => exact ha hc
  next hc => exact hb hc

theorem andIf {c : Prop} [Decidable c] (h : Keeps s₀ s) (hf : Keeps s₀ s → Keeps s₀ u) :
    Keeps s₀ (if c then u else s) :=
  (hf h).ite h

theorem orIf {c : Prop} [Decidable c] (h : Keeps s₀ s) (hf : Keeps s₀ s → Keeps s₀ u) :
    Keeps s₀ (if c then s else u) :=
  h.ite (hf h)

theorem foldl {α : Type} {f : State → α → State} (hf : ∀ v x, Keeps s₀ v → Keeps s₀ (f v x)) (h : Keeps s₀ s)
    (l : List α) : Keeps s₀ (l.foldl f s) := by
  induction l generalizing s with
  | nil => exact h
  | cons x t ih => exact ih (hf s x h)

theorem setThr (h : Keeps s₀ s) {t : Tid} {x : Thread} (hx : t = 0 → x.st = .halted → (s.thr 0).st = .halted) :
    Keeps s₀ (s.setThr t x) := by
  refine h.trans ⟨rfl, id, fun ht => ?_⟩
  by_cases e : t = 0
  · subst e
    rw [State.thr_setThr_self] at ht
    exact hx rfl ht
  · rwa [State.thr_setThr_ne _ _ _ _ (Ne.symm e)] at ht

/-- A thread replaced by one of the same thread state. -/
theorem setThr_same (h : Keeps s₀ s) {t : Tid} {x : Thread} (hx : x.st = (s.thr t).st) : Keeps s₀ (s.setThr t x) :=
  h.setThr fun ht hh => by rwa [← ht, ← hx]

theorem setThr_ready (h : Keeps s₀ s) {t : Tid} {x : Thread} (hx : x.st = .ready) : Keeps s₀ (s.setThr t x) :=
  h.setThr fun _ hh => by rw [hx] at hh; cases hh

theorem mapThr (h : Keeps s₀ s) {f : Thread → Thread} (hf : ∀ x, (f x).st = .halted → x.st = .halted) :
    Keeps s₀ (s.mapThr f) := by
  refine h.trans ⟨rfl, id, fun ht => hf _ ?_⟩
  simpa [State.mapThr, State.thr] using ht

theorem coreUpd (h : Keeps s₀ s) {f : Core → Core} (hf : ∀ c, (f c).threads = c.threads := by intro _; rfl) :
    Keeps s₀ (s.coreUpd f) :=
  h.quiet (hc := hf _)

/-- At Cold T0 is READY (R88). -/
theorem coldCore (h : Keeps s₀ s) (hp : u.pending = s.pending := by rfl) (hm : u.mem = s.mem := by rfl)
    (hc : u.core.threads = Core.cold.threads := by rfl) : Keeps s₀ u := by
  refine h.trans ⟨hp, fun hw => by rw [hm, hw], fun ht => ?_⟩
  rw [State.thr, hc] at ht
  cases ht

end Keeps

/-- A thread that issues is READY. -/
theorem State.ready_of_canIssue {s : State} {t : Tid} (h : s.canIssue t = true) : (s.thr t).st = .ready := by
  simp only [State.canIssue, State.chosen, State.mayIssue, State.isReady, Bool.and_eq_true, decide_eq_true_eq] at h
  tauto

end Sys2Proof.Machine
end

section
/-!
SUPPORT. `Keeps` operation by operation, in the model's order. The lemmas are elaborated one after another: side by side
they would hold more stacks than the check's memory has room for.
-/

set_option Elab.async false

namespace Sys2Proof.Machine

variable {s₀ s u : State}

theorem Keeps.put (h : Keeps s₀ s) {f : Fld} {v : Nat} : Keeps s₀ (s.put f v) := h.quiet

theorem Keeps.putB (h : Keeps s₀ s) {f : Fld} {b : Bool} : Keeps s₀ (s.putB f b) := h.put

theorem Keeps.setBit (h : Keeps s₀ s) {f : Fld} {i : Nat} : Keeps s₀ (s.setBit f i) := h.put

theorem Keeps.clrBit (h : Keeps s₀ s) {f : Fld} {i : Nat} : Keeps s₀ (s.clrBit f i) := h.andIf (·.put)

theorem Keeps.bump (h : Keeps s₀ s) {f : Fld} {n : Nat} : Keeps s₀ (s.bump f n) := h.put

theorem Keeps.coldWindow (h : Keeps s₀ s) {base : Nat} {keep : Nat → Bool} :
    Keeps s₀ (s.coldWindow base keep) := h.quiet

theorem Keeps.plainWrite (h : Keeps s₀ s) {a : Nat} {ring : Nat} {v : Word} :
    Keeps s₀ (s.plainWrite a ring v) := Keeps.foldl (fun _ _ hx => hx.put) h _

theorem Keeps.setByte (h : Keeps s₀ s) {a : Nat} {v : Byte} : Keeps s₀ (s.setByte a v) :=
  h.memory fun hm => State.setByte_wf hm a v

theorem Keeps.setBytes (h : Keeps s₀ s) {a : Nat} {l : List Byte} : Keeps s₀ (s.setBytes a l) := by
  induction l generalizing s a with
  | nil => exact h
  | cons b t ih => exact ih h.setByte

theorem Keeps.setWord (h : Keeps s₀ s) {a : Nat} {v : Word} : Keeps s₀ (s.setWord a v) := h.setBytes

theorem Keeps.setWordBe (h : Keeps s₀ s) {a : Nat} {be : BitVec 4} {v : Word} : Keeps s₀ (s.setWordBe a be v) := by
  unfold State.setWordBe
  extract_lets s0 s1 s2
  have h0 : Keeps s₀ s0 := h.andIf (·.setByte)
  have h1 : Keeps s₀ s1 := h0.andIf (·.setByte)
  have h2 : Keeps s₀ s2 := h1.andIf (·.setByte)
  exact h2.andIf (·.setByte)

theorem Keeps.forget (h : Keeps s₀ s) {lo hi : Nat} : Keeps s₀ (s.forget lo hi) :=
  h.memory fun hm => State.forget_wf hm lo hi

theorem Keeps.setOtpRow (h : Keeps s₀ s) {r : Nat} {v : Word} : Keeps s₀ (s.setOtpRow r v) :=
  h.memory fun hm => State.setOtpRow_wf hm r v

theorem Keeps.setGran (h : Keeps s₀ s) {a v : Nat} : Keeps s₀ (s.setGran a v) :=
  h.memory fun hm => State.setGran_wf hm a v

theorem Keeps.retryStalls (h : Keeps s₀ s) : Keeps s₀ s.retryStalls := by
  refine h.mapThr fun x hx => ?_
  split at hx
  · split at hx
    · exact hx
    · exact hx
  · exact hx

theorem Keeps.tickFree (h : Keeps s₀ s) : Keeps s₀ (s.tickFree) := h.quiet

theorem Keeps.pinsNext (h : Keeps s₀ s) : Keeps s₀ (s.pinsNext) := h.quiet

theorem Keeps.swUpd (h : Keeps s₀ s) {n : Fin 6} {f : SwSt → SwSt} : Keeps s₀ (s.swUpd n f) := h.quiet

theorem Keeps.portUpd (h : Keeps s₀ s) {p : Fin 2} {f : PortSt → PortSt} : Keeps s₀ (s.portUpd p f) := h.quiet

theorem Keeps.uartUpd (h : Keeps s₀ s) {u : Fin 5} {f : UartSt → UartSt} : Keeps s₀ (s.uartUpd u f) := h.quiet

theorem Keeps.pwmUpd (h : Keeps s₀ s) {n : Fin 6} {f : PwmSt → PwmSt} : Keeps s₀ (s.pwmUpd n f) := h.quiet

theorem Keeps.winUpd (h : Keeps s₀ s) {w : Fin 4} {f : Win → Win} : Keeps s₀ (s.winUpd w f) := h.quiet

theorem Keeps.bakUpd (h : Keeps s₀ s) {f : BakSt → BakSt} : Keeps s₀ (s.bakUpd f) := h.quiet

theorem Keeps.seqUpd (h : Keeps s₀ s) {f : SeqSt → SeqSt} : Keeps s₀ (s.seqUpd f) := h.quiet

theorem Keeps.pwrUpd (h : Keeps s₀ s) {f : PowerSt → PowerSt} : Keeps s₀ (s.pwrUpd f) := h.quiet

theorem Keeps.raise (h : Keeps s₀ s) {k : Nat} : Keeps s₀ (s.raise k) := h.quiet

theorem Keeps.flagRaise (h : Keeps s₀ s) {f : Fld} {k : Nat} : Keeps s₀ (s.flagRaise f k) := h.orIf (·.put.raise)

theorem Keeps.pendAll (h : Keeps s₀ s) {m : BitVec 64} : Keeps s₀ (s.pendAll m) := by
  refine h.mapThr fun x hx => ?_
  unfold Thread.pendLines at hx
  split at hx
  · exact hx
  · cases hx

theorem Keeps.setPg (h : Keeps s₀ s) {d : Nat} {b : Bool} : Keeps s₀ (s.setPg d b) := h.setBit.ite h.clrBit

theorem Keeps.loadFreed (h : Keeps s₀ s) {isl : Island} : Keeps s₀ (s.mapThr (State.loadFreed isl)) := by
  refine h.mapThr fun x hx => ?_
  unfold State.loadFreed at hx
  split at hx
  · split at hx
    · exact hx
    · exact hx
  · split at hx
    · exact hx
    · exact hx
  · exact hx

theorem Keeps.dropLatch (h : Keeps s₀ s) {isl : Island} : Keeps s₀ (s.dropLatch isl) :=
  h.coreUpd.loadFreed.retryStalls

theorem Keeps.dozeExit (h : Keeps s₀ s) : Keeps s₀ (s.dozeExit) := h.andIf (·.pwrUpd)

theorem Keeps.cqAppend (h : Keeps s₀ s) {p : Fin 2} {e : CqEntry} :
    Keeps s₀ (s.cqAppend p e) := h.portUpd.raise.ite h.put

theorem Keeps.entWrite (h : Keeps s₀ s) {i : Nat} {status : Nat} {init : Bool} {fcb : Bool} {skip : Nat} {next : Nat} :
    Keeps s₀ (s.entWrite i status init fcb skip next) := h.setBytes

theorem Keeps.bufWrite (h : Keeps s₀ s) {a : Nat} {st : Stored} {keepLen : Bool} {status : Nat} :
    Keeps s₀ (s.bufWrite a st keepLen status) := ((h.orIf (·.setBytes.setBytes)).setByte.setBytes).setByte

theorem Keeps.frameOver (h : Keeps s₀ s) {p : Fin 2} : Keeps s₀ (s.frameOver p) := h.coreUpd.retryStalls

theorem Keeps.answerOver (h : Keeps s₀ s) {p : Fin 2} : Keeps s₀ (s.answerOver p) := h.andIf (·.put.portUpd.frameOver)

theorem Keeps.exchOver (h : Keeps s₀ s) {p : Fin 2} :
    Keeps s₀ (s.exchOver p) := (h.portUpd.andIf (·.put.portUpd)).put.frameOver

theorem Keeps.exchCount (h : Keeps s₀ s) {p : Nat} {status : Nat} :
    Keeps s₀ (s.exchCount p status) := h.bump.andIf (·.bump)

theorem Keeps.exchEnd (h : Keeps s₀ s) {p : Fin 2} {x : Exch} {status : Nat} {st : Stored} :
    Keeps s₀ (s.exchEnd p x status st) :=
  ((h.bufWrite.entWrite.andIf (·.cqAppend)).raise).exchCount.exchOver

theorem Keeps.engAbort (h : Keeps s₀ s) {p : Fin 2} : Keeps s₀ (s.engAbort p) := by
  unfold State.engAbort
  refine Keeps.answerOver ?_
  split
  · exact h.exchEnd
  · exact h

theorem Keeps.engStop (h : Keeps s₀ s) {p : Fin 2} : Keeps s₀ (s.engStop p) := h.engAbort.portUpd

theorem Keeps.pgWake (h : Keeps s₀ s) {c : Nat} : Keeps s₀ (s.pgWake c) := by
  refine Keeps.dozeExit (h.mapThr fun x hx => ?_)
  split at hx
  · split at hx
    · cases hx
    · exact hx
  · exact hx

theorem Keeps.pgPut (h : Keeps s₀ s) {c : Nat} {b : Bool} : Keeps s₀ (s.pgPut c b) := by
  unfold State.pgPut
  split
  · exact h
  · extract_lets s1 s2 s3
    have h3 : Keeps s₀ s3 := ((h.setBit.ite h.clrBit).andIf (·.putB)).raise
    exact h3.pgWake.ite (h3.engStop.ite (h3.andIf (·.engStop)))

theorem Keeps.pgSet (h : Keeps s₀ s) {c : Nat} {b : Bool} : Keeps s₀ (s.pgSet c b) := h.pgPut.andIf (·.pgPut)

theorem Keeps.riseAdd (h : Keeps s₀ s) {c : Nat} : Keeps s₀ (s.riseAdd c) := h.andIf (·.seqUpd)

theorem Keeps.riseDrop (h : Keeps s₀ s) {c : Nat} : Keeps s₀ (s.riseDrop c) := h.seqUpd

theorem Keeps.supBlank (h : Keeps s₀ s) {c : Nat} : Keeps s₀ (s.supBlank c) := h.seqUpd

theorem Keeps.railDown (h : Keeps s₀ s) {c : Nat} : Keeps s₀ (s.railDown c) := h.pgSet.riseDrop.supBlank

theorem Keeps.seqRefuse (h : Keeps s₀ s) : Keeps s₀ (s.seqRefuse) := h.put

theorem Keeps.swLocked (h : Keeps s₀ s) {n : Nat} {b : Bool} : Keeps s₀ (s.swLocked n b) := by
  unfold State.swLocked
  split
  · exact h
  · exact (h.putB.orIf (·.bump)).andIf (·.raise)

theorem Keeps.swGatesOff (h : Keeps s₀ s) {n : Fin 6} : Keeps s₀ (s.swGatesOff n) := by
  unfold State.swGatesOff
  exact h.swLocked.put.put.put.put.swUpd

theorem Keeps.swStop (h : Keeps s₀ s) {n : Fin 6} : Keeps s₀ (s.swStop n) := by
  unfold State.swStop
  extract_lets s1
  have h1 : Keeps s₀ s1 := h.swGatesOff
  split
  · exact h1.swGatesOff
  · exact h1

theorem Keeps.swDisable (h : Keeps s₀ s) {n : Fin 6} {dis : Bool} : Keeps s₀ (s.swDisable n dis) := by
  unfold State.swDisable
  exact h.swStop.put.putB.swUpd.railDown

theorem Keeps.swLatchOne (h : Keeps s₀ s) {n : Fin 6} {cause : Nat} :
    Keeps s₀ (s.swLatchOne n cause) := h.swGatesOff.put.put.swUpd.railDown

theorem Keeps.swLatch (h : Keeps s₀ s) {n : Fin 6} {cause : Nat} : Keeps s₀ (s.swLatch n cause) := by
  unfold State.swLatch
  refine Keeps.raise ?_
  split
  · exact h.swLatchOne.swLatchOne
  · exact h.swLatchOne

theorem Keeps.swCalAbort (h : Keeps s₀ s) {n : Nat} : Keeps s₀ (s.swCalAbort n) := h.andIf (·.put.put.raise)

theorem Keeps.softStartBegin (h : Keeps s₀ s) {n : Fin 6} {fb : Nat} : Keeps s₀ (s.softStartBegin n fb) := by
  unfold State.softStartBegin
  extract_lets s1 s2 s3
  have h2 : Keeps s₀ s2 := h.put.put.put.put.swUpd
  refine Keeps.supBlank ?_
  dsimp only [s3]
  split
  · exact h2.swCalAbort.put
  · exact h2

theorem Keeps.swEnable (h : Keeps s₀ s) {n : Fin 6} {fb : Nat} : Keeps s₀ (s.swEnable n fb) := by
  unfold State.swEnable
  extract_lets s1 s2 s3 s4
  have h2 : Keeps s₀ s2 := h.swCalAbort.put.put.put
  have h3 : Keeps s₀ s3 := by
    dsimp only [s3]
    split
    · exact h2.put
    · exact h2
  have h4 : Keeps s₀ s4 := h3.swUpd.softStartBegin
  exact h.seqRefuse.ite (h.ite (h4.andIf (·.swLatch)))

theorem Keeps.sw2Shed (h : Keeps s₀ s) {op : Nat} : Keeps s₀ (s.sw2Shed op) := by
  unfold State.sw2Shed
  split
  · split
    · exact h.put.put.andIf (·.swCalAbort.put.swUpd)
    · exact h
  · exact h.swGatesOff.put

theorem Keeps.swFall (h : Keeps s₀ s) {n : Fin 6} : Keeps s₀ (s.swFall n) := h.swUpd.seqUpd

theorem Keeps.swFallTo (h : Keeps s₀ s) {n : Fin 6} {code : Nat} : Keeps s₀ (s.swFallTo n code) := h.andIf (·.swFall)

theorem Keeps.swSetv (h : Keeps s₀ s) {n : Fin 6} {code : Nat} : Keeps s₀ (s.swSetv n code) := by
  unfold State.swSetv
  split
  · exact h.put
  · extract_lets s1
    have h1 : Keeps s₀ s1 := h.put
    exact h1.swFallTo.ite (h1.orIf (·.swFallTo.put.put.swUpd))

theorem Keeps.swRamp (h : Keeps s₀ s) {n : Fin 6} {code : Nat} {us : Nat} : Keeps s₀ (s.swRamp n code us) := by
  unfold State.swRamp
  split
  · exact h.swSetv
  · extract_lets s1
    have h1 : Keeps s₀ s1 := h.put
    exact h1.put.swUpd.ite h1.swFallTo.put.swUpd

theorem Keeps.swRail (h : Keeps s₀ s) {n : Fin 6} {op : Nat} {fb : Nat} : Keeps s₀ (s.swRail n op fb) :=
  (h.sw2Shed.ite h.put).ite ((h.seqRefuse.ite h.put.swUpd.swEnable).ite h.swDisable)

theorem Keeps.swRampStep (h : Keeps s₀ s) {n : Fin 6} : Keeps s₀ (s.swRampStep n) := by
  unfold State.swRampStep
  split
  · exact h
  · exact h.put.andIf (·.put.swUpd)

theorem Keeps.swCtlWrite (h : Keeps s₀ s) {n : Fin 6} {ring : Nat} {v : Word} {fb : Nat} :
    Keeps s₀ (s.swCtlWrite n ring v fb) := by
  unfold State.swCtlWrite
  split
  · exact h
  · extract_lets en gang s1 busy s2
    have h2 : Keeps s₀ s2 := h.plainWrite.putB.andIf (·.put.put)
    exact h2.putB.ite (h2.swEnable.ite (h2.swDisable.ite h2.swUpd))

theorem Keeps.swRefWrite (h : Keeps s₀ s) {n : Fin 6} {ring : Nat} {v : Word} :
    Keeps s₀ (s.swRefWrite n ring v) := h.ite (h.put.ite h.swSetv)

theorem Keeps.swCalWrite (h : Keeps s₀ s) {n : Fin 6} {ring : Nat} {v : Word} : Keeps s₀ (s.swCalWrite n ring v) := by
  unfold State.swCalWrite
  extract_lets s1
  have h1 : Keeps s₀ s1 := h.plainWrite
  exact h1.ite (h1.ite (h1.put.raise.ite h1.put))

theorem Keeps.moveTrim (h : Keeps s₀ s) {f : Fld} {m : Nat} {lim : Nat} :
    Keeps s₀ (s.moveTrim f m lim) := h.put.tickFree

theorem Keeps.swYieldBegin (h : Keeps s₀ s) {n : Fin 6} {len : Nat} :
    Keeps s₀ (s.swYieldBegin n len) := h.orIf (·.put.swUpd)

theorem Keeps.swYield (h : Keeps s₀ s) {n : Fin 6} {o : SwObs} : Keeps s₀ (s.swYield n o) := by
  unfold State.swYield
  split
  · exact h.swUpd.andIf (·.put)
  · exact h.andIf (·.swYieldBegin)

theorem Keeps.swSkip (h : Keeps s₀ s) {n : Fin 6} {o : SwObs} : Keeps s₀ (s.swSkip n o) := by
  unfold State.swSkip
  exact h.swUpd

theorem Keeps.swPhaseStep (h : Keeps s₀ s) {n : Fin 6} {o : SwObs} {idle : Bool} : Keeps s₀ (s.swPhaseStep n o idle) := by
  unfold State.swPhaseStep
  exact h.swUpd

theorem Keeps.swLockStep (h : Keeps s₀ s) {n : Fin 6} {o : SwObs} {idle : Bool} :
    Keeps s₀ (s.swLockStep n o idle) := by
  unfold State.swLockStep
  split
  · exact h.swLocked.swUpd
  · extract_lets e run s1
    have h1 : Keeps s₀ s1 := h.swUpd
    exact h1.swLocked.ite (h1.andIf (·.swLocked))

theorem Keeps.swTrimStep (h : Keeps s₀ s) {n : Fin 6} {idle : Bool} : Keeps s₀ (s.swTrimStep n idle) := by
  unfold State.swTrimStep
  exact (h.orIf (·.moveTrim)).swUpd

theorem Keeps.swBalanceStep (h : Keeps s₀ s) {n : Fin 6} :
    Keeps s₀ (s.swBalanceStep n) := (h.put.ite h.moveTrim).ite h

theorem Keeps.swReaddStep (h : Keeps s₀ s) {n : Fin 6} : Keeps s₀ (s.swReaddStep n) := h.andIf (·.swUpd)

theorem Keeps.swCleanStep (h : Keeps s₀ s) {n : Fin 6} {o : SwObs} : Keeps s₀ (s.swCleanStep n o) := by
  unfold State.swCleanStep
  split
  · exact (h.swUpd.andIf (·.put)).tickFree
  · exact h

theorem Keeps.swPulseStep (h : Keeps s₀ s) {n : Fin 6} {o : SwObs} : Keeps s₀ (s.swPulseStep n o) := h.swUpd

theorem Keeps.swPassTurn (h : Keeps s₀ s) {n : Fin 6} : Keeps s₀ (s.swPassTurn n) := by
  unfold State.swPassTurn
  split
  · exact h.swUpd.ite h.swUpd
  · exact h

theorem Keeps.swTripRun (h : Keeps s₀ s) {n : Fin 6} : Keeps s₀ (s.swTripRun n) := h.swUpd

theorem Keeps.swCycleWork (h : Keeps s₀ s) {n : Fin 6} {o : SwObs} : Keeps s₀ (s.swCycleWork n o) :=
  h.swTripRun.swSkip.swYield.swLockStep.swPhaseStep.swTrimStep.swBalanceStep.swReaddStep.swCleanStep.swPulseStep

theorem Keeps.swCycle (h : Keeps s₀ s) {n : Fin 6} {o : SwObs} :
    Keeps s₀ (s.swCycle n o) := h.andIf (·.swCycleWork.swPassTurn)

theorem Keeps.fastTrip (h : Keeps s₀ s) {n : Fin 6} : Keeps s₀ (s.fastTrip n) := by
  unfold State.fastTrip
  split
  · extract_lets s1 s2 k s3
    have h1 : Keeps s₀ s1 := h.bump.ite h.put.raise
    have h2 : Keeps s₀ s2 := h1.swYieldBegin
    split
    · exact h2.swUpd.andIf (·.swLatch)
    · exact h2.swUpd
  · exact h

theorem Keeps.slowLimit (h : Keeps s₀ s) {n : Fin 6} : Keeps s₀ (s.slowLimit n) := by
  unfold State.slowLimit
  split
  · extract_lets s1 s2
    have h1 : Keeps s₀ s1 := h.put
    split
    · exact h1.swStop.raise.swUpd.pgSet.supBlank
    · exact h1.swLatch
  · exact h

theorem Keeps.slowRestart (h : Keeps s₀ s) {n : Fin 6} {fb : Nat} : Keeps s₀ (s.slowRestart n fb) := by
  unfold State.slowRestart
  split
  · extract_lets s1
    have h1 : Keeps s₀ s1 := h.put
    exact h1.swUpd.ite h1.softStartBegin
  · exact h

theorem Keeps.ovpEnter (h : Keeps s₀ s) {n : Fin 6} : Keeps s₀ (s.ovpEnter n) := h.andIf (·.put.swUpd)

theorem Keeps.ovpExit (h : Keeps s₀ s) {n : Fin 6} : Keeps s₀ (s.ovpExit n) := h.andIf (·.swUpd)

theorem Keeps.swVsysStop (h : Keeps s₀ s) {n : Fin 6} : Keeps s₀ (s.swVsysStop n) := by
  unfold State.swVsysStop
  split
  · exact h.swStop.swUpd.pgSet.supBlank
  · exact h

theorem Keeps.swVsysResume (h : Keeps s₀ s) {n : Fin 6} {fb : Nat} :
    Keeps s₀ (s.swVsysResume n fb) := (h.swUpd.ite h.softStartBegin).ite h

theorem Keeps.softStartStep (h : Keeps s₀ s) {n : Fin 6} : Keeps s₀ (s.softStartStep n) := h.andIf (·.put)

theorem Keeps.softStartDone (h : Keeps s₀ s) {n : Fin 6} : Keeps s₀ (s.softStartDone n) := h.andIf (·.put.put.swUpd)

theorem Keeps.trimSat (h : Keeps s₀ s) {n : Fin 6} : Keeps s₀ (s.trimSat n) := h.andIf (·.put.swUpd)

theorem Keeps.swCalDone (h : Keeps s₀ s) {n : Fin 6} {o : SwCalObs} : Keeps s₀ (s.swCalDone n o) := by
  unfold State.swCalDone
  split
  · extract_lets s1 s2
    have h1 : Keeps s₀ s1 := h.put.raise
    split
    · exact h1.put
    · split
      · exact h1.put
      · have h2 : Keeps s₀ s2 := h1.put
        exact h2.put.tickFree.ite h2.put
  · exact h

theorem Keeps.swDischargeEnd (h : Keeps s₀ s) {n : Fin 6} : Keeps s₀ (s.swDischargeEnd n) := h.andIf (·.swUpd)

theorem Keeps.portEvent (h : Keeps s₀ s) {p : Nat} : Keeps s₀ (s.portEvent p) := h.flagRaise

theorem Keeps.engineRate (h : Keeps s₀ s) {p : Fin 2} {code : Nat} : Keeps s₀ (s.engineRate p code) := by
  unfold State.engineRate
  extract_lets u d s1 s2
  have h1 : Keeps s₀ s1 := h.portUpd
  split
  · exact h1.put.put.putB.put.put
  · exact h1

theorem Keeps.measAbort (h : Keeps s₀ s) {p : Fin 2} :
    Keeps s₀ (s.measAbort p) := h.andIf (·.put.put.put.portEvent.portUpd)

theorem Keeps.portOpen (h : Keeps s₀ s) {p : Fin 2} :
    Keeps s₀ (s.portOpen p) := h.put.put.put.put.put.portUpd.railDown.engStop

theorem Keeps.portOff (h : Keeps s₀ s) {p : Fin 2} : Keeps s₀ (s.portOff p) := h.measAbort.portOpen

theorem Keeps.portOffFor (h : Keeps s₀ s) {p : Fin 2} {cause : Nat} : Keeps s₀ (s.portOffFor p cause) := h.portOff.put

theorem Keeps.portRefuse (h : Keeps s₀ s) {p : Nat} {cause : Nat} :
    Keeps s₀ (s.portRefuse p cause) := h.put.put.bump.portEvent

theorem Keeps.checkUl (h : Keeps s₀ s) {p : Fin 2} : Keeps s₀ (s.checkUl p) := by
  unfold State.checkUl
  split
  · exact h.put.portEvent.tickFree.andIf (·.portOffFor)
  · exact h.tickFree

theorem Keeps.portOn (h : Keeps s₀ s) {p : Fin 2} : Keeps s₀ (s.portOn p) := by
  unfold State.portOn
  extract_lets s1 s2 s3
  have h3 : Keeps s₀ s3 := h.put.put.put.portUpd.supBlank.andIf (·.engineRate)
  exact h3.portOffFor.ite h3.checkUl

theorem Keeps.portEnable (h : Keeps s₀ s) {p : Fin 2} {lineBelow12V : Bool} :
    Keeps s₀ (s.portEnable p lineBelow12V) := by
  unfold State.portEnable
  split
  · exact h
  · extract_lets s0
    have h0 : Keeps s₀ s0 := h.andIf (·.seqRefuse)
    split
    · exact h0.portRefuse
    · split
      · exact h.portOn
      · exact h0.portRefuse
      · exact h0.portRefuse.tickFree

theorem Keeps.setMark (h : Keeps s₀ s) {p : Nat} {code : Nat} : Keeps s₀ (s.setMark p code) := (h.andIf (·.put)).put

theorem Keeps.portSetv (h : Keeps s₀ s) {p : Fin 2} {code : Nat} : Keeps s₀ (s.portSetv p code) := h.setMark.portUpd

theorem Keeps.portRamp (h : Keeps s₀ s) {p : Fin 2} {code : Nat} {us : Nat} : Keeps s₀ (s.portRamp p code us) := by
  unfold State.portRamp
  split
  · exact h.portSetv
  · exact h.portUpd

theorem Keeps.portRampStep (h : Keeps s₀ s) {p : Fin 2} : Keeps s₀ (s.portRampStep p) := by
  unfold State.portRampStep
  split
  · exact h
  · exact h.setMark.andIf (·.portUpd)

theorem Keeps.portCtlWrite (h : Keeps s₀ s) {p : Fin 2} {ring : Nat} {v : Word} :
    Keeps s₀ (s.portCtlWrite p ring v) := by
  unfold State.portCtlWrite
  split
  · exact h
  · extract_lets old mode s1
    have h1 : Keeps s₀ s1 := h.plainWrite.put
    exact h1.put.ite (h1.ite (h1.put.ite (h1.ite (h1.put.ite h1.put.put.portUpd.answerOver))))

theorem Keeps.portLineWrite (h : Keeps s₀ s) {p : Fin 2} {ring : Nat} {v : Word} :
    Keeps s₀ (s.portLineWrite p ring v) := h.plainWrite.put.orIf (·.portSetv)

theorem Keeps.portLimWrite (h : Keeps s₀ s) {p : Fin 2} {ring : Nat} {v : Word} :
    Keeps s₀ (s.portLimWrite p ring v) := h.orIf (·.plainWrite)

theorem Keeps.portLedgsWrite (h : Keeps s₀ s) {p : Fin 2} {ring : Nat} {v : Word} :
    Keeps s₀ (s.portLedgsWrite p ring v) := h.andIf (·.portUpd)

theorem Keeps.portLedgWrite (h : Keeps s₀ s) {p : Fin 2} {ring : Nat} {v : Word} :
    Keeps s₀ (s.portLedgWrite p ring v) := by
  unfold State.portLedgWrite
  extract_lets s1 cap
  have hcap : ∀ {u : State} {f : Fld} {c : Nat}, Keeps s₀ u → Keeps s₀ (cap f c u) := fun hu => hu.put.ite hu
  exact hcap (hcap (hcap h.plainWrite))

theorem Keeps.portColdCaps (h : Keeps s₀ s) {p : Fin 2} : Keeps s₀ (s.portColdCaps p) := h.put.put

theorem Keeps.measBegin (h : Keeps s₀ s) {p : Fin 2} {boot : Bool} :
    Keeps s₀ (s.measBegin p boot) := h.put.put.portUpd

theorem Keeps.measGo (h : Keeps s₀ s) {p : Fin 2} {boot : Bool} : Keeps s₀ (s.measGo p boot) :=
  h.ite (h.put.put.put.portEvent.ite (h.put.put.portEvent.ite (h.measBegin.measAbort.ite h.measBegin)))

theorem Keeps.portMeasWrite (h : Keeps s₀ s) {p : Fin 2} {ring : Nat} {v : Word} :
    Keeps s₀ (s.portMeasWrite p ring v) := h.plainWrite.andIf (·.measGo)

theorem Keeps.measResult (h : Keeps s₀ s) {p : Fin 2} {code : Nat} {lineBelow12V : Bool} :
    Keeps s₀ (s.measResult p code lineBelow12V) :=
  (((h.put.put.put.andIf (·.put)).andIf (·.put)).portEvent.portUpd).andIf (·.portEnable)

theorem Keeps.measCalc (h : Keeps s₀ s) {p : Fin 2} {t1 : Nat} {t2 : Nat} {lineBelow12V : Bool} :
    Keeps s₀ (s.measCalc p t1 t2 lineBelow12V) := by
  unfold State.measCalc
  split
  · exact h.put.put.put.measResult.tickFree
  · exact h.put.put.put.measResult.tickFree

theorem Keeps.measPhaseEnd (h : Keeps s₀ s) {p : Fin 2} {o : MeasObs} {lineBelow12V : Bool} :
    Keeps s₀ (s.measPhaseEnd p o lineBelow12V) := by
  unfold State.measPhaseEnd
  split
  · split
    · exact h.measResult.ite (h.measResult.ite h.portUpd)
    · exact h.measResult.ite h.portUpd
    · exact h.measResult
    · exact h.measResult.ite h.measCalc
    · exact h.measResult
    · exact h
  · exact h

theorem Keeps.measokExpire (h : Keeps s₀ s) {p : Nat} : Keeps s₀ (s.measokExpire p) := h.andIf (·.put)

theorem Keeps.portRampEnd (h : Keeps s₀ s) {p : Nat} : Keeps s₀ (s.portRampEnd p) := h.andIf (·.put)

theorem Keeps.calGo (h : Keeps s₀ s) {p : Fin 2} {atMark : Bool} :
    Keeps s₀ (s.calGo p atMark) := h.ite (h.put.put.portEvent.ite (h.put.ite h.put.portEvent))

theorem Keeps.portCalWrite (h : Keeps s₀ s) {p : Fin 2} {ring : Nat} {v : Word} {atMark : Bool} :
    Keeps s₀ (s.portCalWrite p ring v atMark) := h.andIf (·.calGo)

theorem Keeps.calEnd (h : Keeps s₀ s) {p : Nat} {code : Nat} : Keeps s₀ (s.calEnd p code) := h.put.put.portEvent

theorem Keeps.calDone (h : Keeps s₀ s) {p : Fin 2} {samples : List Nat} : Keeps s₀ (s.calDone p samples) := by
  unfold State.calDone
  split
  · extract_lets hi lo s1 s2
    split
    · exact h.calEnd
    · exact h.put.tickFree.put.calEnd.checkUl
  · exact h

theorem Keeps.ibaseTrack (h : Keeps s₀ s) {p : Fin 2} {mean : Nat} : Keeps s₀ (s.ibaseTrack p mean) := by
  unfold State.ibaseTrack
  split
  · exact h.put.tickFree.checkUl
  · exact h

theorem Keeps.ledgerTake (h : Keeps s₀ s) {p : Fin 2} {x : LedgSample} : Keeps s₀ (s.ledgerTake p x) := by
  unfold State.ledgerTake
  exact h.portUpd

theorem Keeps.portBreach (h : Keeps s₀ s) {p : Fin 2} {k : BreachKind} :
    Keeps s₀ (s.portBreach p k) := h.portOffFor.flagRaise.bump

theorem Keeps.ledgerSample (h : Keeps s₀ s) {p : Fin 2} {x : LedgSample} : Keeps s₀ (s.ledgerSample p x) := by
  unfold State.ledgerSample
  extract_lets s1
  have h1 : Keeps s₀ s1 := h.ledgerTake
  split
  · split
    · exact h1
    · exact h1.portBreach
    · exact h1.portBreach.tickFree
  · exact h1

theorem Keeps.ledgerRun (h : Keeps s₀ s) {p : Fin 2} {xs : List LedgSample} :
    Keeps s₀ (s.ledgerRun p xs) := (Keeps.foldl (fun _ _ hx => hx.ledgerSample) h _).ite h

theorem Keeps.portCut (h : Keeps s₀ s) {p : Fin 2} : Keeps s₀ (s.portCut p) := h.measAbort.andIf (·.portOffFor)

theorem Keeps.lineLost (h : Keeps s₀ s) {p : Fin 2} : Keeps s₀ (s.lineLost p) := by
  unfold State.lineLost
  split
  · exact h.put.portEvent.portUpd.answerOver.pgSet
  · exact h

theorem Keeps.lineReturn (h : Keeps s₀ s) {p : Fin 2} : Keeps s₀ (s.lineReturn p) := h.andIf (·.portUpd)

theorem Keeps.txholdRelease (h : Keeps s₀ s) {p : Fin 2} : Keeps s₀ (s.txholdRelease p) := h.andIf (·.put.portUpd)

theorem Keeps.scForward (h : Keeps s₀ s) : Keeps s₀ (s.scForward) := by
  unfold State.scForward
  split
  · exact h.put
  · exact h

theorem Keeps.storeUpd (h : Keeps s₀ s) {f : StoreSt → StoreSt} : Keeps s₀ (s.storeUpd f) := h.quiet

theorem Keeps.testAgain (h : Keeps s₀ s) {vstorMv : Nat} : Keeps s₀ (s.testAgain vstorMv) := h.andIf (·.storeUpd)

theorem Keeps.vstorSeen (h : Keeps s₀ s) {vstorMv : Nat} :
    Keeps s₀ (s.vstorSeen vstorMv) := (h.andIf (·.storeUpd)).andIf (·.put)

theorem Keeps.chgEval (h : Keeps s₀ s) {vstorMv : Nat} : Keeps s₀ (s.chgEval vstorMv) := by
  unfold State.chgEval
  extract_lets s0 st s1
  have h0 : Keeps s₀ s0 := h.orIf (·.put)
  exact ((h0.andIf (·.put.testAgain)).ite h0.put).scForward

theorem Keeps.chgWatch (h : Keeps s₀ s) {old : State} : Keeps s₀ (State.chgWatch old s) := h.flagRaise.ite h

theorem Keeps.chgHalt (h : Keeps s₀ s) : Keeps s₀ (s.chgHalt) := (h.storeUpd.put.andIf (·.put)).chgWatch

theorem Keeps.scCold (h : Keeps s₀ s) : Keeps s₀ (s.scCold) := h.coldWindow

theorem Keeps.chgCold (h : Keeps s₀ s) : Keeps s₀ (s.chgCold) := h.coldWindow.storeUpd

theorem Keeps.latchesHeld (h : Keeps s₀ s) : Keeps s₀ (s.latchesHeld) := h.storeUpd

theorem Keeps.latchesBack (h : Keeps s₀ s) : Keeps s₀ (s.latchesBack) := h.putB.put.storeUpd

theorem Keeps.scLose (h : Keeps s₀ s) : Keeps s₀ (s.scLose) := h.latchesHeld.scCold.chgCold.setPg.dropLatch.storeUpd

theorem Keeps.scRevEnd (h : Keeps s₀ s) : Keeps s₀ (s.scRevEnd) := (h.put.andIf (·.scCold.quiet)).orIf (·.scLose)

theorem Keeps.chgResume (h : Keeps s₀ s) {vstorMv : Nat} :
    Keeps s₀ (s.chgResume vstorMv) := h.andIf (·.vstorSeen.chgEval.chgWatch)

theorem Keeps.vsysUv (h : Keeps s₀ s) {vstorMv : Nat} : Keeps s₀ (s.vsysUv vstorMv) := by
  unfold State.vsysUv
  split
  · extract_lets s1 s2 s3
    have h1 : Keeps s₀ s1 := h.raise
    split
    · have h2 : Keeps s₀ s2 := h1.put.vstorSeen
      split
      · exact h2.put.put.bump.chgHalt
      · exact h2
    · exact h1
  · exact h

theorem Keeps.reversalExit (h : Keeps s₀ s) {vstorMv : Nat} : Keeps s₀ (s.reversalExit vstorMv) := by
  unfold State.reversalExit
  split
  · exact h.put.scRevEnd.storeUpd.chgResume
  · exact h

theorem Keeps.idealDiode (h : Keeps s₀ s) {vinMv : Nat} {vsysMv : Nat} :
    Keeps s₀ (s.idealDiode vinMv vsysMv) := h.andIf (·.storeUpd)

theorem Keeps.vstorVlow (h : Keeps s₀ s) : Keeps s₀ (s.vstorVlow) := h.andIf (·.flagRaise)

theorem Keeps.vstorCutoff (h : Keeps s₀ s) : Keeps s₀ (s.vstorCutoff) := by
  unfold State.vstorCutoff
  split
  · exact h.flagRaise.storeUpd.scRevEnd.chgResume
  · exact h

theorem Keeps.scShort (h : Keeps s₀ s) : Keeps s₀ (s.scShort) := by
  unfold State.scShort
  split
  · extract_lets s1
    have h1 : Keeps s₀ s1 := h.scRevEnd.ite h.put
    exact ((h1.storeUpd.ite h1.put).raise).chgHalt
  · exact h

theorem Keeps.scCtlWrite (h : Keeps s₀ s) {ring : Nat} {v : Word} :
    Keeps s₀ (s.scCtlWrite ring v) := h.plainWrite.andIf (·.put)

theorem Keeps.storeStart (h : Keeps s₀ s) {vinMv : Nat} {vstorMv : Nat} :
    Keeps s₀ (s.storeStart vinMv vstorMv) := h.andIf (·.put)

theorem Keeps.startupTimeout (h : Keeps s₀ s) : Keeps s₀ (s.startupTimeout) := h.andIf (·.put)

theorem Keeps.storeStartStop (h : Keeps s₀ s) : Keeps s₀ (s.storeStartStop) := h.andIf (·.put)

theorem Keeps.scCut (h : Keeps s₀ s) : Keeps s₀ (s.scCut) := h.chgHalt.ite ((h.scRevEnd.ite h.put).chgHalt)

theorem Keeps.presenceBegin (h : Keeps s₀ s) {vstorMv : Nat} :
    Keeps s₀ (s.presenceBegin vstorMv) := h.andIf (·.quiet.scForward)

theorem Keeps.presencePeriodic (h : Keeps s₀ s) {vstorMv : Nat} :
    Keeps s₀ (s.presencePeriodic vstorMv) := ((h.andIf (·.vstorSeen)).presenceBegin).ite h

theorem Keeps.chgCtlWrite (h : Keeps s₀ s) {ring : Nat} {v : Word} {vstorMv : Nat} :
    Keeps s₀ (s.chgCtlWrite ring v vstorMv) := by
  unfold State.chgCtlWrite
  split
  · exact h
  · extract_lets en prof s1 s2 s2b s3 s4
    have h3 : Keeps s₀ s3 := (((h.plainWrite.andIf (·.put.put)).orIf (·.put)).andIf (·.put)).vstorSeen
    exact ((h3.presenceBegin.ite h3.chgEval).ite (h3.andIf (·.chgEval))).chgWatch

theorem Keeps.chgPhaseChange (h : Keeps s₀ s) {vstorMv : Nat} : Keeps s₀ (s.chgPhaseChange vstorMv) := by
  unfold State.chgPhaseChange
  split
  · exact h.vstorSeen.put.scForward.chgWatch
  · exact h

theorem Keeps.chgPhaseTimeout (h : Keeps s₀ s) {vstorMv : Nat} :
    Keeps s₀ (s.chgPhaseTimeout vstorMv) := h.andIf (·.put.put.scForward.chgWatch)

theorem Keeps.chgTerminate (h : Keeps s₀ s) : Keeps s₀ (s.chgTerminate) := h.andIf (·.put.scForward.chgWatch)

theorem Keeps.ntcSample (h : Keeps s₀ s) {m0 : Byte} {m1 : Byte} {vstorMv : Nat} :
    Keeps s₀ (s.ntcSample m0 m1 vstorMv) := by
  unfold State.ntcSample
  split
  · exact ((((((h.andIf (·.put)).andIf (·.put)).quiet).put.tickFree.vstorSeen).andIf (·.chgEval)).andIf (·.presenceBegin)).chgWatch
  · exact h

theorem Keeps.presenceJudge (h : Keeps s₀ s) {absent : Bool} {vstorMv : Nat} :
    Keeps s₀ (s.presenceJudge absent vstorMv) := (h.quiet.putB.andIf (·.put)).chgEval.chgWatch

theorem Keeps.presencePhaseEnd (h : Keeps s₀ s) {deltaMv : Nat} {vstorMv : Nat} :
    Keeps s₀ (s.presencePhaseEnd deltaMv vstorMv) := by
  unfold State.presencePhaseEnd
  split
  · split
    · exact h.quiet
    · exact h.presenceJudge.ite h.quiet
    · exact h.presenceJudge
    · exact h
  · exact h

theorem Keeps.cellsJudge (h : Keeps s₀ s) {bottomMv : Nat} {topMv : Nat} :
    Keeps s₀ (s.cellsJudge bottomMv topMv) := by
  unfold State.cellsJudge
  extract_lets low high top bot
  split
  · exact h.putB.put.scForward
  · exact h.putB.put.scForward

theorem Keeps.cellBalance (h : Keeps s₀ s) {bottomMv : Nat} {topMv : Nat} :
    Keeps s₀ (s.cellBalance bottomMv topMv) := h.andIf (·.cellsJudge)

theorem Keeps.balanceEnd (h : Keeps s₀ s) {bottomMv : Nat} {topMv : Nat} :
    Keeps s₀ (s.balanceEnd bottomMv topMv) := h.andIf (·.cellsJudge)

theorem Keeps.vbakSource (h : Keeps s₀ s) {coinMv : Nat} {shownMv : Nat} {vstorMv : Nat} :
    Keeps s₀ (s.vbakSource coinMv shownMv vstorMv) := h.storeUpd.ite (h.andIf (·.storeUpd))

theorem Keeps.setDirty (h : Keeps s₀ s) {k : Nat} {b : Bool} : Keeps s₀ (s.setDirty k b) := h.setBit.ite h.clrBit

theorem Keeps.dropLines (h : Keeps s₀ s) {lo hi : Nat} : Keeps s₀ (s.dropLines lo hi) := h.quiet

theorem Keeps.progGran (h : Keeps s₀ s) {a : Nat} {bs : List Byte} :
    Keeps s₀ (s.progGran a bs) := h.setBytes.setGran.dropLines

theorem Keeps.tearGran (h : Keeps s₀ s) {a : Nat} : Keeps s₀ (s.tearGran a) := h.setBytes.setGran.dropLines.tickFree

theorem Keeps.eraseSector (h : Keeps s₀ s) {k : Nat} : Keeps s₀ (s.eraseSector k) :=
  h.memory fun hm => State.eraseSector_wf hm k

theorem Keeps.tearSector (h : Keeps s₀ s) {k : Nat} : Keeps s₀ (s.tearSector k) := by
  unfold State.tearSector
  exact (Keeps.foldl (fun _ _ hx => hx.setBytes.setGran) h.eraseSector _).tickFree

theorem Keeps.tearRecord (h : Keeps s₀ s) {a : Nat} : Keeps s₀ (s.tearRecord a) := h.tearGran.andIf (·.setGran)

theorem Keeps.jAppend (h : Keeps s₀ s) {good : Bool} {tick : BitVec 48} {type : Nat} {sector : Nat} {value : Nat} :
    Keeps s₀ (s.jAppend good tick type sector value) := (h.progGran.ite h.tearRecord).put

theorem Keeps.scanRecord (h : Keeps s₀ s) {old : State} {a : Nat} : Keeps s₀ (State.scanRecord old a s) :=
  h.ite ((h.setDirty.ite (h.setDirty.ite (h.put.put.ite h))).ite h.bump)

theorem Keeps.scan (h : Keeps s₀ s) : Keeps s₀ s.scan := by
  unfold State.scan
  extract_lets g0 g1 act s1 s2 s3 s4
  have h1 : Keeps s₀ s1 := Keeps.foldl (fun _ _ hx => hx.put) h _
  have h3 : Keeps s₀ s3 := h1.put.put.put.put.put
  exact h3.put.ite (Keeps.foldl (fun _ _ hx => hx.scanRecord) h3.put _)

theorem Keeps.jCopyStep (h : Keeps s₀ s) {tick : BitVec 48} {n : Nat} : Keeps s₀ (s.jCopyStep tick n) := by
  unfold State.jCopyStep
  split
  · exact h.progGran
  · exact h.progGran.put.put.put

theorem Keeps.jSwitch (h : Keeps s₀ s) : Keeps s₀ (s.jSwitch) :=
  Keeps.foldl (fun _ _ hx => hx.jCopyStep) (h.orIf (·.eraseSector)) _

theorem Keeps.nvcDone (h : Keeps s₀ s) : Keeps s₀ (s.nvcDone) := h.put.raise

theorem Keeps.nvcBusyUpd (h : Keeps s₀ s) : Keeps s₀ (s.nvcBusyUpd) := h.putB

theorem Keeps.nvcResult (h : Keeps s₀ s) {code : Nat} : Keeps s₀ (s.nvcResult code) := h.put.nvcDone.nvcBusyUpd

theorem Keeps.nvcUpd (h : Keeps s₀ s) {f : Nvc → Nvc} : Keeps s₀ (s.nvcUpd f) := h.quiet

theorem Keeps.nvcProgram (h : Keeps s₀ s) {ring : Nat} {key : Byte} : Keeps s₀ (s.nvcProgram ring key) := by
  unfold State.nvcProgram
  split
  · exact h
  · exact h.nvcResult.ite (h.nvcResult.ite (h.nvcResult.ite (h.nvcResult.ite (h.nvcResult.ite (h.nvcResult.ite (h.nvcResult.ite (h.nvcResult.ite h.nvcUpd.nvcBusyUpd)))))))

theorem Keeps.nvcErase (h : Keeps s₀ s) {ring : Nat} {key : Byte} : Keeps s₀ (s.nvcErase ring key) := by
  unfold State.nvcErase
  split
  · exact h
  · extract_lets a k e
    split
    · exact h.nvcResult
    · split
      · exact h.nvcResult
      · split
        · exact h.nvcResult
        · split
          · exact h.nvcResult
          · split
            · exact h.nvcResult
            · split
              · exact h.nvcResult
              · exact h.nvcUpd.put.nvcBusyUpd

theorem Keeps.nvcSuspend (h : Keeps s₀ s) {ring : Nat} :
    Keeps s₀ (s.nvcSuspend ring) := h.ite (h.nvcResult.ite (h.nvcUpd.put.ite h.nvcResult))

theorem Keeps.erResume (h : Keeps s₀ s) : Keeps s₀ (s.erResume) := h.nvcUpd.put

theorem Keeps.nvcResume (h : Keeps s₀ s) {ring : Nat} : Keeps s₀ (s.nvcResume ring) :=
  h.ite (h.nvcResult.ite (h.erResume.nvcResult.ite h.nvcResult))

theorem Keeps.nvcMark (h : Keeps s₀ s) {ring : Nat} {key : Byte} : Keeps s₀ (s.nvcMark ring key) := by
  unfold State.nvcMark
  split
  · exact h
  · extract_lets v e
    split
    · exact h.nvcResult
    · split
      · exact h.nvcResult
      · split
        · exact h.nvcResult
        · split
          · exact h.nvcUpd.nvcBusyUpd
          · exact h.nvcUpd.nvcBusyUpd

theorem Keeps.nvcCheckread (h : Keeps s₀ s) :
    Keeps s₀ (s.nvcCheckread) := h.nvcResult.ite (h.nvcResult.ite h.nvcUpd.nvcBusyUpd)

theorem Keeps.nvcScan (h : Keeps s₀ s) {ring : Nat} :
    Keeps s₀ (s.nvcScan ring) := h.ite (h.nvcResult.ite h.nvcUpd.nvcBusyUpd)

theorem Keeps.nvcCmdWrite (h : Keeps s₀ s) {ring : Nat} {v : Word} : Keeps s₀ (s.nvcCmdWrite ring v) := by
  unfold State.nvcCmdWrite
  extract_lets key
  split
  · exact h.nvcProgram
  · exact h.nvcErase
  · exact h.nvcSuspend
  · exact h.nvcResume
  · exact h.nvcMark
  · exact h.nvcCheckread
  · exact h.nvcScan
  · exact h

theorem Keeps.markDone (h : Keeps s₀ s) {v : Word} : Keeps s₀ (s.markDone v) := h.put.put

theorem Keeps.nvcFinish (h : Keeps s₀ s) {c : NvCmd} {verifyOk : Bool} : Keeps s₀ (s.nvcFinish c verifyOk) := by
  unfold State.nvcFinish
  extract_lets s0
  have h0 : Keeps s₀ s0 := h.nvcUpd
  split
  · exact (h0.progGran.ite h0.tearGran).nvcResult
  · exact (h0.jAppend.andIf (·.markDone)).nvcResult
  · exact (Keeps.foldl (fun _ _ hx => hx.put) h0 _).put.nvcResult
  · exact h0.scan.nvcResult

theorem Keeps.nvcCommandEnd (h : Keeps s₀ s) {verifyOk : Bool} : Keeps s₀ (s.nvcCommandEnd verifyOk) := by
  unfold State.nvcCommandEnd
  split
  · exact h.andIf (·.nvcFinish)
  · exact h

theorem Keeps.erEnd (h : Keeps s₀ s) {code : Nat} : Keeps s₀ (s.erEnd code) := h.nvcUpd.putB.nvcResult

theorem Keeps.erTo (h : Keeps s₀ s) {e : NvErase} {p : ErPhase} : Keeps s₀ (s.erTo e p) := h.nvcUpd

theorem Keeps.failErase (h : Keeps s₀ s) {k : Nat} : Keeps s₀ (s.failErase k) := h.tearSector.setGran

theorem Keeps.erPhaseEnd (h : Keeps s₀ s) {e : NvErase} {verifyOk : Bool} : Keeps s₀ (s.erPhaseEnd e verifyOk) := by
  unfold State.erPhaseEnd
  split
  · exact h.eraseSector.erTo
  · exact h.erTo.ite h.failErase.erEnd
  · split
    · exact h.jCopyStep.erTo
    · split
      · exact h.jCopyStep.erTo
      · exact h.jCopyStep.erTo
  · split
    · exact h.jAppend.setDirty.erTo.ite h.jAppend.erEnd
    · exact h
  · split
    · exact h.eraseSector.erTo
    · exact h
  · split
    · exact h.erTo.ite h.failErase.erEnd
    · exact h
  · split
    · exact (h.andIf (·.jSwitch)).jAppend.setDirty.erEnd
    · exact (h.jAppend.andIf (·.markDone)).erEnd

theorem Keeps.erasePhaseEnd (h : Keeps s₀ s) {verifyOk : Bool} : Keeps s₀ (s.erasePhaseEnd verifyOk) := by
  unfold State.erasePhaseEnd
  split
  · exact h.andIf (·.erPhaseEnd)
  · exact h

theorem Keeps.suspendEffect (h : Keeps s₀ s) : Keeps s₀ (s.suspendEffect) := by
  unfold State.suspendEffect
  split
  · exact h.andIf (·.nvcUpd.put.nvcDone)
  · exact h

theorem Keeps.autosuspResume (h : Keeps s₀ s) : Keeps s₀ (s.autosuspResume) := h.andIf (·.erResume)

theorem Keeps.autoSuspend (h : Keeps s₀ s) : Keeps s₀ (s.autoSuspend) := h.andIf (·.nvcUpd)

theorem Keeps.nvcFlush (h : Keeps s₀ s) : Keeps s₀ s.nvcFlush := by
  unfold State.nvcFlush
  extract_lets s1 stop
  have h1 : Keeps s₀ s1 := by
    dsimp only [s1]
    split
    · exact h.nvcFinish
    · exact h
  have hstop : ∀ {u : State}, Keeps s₀ u → Keeps s₀ (stop u) := fun hu => hu.nvcUpd.put.nvcBusyUpd
  split
  · exact hstop h1
  · split
    · exact hstop ((h1.andIf (·.jSwitch)).jAppend.setDirty.nvcResult)
    · exact hstop ((h1.andIf (·.jSwitch)).jAppend.setDirty.nvcResult)
    · exact hstop h1.jAppend.markDone.nvcResult
    · exact hstop h1.jAppend.setDirty
    · exact hstop h1.tearSector
    · exact hstop h1.jCopyStep
    · exact hstop h1.tearSector
    · exact hstop h1

theorem Keeps.nvcAbandon (h : Keeps s₀ s) : Keeps s₀ s.nvcAbandon := by
  unfold State.nvcAbandon
  extract_lets s1 tear s2
  have h1 : Keeps s₀ s1 := by
    dsimp only [s1]
    split
    · exact h.tearGran
    · exact h.tearRecord
    · exact h
  have htear : ∀ {u : State} {e : Option NvErase}, Keeps s₀ u → Keeps s₀ (tear u e) := by
    intro u e hu
    dsimp only [tear]
    split
    · exact hu
    · split
      · exact hu.tearSector
      · exact hu.tearRecord
      · exact hu.tearRecord
      · exact hu.orIf (·.tearRecord)
      · exact hu.tearSector
      · exact hu
  exact (htear (htear h1)).quiet

theorem Keeps.nvcColdRegs (h : Keeps s₀ s) : Keeps s₀ (s.nvcColdRegs) := by
  unfold State.nvcColdRegs
  exact h.coldWindow.nvcUpd.coreUpd

theorem Keeps.nvcUp (h : Keeps s₀ s) : Keeps s₀ (s.nvcUp) := h.nvcColdRegs.scan

theorem Keeps.tickStep (h : Keeps s₀ s) : Keeps s₀ (s.tickStep) := by
  unfold State.tickStep
  split
  · exact h.bakUpd
  · exact h.bakUpd.ite (h.bakUpd.ite h.bakUpd)

theorem Keeps.countedCycle (h : Keeps s₀ s) : Keeps s₀ (s.countedCycle) := h.tickStep.andIf (·.bakUpd)

theorem Keeps.xtalEdge (h : Keeps s₀ s) : Keeps s₀ (s.xtalEdge) := h.put

theorem Keeps.crystalCycle (h : Keeps s₀ s) {rc : Bool} : Keeps s₀ (s.crystalCycle rc) := by
  unfold State.crystalCycle
  split
  · exact (h.orIf (·.xtalEdge)).andIf (·.countedCycle)
  · exact h

theorem Keeps.trimCorrection (h : Keeps s₀ s) : Keeps s₀ (s.trimCorrection) := h.andIf (·.crystalCycle)

theorem Keeps.rcFallback (h : Keeps s₀ s) : Keeps s₀ (s.rcFallback) := h.andIf (·.put.put.put)

theorem Keeps.xtalReturn (h : Keeps s₀ s) : Keeps s₀ (s.xtalReturn) := h.andIf (·.put.xtalEdge)

theorem Keeps.eventEdge (h : Keeps s₀ s) {i : Nat} {rising : Bool} : Keeps s₀ (s.eventEdge i rising) := by
  unfold State.eventEdge
  split
  · extract_lets q
    split
    · exact h.bakUpd.tickFree.raise
    · split
      · split
        · exact h.bakUpd
        · exact h.bakUpd.put.tickFree.raise
      · exact h
  · exact h

theorem Keeps.evf0Read (h : Keeps s₀ s) {t : Tid} : Keeps s₀ (s.evf0Read t).2 := by
  unfold State.evf0Read
  split
  · dsimp only
    exact h.bakUpd
  · dsimp only
    exact h.bakUpd.tickFree

theorem Keeps.ticklRead (h : Keeps s₀ s) {t : Tid} : Keeps s₀ (s.ticklRead t).2 := by
  dsimp only [State.ticklRead]
  exact h.bakUpd

theorem Keeps.billArm (h : Keeps s₀ s) {ring : Nat} {v : Word} :
    Keeps s₀ (s.billArm ring v) := h.plainWrite.andIf (·.put)

theorem Keeps.billFire (h : Keeps s₀ s) {vstorMv : Nat} : Keeps s₀ (s.billFire vstorMv) := by
  unfold State.billFire
  split
  · extract_lets s1
    have h1 : Keeps s₀ s1 := h.put.put.raise
    exact (h1.put.ite h1.put).ite h1
  · exact h

theorem Keeps.wdStart (h : Keeps s₀ s) : Keeps s₀ (s.wdStart) := h.bakUpd

theorem Keeps.wdStop (h : Keeps s₀ s) : Keeps s₀ (s.wdStop) := h.bakUpd

theorem Keeps.wdKick (h : Keeps s₀ s) {ring : Nat} {v : Word} : Keeps s₀ (s.wdKick ring v) := h.andIf (·.bakUpd)

theorem Keeps.wdCfgWrite (h : Keeps s₀ s) {ring : Nat} {v : Word} : Keeps s₀ (s.wdCfgWrite ring v) := by
  unfold State.wdCfgWrite
  extract_lets was s1
  have h1 : Keeps s₀ s1 := h.plainWrite
  exact (h1.orIf (·.wdStart)).ite h1.bakUpd

theorem Keeps.wdEarly (h : Keeps s₀ s) : Keeps s₀ (s.wdEarly) := h.andIf (·.put.raise)

theorem Keeps.setWords (h : Keeps s₀ s) {a : Nat} {l : List Nat} : Keeps s₀ (s.setWords a l) := by
  induction l generalizing s a with
  | nil => exact h
  | cons w t ih => exact ih h.setWord

theorem Keeps.squallRecord (h : Keeps s₀ s) {cause : Nat} {t : Tid} {detail : Nat} :
    Keeps s₀ (s.squallRecord cause t detail) := h.setWords

theorem Keeps.thermRecord (h : Keeps s₀ s) : Keeps s₀ (s.thermRecord) := h.setWords

theorem Keeps.lullRecord (h : Keeps s₀ s) {cause : Nat} {step4 : Bool} {openErase : Option Nat} :
    Keeps s₀ (s.lullRecord cause step4 openErase) := h.bakUpd.setWords

theorem Keeps.lullOutcome (h : Keeps s₀ s) {outcome : Nat} {ms : Nat} :
    Keeps s₀ (s.lullOutcome outcome ms) := h.setWord.setWord

theorem Keeps.lullEndBit (h : Keeps s₀ s) : Keeps s₀ (s.lullEndBit) := h.andIf (·.setWord)

theorem Keeps.recclr (h : Keeps s₀ s) {ring : Nat} {v : Word} :
    Keeps s₀ (s.recclr ring v) := h.andIf (·.forget.forget)

theorem Keeps.bakCold (h : Keeps s₀ s) : Keeps s₀ (s.bakCold) := by
  unfold State.bakCold
  exact h.coldWindow.forget.bakUpd

theorem Keeps.voteWord (h : Keeps s₀ s) {old : State} {k : Nat} : Keeps s₀ (State.voteWord old s k) := h.put.put

theorem Keeps.otpVote (h : Keeps s₀ s) : Keeps s₀ s.otpVote := by
  unfold State.otpVote
  exact (Keeps.foldl (fun _ _ hx => hx.voteWord) h.coldWindow _).putB.pwrUpd.ite h

theorem Keeps.otpRefuse (h : Keeps s₀ s) : Keeps s₀ (s.otpRefuse) := h.put.raise

theorem Keeps.otpStart (h : Keeps s₀ s) {op : Nat} : Keeps s₀ (s.otpStart op) := h.pwrUpd.put

theorem Keeps.otpRead (h : Keeps s₀ s) {ring : Nat} : Keeps s₀ (s.otpRead ring) := h.ite (h.otpRefuse.ite h.otpStart)

theorem Keeps.otpProgram (h : Keeps s₀ s) {ring : Nat} {key : Byte} {vsysMv : Nat} :
    Keeps s₀ (s.otpProgram ring key vsysMv) := h.ite (h.otpRefuse.ite h.otpStart)

theorem Keeps.otpWprog (h : Keeps s₀ s) {ring : Nat} {key : Byte} {vsysMv : Nat} :
    Keeps s₀ (s.otpWprog ring key vsysMv) := h.ite (h.otpRefuse.ite h.otpStart)

theorem Keeps.otpCmdWrite (h : Keeps s₀ s) {ring : Nat} {v : Word} {vsysMv : Nat} :
    Keeps s₀ (s.otpCmdWrite ring v vsysMv) := by
  unfold State.otpCmdWrite
  extract_lets key
  split
  · exact h.otpRead
  · exact h.otpProgram
  · exact h.otpWprog
  · exact h

theorem Keeps.setOtpEcc (h : Keeps s₀ s) {r v : Nat} : Keeps s₀ (s.setOtpEcc r v) :=
  h.memory fun hm => State.setOtpEcc_wf hm r v

theorem Keeps.otpTorn (h : Keeps s₀ s) {r : Nat} : Keeps s₀ (s.otpTorn r) := h.setOtpRow.setOtpEcc.tickFree

theorem Keeps.otpTornWord (h : Keeps s₀ s) {w : Nat} {d : Word} : Keeps s₀ (s.otpTornWord w d) :=
  (Keeps.foldl (fun _ _ hx => hx.setOtpRow) h _).tickFree

theorem Keeps.otpOpDone (h : Keeps s₀ s) {ok : Bool} : Keeps s₀ (s.otpOpDone ok) := by
  unfold State.otpOpDone
  split
  · exact h
  · extract_lets s0
    have h0 : Keeps s₀ s0 := h.pwrUpd.put.raise
    exact (h0.put.put.putB.ite ((h0.setOtpRow.ite h0.otpTorn.put).ite
      ((Keeps.foldl (fun _ _ hx => hx.setOtpRow) h0 _).ite h0.otpTornWord.put))).ite h

theorem Keeps.otpAbandon (h : Keeps s₀ s) : Keeps s₀ (s.otpAbandon) := by
  unfold State.otpAbandon
  extract_lets s0
  have h0 : Keeps s₀ s0 := h.pwrUpd
  split
  · exact h0.otpTorn
  · exact h0.otpTornWord
  · exact h0

theorem Keeps.qspiCtlWrite (h : Keeps s₀ s) {ring : Nat} {v : Word} : Keeps s₀ (s.qspiCtlWrite ring v) := by
  unfold State.qspiCtlWrite
  extract_lets s1 cnt dst
  have h1 : Keeps s₀ s1 := h.orIf (·.plainWrite)
  split
  · exact h1.put.ite h1.pwrUpd.put
  · exact h1

theorem Keeps.qspiCopyDone (h : Keeps s₀ s) {vio : Bool} : Keeps s₀ (s.qspiCopyDone vio) := by
  unfold State.qspiCopyDone
  split
  · split
    · exact h.pwrUpd.setBytes.put.put.tickFree.raise
    · exact h
  · exact h

theorem Keeps.qspiCold (h : Keeps s₀ s) : Keeps s₀ s.qspiCold := by
  unfold State.qspiCold
  refine Keeps.coldWindow (Keeps.pwrUpd ?_)
  split
  · exact h.setBytes.tickFree
  · exact h

theorem Keeps.linDis (h : Keeps s₀ s) {c : Nat} {b : Bool} : Keeps s₀ (s.linDis c b) := h.seqUpd

theorem Keeps.linOff (h : Keeps s₀ s) {k : Nat} {dis : Bool} :
    Keeps s₀ (s.linOff k dis) := h.put.put.putB.linDis.railDown

theorem Keeps.linOffFor (h : Keeps s₀ s) {k : Nat} {dis : Bool} {cause : Nat} :
    Keeps s₀ (s.linOffFor k dis cause) := h.linOff.put

theorem Keeps.linTripFor (h : Keeps s₀ s) {k : Nat} {cause : Nat} : Keeps s₀ (s.linTripFor k cause) := h.linOffFor

theorem Keeps.linOn (h : Keeps s₀ s) {k : Nat} : Keeps s₀ (s.linOn k) := by
  unfold State.linOn
  split
  · exact h.seqRefuse
  · split
    · exact h.put.put.seqRefuse
    · extract_lets s0 s1
      have h0 : Keeps s₀ s0 := h.linDis
      split
      · exact h0
      · exact h0.put.put.put.supBlank.andIf (·.linTripFor)

theorem Keeps.linRail (h : Keeps s₀ s) {k : Nat} {op : Nat} :
    Keeps s₀ (s.linRail k op) := ((h.orIf (·.put)).linOn).ite h.linOff

theorem Keeps.linWrite (h : Keeps s₀ s) {k : Nat} {ring : Nat} {v : Word} : Keeps s₀ (s.linWrite k ring v) := by
  unfold State.linWrite
  split
  · exact h
  · extract_lets en s1
    have h1 : Keeps s₀ s1 := h.plainWrite.putB
    exact (h1.linDis.seqRefuse.ite h1.linOn).ite (h1.linOff.ite h1.linDis)

theorem Keeps.ldoDomainOff (h : Keeps s₀ s) : Keeps s₀ (s.ldoDomainOff) :=
  Keeps.foldl (fun _ _ hx => hx.andIf (·.linOffFor.raise)) h _

theorem Keeps.applySetv (h : Keeps s₀ s) {c : Nat} {code : Nat} : Keeps s₀ (s.applySetv c code) := by
  unfold State.applySetv
  split
  · exact h.swSetv
  · exact h.portSetv
  · exact h.andIf (·.put)

theorem Keeps.applyRamp (h : Keeps s₀ s) {c : Nat} {code : Nat} {us : Nat} : Keeps s₀ (s.applyRamp c code us) := by
  unfold State.applyRamp
  split
  · exact h.swRamp
  · exact h.portRamp
  · exact h

theorem Keeps.applyRail (h : Keeps s₀ s) {c : Nat} {op : Nat} {e : Sense} : Keeps s₀ (s.applyRail c op e) := by
  unfold State.applyRail
  split
  · exact h.swRail
  · exact h.portEnable.ite h.portOff
  · exact h.andIf (·.linRail)

theorem Keeps.railOffDis (h : Keeps s₀ s) {c : Nat} : Keeps s₀ (s.railOffDis c) := h.applyRail

theorem Keeps.rampStep (h : Keeps s₀ s) {c : Nat} : Keeps s₀ (s.rampStep c) := by
  unfold State.rampStep
  split
  · split
    · exact h.swRampStep
    · exact h.portRampStep
    · exact h
  · exact h

theorem Keeps.railRampEnd (h : Keeps s₀ s) {c : Nat} : Keeps s₀ (s.railRampEnd c) := h.andIf (·.put)

theorem Keeps.lsOverload (h : Keeps s₀ s) {n : Nat} : Keeps s₀ (s.lsOverload n) := h.andIf (·.linTripFor)

theorem Keeps.dischargeEnd (h : Keeps s₀ s) {c : Nat} : Keeps s₀ (s.dischargeEnd c) := by
  unfold State.dischargeEnd
  split
  · exact h.swDischargeEnd
  · exact h.andIf (·.linDis)

theorem Keeps.powerGoodRise (h : Keeps s₀ s) {c : Nat} : Keeps s₀ (s.powerGoodRise c) := h.andIf (·.pgSet.riseAdd)

theorem Keeps.enterDown (h : Keeps s₀ s) {b : Bool} : Keeps s₀ (s.enterDown b) := by
  unfold State.enterDown
  extract_lets s1 _ s2 s3
  have h1 : Keeps s₀ s1 := h.nvcAbandon.otpAbandon.wdStop
  have h2 : Keeps s₀ s2 := h1.coldCore
  exact h2.forget.orIf (·.bakCold)

theorem Keeps.vsysBackupFall (h : Keeps s₀ s) {vbakMv : Nat} :
    Keeps s₀ (s.vsysBackupFall vbakMv) := h.andIf (·.enterDown)

theorem Keeps.vbakLoss (h : Keeps s₀ s) : Keeps s₀ (s.vbakLoss) := h.andIf (·.enterDown)

theorem Keeps.stopRailOff (h : Keeps s₀ s) {c : Nat} : Keeps s₀ (s.stopRailOff c) := by
  unfold State.stopRailOff
  split
  · exact h.portOffFor
  · exact h.linOffFor.ite h.railOffDis

theorem Keeps.stopLines (h : Keeps s₀ s) : Keeps s₀ s.stopLines :=
  Keeps.foldl (fun _ _ hx => hx.portOffFor.ite hx.measAbort) h _

theorem Keeps.stopAll (h : Keeps s₀ s) : Keeps s₀ (s.stopAll) :=
  Keeps.foldl (fun _ _ hx => hx.andIf (·.stopRailOff)) h.stopLines _

theorem Keeps.stopEnd (h : Keeps s₀ s) {vbakMv : Nat} : Keeps s₀ (s.stopEnd vbakMv) := h.pwrUpd.ite h.enterDown

theorem Keeps.lullStart (h : Keeps s₀ s) {cause : Nat} {endSys : Bool} {reset : Bool} :
    Keeps s₀ (s.lullStart cause endSys reset) := by
  unfold State.lullStart
  extract_lets s0
  have h0 : Keeps s₀ s0 := h.andIf (·.wdStop)
  split
  · split
    · exact h0.pwrUpd.put.put.put.putB.raise.measAbort.measAbort
    · exact h0
  · split
    · exact h0.pwrUpd.put.andIf (·.lullEndBit)
    · exact h0
  · exact h0

theorem Keeps.lullTo (h : Keeps s₀ s) {n : Nat} : Keeps s₀ (s.lullTo n) := by
  unfold State.lullTo
  split
  · exact h.pwrUpd.put
  · exact h

theorem Keeps.lullGo (h : Keeps s₀ s) {ring : Nat} {v : Word} : Keeps s₀ (s.lullGo ring v) := h.andIf (·.lullStart)

theorem Keeps.lullFramesDone (h : Keeps s₀ s) : Keeps s₀ (s.lullFramesDone) := by
  unfold State.lullFramesDone
  split
  · exact h.engAbort.engAbort.nvcUpd.lullTo
  · exact h

theorem Keeps.lullFlushDone (h : Keeps s₀ s) : Keeps s₀ (s.lullFlushDone) := by
  unfold State.lullFlushDone
  split
  · exact (h.andIf (·.nvcFlush)).lullRecord.lullTo
  · exact h

theorem Keeps.lullEnd (h : Keeps s₀ s) {outcome : Nat} {ms : Nat} {vbakMv : Nat} :
    Keeps s₀ (s.lullEnd outcome ms vbakMv) := h.lullOutcome.lullTo.put.stopEnd

theorem Keeps.lullRailOff (h : Keeps s₀ s) {elapsedMs : Nat} {vbakMv : Nat} :
    Keeps s₀ (s.lullRailOff elapsedMs vbakMv) := by
  unfold State.lullRailOff
  split
  · split
    · exact h.stopRailOff
    · exact h.lullEnd
  · exact h

theorem Keeps.lullBudgetCut (h : Keeps s₀ s) {vbakMv : Nat} : Keeps s₀ (s.lullBudgetCut vbakMv) := by
  unfold State.lullBudgetCut
  split
  · split
    · exact h
    · exact (h.stopAll.andIf (·.lullRecord)).lullEnd
  · exact h

theorem Keeps.fastNext (h : Keeps s₀ s) {v : Nat} : Keeps s₀ (s.fastNext v) := by
  unfold State.fastNext
  extract_lets s1
  have h1 : Keeps s₀ s1 := by
    dsimp only [s1]
    split
    · exact h.stopRailOff
    · exact h
  exact h1.andIf (·.stopEnd)

theorem Keeps.fastStop (h : Keeps s₀ s) {b : Bool} {v : Nat} : Keeps s₀ (s.fastStop b v) := by
  unfold State.fastStop
  extract_lets s0 go
  have h0 : Keeps s₀ s0 := h.andIf (·.wdStop)
  have hgo : ∀ {u : State} {e : Bool}, Keeps s₀ u → Keeps s₀ (go u e) := fun hu => hu.pwrUpd.stopLines.fastNext
  split
  · exact (hgo h0).ite h0
  · exact h0.ite (hgo h0.put)
  · exact h0

theorem Keeps.fastStopRailOff (h : Keeps s₀ s) {vbakMv : Nat} : Keeps s₀ (s.fastStopRailOff vbakMv) := by
  unfold State.fastStopRailOff
  split
  · exact h.orIf (·.fastNext)
  · exact h

theorem Keeps.supFlag (h : Keeps s₀ s) {c : Nat} {ov : Bool} : Keeps s₀ (s.supFlag c ov) := h.orIf (·.setBit.raise)

theorem Keeps.supervisorAssert (h : Keeps s₀ s) {c : Nat} {ov : Bool} {sinceFallUs : Nat} :
    Keeps s₀ (s.supervisorAssert c ov sinceFallUs) := by
  unfold State.supervisorAssert
  split
  · exact h.orIf (·.seqUpd.pgSet)
  · split
    · extract_lets s1 s2
      have h1 : Keeps s₀ s1 := h.seqUpd
      have h2 : Keeps s₀ s2 := h1.supFlag.pgSet
      split
      · split
        · exact h2.railOffDis.setBit.andIf (·.put)
        · exact h2
      · exact h2.lullStart
      · exact h2
    · exact h

theorem Keeps.supervisorRelease (h : Keeps s₀ s) {c : Nat} {ov : Bool} :
    Keeps s₀ (s.supervisorRelease c ov) := h.andIf (·.seqUpd)

theorem Keeps.cutAll (h : Keeps s₀ s) : Keeps s₀ (s.cutAll) :=
  (Keeps.foldl (fun _ _ hx => hx.andIf (·.linTripFor)) (Keeps.foldl (fun _ _ hx => hx.andIf (·.swLatch)) h _) _).portCut.portCut.scCut

theorem Keeps.thermalCut (h : Keeps s₀ s) {i : Fin 8} : Keeps s₀ (s.thermalCut i) := by
  unfold State.thermalCut
  split
  · exact h
  · extract_lets s1 s2 s3
    have h1 : Keeps s₀ s1 := h.seqUpd
    split
    · exact h1
    · exact (h1.raise.put.andIf (·.bump)).cutAll

theorem Keeps.cutRelease (h : Keeps s₀ s) {i : Fin 8} : Keeps s₀ (s.cutRelease i) := h.seqUpd

theorem Keeps.rstNAssert (h : Keeps s₀ s) : Keeps s₀ (s.rstNAssert) := h.andIf (·.put.pwrUpd.fastStop)

theorem Keeps.rstNRelease (h : Keeps s₀ s) : Keeps s₀ (s.rstNRelease) := h.pwrUpd

theorem Keeps.wdExpire (h : Keeps s₀ s) : Keeps s₀ (s.wdExpire) := h.andIf (·.put.fastStop)

theorem Keeps.adcUpd (h : Keeps s₀ s) {f : AdcSt → AdcSt} : Keeps s₀ (s.adcUpd f) := h.quiet

theorem Keeps.slotStart (h : Keeps s₀ s) {k : Nat} : Keeps s₀ (s.slotStart k) := h.put.put.adcUpd

theorem Keeps.seqStart (h : Keeps s₀ s) : Keeps s₀ (s.seqStart) := h.adcUpd.slotStart

theorem Keeps.slotNext (h : Keeps s₀ s) : Keeps s₀ (s.slotNext) := h.put.seqStart.ite h.slotStart

theorem Keeps.adcRun (h : Keeps s₀ s) : Keeps s₀ (s.adcRun) := by
  unfold State.adcRun
  split
  · exact h
  · extract_lets s1
    have h1 : Keeps s₀ s1 := h.put
    exact h1.put.ite h1.seqStart

theorem Keeps.adcStop (h : Keeps s₀ s) : Keeps s₀ (s.adcStop) := h.put

theorem Keeps.adcFifoClr (h : Keeps s₀ s) : Keeps s₀ (s.adcFifoClr) := h.adcUpd

theorem Keeps.adcCalGo (h : Keeps s₀ s) : Keeps s₀ (s.adcCalGo) := h.put

theorem Keeps.adcCtlWrite (h : Keeps s₀ s) {ring : Nat} {v : Word} : Keeps s₀ (s.adcCtlWrite ring v) := by
  unfold State.adcCtlWrite
  split
  · exact h
  · extract_lets s1 s2 s3 s4
    have h2 : Keeps s₀ s2 := h.put.andIf (·.adcUpd)
    exact ((h2.adcRun.ite h2.adcStop).andIf (·.adcFifoClr)).andIf (·.adcCalGo)

theorem Keeps.adcSlotWrite (h : Keeps s₀ s) {k : Nat} {ring : Nat} {v : Word} :
    Keeps s₀ (s.adcSlotWrite k ring v) := h.plainWrite.andIf (·.put)

theorem Keeps.adcPush (h : Keeps s₀ s) {e : AdcEntry} : Keeps s₀ (s.adcPush e) := by
  unfold State.adcPush
  split
  · exact h.adcUpd.andIf (·.raise)
  · exact h.put.bump

theorem Keeps.adcWindow (h : Keeps s₀ s) {k : Nat} {hit : Bool} :
    Keeps s₀ (s.adcWindow k hit) := h.andIf (·.setBit.raise)

theorem Keeps.adcResult (h : Keeps s₀ s) {k : Nat} {cs : List Int} :
    Keeps s₀ (s.adcResult k cs) := (h.put.put.put.andIf (·.adcPush)).adcWindow

theorem Keeps.adcSlotResult (h : Keeps s₀ s) {cs : List Int} : Keeps s₀ (s.adcSlotResult cs) := by
  unfold State.adcSlotResult
  split
  · extract_lets s1
    have h1 : Keeps s₀ s1 := h.adcResult
    exact h1.slotNext.ite h1.put
  · exact h

theorem Keeps.adcCalDone (h : Keeps s₀ s) {o : AdcCalObs} : Keeps s₀ (s.adcCalDone o) := by
  unfold State.adcCalDone
  split
  · extract_lets why s1 s2 s3
    have h3 : Keeps s₀ s3 := (h.put.put.put.andIf (·.put.put.tickFree)).raise
    exact (h3.slotNext.ite h3.seqStart).ite h3.put
  · exact h

theorem Keeps.adcFifoRead (h : Keeps s₀ s) : Keeps s₀ s.adcFifoRead.2 := by
  unfold State.adcFifoRead
  split
  · dsimp only
    exact h.adcUpd
  · exact h.tickFree

theorem Keeps.adcResRead (h : Keeps s₀ s) {k : Nat} : Keeps s₀ (s.adcResRead k).2 := h.put

theorem Keeps.adcLoad (h : Keeps s₀ s) : Keeps s₀ (s.adcLoad) := h.adcUpd.tickFree

theorem Keeps.adcCold (h : Keeps s₀ s) : Keeps s₀ (s.adcCold) := h.coldWindow.adcUpd

theorem Keeps.thermUpd (h : Keeps s₀ s) {f : ThermSt → ThermSt} : Keeps s₀ (s.thermUpd f) := h.quiet

theorem Keeps.degrade (h : Keeps s₀ s) : Keeps s₀ (s.degrade) := h.orIf (·.put.flagRaise)

theorem Keeps.suspStep (h : Keeps s₀ s) {ts : List Int} {i : Fin 8} : Keeps s₀ (s.suspStep ts i) := by
  unfold State.suspStep
  extract_lets run s1
  have h1 : Keeps s₀ s1 := h.thermUpd
  exact (h1.degrade.ite h1.setBit.flagRaise).ite h1

theorem Keeps.tjUpdate (h : Keeps s₀ s) {ts : List Int} : Keeps s₀ (s.tjUpdate ts) := by
  unfold State.tjUpdate
  exact h.put.put.put.thermUpd.tickFree

theorem Keeps.thermLull (h : Keeps s₀ s) {cut : Int} {vbakMv : Nat} :
    Keeps s₀ (s.thermLull cut vbakMv) := h.put.lullStart.ite h.put.thermRecord.fastStop

theorem Keeps.thrFlag (h : Keeps s₀ s) {was : Bool} {now : Bool} {st : Fld} {ev : Fld} :
    Keeps s₀ (s.thrFlag was now st ev) := h.putB.andIf (·.flagRaise)

theorem Keeps.thresholds (h : Keeps s₀ s) {warn : Int} {thr : Int} {lull : Int} {cut : Int} {vbakMv : Nat} :
    Keeps s₀ (s.thresholds warn thr lull cut vbakMv) :=
  ((h.thermUpd.thrFlag.thrFlag.andIf (·.bump)).thrFlag).andIf (·.thermLull)

theorem Keeps.thermScan (h : Keeps s₀ s) {r : TsReadings} {vbakMv : Nat} : Keeps s₀ (s.thermScan r vbakMv) := by
  unfold State.thermScan
  split
  · exact ((Keeps.foldl (fun _ _ hx => hx.suspStep) (Keeps.foldl (fun _ _ hx => hx.put) h _) _).andIf (·.degrade)).tjUpdate.thresholds
  · exact h

theorem Keeps.suspClear (h : Keeps s₀ s) {ring : Nat} {v : Word} : Keeps s₀ (s.suspClear ring v) :=
  Keeps.foldl (fun _ _ hx => hx.andIf (·.thermUpd)) h.plainWrite _

theorem Keeps.thermStatWrite (h : Keeps s₀ s) {ring : Nat} {v : Word} :
    Keeps s₀ (s.thermStatWrite ring v) := h.plainWrite.andIf (·.put)

theorem Keeps.thermCold (h : Keeps s₀ s) {keep : Nat → Bool} : Keeps s₀ (s.thermCold keep) := h.coldWindow.thermUpd

theorem Keeps.uartWatch (h : Keeps s₀ s) {old : State} {n : Fin 5} : Keeps s₀ (State.uartWatch old s n) := h.raise.ite h

theorem Keeps.rxPush (h : Keeps s₀ s) {u : Fin 5} {e : RxEntry} :
    Keeps s₀ (s.rxPush u e) := h.uartUpd.ite h.uartUpd.put.bump

theorem Keeps.rxFlags (h : Keeps s₀ s) {u : Fin 5} {j : Judge} :
    Keeps s₀ (s.rxFlags u j) := ((h.andIf (·.put.bump)).andIf (·.put.bump)).andIf (·.put)

theorem Keeps.uartRx (h : Keeps s₀ s) {n : Fin 5} {bits : List (List Bool)} : Keeps s₀ (s.uartRx n bits) := by
  unfold State.uartRx
  extract_lets f j s1 s2
  have h1 : Keeps s₀ s1 := h.rxFlags.put.uartUpd
  have h2 : Keeps s₀ s2 := h1.andIf (·.rxPush)
  exact h2.tickFree.uartWatch.ite h

theorem Keeps.uartBreakEnd (h : Keeps s₀ s) {u : Fin 5} : Keeps s₀ (s.uartBreakEnd u) := h.andIf (·.uartUpd)

theorem Keeps.uartIdle (h : Keeps s₀ s) {u : Fin 5} : Keeps s₀ (s.uartIdle u) := h.andIf (·.put.uartWatch)

theorem Keeps.uartDataRead (h : Keeps s₀ s) {n : Fin 5} : Keeps s₀ (s.uartDataRead n).2 := by
  unfold State.uartDataRead
  split
  · split
    · dsimp only
      exact h.uartUpd
    · exact h.tickFree
  · exact h

theorem Keeps.uartKick (h : Keeps s₀ s) {u : Fin 5} : Keeps s₀ (s.uartKick u) := by
  unfold State.uartKick
  split
  · split
    · exact h.uartUpd
    · exact h
  · exact h

theorem Keeps.ownErr (h : Keeps s₀ s) {u : Nat} : Keeps s₀ (s.ownErr u) := h.put

theorem Keeps.uartDataWrite (h : Keeps s₀ s) {u : Fin 5} {ring : Nat} {v : Word} :
    Keeps s₀ (s.uartDataWrite u ring v) := by
  unfold State.uartDataWrite
  split
  · exact h.ownErr
  · split
    · exact h
    · split
      · exact h.ownErr
      · exact h.uartUpd.uartKick.uartWatch

theorem Keeps.uartTx (h : Keeps s₀ s) {u : Fin 5} : Keeps s₀ (s.uartTx u) := by
  unfold State.uartTx
  split
  · exact h.andIf (·.uartUpd.uartKick.uartWatch)
  · exact h

theorem Keeps.uartRxFlush (h : Keeps s₀ s) {u : Fin 5} : Keeps s₀ (s.uartRxFlush u) := h.uartUpd

theorem Keeps.uartTxFlush (h : Keeps s₀ s) {u : Fin 5} : Keeps s₀ (s.uartTxFlush u) := h.uartUpd.uartWatch

theorem Keeps.uartBrk (h : Keeps s₀ s) {u : Fin 5} {on : Bool} :
    Keeps s₀ (s.uartBrk u on) := h.putB.uartKick.uartWatch

theorem Keeps.owned (h : Keeps s₀ s) {n r : Nat} {f : State → State} (hf : Keeps s₀ (f s)) :
    Keeps s₀ (s.owned n r f) :=
  h.ownErr.ite (h.ite hf)

theorem Keeps.uartCtlWrite (h : Keeps s₀ s) {n : Fin 5} {ring : Nat} {v : Word} :
    Keeps s₀ (s.uartCtlWrite n ring v) :=
  h.owned ((h.andIf (·.uartRxFlush)).andIf (·.uartTxFlush)).uartBrk

theorem Keeps.uartDivWrite (h : Keeps s₀ s) {n : Fin 5} {ring : Nat} {v : Word} :
    Keeps s₀ (s.uartDivWrite n ring v) :=
  h.owned (h.put.ite h.plainWrite)

theorem Keeps.uartCfgWrite (h : Keeps s₀ s) {n : Fin 5} {ring : Nat} {v : Word} :
    Keeps s₀ (s.uartCfgWrite n ring v) :=
  h.owned h.plainWrite.uartUpd.uartKick.uartWatch

theorem Keeps.uartEvenWrite (h : Keeps s₀ s) {n : Fin 5} {ring : Nat} {v : Word} :
    Keeps s₀ (s.uartEvenWrite n ring v) :=
  h.owned h.plainWrite.uartWatch

theorem Keeps.pwmLoad (h : Keeps s₀ s) {n : Fin 6} : Keeps s₀ (s.pwmLoad n) := h.pwmUpd

theorem Keeps.pwmClose (h : Keeps s₀ s) {n : Fin 6} : Keeps s₀ (s.pwmClose n) := h.put.pwmUpd

theorem Keeps.pwmBegin (h : Keeps s₀ s) {n : Fin 6} : Keeps s₀ (s.pwmBegin n) := h.pwmLoad.pwmClose.put.put.put

theorem Keeps.pwmHalt (h : Keeps s₀ s) {n : Fin 6} : Keeps s₀ (s.pwmHalt n) := h.pwmClose.put.put

theorem Keeps.pwmWrap (h : Keeps s₀ s) {n : Fin 6} : Keeps s₀ (s.pwmWrap n) := by
  unfold State.pwmWrap
  split
  · exact h.pwmLoad.put.put.pwmUpd
  · exact h

theorem Keeps.pwmWindowEnd (h : Keeps s₀ s) {n : Fin 6} : Keeps s₀ (s.pwmWindowEnd n) := h.andIf (·.pwmClose)

theorem Keeps.pwmLatch (h : Keeps s₀ s) {n : Fin 6} : Keeps s₀ (s.pwmLatch n) := h.pwmHalt.put.raise

theorem Keeps.pwmTrip (h : Keeps s₀ s) {n : Fin 6} {flt0 : FltPin} {flt1 : FltPin} :
    Keeps s₀ (s.pwmTrip n flt0 flt1) := by
  unfold State.pwmTrip
  split
  · extract_lets s1 s2 s3 s4
    have h1 : Keeps s₀ s1 := h.put.bump
    have h3 : Keeps s₀ s3 := (h1.ite (h1.put.raise.ite h1.put)).andIf (·.pwmClose)
    exact (h3.put.pwmUpd.ite h3.put).andIf (·.pwmLatch)
  · exact h

theorem Keeps.pwmStart (h : Keeps s₀ s) {ring : Nat} {v : Word} : Keeps s₀ (s.pwmStart ring v) :=
  h.ite (Keeps.foldl (fun _ _ hx => hx.andIf (·.pwmLoad.put.put)) h _)

theorem Keeps.pwmStatWrite (h : Keeps s₀ s) {n : Fin 6} {ring : Nat} {v : Word} {flt0 : FltPin} {flt1 : FltPin} :
    Keeps s₀ (s.pwmStatWrite n ring v flt0 flt1) := by
  unfold State.pwmStatWrite
  split
  · exact h
  · extract_lets latched s1 s2
    have h1 : Keeps s₀ s1 := h.plainWrite.putB
    split
    · split
      · exact h1.put
      · exact h1.put.andIf (·.pwmBegin)
    · exact h1

theorem Keeps.pwmPark (h : Keeps s₀ s) {n : Fin 6} {latched : Bool} :
    Keeps s₀ (s.pwmPark n latched) := h.tickFree.put.andIf (·.put)

theorem Keeps.pwmCtlWrite (h : Keeps s₀ s) {n : Fin 6} {ring : Nat} {v : Word} :
    Keeps s₀ (s.pwmCtlWrite n ring v) := by
  unfold State.pwmCtlWrite
  extract_lets was s1 s2
  have h1 : Keeps s₀ s1 := h.plainWrite
  split
  · exact h1.orIf (·.pwmBegin)
  · exact (h1.andIf (·.pwmHalt)).andIf (·.pwmPark)

theorem Keeps.pwmCold (h : Keeps s₀ s) {k : Nat → Bool} : Keeps s₀ (s.pwmCold k) := h.quiet

theorem Keeps.entUnserved (h : Keeps s₀ s) {i : Nat} {status : Nat} {k : Nat} {door : Bool} :
    Keeps s₀ (s.entUnserved i status k door) := h.entWrite

theorem Keeps.sendRequest (h : Keeps s₀ s) {p : Fin 2} {x : Exch} : Keeps s₀ (s.sendRequest p x) := h.portUpd.tickFree

theorem Keeps.exchBegin (h : Keeps s₀ s) {p : Fin 2} {i : Nat} {k : Nat} {door : Bool} :
    Keeps s₀ (s.exchBegin p i k door) := ((h.andIf (·.calEnd)).put.put.engineRate).sendRequest

theorem Keeps.entRegion (h : Keeps s₀ s) {p : Fin 2} {i : Nat} {k : Nat} {door : Bool} :
    Keeps s₀ (s.entRegion p i k door) := h.entUnserved.put.cqAppend

theorem Keeps.entServe (h : Keeps s₀ s) {p : Fin 2} {i : Nat} {door : Bool} : Keeps s₀ (s.entServe p i door) := by
  unfold State.entServe
  extract_lets k s1
  have h1 : Keeps s₀ s1 := h.orIf (·.entWrite.cqAppend)
  exact h1.entRegion.ite (h1.entUnserved.cqAppend.ite (h1.entUnserved.ite (h1.entRegion.ite (h1.entWrite.ite h1.exchBegin))))

theorem Keeps.exchangeStart (h : Keeps s₀ s) {p : Fin 2} : Keeps s₀ (s.exchangeStart p) := by
  unfold State.exchangeStart
  split
  · split
    · extract_lets s1
      have h1 : Keeps s₀ s1 := h.put.portUpd
      exact h1.entRegion.ite (h1.entServe.ite h1.entUnserved.cqAppend)
    · split
      · exact h.entServe
      · exact h
  · exact h

theorem Keeps.entResync (h : Keeps s₀ s) {p : Fin 2} {i : Nat} :
    Keeps s₀ (s.entResync p i) := h.ite (h.setBytes.ite h.entRegion)

theorem Keeps.engineResync (h : Keeps s₀ s) {p : Fin 2} : Keeps s₀ (s.engineResync p) :=
  ((Keeps.foldl (fun _ _ hx => hx.entResync) h _).portUpd).ite h

theorem Keeps.requestSent (h : Keeps s₀ s) {p : Fin 2} : Keeps s₀ (s.requestSent p) := by
  unfold State.requestSent
  split
  · exact h.ite (h.exchEnd.ite h.portUpd)
  · exact h

theorem Keeps.tryFailed (h : Keeps s₀ s) {p : Fin 2} {x : Exch} {code : Nat} {st : Stored} :
    Keeps s₀ (s.tryFailed p x code st) := by
  unfold State.tryFailed
  split
  · extract_lets s1
    have h1 : Keeps s₀ s1 := h.exchCount.frameOver
    exact h1.sendRequest.ite h1.entRegion.exchOver
  · split
    · exact h.exchEnd
    · exact h.exchEnd
    · exact h.exchEnd

theorem Keeps.trySucceeded (h : Keeps s₀ s) {p : Fin 2} {x : Exch} {st : Stored} :
    Keeps s₀ (s.trySucceeded p x st) := by
  unfold State.trySucceeded
  extract_lets y
  split
  · exact h.exchEnd
  · exact h.exchEnd.ite h.sendRequest
  · exact h.exchEnd.ite h.sendRequest

theorem Keeps.hear (h : Keeps s₀ s) {p : Fin 2} {cs : List RxChar} : Keeps s₀ (s.hear p cs).1 := by
  unfold State.hear
  split
  · dsimp only
    exact h.portUpd
  · split
    · dsimp only
      exact h.bump.portUpd
    · exact h

theorem Keeps.afterRx (h : Keeps s₀ s) {p : Fin 2} {j : Judged} : Keeps s₀ (s.afterRx p j) := by
  unfold State.afterRx
  exact h.bump.portUpd

theorem Keeps.replyJudged (h : Keeps s₀ s) {p : Fin 2} {x : Exch} {j : Judged} : Keeps s₀ (s.replyJudged p x j) := by
  unfold State.replyJudged
  extract_lets s1 st code
  have h1 : Keeps s₀ s1 := h.afterRx
  exact h1.trySucceeded.ite h1.tryFailed

theorem Keeps.replyReceived (h : Keeps s₀ s) {p : Fin 2} {cs : List RxChar} : Keeps s₀ (s.replyReceived p cs) := by
  unfold State.replyReceived
  split
  · split
    · exact h.ite (h.hear.orIf (·.replyJudged))
    · exact h.hear
  · exact h

theorem Keeps.replyTimeout (h : Keeps s₀ s) {p : Fin 2} : Keeps s₀ (s.replyTimeout p) := by
  unfold State.replyTimeout
  split
  · exact h.andIf (·.tryFailed)
  · exact h

theorem Keeps.engDoorWrite (h : Keeps s₀ s) {p : Fin 2} {ring : Nat} {v : Word} :
    Keeps s₀ (s.engDoorWrite p ring v) := by
  unfold State.engDoorWrite
  split
  · exact h
  · split
    · exact h.put
    · exact h.put.portUpd

theorem Keeps.cqRead (h : Keeps s₀ s) {p : Fin 2} : Keeps s₀ (s.cqRead p).2 := by
  unfold State.cqRead
  split
  · dsimp only
    exact h.portUpd
  · exact h.tickFree

theorem Keeps.tgtResult (h : Keeps s₀ s) {p : Fin 2} {code : Nat} :
    Keeps s₀ (s.tgtResult p code) := h.cqAppend.tickFree

theorem Keeps.tgtAnswer (h : Keeps s₀ s) {p : Fin 2} {bs : List Byte} {code : Nat} :
    Keeps s₀ (s.tgtAnswer p bs code) := h.orIf (·.portUpd)

theorem Keeps.tgtUd2 (h : Keeps s₀ s) {p : Fin 2} {mine : Bool} : Keeps s₀ (s.tgtUd2 p mine) := by
  unfold State.tgtUd2
  exact h.ite (h.put.ite ((h.tgtAnswer.tickFree.ite h).ite h.tgtResult))

theorem Keeps.tgtStore {p : Fin 2} {body : List Byte} {code : Nat} (h : Keeps s₀ s)
    (hs : s.tgtStore p body code = some u) : Keeps s₀ u := by
  unfold State.tgtStore at hs
  split at hs
  split at hs
  · cases hs
  · split at hs
    · cases hs
    · cases hs
      exact h.bufWrite.tgtResult

theorem Keeps.tgtStoreOr (h : Keeps s₀ s) {p : Fin 2} {body : List Byte} {code : Nat} {f : State → State}
    (hf : ∀ {u}, Keeps s₀ u → Keeps s₀ (f u)) : Keeps s₀ (s.tgtStoreOr p body code f) := by
  unfold State.tgtStoreOr
  split
  next hs => exact hf (h.tgtStore hs)
  next => exact h.put.ite h

theorem Keeps.tgtAct (h : Keeps s₀ s) {p : Fin 2} {j : Judged} : Keeps s₀ (s.tgtAct p j) := by
  unfold State.tgtAct
  extract_lets c a ci sel mine s1
  have h1 : Keeps s₀ s1 := h.andIf (·.put)
  exact Keeps.ite (h.ite ((h1.andIf (·.tgtAnswer)).ite ((h.tgtAnswer.ite h).ite (h.tgtUd2.ite h))))
    (Keeps.ite (((h.tgtStoreOr (·.put)).ite h).ite ((h.tgtStoreOr (·.tgtAnswer)).ite ((h.tgtStoreOr id).ite h))) h)

theorem Keeps.tgtFrames (h : Keeps s₀ s) {p : Fin 2} {n : Nat} {cs : List RxChar} : Keeps s₀ (s.tgtFrames p n cs) := by
  induction n generalizing s cs with
  | zero => exact h
  | succ n ih => exact h.ite (ih (h.afterRx.tgtAct.ite h.afterRx.tgtResult))

theorem Keeps.targetFrame (h : Keeps s₀ s) {p : Fin 2} {cs : List RxChar} : Keeps s₀ (s.targetFrame p cs) :=
  h.hear.tgtFrames.ite h

theorem Keeps.rxGapTimeout (h : Keeps s₀ s) {p : Fin 2} : Keeps s₀ (s.rxGapTimeout p) := by
  unfold State.rxGapTimeout
  extract_lets quiet s0
  have h0 : Keeps s₀ s0 := h.portUpd
  split
  · exact h0
  · split
    · exact h0.tgtResult
    · split
      · exact h0.andIf (·.tryFailed)
      · exact h0

theorem Keeps.targetAnswer (h : Keeps s₀ s) {p : Fin 2} : Keeps s₀ (s.targetAnswer p) := by
  unfold State.targetAnswer
  split
  · split
    · split
      · exact h.put
      · exact h.portUpd.answerOver.orIf (·.tgtResult)
    · exact h
  · exact h

theorem Keeps.tselAccept (h : Keeps s₀ s) {p : Fin 2} {ring : Nat} :
    Keeps s₀ (s.tselAccept p ring) := h.andIf (·.put.put.tgtAnswer)

theorem Keeps.tselReject (h : Keeps s₀ s) {p : Fin 2} {ring : Nat} :
    Keeps s₀ (s.tselReject p ring) := h.andIf (·.put.put)

theorem Keeps.tselWrite (h : Keeps s₀ s) {p : Fin 2} {ring : Nat} {v : Word} :
    Keeps s₀ (s.tselWrite p ring v) := h.tselReject.ite (h.andIf (·.tselAccept))

theorem Keeps.tsetWrite (h : Keeps s₀ s) {p : Fin 2} {ring : Nat} {v : Word} :
    Keeps s₀ (s.tsetWrite p ring v) := h.plainWrite.andIf (·.engineRate)

theorem Keeps.selectionTimeout (h : Keeps s₀ s) {p : Fin 2} : Keeps s₀ (s.selectionTimeout p) := h.andIf (·.put.put)

theorem Keeps.moscOk (h : Keeps s₀ s) : Keeps s₀ (s.moscOk) := h.andIf (·.put)

theorem Keeps.pllLock (h : Keeps s₀ s) : Keeps s₀ (s.pllLock) := h.andIf (·.put.pwrUpd)

theorem Keeps.fllWindow (h : Keeps s₀ s) {count : Nat} : Keeps s₀ (s.fllWindow count) := by
  unfold State.fllWindow
  split
  · exact h.pwrUpd.andIf (·.put)
  · exact h

theorem Keeps.xtalFail (h : Keeps s₀ s) : Keeps s₀ (s.xtalFail) := h.andIf (·.put.put.raise.pwrUpd)

theorem Keeps.fllResume (h : Keeps s₀ s) : Keeps s₀ (s.fllResume) := h.andIf (·.pwrUpd.xtalEdge)

theorem Keeps.syncInValid (h : Keeps s₀ s) : Keeps s₀ (s.syncInValid) := h.andIf (·.put)

theorem Keeps.syncLost (h : Keeps s₀ s) : Keeps s₀ (s.syncLost) := h.andIf (·.put.put.raise)

theorem Keeps.clkcfgWrite (h : Keeps s₀ s) {ring : Nat} {v : Word} : Keeps s₀ (s.clkcfgWrite ring v) := by
  unfold State.clkcfgWrite
  split
  · exact h
  · exact (((h.plainWrite.andIf (·.put)).andIf (·.put)).orIf (·.put)).andIf (·.put.raise)

theorem Keeps.portCold (h : Keeps s₀ s) {p : Fin 2} {keep : Nat → Bool} :
    Keeps s₀ (s.portCold p keep) := h.coldWindow.portUpd

theorem Keeps.swCold (h : Keeps s₀ s) {n : Fin 6} {keep : Nat → Bool} :
    Keeps s₀ (s.swCold n keep) := h.coldWindow.swUpd

theorem Keeps.hostCold (h : Keeps s₀ s) : Keeps s₀ s.hostCold := by
  unfold State.hostCold
  extract_lets s1
  have h1 : Keeps s₀ s1 := Keeps.foldl (fun _ _ hx => hx.coldWindow) h _
  exact h1.quiet

theorem Keeps.domainOff (h : Keeps s₀ s) {d : Nat} : Keeps s₀ (s.domainOff d) := by
  unfold State.domainOff
  extract_lets s0
  have h0 : Keeps s₀ s0 := h.setPg
  split
  · exact h0.nvcColdRegs.qspiCold.dropLatch.dropLatch
  · split
    · exact h0.adcCold.thermCold.dropLatch.dropLatch
    · split
      · exact h0.hostCold.dropLatch
      · split
        · exact h0.portCold.dropLatch
        · split
          · exact h0.swCold.dropLatch
          · exact h0.ldoDomainOff.ite (h0.pwmCold.dropLatch.ite (h0.andIf (·.scLose)))

theorem Keeps.domStep (h : Keeps s₀ s) {want : Bool} {refuse : Bool} {d : Nat} :
    Keeps s₀ (s.domStep want refuse d) := h.ite (h.setBit.ite (h.put.ite h.clrBit.domainOff))

theorem Keeps.domctlWrite (h : Keeps s₀ s) {ring : Nat} {v : Word} : Keeps s₀ (s.domctlWrite ring v) := by
  unfold State.domctlWrite
  exact h.ite (Keeps.foldl (fun _ _ hx => hx.domStep.ite hx.domStep) h _)

theorem Keeps.domainPowerGood (h : Keeps s₀ s) {d : Nat} : Keeps s₀ (s.domainPowerGood d) := by
  unfold State.domainPowerGood
  split
  · extract_lets s1
    have h1 : Keeps s₀ s1 := h.setPg
    exact h1.nvcUp.ite (h1.adcLoad.ite (h1.portColdCaps.ite (h1.portColdCaps.ite (h1.engineRate.engineRate.ite (h1.andIf (·.latchesBack))))))
  · exact h

theorem Keeps.dozeEntry (h : Keeps s₀ s) : Keeps s₀ (s.dozeEntry) := h.andIf (·.pwrUpd)

theorem Keeps.loseBank (h : Keeps s₀ s) {b : Nat} : Keeps s₀ (s.loseBank b) := h.forget

theorem Keeps.calmEntry (h : Keeps s₀ s) : Keeps s₀ (s.calmEntry) := by
  unfold State.calmEntry
  split
  · exact (Keeps.foldl (fun _ _ hx => hx.orIf (·.loseBank)) (h.put.setPg.andIf (·.domainOff)) _).pwrUpd
  · exact h

theorem Keeps.calmWake (h : Keeps s₀ s) {src : WakeSrc} : Keeps s₀ (s.calmWake src) := by
  unfold State.calmWake
  split
  · exact h.put.put.setPg.pwrUpd.coreUpd.andIf (·.setPg.nvcUp)
  · exact h

theorem Keeps.billFireWake (h : Keeps s₀ s) {vstorMv : Nat} :
    Keeps s₀ (s.billFireWake vstorMv) := h.billFire.andIf (·.calmWake)

theorem Keeps.calmClockRestore (h : Keeps s₀ s) : Keeps s₀ (s.calmClockRestore) := h.pwrUpd

theorem Keeps.kernelTick (h : Keeps s₀ s) : Keeps s₀ (s.kernelTick) := h.andIf (·.raise)

theorem Keeps.clearSticky (h : Keeps s₀ s) {w : Fin 4} : Keeps s₀ (s.clearSticky w) := h.winUpd

theorem Keeps.discardFrame (h : Keeps s₀ s) {w : Fin 4} {f : Option FrameFlag} :
    Keeps s₀ (s.discardFrame w f) := h.bump.winUpd

theorem Keeps.commitFrame (h : Keeps s₀ s) {w : Fin 4} {c : HostCmd} :
    Keeps s₀ (s.commitFrame w c) := h.bump.orIf (·.winUpd)

theorem Keeps.frameDone (h : Keeps s₀ s) {w : Fin 4} {e : FrameEnd} : Keeps s₀ (s.frameDone w e) := by
  unfold State.frameDone
  split
  · exact h.discardFrame
  · exact h.discardFrame
  · exact h.commitFrame

theorem Keeps.twShow (h : Keeps s₀ s) {i : Fin 2} {out : List Byte} {acks : List Bool} :
    Keeps s₀ (s.twShow i out acks) := h.quiet

theorem Keeps.twAddress (h : Keeps s₀ s) {i : Fin 2} {b : Byte} : Keeps s₀ (s.twAddress i b) := by
  unfold State.twAddress
  extract_lets addr s1
  split
  · exact h.twShow.andIf (·.calmWake)
  · split
    · exact h.twShow.put
    · exact h.twShow

theorem Keeps.twEnd (h : Keeps s₀ s) {i : Fin 2} {e : TwEnd} : Keeps s₀ (s.twEnd i e) := by
  unfold State.twEnd
  split
  · extract_lets s1
    have h1 : Keeps s₀ s1 := h.put
    split
    · exact h1
    · exact h1.put.bump
    · exact h1.put
  · exact h.put

theorem Keeps.twWriteFrame (h : Keeps s₀ s) {i : Fin 2} {addr : Nat} {bs : List Byte} {e : TwEnd} :
    Keeps s₀ (s.twWriteFrame i addr bs e) := by
  unfold State.twWriteFrame
  split
  · exact h.twAddress
  · extract_lets fe s1 s2
    have h1 : Keeps s₀ s1 := h.orIf (·.frameDone)
    refine Keeps.twEnd ?_
    clear_value fe s1
    dsimp only [s2]
    split
    · exact h1.twShow
    · exact h1.bump.twShow
    · exact (h1.andIf (·.bump)).twShow

theorem Keeps.twRead (h : Keeps s₀ s) {i : Fin 2} {addr : Nat} {count : Nat} {e : TwEnd} :
    Keeps s₀ (s.twRead i addr count e) := by
  unfold State.twRead
  split
  · exact h.twAddress
  · exact h.twShow.twEnd.andIf (·.clearSticky)

theorem Keeps.sclTimeout (h : Keeps s₀ s) {i : Fin 2} : Keeps s₀ (s.sclTimeout i) := h.andIf (·.twEnd)

theorem Keeps.uartPoll (h : Keeps s₀ s) {u : Fin 3} {w : Fin 4} {crc : Byte} : Keeps s₀ (s.uartPoll u w crc) := by
  unfold State.uartPoll
  split
  · exact h.quiet.clearSticky
  · exact h.discardFrame

theorem Keeps.uartFrame (h : Keeps s₀ s) {n : Fin 3} {bs : List Byte} {badAt : Option Nat} :
    Keeps s₀ (s.uartFrame n bs badAt) := by
  unfold State.uartFrame
  split
  · exact h
  · refine h.ite (Keeps.ite ?_ h.frameDone)
    split
    · exact h.discardFrame
    · exact h.uartPoll

theorem Keeps.hostPoll (h : Keeps s₀ s) {u : Fin 3} {crc : Byte} : Keeps s₀ (s.hostPoll u crc) := by
  unfold State.hostPoll
  split
  · exact h.andIf (·.uartPoll)
  · exact h

theorem Keeps.uartGap (h : Keeps s₀ s) {u : Fin 3} : Keeps s₀ (s.uartGap u) := by
  unfold State.uartGap
  split
  · exact h.andIf (·.discardFrame)
  · exact h

theorem Keeps.winComplete (h : Keeps s₀ s) {w : Fin 4} {result : Nat} {data : List Byte} :
    Keeps s₀ (s.winComplete w result data) := h.winUpd

theorem Keeps.passTurn (h : Keeps s₀ s) {w : Fin 4} : Keeps s₀ (s.passTurn w) := h.quiet

theorem Keeps.serviceStart (h : Keeps s₀ s) {w : Fin 4} {c : HostCmd} : Keeps s₀ (s.serviceStart w c) := by
  unfold State.serviceStart
  extract_lets n t s1
  split
  · exact h.winComplete
  · exact h.quiet.raise

theorem Keeps.kernelStart (h : Keeps s₀ s) {w : Fin 4} {c : HostCmd} :
    Keeps s₀ (s.kernelStart w c) := h.quiet.passTurn.raise

theorem Keeps.dispatch (h : Keeps s₀ s) {w : Fin 4} : Keeps s₀ (s.dispatch w) := by
  unfold State.dispatch
  split
  · exact h
  · split
    · exact h
    · exact h.winComplete.ite (h.serviceStart.ite (h.andIf (·.kernelStart)))

theorem Keeps.serviceCommand (h : Keeps s₀ s) {w : Fin 4} : Keeps s₀ (s.serviceCommand w) := by
  unfold State.serviceCommand
  split
  · exact h.andIf (·.dispatch)
  · exact h

theorem Keeps.setPresented (h : Keeps s₀ s) {p : ExecPort} {x : Option Presented} :
    Keeps s₀ (s.setPresented p x) := by
  unfold State.setPresented
  split
  · exact h.quiet
  · exact h.quiet

theorem Keeps.portComplete (h : Keeps s₀ s) {p : ExecPort} {result : Nat} {data : List Byte} :
    Keeps s₀ (s.portComplete p result data) := by
  unfold State.portComplete
  split
  · exact h.setPresented.winComplete
  · exact h

theorem Keeps.serviceTimeout (h : Keeps s₀ s) {w : Fin 4} : Keeps s₀ (s.serviceTimeout w) := h.andIf (·.portComplete)

theorem Keeps.payRead (h : Keeps s₀ s) {p : ExecPort} : Keeps s₀ (s.payRead p).2 := by
  unfold State.payRead
  split
  · exact h.setPresented
  · exact h

theorem Keeps.rdatWrite (h : Keeps s₀ s) {p : ExecPort} {ring : Nat} {v : Word} :
    Keeps s₀ (s.rdatWrite p ring v) := by
  unfold State.rdatWrite
  split
  · exact h.andIf (·.setPresented)
  · exact h

theorem Keeps.doneWrite (h : Keeps s₀ s) {p : ExecPort} {ring : Nat} {v : Word} :
    Keeps s₀ (s.doneWrite p ring v) := by
  unfold State.doneWrite
  split
  · split
    · exact h.portComplete
    · exact h
  · exact h

theorem Keeps.regRead (h : Keeps s₀ s) {t : Tid} {a : Nat} : Keeps s₀ (s.regRead t a).2 := by
  unfold State.regRead
  split
  · exact h.cqRead
  · exact h.uartDataRead
  · exact h.adcResRead
  · exact h.payRead
  · split
    · exact h.adcFifoRead
    · split
      · exact h.ticklRead
      · split
        · exact h.evf0Read
        · exact h.tickFree

theorem Keeps.pwrRestart (h : Keeps s₀ s) : Keeps s₀ (s.pwrRestart) := h.pwrUpd.put.put

theorem Keeps.blocksCold (h : Keeps s₀ s) : Keeps s₀ s.blocksCold := h.coldCore

theorem Keeps.systemReset (h : Keeps s₀ s) : Keeps s₀ (s.systemReset) := by
  unfold State.systemReset
  split
  · exact h.nvcAbandon.wdStop.quiet.blocksCold.pwrRestart.andIf (·.quiet.setPg.setBit)
  · exact h

theorem Keeps.coldReset (h : Keeps s₀ s) {src : ColdSrc} : Keeps s₀ (s.coldReset src) := by
  unfold State.coldReset
  extract_lets s1 s2 s3 s4 _ _ s5
  have h1 : Keeps s₀ s1 := h.wdStop
  have h2 : Keeps s₀ s2 := h1.quiet
  have h4 : Keeps s₀ s4 := h2.blocksCold.pwrRestart.putB.bakUpd
  refine Keeps.ite ?_ h
  split
  · have h5 : Keeps s₀ (s4.put F.SYS_RSTCAUSE_COLD_VIN 1) := h4.put
    exact h5.quiet
  · exact Keeps.quiet (s := s5) h4.put.put.put.setPg.setBit

theorem Keeps.earlyRailStart (h : Keeps s₀ s) {fb : Nat} : Keeps s₀ (s.earlyRailStart fb) := by
  unfold State.earlyRailStart
  split
  · extract_lets s0
    have h0 : Keeps s₀ s0 := h.pwrUpd
    split
    · exact h0
    · exact h0.setBit.setBit.setPg.setPg.adcLoad.put.swEnable
  · exact h

theorem Keeps.islandCold (h : Keeps s₀ s) {w : Nat} : Keeps s₀ (s.islandCold w) := by
  unfold State.islandCold
  extract_lets s1 _ s1'
  have h1 : Keeps s₀ s1 := h.coldWindow.coreUpd
  have h1' : Keeps s₀ s1' := h.coldWindow
  exact h1.nvcUpd.scan.ite (.dite (fun _ => h.swCold) fun _ => h.coldWindow.ite (h1'.quiet.ite (h.thermCold.ite
    (h.coldWindow.adcUpd.adcLoad.ite (h.portCold.ite (h.portCold.ite (h.pwmCold.ite (h.qspiCold.ite h))))))))

theorem Keeps.islandReset (h : Keeps s₀ s) {w : Nat} : Keeps s₀ (s.islandReset w) := by
  unfold State.islandReset
  split
  · exact h.put
  · split
    · exact h.andIf (·.islandCold)
    · exact h.islandCold

theorem Keeps.sysRstWrite (h : Keeps s₀ s) {ring : Nat} {v : Word} :
    Keeps s₀ (s.sysRstWrite ring v) := h.ite (h.put.ite (h.andIf (·.islandReset)))

theorem Keeps.protWrite (h : Keeps s₀ s) {off : Nat} {ring : Nat} {v : Word} :
    Keeps s₀ (s.protWrite off ring v) := h.plainWrite.andIf (·.coreUpd)

theorem Keeps.swsig (h : Keeps s₀ s) {ring : Nat} {v : Word} :
    Keeps s₀ (s.swsig ring v) := h.andIf (·.pendAll.dozeExit)

theorem Keeps.haltThread (h : Keeps s₀ s) {t : Tid} : Keeps s₀ (s.haltThread t) := by
  unfold State.haltThread
  split
  next => exact h
  next ht => exact h.setThr fun e => absurd e ht

theorem Keeps.evpendClear (h : Keeps s₀ s) {t : Tid} {sh : Nat} {v : Word} : Keeps s₀ (s.evpendClear t sh v) :=
  h.setThr_same rfl

theorem Keeps.evtWrite (h : Keeps s₀ s) {off : Nat} {ring : Nat} {v : Word} : Keeps s₀ (s.evtWrite off ring v) := by
  unfold State.evtWrite
  split
  · exact h
  · split
    · exact h.swsig
    · split
      · extract_lets t s1
        split
        · exact h.plainWrite.andIf (·.haltThread)
        · exact h.evpendClear.ite (h.andIf (·.evpendClear))
      · exact h.plainWrite

theorem Keeps.sysWrite (h : Keeps s₀ s) {off : Nat} {ring : Nat} {v : Word} : Keeps s₀ (s.sysWrite off ring v) :=
  h.clkcfgWrite.ite (h.domctlWrite.ite (h.sysRstWrite.ite h.plainWrite))

theorem Keeps.swWrite (h : Keeps s₀ s) {n : Fin 6} {off : Nat} {ring : Nat} {v : Word} {e : Sense} :
    Keeps s₀ (s.swWrite n off ring v e) :=
  h.swCtlWrite.ite (h.swRefWrite.ite (h.swCalWrite.ite h.plainWrite))

theorem Keeps.seqWrite (h : Keeps s₀ s) {off : Nat} {ring : Nat} {v : Word} :
    Keeps s₀ (s.seqWrite off ring v) := h.linWrite.ite (h.lullGo.ite h.plainWrite)

theorem Keeps.thermWrite (h : Keeps s₀ s) {off : Nat} {ring : Nat} {v : Word} :
    Keeps s₀ (s.thermWrite off ring v) := h.thermStatWrite.ite (h.suspClear.ite h.plainWrite)

theorem Keeps.adcWrite (h : Keeps s₀ s) {off : Nat} {ring : Nat} {v : Word} :
    Keeps s₀ (s.adcWrite off ring v) := h.adcCtlWrite.ite (h.adcSlotWrite.ite h.plainWrite)

theorem Keeps.engCtlWrite (h : Keeps s₀ s) {p : Fin 2} {ring : Nat} {v : Word} :
    Keeps s₀ (s.engCtlWrite p ring v) := h.plainWrite.orIf (·.portUpd)

theorem Keeps.portStore (h : Keeps s₀ s) {p : Fin 2} {off : Nat} {ring : Nat} {v : Word} {e : Sense} :
    Keeps s₀ (s.portStore p off ring v e) :=
  h.portCtlWrite.ite (h.portLineWrite.ite (h.portLedgWrite.ite (h.portLimWrite.ite (h.portMeasWrite.ite (h.portCalWrite.ite (h.portLedgsWrite.ite (h.engCtlWrite.ite (h.engDoorWrite.ite (h.tsetWrite.ite (h.tselWrite.ite h.plainWrite))))))))))

theorem Keeps.portWrite (h : Keeps s₀ s) {p : Fin 2} {off : Nat} {ring : Nat} {v : Word} {e : Sense} :
    Keeps s₀ (s.portWrite p off ring v e) := h.portStore.checkUl

theorem Keeps.hostWrite (h : Keeps s₀ s) {off : Nat} {ring : Nat} {v : Word} : Keeps s₀ (s.hostWrite off ring v) :=
  h.rdatWrite.ite (h.doneWrite.ite (h.rdatWrite.ite (h.doneWrite.ite h.plainWrite)))

theorem Keeps.uartWrite (h : Keeps s₀ s) {u : Fin 5} {off : Nat} {ring : Nat} {v : Word} :
    Keeps s₀ (s.uartWrite u off ring v) :=
  h.uartCfgWrite.ite (h.uartDivWrite.ite (h.uartDataWrite.ite (h.uartEvenWrite.ite (h.uartCtlWrite.ite h.plainWrite))))

theorem Keeps.pwmWrite (h : Keeps s₀ s) {off : Nat} {ring : Nat} {v : Word} {e : Sense} :
    Keeps s₀ (s.pwmWrite off ring v e) :=
  h.pwmCtlWrite.ite (h.pwmStatWrite.ite (h.pwmStart.ite h.plainWrite))

theorem Keeps.bakWrite (h : Keeps s₀ s) {off : Nat} {ring : Nat} {v : Word} : Keeps s₀ (s.bakWrite off ring v) :=
  (h.ite ((h.andIf (·.setWord)).ite h.setWord)).ite (h.billArm.ite (h.wdCfgWrite.ite (h.wdKick.ite (h.recclr.ite h.plainWrite))))

theorem Keeps.writeWord (h : Keeps s₀ s) {a ring : Nat} {v : Word} {e : Sense} : Keeps s₀ (s.writeWord a ring v e) := by
  unfold State.writeWord
  exact h.sysWrite.ite ((h.otpCmdWrite.ite h.plainWrite).ite ((h.nvcCmdWrite.ite h.plainWrite).ite
    (h.protWrite.ite (h.evtWrite.ite (.dite (fun _ => h.swWrite) fun _ =>
      (h.scCtlWrite.ite h.plainWrite).ite ((h.chgCtlWrite.ite h.plainWrite).ite
        (h.seqWrite.ite (h.thermWrite.ite (h.adcWrite.ite (.dite (fun _ => h.portWrite) fun _ =>
          h.hostWrite.ite (.dite (fun _ => h.uartWrite) fun _ => h.pwmWrite.ite (h.bakWrite.ite
            ((h.qspiCtlWrite.ite h.plainWrite).ite h.plainWrite)))))))))))))

theorem Keeps.setWins (h : Keeps s₀ s) {old : State} {a : Nat} {v : Word} : Keeps s₀ (old.setWins s a v) :=
  Keeps.foldl (fun _ _ hx => hx.put.ite hx) h _

theorem Keeps.applyWrite (h : Keeps s₀ s) {a ring : Nat} {v : Word} {e : Sense} : Keeps s₀ (s.applyWrite a ring v e) :=
  h.writeWord.setWins

theorem Keeps.lateFault (h : Keeps s₀ s) {e : SbEntry} : Keeps s₀ (s.lateFault e) := by
  refine Keeps.tickFree (h.setThr fun ht hx => ?_)
  rw [← ht]
  unfold State.owes at hx
  dsimp only at hx
  split at hx
  · cases hx
  · exact hx

theorem Keeps.retireEntry (h : Keeps s₀ s) {e : SbEntry} : Keeps s₀ (s.retireEntry e) := by
  unfold State.retireEntry
  split
  · exact h.setWordBe
  · exact h.lateFault.ite h.coreUpd
  · exact h.andIf (·.applyWrite)
  · exact h

theorem Keeps.storeRetire (h : Keeps s₀ s) : Keeps s₀ (s.storeRetire) := by
  unfold State.storeRetire
  split
  · exact h
  · exact h.coreUpd.retireEntry.retryStalls

theorem Keeps.retireN (h : Keeps s₀ s) {n : Nat} : Keeps s₀ (s.retireN n) := by
  induction n generalizing s with
  | zero => exact h
  | succ n ih => exact ih h.storeRetire

theorem Keeps.drainSb (h : Keeps s₀ s) : Keeps s₀ (s.drainSb) := h.retireN

theorem Keeps.loadAhead (h : Keeps s₀ s) {isl : Island} : Keeps s₀ (s.loadAhead isl) := by
  refine h.mapThr fun x hx => ?_
  split at hx
  · split at hx
    · exact hx
    · exact hx
  · split at hx
    · exact hx
    · exact hx
  · exact hx

theorem Keeps.applyEntry (h : Keeps s₀ s) {x : SbEntry} {e : Sense} : Keeps s₀ (s.applyEntry x e) := by
  unfold State.applyEntry
  split
  · exact h.applyWrite
  · exact h.applySetv
  · exact h.applyRamp
  · exact h.applyRail

theorem Keeps.latchApply (h : Keeps s₀ s) {isl : Island} {e : Sense} : Keeps s₀ (s.latchApply isl e) := by
  unfold State.latchApply
  split
  · split
    · exact h.coreUpd.applyEntry.loadAhead.retryStalls
    · exact h
  · exact h

theorem Keeps.sbPush (h : Keeps s₀ s) {e : SbEntry} : Keeps s₀ (s.sbPush e) := h.coreUpd

theorem Keeps.squall (h : Keeps s₀ s) {cause : Nat} {t : Tid} {detail : Nat} : Keeps s₀ (s.squall cause t detail) := by
  unfold State.squall
  extract_lets s1
  have h1 : Keeps s₀ s1 := by
    refine Keeps.mapThr ?_ fun _ hx => hx
    exact h.drainSb.coreUpd
  exact h.ite h1.squallRecord.put.lullStart

theorem Keeps.writeWords (h : Keeps s₀ s) {a : Nat} {l : List Word} : Keeps s₀ (s.writeWords a l) := by
  induction l generalizing s a with
  | nil => exact h
  | cons w t ih => exact ih h.setWord

/-- A frame that is pushed is written to memory, and only its pointer changes in the thread. -/
theorem Keeps.pushFrame {t : Tid} {r : Fin 3} {f : State.Frame} {a : Word} (h : Keeps s₀ s)
    (hp : s.pushFrame t r f = .ok (u, a)) : Keeps s₀ u := by
  unfold State.pushFrame at hp
  split at hp
  · cases hp
  · dsimp only at hp
    split at hp
    · cases hp
    · split at hp
      · cases hp
      · cases hp
        exact h.writeWords.setThr_same rfl

theorem Keeps.enter (h : Keeps s₀ s) {t : Tid} {q : State.EntryReq} : Keeps s₀ (s.enter t q) := by
  unfold State.enter
  extract_lets x info
  split
  next => exact h.squall
  next hp =>
    refine Keeps.put ((h.pushFrame hp).setThr fun ht hx => ?_)
    by_contra hne
    rw [← ht] at hne
    exact TState.noConfusion ((if_neg hne).symm.trans hx)

theorem Keeps.double (h : Keeps s₀ s) {t : Tid} {cause : Nat} {faddr : Word} : Keeps s₀ (s.double t cause faddr) := by
  unfold State.double
  extract_lets x
  split
  · exact h.squall
  · split
    · exact h.squall
    · exact h.enter

theorem Keeps.fault (h : Keeps s₀ s) {t : Tid} {cause : Nat} {a : Word} : Keeps s₀ (s.fault t cause a) := by
  unfold State.fault
  extract_lets d x
  have hd : Keeps s₀ d := h.drainSb
  split
  · split
    · exact hd.enter
    · exact hd.double
  · exact hd.double

theorem Keeps.unpend (h : Keeps s₀ s) {t : Tid} {k : Nat} : Keeps s₀ (s.unpend t k) := h.setThr_same rfl

theorem Keeps.noVec (h : Keeps s₀ s) : Keeps s₀ (s.noVec) := h.put

theorem Keeps.eventEntry (h : Keeps s₀ s) {k : Nat} : Keeps s₀ (s.eventEntry k) := by
  unfold State.eventEntry
  split
  · split
    · exact h.noVec
    · split
      · exact (h.drainSb.unpend).enter
      · exact h
  · exact h

theorem Keeps.galeEntry (h : Keeps s₀ s) {k : Nat} : Keeps s₀ (s.galeEntry k) := by
  unfold State.galeEntry
  split
  · split
    · exact h.noVec
    · split
      · exact h.drainSb.unpend.unpend.enter.orIf (·.coreUpd)
      · exact h
  · exact h

theorem Keeps.eddyMask (h : Keeps s₀ s) {t : Tid} : Keeps s₀ (s.eddyMask t) := h.andIf (·.put.put)

theorem Keeps.eddyDetect (h : Keeps s₀ s) : Keeps s₀ s.eddyDetect := by
  unfold State.eddyDetect
  extract_lets s1 s2 s3
  have h2 : Keeps s₀ s2 := Keeps.foldl (fun _ _ hx => hx.eddyMask) h.put _
  have h3 : Keeps s₀ s3 := h2.put.coreUpd
  exact (h3.andIf (·.pwrUpd)).ite h

theorem Keeps.eddyEntry (h : Keeps s₀ s) : Keeps s₀ (s.eddyEntry) := by
  unfold State.eddyEntry
  split
  · extract_lets s
    have h' : Keeps s₀ s := h.drainSb.coreUpd
    split
    · exact h'.enter
    · split
      · exact h'.squall
      · exact h'.double
  · exact h

theorem Keeps.gmLimit (h : Keeps s₀ s) : Keeps s₀ (s.gmLimit) := by
  unfold State.gmLimit
  split
  · exact h.andIf (·.squall)
  · exact h

theorem Keeps.galeLimit (h : Keeps s₀ s) : Keeps s₀ (s.galeLimit) := by
  unfold State.galeLimit
  split
  · exact h.andIf (·.squall)
  · exact h

theorem Keeps.hwPending (h : Keeps s₀ s) {k : Nat} : Keeps s₀ (s.hwPending k) := by
  unfold State.hwPending
  split
  · exact h.coreUpd.pendAll.dozeExit.andIf (·.pwrUpd)
  · exact h

theorem Keeps.galeCount (h : Keeps s₀ s) {t : Tid} {n : Nat} : Keeps s₀ (s.galeCount t n) := by
  unfold State.galeCount
  split
  · exact (h.squall.ite h.coreUpd).ite h
  · exact h

theorem Keeps.gmCount (h : Keeps s₀ s) {t : Tid} {was : Bool} {n : Nat} :
    Keeps s₀ (s.gmCount t was n) := h.squall.ite h.coreUpd

theorem Keeps.account (h : Keeps s₀ s) {old : State} {t : Tid} {n : Nat} : Keeps s₀ (State.account old s t n) := by
  unfold State.account
  extract_lets s1 _ s2
  have h1 : Keeps s₀ s1 := h.coreUpd
  have h2 : Keeps s₀ s2 := h1.setThr_same rfl
  exact h.ite h2.galeCount.gmCount

theorem Keeps.faulted (h : Keeps s₀ s) {old : State} {t : Tid} {n c : Nat} {a : Word} :
    Keeps s₀ (State.faulted old s t n c a) :=
  h.account.orIf (·.fault)

theorem Keeps.stallOn (h : Keeps s₀ s) {t : Tid} {y : Stall} : Keeps s₀ (s.stallOn t y) := h.setThr_same rfl

/-- Every state an instruction's own rules give keeps what no command breaks. -/
def Res.Keeps (s₀ : State) : Res → Prop
  | .done s _ => Machine.Keeps s₀ s
  | .flt _ _ => True
  | .part s _ _ _ => Machine.Keeps s₀ s
  | .stall s _ => Machine.Keeps s₀ s

theorem Res.Keeps.ite {c : Prop} [Decidable c] {r q : Res} (hr : r.Keeps s₀) (hq : q.Keeps s₀) :
    (if c then r else q).Keeps s₀ := by
  split
  · exact hr
  · exact hq

/-- An issued instruction keeps what its own rules keep, for a thread that is READY. -/
theorem Keeps.issue (h : Keeps s₀ s) {t : Tid} {len : Nat} {body : State → Thread → Res}
    (hb : (s.thr t).st = .ready → (body s (s.thr t)).Keeps s₀) : Keeps s₀ (s.issue t len body) := by
  unfold State.issue
  split
  next hc =>
    extract_lets x
    split
    · refine Keeps.fault ?_
      exact h.setThr_same rfl
    · split
      · exact h.stallOn
      · split
        · exact h.autoSuspend.stallOn
        · exact h.fault
        · have hr := hb (State.ready_of_canIssue hc)
          split
          next hd => rw [hd] at hr; exact hr.account
          next => exact h.faulted
          next hd => rw [hd] at hr; exact hr.faulted
          next hd => rw [hd] at hr; exact hr.stallOn
  next => exact h

/-- The issuing thread goes on, not halted by the instruction or not T0. -/
theorem Keeps.advance (h : Keeps s₀ s) {t : Tid} {len : Nat} {x : Thread} (hx : x.st = .ready) :
    Keeps s₀ (s.advance t len x) :=
  h.setThr_ready hx

theorem Keeps.jump (h : Keeps s₀ s) {t : Tid} {pc : Word} {x : Thread} (hx : x.st = .ready) :
    Keeps s₀ (s.jump t pc x) :=
  h.setThr_ready hx

theorem Keeps.plain (h : Keeps s₀ s) {t : Tid} {len n : Nat} {f : Thread → Thread} (hf : ∀ x, (f x).st = x.st := by
    intro _; rfl) : Keeps s₀ (s.plain t len n f) :=
  h.issue fun hr => h.advance ((hf _).trans hr)

theorem Keeps.arith (h : Keeps s₀ s) {t : Tid} {f : AluForm} {op : Word → Word → Bool → Word × Flags}
    {cin : Thread → Bool} : Keeps s₀ (s.arith t f op cin) := h.plain

theorem Keeps.logic (h : Keeps s₀ s) {t : Tid} {f : AluForm} {n : Nat} {op : Word → Word → Word} :
    Keeps s₀ (s.logic t f n op) := h.plain

theorem Keeps.shift (h : Keeps s₀ s) {t : Tid} {f : AluForm} {op : Word → Nat → Word × Option Bool} :
    Keeps s₀ (s.shift t f op) := h.plain

theorem Keeps.high (h : Keeps s₀ s) {t : Tid} {gd gs gt : Gpr} {op : Word → Word → Word} :
    Keeps s₀ (s.high t gd gs gt op) := h.logic

theorem Keeps.divide (h : Keeps s₀ s) {t : Tid} {gd gs gt : Gpr} {op : Word → Word → Word}
    {v : Word → Word → Bool → Bool} : Keeps s₀ (s.divide t gd gs gt op v) :=
  h.issue fun hr => Res.Keeps.ite trivial (.ite (h.setThr_ready hr) (h.advance hr))

theorem Keeps.logicImm (h : Keeps s₀ s) {t : Tid} {gd gs : Gpr} {i : BitVec 16} {op : Word → Word → Word} :
    Keeps s₀ (s.logicImm t gd gs i op) := h.plain

theorem Keeps.shiftImm (h : Keeps s₀ s) {t : Tid} {gd : Gpr} {n : BitVec 5} {op : Word → Nat → Word × Option Bool} :
    Keeps s₀ (s.shiftImm t gd n op) := h.plain

/-- What a load leaves keeps what no command breaks. -/
def LoadRes.Keeps (s₀ : State) : LoadRes → Prop
  | .val s _ => Machine.Keeps s₀ s
  | .sent _ => True
  | .flt _ => True
  | .stall s _ => Machine.Keeps s₀ s

theorem Keeps.flashLoad (h : Keeps s₀ s) {a size : Nat} : (s.flashLoad a size).Keeps s₀ := by
  unfold State.flashLoad
  split
  · split
    · exact h.autoSuspend
    · split
      · trivial
      · exact h.put.ite h
  · exact h.autoSuspend

theorem Keeps.sramLoad (h : Keeps s₀ s) {a size : Nat} : (s.sramLoad a size).Keeps s₀ := by
  unfold State.sramLoad
  split
  · exact h
  · split
    · exact h
    · exact h.bump

theorem Keeps.windowLoad (h : Keeps s₀ s) {t : Tid} {a : Nat} : (s.windowLoad t a).Keeps s₀ := by
  unfold State.windowLoad
  split
  · exact h
  · split
    · trivial
    · exact h.regRead

theorem Keeps.loadData (h : Keeps s₀ s) {t : Tid} {a size : Nat} : (s.loadData t a size).Keeps s₀ := by
  unfold State.loadData
  split
  · exact h.flashLoad
  · split
    · exact h.sramLoad
    · exact h.windowLoad

theorem Keeps.loadReg (h : Keeps s₀ s) {t : Tid} {f : MemForm} {size : Nat} {sext : Bool} :
    Keeps s₀ (s.loadReg t f size sext) := by
  refine h.issue fun hr => ?_
  extract_lets a
  split
  · trivial
  · split
    · trivial
    · have hl : (s.loadData t a.toNat size).Keeps s₀ := h.loadData
      split
      next hd => rw [hd] at hl; exact hl.setThr_same rfl
      next => exact h.stallOn
      next => trivial
      next hd => rw [hd] at hl; exact hl

theorem Keeps.storeReg (h : Keeps s₀ s) {t : Tid} {f : MemForm} {size : Nat} : Keeps s₀ (s.storeReg t f size) := by
  refine h.issue fun hr => ?_
  extract_lets a
  split
  · trivial
  · split
    · trivial
    · exact Res.Keeps.ite h (h.sbPush.advance hr)

theorem Keeps.loadReturn (h : Keeps s₀ s) {t : Tid} {ld : LoadReq} : Keeps s₀ (s.loadReturn t ld) :=
  h.ite ((h.orIf (·.fault)).ite (h.regRead.setThr_same rfl))

theorem Keeps.tickReturn (h : Keeps s₀ s) {t : Tid} {gd : Gpr} {n : Nat} : Keeps s₀ (s.tickReturn t gd n) :=
  h.ite (h.setThr_same rfl)

theorem Keeps.windowReturn (h : Keeps s₀ s) {t : Tid} : Keeps s₀ (s.windowReturn t) := by
  unfold State.windowReturn
  split
  · exact h.loadReturn
  · exact h.tickReturn
  · exact h

theorem Keeps.readReturn (h : Keeps s₀ s) {t : Tid} {gd : Gpr} {a : Nat} : Keeps s₀ (s.readReturn t gd a) := by
  unfold State.readReturn
  split
  · exact h.andIf (·.loadReturn)
  · exact h

theorem Keeps.granRead (h : Keeps s₀ s) {g : Nat} : Keeps s₀ (s.granRead g).2 := by
  unfold State.granRead
  extract_lets st l
  split
  · exact h.bump.put
  · split
    · exact h.put.put
    · exact h

theorem Keeps.unstall (h : Keeps s₀ s) {t : Tid} : Keeps s₀ (s.unstall t) := h.setThr_same rfl

theorem Keeps.missFill (h : Keeps s₀ s) {t : Tid} : Keeps s₀ (s.missFill t) := by
  unfold State.missFill
  split
  · exact h
  · split
    · exact h.unstall.ite (h.granRead.coreUpd.unstall.ite h)
    · exact h.unstall.ite (h.granRead.coreUpd.unstall.ite h)
    · exact h

theorem Keeps.atomic (h : Keeps s₀ s) {t : Tid} {gs : Gpr} {new : Thread → Word → Word} {res : Thread → Word → Thread}
    (hres : ∀ x w, (res x w).st = x.st := by intro _ _; rfl) : Keeps s₀ (s.atomic t gs new res) := by
  refine h.issue fun hr => ?_
  extract_lets a
  split
  · trivial
  · exact Res.Keeps.ite h (h.setWord.advance ((hres _ _).trans hr))

theorem Keeps.blockWord (h : Keeps s₀ s) {t : Tid} {ring : Nat} {gs : Gpr} {move : Bool} :
    (s.blockWord t ring gs move).Keeps s₀ := by
  unfold State.blockWord
  extract_lets v
  split
  · split
    · trivial
    · exact h.loadData
  · exact h

theorem Keeps.blockEnd (h : Keeps s₀ s) {moved : Bool} {y : Stall} : (s.blockEnd moved y).Keeps s₀ :=
  Res.Keeps.ite h.tickFree h

theorem blockRegs_st (x : Thread) (gd gs gt : Gpr) (move : Bool) : (State.blockRegs x gd gs gt move).st = x.st := by
  cases move <;> rfl

theorem Keeps.blockStep (h : Keeps s₀ s) {t : Tid} {ring : Nat} {gd gs gt : Gpr} {move moved : Bool} {n : Nat} :
    (s.blockStep t ring gd gs gt move moved n).Keeps s₀ := by
  have hgo : ∀ {u : State}, Keeps s₀ u → Keeps s₀ (u.advance t 4 (u.thr t)) := fun hu => hu.setThr_same rfl
  induction n generalizing s moved with
  | zero => exact ((hgo h).ite h).tickFree
  | succ n ih =>
    unfold State.blockStep
    extract_lets x d
    refine Res.Keeps.ite (hgo h).tickFree ?_
    have hl : (s.blockWord t ring gs move).Keeps s₀ := h.blockWord
    split
    next => exact h.tickFree
    next => exact h.tickFree
    next hd =>
      rw [hd] at hl
      exact (h.ite hl).blockEnd
    next s1 v hd =>
      rw [hd] at hl
      split
      · exact Machine.Keeps.tickFree hl
      · split
        · exact Machine.Keeps.blockEnd hl
        · extract_lets s2
          have h2 : Keeps s₀ s2 := Machine.Keeps.sbPush hl
          exact ih (h2.setThr_same (blockRegs_st _ _ _ _ _))

theorem Keeps.block (h : Keeps s₀ s) {t : Tid} {gd gs gt : Gpr} {move : Bool} {n : Nat} :
    Keeps s₀ (s.block t gd gs gt move n) :=
  h.issue fun hr => Res.Keeps.ite (h.advance hr) (.ite trivial (.ite trivial h.blockStep))

theorem Keeps.storeFrame (h : Keeps s₀ s) {t : Tid} {a : Nat} {l : List Word} : Keeps s₀ (s.storeFrame t a l) := by
  induction l generalizing s a with
  | nil => exact h
  | cons w r ih => exact ih h.retireEntry

/-- The thread that a gate enters its ring with stays in its state. -/
theorem gateThread_st (x : Thread) (a pc : Word) (r : Nat) :
    ({ (x.setReg 15 a).setRing r with pc := pc } : Thread).st = x.st := rfl

theorem Keeps.gateEnter (h : Keeps s₀ s) {t : Tid} {n : Fin 64} {target : Word} : Keeps s₀ (s.gateEnter t n target) := by
  unfold State.gateEnter
  extract_lets x f r a s1
  split
  · split
    next => exact h.squall
    next s1 a hp =>
      have h1 : Keeps s₀ s1 := h.pushFrame hp
      exact h1.setThr_same (gateThread_st _ _ _ _)
  · have h1 : Keeps s₀ s1 := h.storeFrame
    exact h1.setThr_same (gateThread_st _ _ _ _)

theorem Keeps.gateRead (h : Keeps s₀ s) {t : Tid} {x : Thread} {n : Fin 64} {a target w : Word} :
    (s.gateRead t x n a target w).Keeps s₀ := by
  unfold State.gateRead
  refine Res.Keeps.ite trivial ?_
  extract_lets fr
  split
  · trivial
  · exact h.drainSb.gateEnter.tickFree

theorem Keeps.gate (h : Keeps s₀ s) {t : Tid} {n : Fin 64} : Keeps s₀ (s.gate t n) := by
  refine h.issue fun hr => ?_
  extract_lets a
  refine Res.Keeps.ite trivial (.ite trivial (.ite trivial (.ite h.gateRead ?_)))
  have hl : (s.flashLoad a.toNat 4).Keeps s₀ := h.flashLoad
  split
  next s1 v hd =>
    rw [hd] at hl
    have hl' : (s1.flashLoad (a.toNat + 4) 4).Keeps s₀ := Machine.Keeps.flashLoad hl
    split
    next hd' => rw [hd'] at hl'; exact Machine.Keeps.gateRead hl'
    next => trivial
  next => trivial
  next => trivial
  next hd => rw [hd] at hl; exact hl

theorem Keeps.frameLoad (h : Keeps s₀ s) {t : Tid} {a : Nat} : (s.frameLoad t a).Keeps s₀ := by
  unfold State.frameLoad
  split
  · exact h
  · split
    · have hl : (s.flashLoad a 4).Keeps s₀ := h.flashLoad
      split
      next hd =>
        rw [hd] at hl
        split
        · exact h.granRead.coreUpd.flashLoad
        · exact hl
      next => exact hl
    · split
      · exact h
      · exact h.regRead

/-- What popping a frame leaves keeps what no command breaks. -/
def PopRes.Keeps (s₀ : State) : State.PopRes → Prop
  | .words s _ => Machine.Keeps s₀ s
  | .flt _ _ => True
  | .stall s _ => Machine.Keeps s₀ s

theorem Keeps.popWords (h : Keeps s₀ s) {t : Tid} {a n : Nat} : PopRes.Keeps s₀ (s.popWords t a n) := by
  induction n generalizing s a with
  | zero => exact h
  | succ n ih =>
    unfold State.popWords
    have hl : (s.frameLoad t a).Keeps s₀ := h.frameLoad
    split
    next hd =>
      rw [hd] at hl
      have hn := ih (a := (a + 4) % 2 ^ 32) hl
      split
      next hd' => rw [hd'] at hn; exact hn
      next => exact hn
    next => trivial
    next hd => rw [hd] at hl; exact hl
    next => trivial

theorem restored_st (x : Thread) (f : State.Frame) (isGate : Bool) : (State.restored x f isGate).st = x.st := by
  unfold State.restored
  cases isGate <;> dsimp only <;> split <;> rfl

theorem Keeps.restoreFrame (h : Keeps s₀ s) {t : Tid} {x : Thread} {f : State.Frame} {n : Nat} (hx : x.st = .ready) :
    (s.restoreFrame t x f n).Keeps s₀ := by
  unfold State.restoreFrame
  extract_lets isGate s1
  have h1 : Keeps s₀ s1 := (h.setThr_ready ((restored_st _ _ _).trans hx)).put
  split
  · exact Res.Keeps.ite h (.ite h.squall h1.coreUpd)
  · exact h1

theorem Keeps.ret (h : Keeps s₀ s) {t : Tid} {n : Nat} : Keeps s₀ (s.ret t n) := by
  refine h.issue fun hr => ?_
  split
  · trivial
  next a _ =>
    refine Res.Keeps.ite (h.restoreFrame hr) ?_
    have hp : PopRes.Keeps s₀ (s.popWords t a.toNat 8) := h.popWords
    split
    next hd => rw [hd] at hp; exact Machine.Keeps.restoreFrame hp hr
    next => trivial
    next hd => rw [hd] at hp; exact hp

theorem Keeps.fence (h : Keeps s₀ s) {t : Tid} {y : Until} : Keeps s₀ (s.fence t y) :=
  h.issue fun hr => Res.Keeps.ite (h.advance hr) h

theorem Keeps.scratch (h : Keeps s₀ s) {a : Nat} :
    Keeps s₀ (s.scratch a) := Keeps.foldl (fun _ _ hx => hx.andIf (·.setByte)) h _

theorem Keeps.calReturn (h : Keeps s₀ s) {t : Tid} {x y : Thread} {n : Nat} (hy : y.st = .ready) :
    Keeps s₀ (s.calReturn t x y n) :=
  (h.scratch.setThr_ready ((restored_st _ _ _).trans hy)).ite (h.scratch.setThr_ready hy)

theorem Keeps.calRun (h : Keeps s₀ s) {t : Tid} {rom n cycles : Nat} {work : State → Thread → Option (State × Thread)}
    (hw : ∀ x v y, work s x = some (v, y) → Keeps s₀ v ∧ y.st = x.st) : Keeps s₀ (s.calRun t rom n cycles work) := by
  refine Keeps.ite (h.issue fun hr => ?_) h
  split
  next => exact h
  next hd =>
    obtain ⟨hv, hy⟩ := hw _ _ _ hd
    exact (hv.calReturn (hy.trans hr)).tickFree

theorem Keeps.slotLoad (h : Keeps s₀ s) {vio : Bool} {slot : Nat} :
    Keeps s₀ (s.slotLoad vio slot) := h.ite (h.setBytes.ite h.setBytes)

theorem Keeps.hdrCopy (h : Keeps s₀ s) {vio : Bool} {slot : Nat} : Keeps s₀ (s.hdrCopy vio slot) := h.setBytes

theorem Keeps.romLoads (h : Keeps s₀ s) {sts : List Nat} : Keeps s₀ (s.romLoads sts) :=
  (((h.andIf (·.put)).andIf (·.put)).andIf (·.put)).andIf (·.put)

theorem Keeps.slotAccept (h : Keeps s₀ s) {vio : Bool} {slot : Nat} {fb : Bool} :
    Keeps s₀ (s.slotAccept vio slot fb).1 := h.slotLoad

theorem Keeps.tryImages (h : Keeps s₀ s) {vio : Bool} : Keeps s₀ (s.tryImages vio).1 := by
  unfold State.tryImages
  split
  · split
    · exact h
    · exact h
  · split
    · exact h.slotAccept
    · extract_lets s1
      have h1 : Keeps s₀ s1 := h.slotLoad
      split
      · exact h1
      · split
        · exact h1.slotAccept
        · exact h1.slotLoad

theorem Keeps.sealApply (h : Keeps s₀ s) : Keeps s₀ (s.sealApply) := h.put.put.put.put.put.put.put

theorem Keeps.sealEcc (h : Keeps s₀ s) : Keeps s₀ (s.sealEcc) := h.orIf (·.romLoads)

theorem Keeps.wait (h : Keeps s₀ s) {t : Tid} {gm : Gpr} : Keeps s₀ (s.wait t gm) := by
  refine h.issue fun hr => ?_
  refine Res.Keeps.ite trivial (.ite trivial (.ite (h.setThr fun _ hh => ?_) (h.advance hr)))
  cases hh

theorem Keeps.spawn (h : Keeps s₀ s) {t tn : Tid} {gs ga : Gpr} {ring cls : Nat} :
    Keeps s₀ (s.spawn t tn gs ga ring cls) :=
  h.issue fun hr => Res.Keeps.ite trivial (.ite trivial ((h.setThr_ready rfl).put.advance hr))

theorem Keeps.engCoreReset (h : Keeps s₀ s) {p : Fin 2} : Keeps s₀ (s.engCoreReset p) := h.portUpd.ite h.put.portUpd

theorem Keeps.coreReset (h : Keeps s₀ s) : Keeps s₀ s.coreReset := by
  unfold State.coreReset
  extract_lets s1 c _ s2 s3 s4 s5 s6
  have h1 : Keeps s₀ s1 := h.drainSb
  have h2 : Keeps s₀ s2 := h1.coldCore
  have h5 : Keeps s₀ s5 := h2.coldWindow.coldWindow.put.put.put.engCoreReset.engCoreReset
  have h6 : Keeps s₀ s6 := (h5.andIf (·.erResume)).nvcUpd
  exact h6.pwrUpd.ite h

theorem Keeps.romDomainOn (h : Keeps s₀ s) {d : Nat} :
    Keeps s₀ (s.romDomainOn d) := h.orIf (·.domctlWrite.domainPowerGood)

theorem Keeps.framerSet (h : Keeps s₀ s) {u : Nat} {baud : Nat} {ufmt : Nat} :
    Keeps s₀ (s.framerSet u baud ufmt) := h.put.put.put.putB.putB.put.put.put.put

theorem Keeps.winSet (h : Keeps s₀ s) {w : Fin 4} {d : WinDesc} : Keeps s₀ (s.winSet w d) := by
  unfold State.winSet
  extract_lets s1 s2 s3 s4
  have h1 : Keeps s₀ s1 := h.orIf (·.framerSet)
  have h2 : Keeps s₀ s2 := h1.put.put.put.put
  have h3 : Keeps s₀ s3 := h2.put.put.put
  have h4 : Keeps s₀ s4 := h3.put.put.put
  exact h4.quiet

theorem Keeps.winBind (h : Keeps s₀ s) {e : BootEnt} : Keeps s₀ (s.winBind e) := by
  unfold State.winBind
  exact ((h.orIf (·.put)).orIf (·.winSet)).put.put

theorem Keeps.threadStart (h : Keeps s₀ s) {sealed : Bool} {e : BootEnt} : Keeps s₀ (s.threadStart sealed e) := by
  unfold State.threadStart
  extract_lets b t s1
  have h1 : Keeps s₀ s1 := h.put
  exact h1.ite (h1.setThr_ready rfl).put

theorem Keeps.engFree (h : Keeps s₀ s) {p : Fin 2} : Keeps s₀ (s.engFree p) := by
  unfold State.engFree
  exact h.put.put.put.put.put.put.put.put.put.put.put

theorem Keeps.portStart (h : Keeps s₀ s) {e : BootEnt} : Keeps s₀ (s.portStart e) :=
  (h.romDomainOn.portCtlWrite.portLineWrite.put.put.portLedgWrite.orIf (·.engFree)).measGo

theorem Keeps.romThread (h : Keeps s₀ s) {pc : Word} : Keeps s₀ (s.romThread pc) :=
  (h.setThr_ready rfl).tickFree

theorem Keeps.serviceOnly (h : Keeps s₀ s) : Keeps s₀ (s.serviceOnly) := by
  unfold State.serviceOnly
  exact ((Keeps.foldl (fun _ _ hx => hx.put) h.romDomainOn _).winSet).put.put.put.pwrUpd.romThread

theorem Keeps.bootTabFail (h : Keeps s₀ s) : Keeps s₀ (s.bootTabFail) := h.put.put.serviceOnly

theorem Keeps.bindWindows (h : Keeps s₀ s) {ws : List BootEnt} : Keeps s₀ (s.bindWindows ws) := by
  unfold State.bindWindows
  exact ((h.ite (Keeps.foldl (fun _ _ hx => hx.winBind) h.romDomainOn _)).andIf (·.put)).pwrUpd

theorem Keeps.bootFinish (h : Keeps s₀ s) {a : Nat} : Keeps s₀ (s.bootFinish a) := by
  unfold State.bootFinish
  split
  · refine Keeps.bootTabFail ?_
    split
    · exact h.romLoads
    · exact h.romLoads
  · extract_lets s0' s1 s2 s3
    have h1 : Keeps s₀ s1 := Keeps.foldl (fun _ _ hx => hx.threadStart) h.romLoads _
    have h2 : Keeps s₀ s2 := h1.bindWindows
    have h3 : Keeps s₀ s3 := h2.ite (Keeps.foldl (fun _ _ hx => hx.portStart) h2 _)
    exact h3.pwrUpd.romThread

theorem Keeps.bootClock (h : Keeps s₀ s) : Keeps s₀ (s.bootClock) := h.orIf (·.put.put.put.put)

theorem Keeps.maybeRaise (h : Keeps s₀ s) {k : Nat} : Keeps s₀ (s.maybeRaise k) := h.orIf (·.raise)

theorem Keeps.bootRows (h : Keeps s₀ s) : Keeps s₀ (s.bootRows) :=
  (Keeps.foldl (fun _ _ hx => hx.setWord.setWord) h.put.put.put.put _).put.maybeRaise

theorem Keeps.bootScan (h : Keeps s₀ s) : Keeps s₀ (s.bootScan) := (h.andIf (·.scan)).maybeRaise

theorem Keeps.bootQspi (h : Keeps s₀ s) : Keeps s₀ (s.bootQspi) := h.put.put.put.put.put.put.put.maybeRaise

theorem Keeps.bootImage (h : Keeps s₀ s) {vio : Bool} {act : Nat} : Keeps s₀ (s.bootImage vio act).1 := by
  unfold State.bootImage
  split
  · exact h
  · split
    · exact h
    · exact h.bootQspi.hdrCopy.hdrCopy.tryImages

theorem Keeps.bootReport (h : Keeps s₀ s) {o : ImgOut} {sealRes : Nat} {final : Nat} {alarm : Bool} {dirty : Nat} :
    Keeps s₀ (s.bootReport o sealRes final alarm dirty) := by
  unfold State.bootReport
  split
  · exact h
  · exact h.put.put.put.putB.put.putB.putB.put.put

theorem Keeps.bootGates (h : Keeps s₀ s) : Keeps s₀ (s.bootGates) :=
  Keeps.foldl (fun _ _ hx => hx.setWord.setWord) (Keeps.foldl (fun _ _ hx => hx.setWord) h.coreUpd _) _

theorem Keeps.bootRun (h : Keeps s₀ s) {o : ImgOut} : Keeps s₀ (s.bootRun o) := by
  unfold State.bootRun
  extract_lets otpprog s1 s2 s3
  have h1 : Keeps s₀ s1 := h.orIf (·.put)
  have h2 : Keeps s₀ s2 := h1.andIf (·.wdStart)
  have h3 : Keeps s₀ s3 := h2.bootGates.tickFree
  split
  · exact h3.pwrUpd.romThread.setThr_same rfl
  · exact h3.bootFinish

theorem Keeps.bootStart (h : Keeps s₀ s) {vio : Bool} : Keeps s₀ (s.bootStart vio) := by
  unfold State.bootStart
  extract_lets a0 alarm a1 act3
  have h1 : Keeps s₀ a1 := h.pwrUpd.romDomainOn.bootClock.bootRows.bootScan
  have hi : Keeps s₀ (a1.bootImage vio act3).1 := h1.bootImage
  split
  next hd =>
    rw [hd] at hi
    extract_lets act5 code a3 a4 final a5
    have h3 : Keeps s₀ a3 := hi.orIf (·.sealEcc)
    have h4 : Keeps s₀ a4 := h3.andIf (·.sealApply)
    have h5 : Keeps s₀ a5 := h4.bootReport.tickFree.pwrUpd
    exact h5.serviceOnly.ite h5.bootRun

theorem Keeps.boot (h : Keeps s₀ s) {vio : Bool} : Keeps s₀ (s.boot vio) := h.bootStart.ite (h.andIf (·.bootFinish))

theorem Keeps.jumpReg (h : Keeps s₀ s) {t : Tid} {target : Thread → Word} {link : Bool} :
    Keeps s₀ (s.jumpReg t target link) := by
  refine h.issue fun hr => Res.Keeps.ite trivial (h.jump ?_)
  cases link
  · exact hr
  · exact hr

theorem Keeps.fsWrite (h : Keeps s₀ s) {r : Fin 3} {top : Bool} {v : Word} : Keeps s₀ (s.fsWrite r top v) := by
  unfold State.fsWrite
  exact h.put.ite (h.coreUpd.ite h.coreUpd)

theorem Keeps.crWrite (h : Keeps s₀ s) {t : Tid} {x : Thread} {cr ring : Nat} {v : Word} (hx : x.st = .ready) :
    Keeps s₀ (s.crWrite t x cr ring v) := by
  unfold State.crWrite
  exact Keeps.ite (h.setThr_ready hx) (.ite (.ite (h.setThr_ready hx) h) (.ite (.ite (h.setThr_ready hx) h)
    (.ite (h.andIf (·.fsWrite)) (.ite (h.andIf (·.fsWrite)) (.ite (h.andIf (·.fsWrite)) (.ite (h.andIf (·.coreUpd))
    (.ite (h.andIf (·.coreUpd)) (.ite (h.andIf (·.coreUpd)) h))))))))

theorem Keeps.railEntry (h : Keeps s₀ s) {t : Tid} {x : Thread} {c : Nat} {op : SbOp} (hx : x.st = .ready) :
    (s.railEntry t x c op).Keeps s₀ :=
  Res.Keeps.ite trivial (.ite h (h.sbPush.advance hx))

theorem Keeps.setv (h : Keeps s₀ s) {t : Tid} {c : Nat} {gs : Gpr} : Keeps s₀ (s.setv t c gs) := by
  refine h.issue fun hr => ?_
  split
  · trivial
  · exact Res.Keeps.ite trivial (h.railEntry hr)

theorem Keeps.ramp (h : Keeps s₀ s) {t : Tid} {c : Nat} {gs gt : Gpr} : Keeps s₀ (s.ramp t c gs gt) := by
  refine h.issue fun hr => ?_
  split
  · trivial
  · exact Res.Keeps.ite trivial (h.railEntry hr)

theorem Keeps.pgwait (h : Keeps s₀ s) {t : Tid} {c : Nat} {tmo : BitVec 8} {off : BitVec 11} :
    Keeps s₀ (s.pgwait t c tmo off) := by
  refine h.issue fun hr => ?_
  refine Res.Keeps.ite trivial (.ite (h.advance hr) (.ite (h.jump hr) (h.setThr fun _ hh => ?_)))
  cases hh

theorem Keeps.pgTimeout (h : Keeps s₀ s) {t : Tid} : Keeps s₀ (s.pgTimeout t) := by
  unfold State.pgTimeout
  split
  · split
    · exact (h.setThr_ready rfl).dozeExit
    · exact h
  · exact h

theorem Keeps.windowReset (h : Keeps s₀ s) {w : Fin 4} : Keeps s₀ (s.windowReset w) := h.put.put.lullStart

theorem Keeps.logLoads (h : Keeps s₀ s) : Keeps s₀ (s.logLoads) := h.andIf (·.put.putB.putB.put)

theorem Keeps.execHalt (h : Keeps s₀ s) {t : Tid} :
    Keeps s₀ (s.issue t 2 (fun s x => if t = 0 then .flt cPRIV 0 else .done (s.advance t 2 { x with st := .halted }) 1)) := by
  refine h.issue fun hr => ?_
  split
  next => trivial
  next ht => exact h.setThr fun h0 => absurd h0 ht

theorem Keeps.execTick (h : Keeps s₀ s) {t : Tid} {gd : Gpr} : Keeps s₀ (s.issue t 2 (fun s x =>
      if gd.val % 2 = 1 then .flt cILLEGAL 0
      else if s.protAllows x.ring 0x40024000 accR = false then .flt cPROT 0x40024000
      else if s.windowBusy 0x40024000 then .stall s (.retry (.window 0x40024000))
      else .done (s.stallOn t (.tick gd (s.latchCount .bak))) 1)) :=
  h.issue fun _ => Res.Keeps.ite trivial (.ite trivial (.ite h h.stallOn))

theorem Keeps.kernelCmd (h : Keeps s₀ s) {cmd : Byte} {ring len : Nat} {ok : Fin 4 → Bool}
    {work : State → Fin 4 → List Byte → KRes} (hw : ∀ w l, Keeps s₀ (work s w l).st) :
    Keeps s₀ (s.kernelCmd cmd ring ok len work) := by
  unfold State.kernelCmd
  split
  next x _ =>
    have hr : Keeps s₀ (if ring < s.winRing x.win ∨ ok x.win = false then s.kres rcPERM []
        else if x.cmd.payload.length ≠ len then s.kres rcBADARG [] else work s x.win x.cmd.payload).st := by
      split
      · exact h
      · split
        · exact h
        · exact hw _ _
    exact (hr.windowReset.ite hr.portComplete).ite h
  next => exact h

theorem Keeps.otpreadWork (h : Keeps s₀ s) {w : Fin 4} {l : List Byte} : Keeps s₀ (s.otpreadWork w l).st :=
  h.put.put.put.putB.raise

theorem Keeps.resetWork (h : Keeps s₀ s) {w : Fin 4} {l : List Byte} : Keeps s₀ (s.resetWork w l).st := by
  unfold State.resetWork
  split
  · exact h
  · exact h

theorem Keeps.railgetWork (h : Keeps s₀ s) {w : Fin 4} {l : List Byte} : Keeps s₀ (s.railgetWork w l).st := by
  unfold State.railgetWork
  extract_lets c
  split
  · exact h
  · split
    · exact h
    · exact h.tickFree

theorem Keeps.railsetWork (h : Keeps s₀ s) {e : Sense} {w : Fin 4} {l : List Byte} :
    Keeps s₀ (s.railsetWork e w l).st := by
  unfold State.railsetWork
  extract_lets c op code s1 s2
  have h1 : Keeps s₀ s1 := h.orIf (·.applySetv)
  have h2 : Keeps s₀ s2 := h1.orIf (·.applyRail)
  split
  · exact h
  split
  · exact h
  split
  · exact h
  split
  · exact h.tickFree
  clear_value s1 s2
  split
  · exact h2.tickFree
  · exact h2

theorem Keeps.epreadWork (h : Keeps s₀ s) {w : Fin 4} {l : List Byte} : Keeps s₀ (s.epreadWork w l).st := by
  unfold State.epreadWork
  extract_lets i opt
  split
  · exact h
  split
  · exact h
  split
  · exact h.andIf (·.setByte)
  · exact h

theorem Keeps.eppollWork (h : Keeps s₀ s) {w : Fin 4} {l : List Byte} : Keeps s₀ (s.eppollWork w l).st := by
  unfold State.eppollWork
  extract_lets i p
  split
  · exact h
  split
  · exact h
  split
  · exact h.tickFree
  split
  · exact h.putB.tickFree
  · dsimp only [State.kres]
    exact h.put.portUpd

theorem Keeps.logreadWork (h : Keeps s₀ s) {w : Fin 4} {l : List Byte} : Keeps s₀ (s.logreadWork w l).st := by
  unfold State.logreadWork
  split
  · exact h.tickFree
  extract_lets off s1
  have h1 : Keeps s₀ s1 := h.logLoads.tickFree
  split
  · exact h1
  · split
    · exact h1
    · exact h1

theorem Keeps.verifyWork (h : Keeps s₀ s) {vio : Bool} {w : Fin 4} {l : List Byte} :
    Keeps s₀ (s.verifyWork vio w l).st := by
  unfold State.verifyWork
  extract_lets slot
  split
  · exact h
  split
  · exact h.tickFree
  · exact h.bootQspi.hdrCopy.tickFree

theorem Keeps.installWork (h : Keeps s₀ s) {vio : Bool} {w : Fin 4} {l : List Byte} :
    Keeps s₀ (s.installWork vio w l).st := by
  unfold State.installWork
  extract_lets slot
  split
  · exact h.bootQspi.hdrCopy.setWord
  · exact h.verifyWork

theorem Keeps.calSplit (h : Keeps s₀ s) {x y : Thread} {v : State} (hd : s.calSplit x = some (v, y)) :
    Keeps s₀ v ∧ y.st = x.st := by
  unfold State.calSplit at hd
  extract_lets n p at hd
  split at hd
  · cases hd
    exact ⟨h, rfl⟩
  · cases hd
    exact ⟨h, rfl⟩

theorem Keeps.calJoin (h : Keeps s₀ s) {x y : Thread} {v : State} (hd : s.calJoin x = some (v, y)) :
    Keeps s₀ v ∧ y.st = x.st := by
  unfold State.calJoin at hd
  extract_lets at hd
  split at hd
  · cases hd
    exact ⟨h, rfl⟩
  · cases hd
    exact ⟨h, rfl⟩

theorem Keeps.calNow (h : Keeps s₀ s) {x y : Thread} {v : State} (hd : s.calNow x = some (v, y)) :
    Keeps s₀ v ∧ y.st = x.st := by
  unfold State.calNow at hd
  split at hd
  · cases hd
    exact ⟨h, rfl⟩
  · cases hd

theorem Keeps.calSet (h : Keeps s₀ s) {t : Tid} {x y : Thread} {v : State} (hd : s.calSet t x = some (v, y)) :
    Keeps s₀ v ∧ y.st = x.st := by
  unfold State.calSet at hd
  extract_lets n k range lockd at hd
  split at hd
  · split at hd
    · cases hd
      exact ⟨h, rfl⟩
    split at hd
    · cases hd
      exact ⟨h, rfl⟩
    split at hd
    · cases hd
      exact ⟨h, rfl⟩
    split at hd
    · cases hd
    · cases hd
      exact ⟨h.sbPush, rfl⟩
  · cases hd

end Sys2Proof.Machine
end

section
/-!
PROOFS. No command touches the queue, breaks the memories' canonical form or halts T0.
-/

namespace Sys2Proof.Machine

/-- Every command ends in a next state, and none breaks what `Keeps` says. -/
theorem gives_keeps (c : Instr) (s : State) : Gives c s (Keeps s) := by
  have h : Keeps s s := .refl s
  cases c with
  | registerWrite => exact ⟨_, rfl, h.andIf (·.applyWrite)⟩
  | coldReset => exact ⟨_, rfl, h.coldReset⟩
  | otpVote => exact ⟨_, rfl, h.otpVote⟩
  | moscOk => exact ⟨_, rfl, h.moscOk⟩
  | earlyRailStart => exact ⟨_, rfl, h.earlyRailStart⟩
  | boot => exact ⟨_, rfl, h.boot⟩
  | rstNAssert => exact ⟨_, rfl, h.rstNAssert⟩
  | rstNRelease => exact ⟨_, rfl, h.rstNRelease⟩
  | fastStopRailOff => exact ⟨_, rfl, h.fastStopRailOff⟩
  | systemReset => exact ⟨_, rfl, h.systemReset⟩
  | vsysBackupFall => exact ⟨_, rfl, h.vsysBackupFall⟩
  | vbakLoss => exact ⟨_, rfl, h.vbakLoss⟩
  | bakPowerUp => exact ⟨_, rfl, h.orIf (·.bakCold)⟩
  | coreResetRequest => exact ⟨_, rfl, h.andIf (·.sysRstWrite)⟩
  | coreReset => exact ⟨_, rfl, h.coreReset⟩
  | islandReset => exact ⟨_, rfl, h.andIf (·.sysRstWrite)⟩
  | domctlWrite => exact ⟨_, rfl, h.andIf (·.domctlWrite)⟩
  | domainPowerGood => exact ⟨_, rfl, h.domainPowerGood⟩
  | clkcfgWrite => exact ⟨_, rfl, h.andIf (·.clkcfgWrite)⟩
  | pllLock => exact ⟨_, rfl, h.pllLock⟩
  | fllWindow => exact ⟨_, rfl, h.fllWindow⟩
  | xtalFail => exact ⟨_, rfl, h.xtalFail⟩
  | fllResume => exact ⟨_, rfl, h.fllResume⟩
  | syncInValid => exact ⟨_, rfl, h.syncInValid⟩
  | syncLost => exact ⟨_, rfl, h.syncLost⟩
  | dozeEntry => exact ⟨_, rfl, h.dozeEntry⟩
  | calmEntry => exact ⟨_, rfl, h.calmEntry⟩
  | calmWake => exact ⟨_, rfl, h.calmWake⟩
  | calmClockRestore => exact ⟨_, rfl, h.calmClockRestore⟩
  | kernelTick => exact ⟨_, rfl, h.kernelTick⟩
  | hwEventPending => exact ⟨_, rfl, h.hwPending⟩
  | eventEntry => exact ⟨_, rfl, h.eventEntry⟩
  | galeEntry => exact ⟨_, rfl, h.galeEntry⟩
  | eddyDetect => exact ⟨_, rfl, h.eddyDetect⟩
  | eddyEntry => exact ⟨_, rfl, h.eddyEntry⟩
  | gmHoldLimit => exact ⟨_, rfl, h.gmLimit⟩
  | galeBudgetExceeded => exact ⟨_, rfl, h.galeLimit⟩
  | storeRetire => exact ⟨_, rfl, h.andIf (·.storeRetire)⟩
  | latchApply => exact ⟨_, rfl, h.latchApply⟩
  | windowLoadReturn => exact ⟨_, rfl, h.windowReturn⟩
  | flashMissFill => exact ⟨_, rfl, h.missFill⟩
  | reservedEncoding => exact ⟨_, rfl, Keeps.ite (h.issue fun _ => trivial) h⟩
  | mov => exact ⟨_, rfl, h.plain⟩
  | add => exact ⟨_, rfl, h.arith⟩
  | sub => exact ⟨_, rfl, h.arith⟩
  | adc => exact ⟨_, rfl, h.arith⟩
  | sbc => exact ⟨_, rfl, h.arith⟩
  | cmp => exact ⟨_, rfl, h.plain⟩
  | and => exact ⟨_, rfl, h.logic⟩
  | or => exact ⟨_, rfl, h.logic⟩
  | xor => exact ⟨_, rfl, h.logic⟩
  | tst => exact ⟨_, rfl, h.plain⟩
  | shl => exact ⟨_, rfl, h.shift⟩
  | shr => exact ⟨_, rfl, h.shift⟩
  | sar => exact ⟨_, rfl, h.shift⟩
  | neg => exact ⟨_, rfl, h.plain⟩
  | not => exact ⟨_, rfl, h.plain⟩
  | mul => exact ⟨_, rfl, h.logic⟩
  | mulh => exact ⟨_, rfl, h.high⟩
  | mulhu => exact ⟨_, rfl, h.high⟩
  | div => exact ⟨_, rfl, h.divide⟩
  | divu => exact ⟨_, rfl, h.divide⟩
  | rem => exact ⟨_, rfl, h.divide⟩
  | remu => exact ⟨_, rfl, h.divide⟩
  | ror => exact ⟨_, rfl, h.plain⟩
  | sextB => exact ⟨_, rfl, h.plain⟩
  | sextH => exact ⟨_, rfl, h.plain⟩
  | movi => exact ⟨_, rfl, h.plain⟩
  | movhi => exact ⟨_, rfl, h.plain⟩
  | addi => exact ⟨_, rfl, h.plain⟩
  | cmpi => exact ⟨_, rfl, h.plain⟩
  | andi => exact ⟨_, rfl, h.logicImm⟩
  | ori => exact ⟨_, rfl, h.logicImm⟩
  | xori => exact ⟨_, rfl, h.logicImm⟩
  | shli => exact ⟨_, rfl, h.shiftImm⟩
  | shri => exact ⟨_, rfl, h.shiftImm⟩
  | sari => exact ⟨_, rfl, h.shiftImm⟩
  | ldW => exact ⟨_, rfl, h.loadReg⟩
  | ldH => exact ⟨_, rfl, h.loadReg⟩
  | ldHs => exact ⟨_, rfl, h.loadReg⟩
  | ldB => exact ⟨_, rfl, h.loadReg⟩
  | ldBs => exact ⟨_, rfl, h.loadReg⟩
  | stW => exact ⟨_, rfl, h.storeReg⟩
  | stH => exact ⟨_, rfl, h.storeReg⟩
  | stB => exact ⟨_, rfl, h.storeReg⟩
  | bCond => exact ⟨_, rfl, h.issue fun hr => Res.Keeps.ite (h.jump hr) (h.advance hr)⟩
  | br => exact ⟨_, rfl, h.issue fun hr => h.jump hr⟩
  | call => exact ⟨_, rfl, h.issue fun hr => h.jump hr⟩
  | jr => exact ⟨_, rfl, h.jumpReg⟩
  | jalr => exact ⟨_, rfl, h.jumpReg⟩
  | ret => exact ⟨_, rfl, h.jumpReg⟩
  | nop => exact ⟨_, rfl, h.plain⟩
  | yield => exact ⟨_, rfl, h.plain⟩
  | yieldExpire => exact ⟨_, rfl, h.setThr_same rfl⟩
  | halt => exact ⟨_, rfl, h.execHalt⟩
  | signal => exact ⟨_, rfl, h.issue fun hr => (h.advance hr).pendAll⟩
  | wait => exact ⟨_, rfl, h.wait⟩
  | spawn => exact ⟨_, rfl, h.spawn⟩
  | gate => exact ⟨_, rfl, h.gate⟩
  | retg => exact ⟨_, rfl, h.ret⟩
  | rete => exact ⟨_, rfl, h.ret⟩
  | fenceS => exact ⟨_, rfl, h.fence⟩
  | fenceA => exact ⟨_, rfl, h.fence⟩
  | fenceI => exact ⟨_, rfl, h.fence⟩
  | fenceP => exact ⟨_, rfl, h.fence⟩
  | mfc => exact ⟨_, rfl, h.issue fun hr => Res.Keeps.ite trivial (h.advance hr)⟩
  | mtc => exact ⟨_, rfl, h.issue fun hr => (h.advance hr).crWrite hr⟩
  | tick => exact ⟨_, rfl, h.execTick⟩
  | swap => exact ⟨_, rfl, h.atomic⟩
  | cas => exact ⟨_, rfl, h.atomic⟩
  | xadd => exact ⟨_, rfl, h.atomic⟩
  | bmov => exact ⟨_, rfl, h.block⟩
  | bset => exact ⟨_, rfl, h.block⟩
  | setv => exact ⟨_, rfl, h.setv⟩
  | ramp => exact ⟨_, rfl, h.ramp⟩
  | rail => exact ⟨_, rfl, h.issue fun hr => Res.Keeps.ite (h.railEntry hr) trivial⟩
  | pgwait => exact ⟨_, rfl, h.pgwait⟩
  | pgwaitTimeout => exact ⟨_, rfl, h.pgTimeout⟩
  | rampStep => exact ⟨_, rfl, h.rampStep⟩
  | evtSwsigWrite => exact ⟨_, rfl, h.andIf (·.swsig)⟩
  | haltreq => exact ⟨_, rfl, h.andIf (·.haltThread)⟩
  | protRegionWrite => exact ⟨_, rfl, h.andIf (·.protWrite)⟩
  | protEcfgWrite => exact ⟨_, rfl, h.andIf (·.protWrite)⟩
  | otpRead => exact ⟨_, rfl, h.andIf (·.otpRead)⟩
  | otpProgram => exact ⟨_, rfl, h.andIf (·.otpProgram)⟩
  | otpWprog => exact ⟨_, rfl, h.andIf (·.otpWprog)⟩
  | otpOpDone => exact ⟨_, rfl, h.otpOpDone⟩
  | qspiCopy => exact ⟨_, rfl, h.andIf (·.qspiCtlWrite)⟩
  | qspiCopyDone => exact ⟨_, rfl, h.qspiCopyDone.pinsNext⟩
  | nvcProgram => exact ⟨_, rfl, h.andIf (·.nvcProgram)⟩
  | nvcErase => exact ⟨_, rfl, h.andIf (·.nvcErase)⟩
  | nvcSuspend => exact ⟨_, rfl, h.andIf (·.nvcSuspend)⟩
  | nvcResume => exact ⟨_, rfl, h.andIf (·.nvcResume)⟩
  | nvcMark => exact ⟨_, rfl, h.andIf (·.nvcMark)⟩
  | nvcCheckread => exact ⟨_, rfl, h.andIf (·.nvcCheckread)⟩
  | nvcScan => exact ⟨_, rfl, h.andIf (·.nvcScan)⟩
  | nvcCommandEnd => exact ⟨_, rfl, h.nvcCommandEnd⟩
  | erasePhaseEnd => exact ⟨_, rfl, h.erasePhaseEnd⟩
  | suspendEffect => exact ⟨_, rfl, h.suspendEffect⟩
  | autosuspResume => exact ⟨_, rfl, h.autosuspResume⟩
  | swCycle => exact ⟨_, rfl, h.swCycle⟩
  | trimsat => exact ⟨_, rfl, h.trimSat⟩
  | fastLimitTrip => exact ⟨_, rfl, h.fastTrip⟩
  | slowLimit => exact ⟨_, rfl, h.slowLimit⟩
  | slowLimitRestart => exact ⟨_, rfl, h.slowRestart⟩
  | ovpEnter => exact ⟨_, rfl, h.ovpEnter⟩
  | ovpExit => exact ⟨_, rfl, h.ovpExit⟩
  | swVsysStop => exact ⟨_, rfl, h.swVsysStop⟩
  | swVsysResume => exact ⟨_, rfl, h.swVsysResume⟩
  | softStartStep => exact ⟨_, rfl, h.softStartStep⟩
  | softStartDone => exact ⟨_, rfl, h.softStartDone⟩
  | swCal => exact ⟨_, rfl, h.andIf (·.swCalWrite)⟩
  | swCalDone => exact ⟨_, rfl, h.swCalDone⟩
  | dischargeEnd => exact ⟨_, rfl, h.dischargeEnd⟩
  | idealDiodeOff => exact ⟨_, rfl, h.idealDiode.pinsNext⟩
  | vsysUv => exact ⟨_, rfl, h.vsysUv⟩
  | reversalExit => exact ⟨_, rfl, h.reversalExit.pinsNext⟩
  | vstorVlow => exact ⟨_, rfl, h.vstorVlow⟩
  | vstorCutoff => exact ⟨_, rfl, h.vstorCutoff⟩
  | scShort => exact ⟨_, rfl, h.scShort⟩
  | scClr => exact ⟨_, rfl, h.andIf (·.scCtlWrite)⟩
  | storeStart => exact ⟨_, rfl, h.storeStart⟩
  | startupTimeout => exact ⟨_, rfl, h.startupTimeout⟩
  | chgCtlWrite => exact ⟨_, rfl, h.andIf (·.chgCtlWrite)⟩
  | chgClr => exact ⟨_, rfl, h.andIf (·.chgCtlWrite)⟩
  | chgPhaseChange => exact ⟨_, rfl, h.chgPhaseChange⟩
  | chgPhaseTimeout => exact ⟨_, rfl, h.chgPhaseTimeout⟩
  | chgTerminate => exact ⟨_, rfl, h.chgTerminate⟩
  | ntcSample => exact ⟨_, rfl, h.ntcSample⟩
  | presenceTest => exact ⟨_, rfl, h.presencePeriodic⟩
  | presencePhaseEnd => exact ⟨_, rfl, h.presencePhaseEnd⟩
  | cellBalance => exact ⟨_, rfl, h.cellBalance⟩
  | vbakSourceChange => exact ⟨_, rfl, h.vbakSource⟩
  | railRampEnd => exact ⟨_, rfl, h.railRampEnd⟩
  | lsOverload => exact ⟨_, rfl, h.lsOverload⟩
  | supervisorAssert => exact ⟨_, rfl, h.supervisorAssert⟩
  | powerGoodRise => exact ⟨_, rfl, h.powerGoodRise⟩
  | lullGo => exact ⟨_, rfl, h.andIf (·.lullGo)⟩
  | lullFramesDone => exact ⟨_, rfl, h.lullFramesDone⟩
  | lullNvcFlushDone => exact ⟨_, rfl, h.lullFlushDone⟩
  | lullRailOff => exact ⟨_, rfl, h.lullRailOff⟩
  | lullBudgetCut => exact ⟨_, rfl, h.lullBudgetCut⟩
  | portModeWrite => exact ⟨_, rfl, h.andIf (·.portCtlWrite)⟩
  | ibaseTrack => exact ⟨_, rfl, h.ibaseTrack⟩
  | lineLost => exact ⟨_, rfl, h.lineLost⟩
  | lineReturn => exact ⟨_, rfl, h.lineReturn⟩
  | txholdRelease => exact ⟨_, rfl, h.txholdRelease⟩
  | portBreach => exact ⟨_, rfl, h.ledgerRun⟩
  | portMeas => exact ⟨_, rfl, h.andIf (·.portMeasWrite)⟩
  | measPhaseEnd => exact ⟨_, rfl, h.measPhaseEnd⟩
  | measokExpire => exact ⟨_, rfl, h.measokExpire⟩
  | portRampEnd => exact ⟨_, rfl, h.portRampEnd⟩
  | portCal => exact ⟨_, rfl, h.andIf (·.portCalWrite)⟩
  | portCalDone => exact ⟨_, rfl, h.calDone⟩
  | exchangeStart => exact ⟨_, rfl, h.exchangeStart⟩
  | requestSent => exact ⟨_, rfl, h.requestSent⟩
  | replyReceived => exact ⟨_, rfl, h.replyReceived⟩
  | replyTimeout => exact ⟨_, rfl, h.replyTimeout⟩
  | rxGapTimeout => exact ⟨_, rfl, h.rxGapTimeout⟩
  | engineResync => exact ⟨_, rfl, h.engineResync⟩
  | engDoorbell => exact ⟨_, rfl, h.andIf (·.engDoorWrite)⟩
  | engCqRead => exact ⟨_, rfl, h.readReturn⟩
  | targetFrame => exact ⟨_, rfl, h.targetFrame⟩
  | targetAnswer => exact ⟨_, rfl, h.targetAnswer⟩
  | tselAccept => exact ⟨_, rfl, h.andIf (·.tselAccept)⟩
  | tselReject => exact ⟨_, rfl, h.andIf (·.tselReject)⟩
  | selectionTimeout => exact ⟨_, rfl, h.selectionTimeout⟩
  | twAddress => exact ⟨_, rfl, h.twAddress⟩
  | twWriteFrame => exact ⟨_, rfl, h.twWriteFrame⟩
  | twRead => exact ⟨_, rfl, h.twRead⟩
  | sclTimeout => exact ⟨_, rfl, h.sclTimeout⟩
  | uartCommandFrame => exact ⟨_, rfl, h.uartFrame⟩
  | uartFrameGap => exact ⟨_, rfl, h.uartGap⟩
  | poll => exact ⟨_, rfl, h.hostPoll⟩
  | commandDispatch => exact ⟨_, rfl, h.dispatch⟩
  | getstat => exact ⟨_, rfl, h.kernelCmd fun _ _ => h.tickFree⟩
  | bootrep => exact ⟨_, rfl, h.kernelCmd fun _ _ => h.tickFree⟩
  | otpread => exact ⟨_, rfl, h.orIf (·.kernelCmd fun _ _ => h.otpreadWork)⟩
  | sqread => exact ⟨_, rfl, h.kernelCmd fun _ _ => h⟩
  | reset => exact ⟨_, rfl, h.kernelCmd fun _ _ => h.resetWork⟩
  | tickread => exact ⟨_, rfl, h.kernelCmd fun _ _ => h⟩
  | railget => exact ⟨_, rfl, h.kernelCmd fun _ _ => h.railgetWork⟩
  | railset => exact ⟨_, rfl, h.kernelCmd fun _ _ => h.railsetWork⟩
  | epread => exact ⟨_, rfl, h.kernelCmd fun _ _ => h.epreadWork⟩
  | eppoll => exact ⟨_, rfl, h.kernelCmd fun _ _ => h.eppollWork⟩
  | logread => exact ⟨_, rfl, h.kernelCmd fun _ _ => h.logreadWork⟩
  | verify => exact ⟨_, rfl, h.kernelCmd fun _ _ => h.verifyWork⟩
  | install => exact ⟨_, rfl, h.kernelCmd fun _ _ => h.installWork⟩
  | serviceCommand => exact ⟨_, rfl, h.serviceCommand⟩
  | serviceTimeout => exact ⟨_, rfl, h.serviceTimeout⟩
  | portPayRead => exact ⟨_, rfl, h.readReturn⟩
  | portRdatWrite => exact ⟨_, rfl, h.andIf (·.rdatWrite)⟩
  | portDoneWrite => exact ⟨_, rfl, h.andIf (·.doneWrite)⟩
  | uartRxChar => exact ⟨_, rfl, h.uartRx⟩
  | uartDataRead => exact ⟨_, rfl, h.readReturn⟩
  | uartDataWrite => exact ⟨_, rfl, h.andIf (·.uartDataWrite)⟩
  | uartTxChar => exact ⟨_, rfl, h.uartTx⟩
  | uartRxflush => exact ⟨_, rfl, (h.owned h.uartRxFlush).ite h⟩
  | uartTxflush => exact ⟨_, rfl, (h.owned h.uartTxFlush).ite h⟩
  | uartTxbrk => exact ⟨_, rfl, (h.owned h.uartBrk).ite h⟩
  | uartDivWrite => exact ⟨_, rfl, h.andIf (·.uartDivWrite)⟩
  | uartCfgWrite => exact ⟨_, rfl, h.andIf (·.uartCfgWrite)⟩
  | uartRxIdle => exact ⟨_, rfl, h.uartIdle⟩
  | adcRun => exact ⟨_, rfl, h.andIf (·.adcRun)⟩
  | adcStop => exact ⟨_, rfl, h.andIf (·.adcStop)⟩
  | adcFifoclr => exact ⟨_, rfl, h.andIf (·.adcFifoClr)⟩
  | adcCalgo => exact ⟨_, rfl, h.andIf (·.adcCalGo)⟩
  | adcCalDone => exact ⟨_, rfl, h.adcCalDone⟩
  | adcSlotResult => exact ⟨_, rfl, h.adcSlotResult⟩
  | adcFifoRead => exact ⟨_, rfl, h.readReturn⟩
  | adcResRead => exact ⟨_, rfl, h.readReturn⟩
  | thermScan => exact ⟨_, rfl, h.thermScan⟩
  | thermalCut => exact ⟨_, rfl, h.thermalCut⟩
  | thermSuspClear => exact ⟨_, rfl, h.andIf (·.suspClear)⟩
  | trimCorrection => exact ⟨_, rfl, h.trimCorrection⟩
  | bakRcFallback => exact ⟨_, rfl, h.rcFallback⟩
  | bakXtalReturn => exact ⟨_, rfl, h.xtalReturn⟩
  | ticklRead => exact ⟨_, rfl, h.readReturn⟩
  | eventInputEdge => exact ⟨_, rfl, h.andIf (·.eventEdge)⟩
  | evf0Read => exact ⟨_, rfl, h.readReturn⟩
  | billcmpArm => exact ⟨_, rfl, h.andIf (·.billArm)⟩
  | billcmpFire => exact ⟨_, rfl, h.billFireWake⟩
  | wdkick => exact ⟨_, rfl, h.andIf (·.wdKick)⟩
  | wdcfgWrite => exact ⟨_, rfl, h.andIf (·.wdCfgWrite)⟩
  | wdEarly => exact ⟨_, rfl, h.wdEarly⟩
  | wdExpire => exact ⟨_, rfl, h.wdExpire⟩
  | recclr => exact ⟨_, rfl, h.andIf (·.recclr)⟩
  | calSplit => exact ⟨_, rfl, h.calRun fun _ _ _ => h.calSplit⟩
  | calJoin => exact ⟨_, rfl, h.calRun fun _ _ _ => h.calJoin⟩
  | calNow => exact ⟨_, rfl, h.calRun fun _ _ _ => h.calNow⟩
  | calSet => exact ⟨_, rfl, h.calRun fun _ _ _ => h.calSet⟩
  | pwmWrap => exact ⟨_, rfl, h.pwmWrap⟩
  | pwmFaultTrip => exact ⟨_, rfl, h.pwmTrip⟩
  | pwmWindowEnd => exact ⟨_, rfl, h.pwmWindowEnd⟩
  | pwmStart => exact ⟨_, rfl, h.andIf (·.pwmStart)⟩
  | pwmLatchRelease => exact ⟨_, rfl, h.andIf (·.pwmStatWrite)⟩
  | crystalCycle => exact ⟨_, rfl, h.crystalCycle.pinsNext⟩
  | uartBreakEnd => exact ⟨_, rfl, h.uartBreakEnd⟩
  | storeStartStop => exact ⟨_, rfl, h.storeStartStop⟩
  | balanceEnd => exact ⟨_, rfl, h.balanceEnd⟩
  | supervisorRelease => exact ⟨_, rfl, h.supervisorRelease⟩
  | cutComparatorRelease => exact ⟨_, rfl, h.cutRelease⟩

/-- A step keeps what its command keeps of a property that does not speak of the queue. -/
theorem kept_of_exec {p : State → Prop} (hq : ∀ s q, p s → p { s with pending := q })
    (he : ∀ c s u, exec c s = .next u → p s → p u) : Kept p := by
  intro s u hp hs
  unfold step at hs
  split at hs
  next => cases hs; exact hp
  next c rest _ => exact he c _ u hs (hq s rest hp)

/-- What a command leaves is what `Keeps` says of it. -/
theorem Keeps.of_exec {c : Instr} {s u : State} (h : exec c s = .next u) : Keeps s u := by
  obtain ⟨v, hv, hk⟩ := gives_keeps c s
  cases hv.symm.trans h
  exact hk

/-- Settles O2. -/
theorem commandsLeaveTheQueue : Obligations.CommandsLeaveTheQueue :=
  fun _ _ _ h => (Keeps.of_exec h).pending

/-- Settles O4. -/
theorem stepsKeepMemoryCanonical : Obligations.StepsKeepMemoryCanonical :=
  kept_of_exec (fun _ _ => id) fun _ _ _ h => (Keeps.of_exec h).mem

/-- Settles O6. -/
theorem stepsNeverHaltT0 : Obligations.StepsNeverHaltT0 :=
  kept_of_exec (fun _ _ => id) fun _ _ _ h hs hu => hs ((Keeps.of_exec h).t0 hu)

/-- Settles O1. -/
theorem stepTakesTheFrontCommand : Obligations.StepTakesTheFrontCommand :=
  fun s => ⟨fun c rest hp => by simp [step, hp], fun _ => rfl, fun hp => by simp [step, hp]⟩

/-- Settles O5: the memories are empty at reset. -/
theorem resetMemoryCanonical : Obligations.ResetMemoryCanonical := rfl

end Sys2Proof.Machine
end

section
/-!
SUPPORT. The integer instructions (R118 to R120): what the operations of the model compute, and what an instruction
leaves that writes its own thread alone.
-/

namespace Sys2Proof.Machine

section

/-- The signed result of an operation overflows where the word differs from the exact integer. -/
theorem overflows_eq {z : Int} {r : Word} (h : r = BitVec.ofInt 32 z) : overflows z = decide (z ≠ r.toInt) := by
  have hr : r.toInt = z.bmod (2 ^ 32) := by rw [h, BitVec.toInt_ofInt]
  have hb : z.bmod (2 ^ 32) = z ↔ -2147483648 ≤ z ∧ z ≤ 2147483647 := by
    rw [Int.bmod_def]
    omega
  have : (z ≠ r.toInt) ↔ (z < -2147483648 ∨ 2147483647 < z) := by
    rw [hr, ne_comm, ne_eq, hb]
    omega
  rw [overflows, ← Bool.decide_or, decide_eq_decide]
  exact this.symm

theorem add_eq_ofInt (a b : Word) (n : Nat) : a + b + BitVec.ofNat 32 n = BitVec.ofInt 32 (a.toInt + b.toInt + n) := by
  simp [BitVec.ofInt_add]

theorem sub_eq_ofInt (a b : Word) (n : Nat) : a - b - BitVec.ofNat 32 n = BitVec.ofInt 32 (a.toInt - b.toInt - n) := by
  simp [Int.sub_eq_add_neg, BitVec.ofInt_add, BitVec.ofInt_neg, BitVec.sub_eq_add_neg]

/-- Addition with a carry in, as R118 states its flags. -/
theorem addOp_eq (a b : Word) (c : Bool) : addOp a b c =
    (a + b + BitVec.ofNat 32 (b2n c), ⟨a + b + BitVec.ofNat 32 (b2n c) == 0, (a + b + BitVec.ofNat 32 (b2n c)).msb,
      decide (2 ^ 32 ≤ a.toNat + b.toNat + b2n c),
      decide (a.toInt + b.toInt + b2n c ≠ (a + b + BitVec.ofNat 32 (b2n c)).toInt)⟩) := by
  rw [addOp, overflows_eq (add_eq_ofInt a b (b2n c))]

/-- Subtraction with a borrow in, as R118 states its flags. -/
theorem subOp_eq (a b : Word) (c : Bool) : subOp a b c =
    (a - b - BitVec.ofNat 32 (b2n c), ⟨a - b - BitVec.ofNat 32 (b2n c) == 0, (a - b - BitVec.ofNat 32 (b2n c)).msb,
      decide (b.toNat + b2n c ≤ a.toNat),
      decide (a.toInt - b.toInt - b2n c ≠ (a - b - BitVec.ofNat 32 (b2n c)).toInt)⟩) := by
  rw [subOp, overflows_eq (sub_eq_ofInt a b (b2n c))]

theorem addOp_false (a b : Word) : addOp a b false = (a + b, ⟨a + b == 0, (a + b).msb,
    decide (2 ^ 32 ≤ a.toNat + b.toNat), decide (a.toInt + b.toInt ≠ (a + b).toInt)⟩) := by
  rw [addOp_eq]
  simp [b2n]

theorem subOp_false (a b : Word) : subOp a b false = (a - b, ⟨a - b == 0, (a - b).msb,
    decide (b.toNat ≤ a.toNat), decide (a.toInt - b.toInt ≠ (a - b).toInt)⟩) := by
  rw [subOp_eq]
  simp [b2n]

theorem b2n_not (c : Bool) : b2n (!c) = 1 - b2n c := by
  cases c <;> rfl

/-- Z of a comparison is equality. -/
theorem sub_beq_zero (a b : Word) : (a - b == 0) = (a == b) := by
  rw [Bool.eq_iff_iff, beq_iff_eq, beq_iff_eq]
  exact ⟨fun h => by bv_omega, fun h => by bv_omega⟩

/-- The flags of neg: no borrow from 0 alone, and only the least integer overflows. -/
theorem subOp_zero (b : Word) : subOp 0 b false = (0 - b, ⟨0 - b == 0, (0 - b).msb, b == 0, b == 0x80000000⟩) := by
  have hc : decide (b.toNat ≤ 0) = (b == 0) := by
    rw [Bool.eq_iff_iff, beq_iff_eq, decide_eq_true_eq]
    exact ⟨fun h => BitVec.eq_of_toNat_eq (by simpa using h), fun h => by simp [h]⟩
  have hv : overflows (0 - b.toInt) = (b == 0x80000000) := by
    have hlo := BitVec.le_two_mul_toInt (x := b)
    have hhi := BitVec.two_mul_toInt_lt (x := b)
    have hmin : (0x80000000 : Word).toInt = -2147483648 := by decide
    rw [Bool.eq_iff_iff, beq_iff_eq, ← BitVec.toInt_inj, hmin, overflows]
    simp only [Bool.or_eq_true, decide_eq_true_eq]
    omega
  rw [subOp]
  simp only [b2n, Bool.false_eq_true, if_false, Nat.add_zero, Int.ofNat_zero, Int.sub_zero, BitVec.sub_zero]
  exact congrArg₂ (fun c v => (0 - b, (⟨0 - b == 0, (0 - b).msb, c, v⟩ : Flags))) hc hv

end

section

variable {s : State} {t : Tid} {len n : Nat} {i : Instr}

/-- A plain instruction leaves its thread as its own function has it. -/
theorem Gives.of_plain {f : Thread → Thread} {y : Thread} (hx : exec i s = .next (s.plain t len n f)) (hr : Runs s t len)
    (hb : InBudget s t n) (hy : f (s.thr t) = y) (hgm : y.gm = (s.thr t).gm) :
    Gives i s (fun u => OnlyThread s u t n { y with pc := y.pc + BitVec.ofNat 32 len }) := by
  subst hy
  exact ⟨_, hx, State.plain_only hr hb hgm⟩

/-- An instruction that computes a register and the flags. -/
theorem Gives.wrote {f : Thread → Thread} {d : Gpr} {r : Word} {fl : Flags} (hx : exec i s = .next (s.plain t len n f))
    (hr : Runs s t len) (hb : InBudget s t n) (hf : f (s.thr t) = ((s.thr t).setReg d r).setFl fl) :
    Gives i s (fun u => OnlyThread s u t n ((s.thr t).wrote d r fl len)) :=
  Gives.of_plain hx hr hb hf (by simp)

/-- An instruction that computes the flags alone. -/
theorem Gives.compared {f : Thread → Thread} {fl : Flags} (hx : exec i s = .next (s.plain t len n f))
    (hr : Runs s t len) (hb : InBudget s t n) (hf : f (s.thr t) = (s.thr t).setFl fl) :
    Gives i s (fun u => OnlyThread s u t n ((s.thr t).compared fl len)) :=
  Gives.of_plain hx hr hb hf (by simp)

/-- An instruction that computes a register alone. -/
theorem Gives.moved {f : Thread → Thread} {d : Gpr} {r : Word} (hx : exec i s = .next (s.plain t len n f))
    (hr : Runs s t len) (hb : InBudget s t n) (hf : f (s.thr t) = (s.thr t).setReg d r) :
    Gives i s (fun u => OnlyThread s u t n ((s.thr t).moved d r len)) :=
  Gives.of_plain hx hr hb hf rfl

/-- add, sub, adc and sbc, in whichever form: the operation says the result and the flags. -/
theorem Gives.arith {f : AluForm} {op : Word → Word → Bool → Word × Flags} {cin : Thread → Bool} {r : Word} {fl : Flags}
    (hx : exec i s = .next (s.arith t f op cin)) (hr : Runs s t f.len) (hb : InBudget s t 1)
    (hop : op (f.a (s.thr t)) (f.b (s.thr t)) (cin (s.thr t)) = (r, fl)) :
    Gives i s (fun u => OnlyThread s u t 1 ((s.thr t).wrote f.dst r fl f.len)) :=
  Gives.wrote hx hr hb (by simp only [hop])

/-- The operations that leave C and V. -/
theorem Gives.logic {f : AluForm} {op : Word → Word → Word} (hx : exec i s = .next (s.logic t f n op))
    (hr : Runs s t f.len) (hb : InBudget s t n) :
    Gives i s (fun u => OnlyThread s u t n ((s.thr t).wrote f.dst (op (f.a (s.thr t)) (f.b (s.thr t)))
      ((s.thr t).fl.zn (op (f.a (s.thr t)) (f.b (s.thr t)))) f.len)) :=
  Gives.wrote hx hr hb rfl

theorem Gives.logicImm {gd gs : Gpr} {v : BitVec 16} {op : Word → Word → Word}
    (hx : exec i s = .next (s.logicImm t gd gs v op)) (hr : Runs s t 4) (hb : InBudget s t 1) :
    Gives i s (fun u => OnlyThread s u t 1 ((s.thr t).wrote gd (op ((s.thr t).reg gs) (uimm v))
      ((s.thr t).fl.zn (op ((s.thr t).reg gs) (uimm v))) 4)) :=
  Gives.wrote hx hr hb rfl

end

/-- Settles O7. -/
theorem addSubtractAndCompare : Obligations.AddSubtractAndCompare := by
  intro s t x hb
  refine ⟨fun f hr => ?_, fun gd gs hr => ?_, fun f hr => ?_, fun gd gs hr => ?_, fun f hr => ?_⟩
  · intro a b c
    refine ⟨Gives.arith rfl hr hb (addOp_false a b), Gives.arith rfl hr hb (subOp_false a b),
      Gives.arith rfl hr hb (addOp_eq a b x.fl.c), Gives.arith rfl hr hb ?_⟩
    have h := subOp_eq a b (!x.fl.c)
    rwa [b2n_not] at h
  · exact Gives.wrote rfl hr hb (by rw [subOp_zero])
  · exact Gives.wrote rfl hr hb (by rw [addOp_false])
  · refine ⟨Gives.compared rfl hr hb ?_, Gives.compared rfl hr hb rfl⟩
    rw [subOp_false, sub_beq_zero]
  · refine Gives.compared rfl hr hb ?_
    rw [subOp_false, sub_beq_zero]

/-- Settles O8. -/
theorem logicAndProducts : Obligations.LogicAndProducts := by
  intro s t x zn
  refine ⟨fun f hr => ?_, fun gd gs hr hb => ?_, fun gd gs v hr hb => ?_, fun gd gs gt hr hb => ?_⟩
  · exact ⟨fun hb => ⟨Gives.logic rfl hr hb, Gives.logic rfl hr hb, Gives.logic rfl hr hb⟩,
      fun hb => Gives.logic rfl hr hb⟩
  · exact Gives.wrote rfl hr hb rfl
  · exact ⟨Gives.logicImm rfl hr hb, Gives.logicImm rfl hr hb, Gives.logicImm rfl hr hb⟩
  · exact ⟨Gives.logic (f := .long gd gs gt) (op := mulhOp) rfl hr hb,
      Gives.logic (f := .long gd gs gt) (op := mulhuOp) rfl hr hb⟩

/-- C of a shift: the bit it moves out last, or as it was where it moves none. -/
def Flags.out (f : Flags) (r : Word) (n : Nat) (c : Bool) : Flags := ⟨r == 0, r.msb, if n = 0 then f.c else c, f.v⟩

theorem Flags.shift_of (f : Flags) (r : Word) (n : Nat) (o : Option Bool) {c : Bool}
    (ho : o = if n = 0 then none else some c) : f.shift (r, o) = f.out r n c := by
  subst ho
  unfold Flags.out
  split_ifs
  · rfl
  · rfl

theorem shlOp_flags (f : Flags) (a : Word) (n : Nat) :
    f.shift (shlOp a n) = f.out (a <<< n) n (decide (n ≤ 32) && a.getLsbD (32 - n)) := by
  refine Flags.shift_of _ _ _ _ (if_congr Iff.rfl rfl ?_)
  by_cases h : n ≤ 32
  · simp [h]
  · simp [h]

theorem shrOp_flags (f : Flags) (a : Word) (n : Nat) :
    f.shift (shrOp a n) = f.out (a >>> n) n (a.getLsbD (n - 1)) := by
  refine Flags.shift_of _ _ _ _ (if_congr Iff.rfl rfl ?_)
  by_cases h : n ≤ 32
  · rw [if_pos h]
  · rw [if_neg h, BitVec.getLsbD_of_ge _ _ (by omega)]

theorem sarOp_flags (f : Flags) (a : Word) (n : Nat) : f.shift (sarOp a n) =
    f.out (a.sshiftRight n) n (if n ≤ 32 then a.getLsbD (n - 1) else a.msb) :=
  Flags.shift_of _ _ _ _ (if_congr Iff.rfl rfl (apply_ite some _ _ _).symm)

/-- A rotate moves its last bit out into the top bit of its result. -/
theorem rorOp_flags (f : Flags) (a : Word) {n : Nat} (hn : n < 32) : f.shift (rorOp a n) =
    f.out (a.rotateRight n) n (a.rotateRight n).msb := by
  refine Flags.shift_of _ _ _ _ ?_
  by_cases h0 : n = 0
  · rw [if_pos h0, if_pos h0]
  · have hm : (a.rotateRight n).msb = a.getLsbD (n - 1) := by
      have hlast : 32 - 1 - (32 - n) = n - 1 := by omega
      rw [BitVec.msb_eq_getLsbD_last, BitVec.getLsbD_rotateRight, Nat.mod_eq_of_lt hn, hlast,
        decide_eq_false (by omega)]
      rfl
    rw [if_neg h0, if_neg h0, hm]

section

variable {s : State} {t : Tid} {i : Instr}

/-- The shifts, in whichever form. -/
theorem Gives.shift {f : AluForm} {op : Word → Nat → Word × Option Bool} {n : Nat} {fl : Flags}
    (hx : exec i s = .next (s.shift t f op)) (hr : Runs s t f.len) (hb : InBudget s t 1)
    (hn : bitsOf (f.b (s.thr t)) 0 8 = n) (hfl : (s.thr t).fl.shift (op (f.a (s.thr t)) n) = fl) :
    Gives i s (fun u => OnlyThread s u t 1 ((s.thr t).wrote f.dst (op (f.a (s.thr t)) n).1 fl f.len)) :=
  Gives.wrote hx hr hb (by simp only [hn, hfl])

theorem Gives.shiftImm {gd : Gpr} {v : BitVec 5} {op : Word → Nat → Word × Option Bool} {fl : Flags}
    (hx : exec i s = .next (s.shiftImm t gd v op)) (hr : Runs s t 2) (hb : InBudget s t 1)
    (hfl : (s.thr t).fl.shift (op ((s.thr t).reg gd) v.toNat) = fl) :
    Gives i s (fun u => OnlyThread s u t 1 ((s.thr t).wrote gd (op ((s.thr t).reg gd) v.toNat).1 fl 2)) :=
  Gives.wrote hx hr hb (by simp only [hfl])

theorem Gives.ror {gd gs gt : Gpr} {n : Nat} {fl : Flags} (hr : Runs s t 4) (hb : InBudget s t 1)
    (hn : bitsOf ((s.thr t).reg gt) 0 5 = n) (hfl : (s.thr t).fl.shift (rorOp ((s.thr t).reg gs) n) = fl) :
    Gives (.ror t gd gs gt) s
      (fun u => OnlyThread s u t 1 ((s.thr t).wrote gd (rorOp ((s.thr t).reg gs) n).1 fl 4)) :=
  Gives.wrote rfl hr hb (by simp only [hn, hfl])

end

/-- The low bits of a word are its remainder. -/
theorem bitsOf_low (v : Word) (n : Nat) : bitsOf v 0 n = v.toNat % 2 ^ n := by
  rw [bitsOf, Nat.pow_zero, Nat.div_one]

/-- Settles O9. -/
theorem shiftsAndRotate : Obligations.ShiftsAndRotate := by
  intro s t hb x out shl shr sar
  refine ⟨fun f hr => ?_, fun gd v hr => ?_, fun gd gs gt hr => ?_⟩
  · have hn : bitsOf (f.b x) 0 8 = (f.b x).toNat % 256 := bitsOf_low _ 8
    exact ⟨Gives.shift (op := shlOp) rfl hr hb hn (shlOp_flags _ _ _), Gives.shift (op := shrOp) rfl hr hb hn
      (shrOp_flags _ _ _), Gives.shift (op := sarOp) rfl hr hb hn (sarOp_flags _ _ _)⟩
  · exact ⟨Gives.shiftImm (op := shlOp) rfl hr hb (shlOp_flags _ _ _), Gives.shiftImm (op := shrOp) rfl hr hb
      (shrOp_flags _ _ _), Gives.shiftImm (op := sarOp) rfl hr hb (sarOp_flags _ _ _)⟩
  · have hlt : (x.reg gt).toNat % 32 < 32 := Nat.mod_lt _ (by decide)
    have hn : bitsOf (x.reg gt) 0 5 = (x.reg gt).toNat % 32 := bitsOf_low _ 5
    exact Gives.ror hr hb hn (rorOp_flags _ _ hlt)

/-- A quotient or remainder of words that does not overflow is one of signed words. -/
theorem toInt_ofInt_of_natAbs_le {z : Int} {a : Word} (h : z.natAbs ≤ a.toInt.natAbs) (hz : z ≠ 2147483648) :
    (BitVec.ofInt 32 z).toInt = z := by
  have hlo := BitVec.le_two_mul_toInt (x := a)
  have hhi := BitVec.two_mul_toInt_lt (x := a)
  rw [BitVec.toInt_ofInt, Int.bmod_def]
  omega

/-- The one quotient of words that no signed word holds. -/
theorem tdiv_eq_overflow {a b : Word} (h : a.toInt.tdiv b.toInt = 2147483648) : a = 0x80000000 ∧ b = 0xFFFFFFFF := by
  have hlo := BitVec.le_two_mul_toInt (x := a)
  have hhi := BitVec.two_mul_toInt_lt (x := a)
  have hmul := Int.natAbs_tdiv a.toInt b.toInt
  rw [h] at hmul
  have hdiv : a.toInt.natAbs / b.toInt.natAbs = 2147483648 := hmul.symm
  have hle : a.toInt.natAbs ≤ 2147483648 := by omega
  have hb1 : b.toInt.natAbs = 1 := by
    rcases Nat.lt_trichotomy b.toInt.natAbs 1 with h1 | h1 | h1
    · rw [Nat.lt_one_iff.mp h1, Nat.div_zero] at hdiv
      cases hdiv
    · exact h1
    · have : a.toInt.natAbs / b.toInt.natAbs ≤ a.toInt.natAbs / 2 := Nat.div_le_div_left h1 (by decide)
      omega
  rw [hb1, Nat.div_one] at hdiv
  have ha : a.toInt = -2147483648 := by omega
  have hbs : b.toInt = -1 := by
    rcases Int.natAbs_eq_iff.mp hb1 with e | e
    · rw [ha, e] at h
      exact absurd h (by decide)
    · exact e
  exact ⟨BitVec.eq_of_toInt_eq (ha.trans (by decide)), BitVec.eq_of_toInt_eq (hbs.trans (by decide))⟩

theorem divOverflow_iff (a b : Word) : divOverflow a b = true ↔ a = 0x80000000 ∧ b = 0xFFFFFFFF := by
  simp [divOverflow]

/-- The signed quotient and remainder (R120). -/
theorem divOp_remOp (a b : Word) : if a = 0x80000000 ∧ b = 0xFFFFFFFF then divOp a b = 0x80000000 ∧ remOp a b = 0
    else (divOp a b).toInt = a.toInt.tdiv b.toInt ∧ (remOp a b).toInt = a.toInt.tmod b.toInt := by
  by_cases h : a = 0x80000000 ∧ b = 0xFFFFFFFF
  · have ho := (divOverflow_iff a b).mpr h
    rw [if_pos h, divOp, remOp, if_pos ho, if_pos ho]
    exact ⟨rfl, rfl⟩
  · have ho := mt (divOverflow_iff a b).mp h
    rw [if_neg h, divOp, remOp, if_neg ho, if_neg ho]
    have hhi := BitVec.two_mul_toInt_lt (x := a)
    have hlo := BitVec.le_two_mul_toInt (x := a)
    have hm : (a.toInt.tmod b.toInt).natAbs ≤ a.toInt.natAbs := by
      rw [Int.natAbs_tmod]
      exact Nat.mod_le _ _
    refine ⟨toInt_ofInt_of_natAbs_le (a := a) ?_ fun e => h (tdiv_eq_overflow e), toInt_ofInt_of_natAbs_le hm ?_⟩
    · rw [Int.natAbs_tdiv]
      exact Nat.div_le_self _ _
    · intro e
      have hsign : a.toInt < 0 → a.toInt.tmod b.toInt ≤ 0 := fun h0 => by
        have := Int.tmod_nonneg b.toInt (a := -a.toInt) (by omega)
        rw [Int.neg_tmod] at this
        omega
      omega

theorem divuOp_toNat (a b : Word) : (divuOp a b).toNat = a.toNat / b.toNat := by
  rw [divuOp, BitVec.toNat_ofNat]
  exact Nat.mod_eq_of_lt ((Nat.div_le_self _ _).trans_lt a.isLt)

theorem remuOp_toNat (a b : Word) : (remuOp a b).toNat = a.toNat % b.toNat := by
  rw [remuOp, BitVec.toNat_ofNat]
  exact Nat.mod_eq_of_lt ((Nat.mod_le _ _).trans_lt a.isLt)

section

variable {s : State} {t : Tid} {gd gs gt : Gpr} {i : Instr} {op : Word → Word → Word} {v : Word → Word → Bool → Bool}

/-- An instruction that replaces its own thread, GM kept. -/
theorem Gives.of_setThr {len n : Nat} {body : State → Thread → Res} {y : Thread}
    (hx : exec i s = .next (s.issue t len body)) (hr : Runs s t len) (hb : InBudget s t n)
    (hbody : body s (s.thr t) = .done (s.setThr t y) n) (hgm : y.gm = (s.thr t).gm) :
    Gives i s (fun u => OnlyThread s u t n y) :=
  Gives.of_done hx hr hbody (State.account_setThr_only hr hb hgm)

/-- An issue of a division before its last. -/
theorem Gives.divideStep (hx : exec i s = .next (s.divide t gd gs gt op v)) (hr : Runs s t 4)
    (hb0 : (s.thr t).reg gt ≠ 0) (hd : State.divDone (s.thr t) < 2) (hb : InBudget s t 12) :
    Gives i s (fun u => OnlyThread s u t 12
      { s.thr t with divAt := some ((s.thr t).pc, State.divDone (s.thr t) + 1) }) :=
  Gives.of_setThr hx hr hb ((if_neg hb0).trans (if_pos hd)) rfl

/-- The last issue of a division. -/
theorem Gives.divideEnd (hx : exec i s = .next (s.divide t gd gs gt op v)) (hr : Runs s t 4)
    (hb0 : (s.thr t).reg gt ≠ 0) (hd : 2 ≤ State.divDone (s.thr t)) (hb : InBudget s t 10) :
    let q := op ((s.thr t).reg gs) ((s.thr t).reg gt)
    Gives i s (fun u => OnlyThread s u t 10 ({ s.thr t with divAt := none }.wrote gd q
      ⟨q == 0, q.msb, (s.thr t).fl.c, v ((s.thr t).reg gs) ((s.thr t).reg gt) (s.thr t).fl.v⟩ 4)) :=
  Gives.of_setThr hx hr hb ((if_neg hb0).trans (if_neg hd.not_gt)) ((Thread.gm_setFl _ _).trans rfl)

end

/-- Settles O10. -/
theorem divisions : Obligations.Divisions := by
  intro s t gd gs gt hr x a b hb0
  refine ⟨fun hd hb => ?_, fun hd hb => ⟨⟨divOp a b, remOp a b, ?_, ?_, divOp_remOp a b⟩, divuOp a b, remuOp a b, ?_, ?_,
    divuOp_toNat a b, remuOp_toNat a b⟩⟩
  · exact ⟨Gives.divideStep rfl hr hb0 hd hb, Gives.divideStep rfl hr hb0 hd hb, Gives.divideStep rfl hr hb0 hd hb,
      Gives.divideStep rfl hr hb0 hd hb⟩
  · exact Gives.divideEnd (op := divOp) (v := vSigned) rfl hr hb0 hd hb
  · exact Gives.divideEnd (op := remOp) (v := vSigned) rfl hr hb0 hd hb
  · exact Gives.divideEnd (op := divuOp) (v := vKeep) rfl hr hb0 hd hb
  · exact Gives.divideEnd (op := remuOp) (v := vKeep) rfl hr hb0 hd hb

/-- Settles O11. -/
theorem zeroDivisorAndReservedEncodingFault : Obligations.ZeroDivisorAndReservedEncodingFault := by
  refine ⟨fun s t gd gs gt hr hb h0 => ?_, fun s t h0 h1 hd hr hb => ?_⟩
  · exact ⟨FaultsWith.of_flt rfl hr hb (if_pos h0), FaultsWith.of_flt rfl hr hb (if_pos h0),
      FaultsWith.of_flt rfl hr hb (if_pos h0), FaultsWith.of_flt rfl hr hb (if_pos h0)⟩
  · have hx : exec (.reservedEncoding t h0 h1) s = .next (s.issue t (fetchLen h0) fun _ _ => .flt cILLEGAL 0) :=
      congrArg Host.Outcome.next (if_pos (by rw [hd]; rfl))
    exact FaultsWith.of_flt hx hr hb rfl

/-- A 16-bit immediate as the high half of a word. -/
theorem high_half (v : BitVec 16) : uimm v <<< 16 = v ++ (0 : BitVec 16) := by
  refine BitVec.eq_of_toNat_eq ?_
  have := v.isLt
  simp only [uimm, BitVec.toNat_shiftLeft, BitVec.toNat_setWidth, BitVec.toNat_append, Nat.shiftLeft_eq,
    BitVec.ofNat_eq_ofNat, BitVec.toNat_ofNat, Nat.zero_mod, Nat.or_zero]
  omega

/-- Settles O12. -/
theorem movesAndNop : Obligations.MovesAndNop := by
  intro s t hb x
  refine ⟨fun gd gs hr => ?_, fun gd gs hr => ?_, fun gd v hr => ?_, fun gd v hr => ?_, fun hr => ?_⟩
  · exact Gives.moved rfl hr hb rfl
  · exact ⟨Gives.moved rfl hr hb rfl, Gives.moved rfl hr hb rfl⟩
  · exact Gives.moved rfl hr hb rfl
  · exact ⟨Gives.moved rfl hr hb rfl, Gives.moved rfl hr hb (by rw [high_half])⟩
  · exact Gives.of_plain rfl hr hb rfl rfl

end Sys2Proof.Machine
end

section
/-!
SUPPORT. Branches, yield, halt, signal, WAIT and the fences (R91, R106, R117, R121 to R123).
-/

namespace Sys2Proof.Machine

section

variable {s u : State} {t : Tid} {i : Instr}

/-- A conditional branch, in whichever form. -/
theorem Gives.bCond {c : Cond} (f : BcondForm) (hr : Runs s t f.len) (hb : InBudget s t 2) :
    Gives (.bCond t c f) s (fun u => if condHolds c (s.thr t).fl
      then OnlyThread s u t 2 { s.thr t with pc := f.target (s.thr t).pc }
      else OnlyThread s u t 1 { s.thr t with pc := (s.thr t).pc + BitVec.ofNat 32 f.len }) := by
  by_cases h : condHolds c (s.thr t).fl = true
  · simp only [if_pos h]
    exact Gives.of_setThr rfl hr hb (if_pos h) rfl
  · simp only [if_neg h]
    exact Gives.of_setThr rfl hr (hb.mono (by decide)) (if_neg h) rfl

/-- A branch to a register, with or without its link. -/
theorem Gives.jumpReg {target : Thread → Word} {link : Bool} (hx : exec i s = .next (s.jumpReg t target link))
    (hr : Runs s t 2) (hb : InBudget s t 2) (h0 : (target (s.thr t)).getLsbD 0 = false) :
    Gives i s (fun u => OnlyThread s u t 2
      { (if link then (s.thr t).setReg 14 ((s.thr t).pc + 2) else s.thr t) with pc := target (s.thr t) }) := by
  refine Gives.of_setThr hx hr hb (if_neg (Bool.eq_false_iff.mp h0)) ?_
  cases link
  · rfl
  · rfl

/-- A register target with bit 0 set (R112). -/
theorem FaultsWith.jumpReg {target : Thread → Word} {link : Bool} (hx : exec i s = .next (s.jumpReg t target link))
    (hr : Runs s t 2) (hb : InBudget s t 1) (h1 : (target (s.thr t)).getLsbD 0 = true) :
    FaultsWith i s t 0x03 (target (s.thr t)) :=
  FaultsWith.of_flt hx hr hb (if_pos h1)

end

/-- Settles O16. -/
theorem branches : Obligations.Branches := by
  intro s t x fl test dest
  have htest : ∀ c, test c = condHolds c fl := fun c => by cases c <;> rfl
  simp only [htest]
  refine ⟨fun c o hr hb => Gives.bCond (.short o) hr hb, fun c o hr hb => Gives.bCond (.long o) hr hb,
    fun o hr hb => ?_, fun o hr hb => ⟨?_, ?_⟩, fun gs hr hb h0 => ⟨?_, ?_⟩, fun gs hr hb h1 => ⟨?_, ?_⟩,
    fun hr hb h0 => ?_, fun hr hb h1 => ?_⟩
  · exact Gives.of_setThr rfl hr hb rfl rfl
  · exact Gives.of_setThr rfl hr hb rfl rfl
  · exact Gives.of_setThr rfl hr hb rfl rfl
  · exact Gives.jumpReg (target := fun x => x.reg gs) (link := false) rfl hr hb h0
  · exact Gives.jumpReg (target := fun x => x.reg gs) (link := true) rfl hr hb h0
  · exact FaultsWith.jumpReg (target := fun x => x.reg gs) (link := false) rfl hr hb h1
  · exact FaultsWith.jumpReg (target := fun x => x.reg gs) (link := true) rfl hr hb h1
  · exact Gives.jumpReg (target := fun x => x.reg 14) (link := false) rfl hr hb h0
  · exact FaultsWith.jumpReg (target := fun x => x.reg 14) (link := false) rfl hr hb h1

theorem State.thr_mapThr (s : State) (f : Thread → Thread) (t : Tid) : (s.mapThr f).thr t = f (s.thr t) := by
  simp [State.mapThr, State.thr]

/-- A line that becomes pending in a thread readies it if it waits for the line (R92). -/
theorem Thread.pendLines_line (x : Thread) {k : Nat} (hk : k < 64) : x.pendLines (lineMask k) =
    { x with pend := x.pend ||| BitVec.twoPow 64 k, st := if x.waitMask.getLsbD k then .ready else x.st } := by
  have hzero : ¬BitVec.twoPow 64 k = 0#64 := fun h => by
    have hbit : (BitVec.twoPow 64 k).getLsbD k = true := by simp [hk]
    rw [h] at hbit
    simp at hbit
  unfold Thread.pendLines
  simp only [lineMask, BitVec.and_twoPow]
  cases x.waitMask.getLsbD k
  · simp
  · simp [hzero]

/-- Settles O17. -/
theorem yieldHaltSignal : Obligations.YieldHaltSignal := by
  intro s t x
  refine ⟨fun hr hb => Gives.of_plain (y := { x with yielding := true }) rfl hr hb rfl rfl, ?_, fun ht hr hb => ?_,
    fun k hr hb => ?_⟩
  · refine ⟨_, rfl, State.thr_setThr_self _ _ _, fun v hv => State.thr_setThr_ne _ _ _ _ hv, ?_, rfl, rfl,
      MemorySame.of_mem rfl, ?_⟩
    · simp [CoreSame, State.setThr]
    · simp [BlocksSame]
  · exact Gives.of_setThr rfl hr hb (if_neg ht) rfl
  · have hpost := fun (y : Thread) => y.pendLines_line (k := 32 + k.val) (by omega)
    have hself : ((s.advance t 2 x).pendAll (lineMask (32 + k.val))).thr t =
        { x with pc := x.pc + 2 }.pendLines (lineMask (32 + k.val)) := by
      rw [State.pendAll, State.thr_mapThr, State.advance, State.thr_setThr_self]
      rfl
    refine Gives.of_done rfl hr rfl ?_
    obtain ⟨⟨ht, hother⟩, hcounts, hcore, hsb, hregs, hmem, hblocks⟩ :=
      State.account_frame (s1 := (s.advance t 2 x).pendAll (lineMask (32 + k.val))) hr hb rfl
        (by rw [hself, hpost]; rfl)
    refine ⟨?_, fun v hv => ?_, hcounts, hcore, hsb, hregs, MemorySame.of_mem hmem, hblocks⟩
    · rw [ht, hself, hpost]
      rfl
    · rw [hother v hv, State.pendAll, State.thr_mapThr, State.advance, State.thr_setThr_ne _ _ _ _ hv, hpost]

/-- WAIT's line is the lowest that is pending and asked for. -/
theorem lowestLine_eq {m : BitVec 64} {k : Nat} (hk : m.getLsbD k = true) (hlow : ∀ j, j < k → m.getLsbD j = false) :
    lowestLine m = k := by
  have hk64 : k < 64 := BitVec.lt_of_getLsbD hk
  have hfind : (List.range 64).find? (fun k => m.getLsbD k) = some k :=
    List.find?_range_eq_some.mpr ⟨hk, by simpa using hk64, fun j hj => by simpa using hlow j hj⟩
  rw [lowestLine, hfind]
  rfl

/-- Settles O18. -/
theorem waitConsumesTheLowestLine : Obligations.WaitConsumesTheLowestLine := by
  intro s t gm hr hb x m bad
  have hodd : gm.val % 2 = 0 → ¬gm.val % 2 = 1 := by omega
  refine ⟨fun h => FaultsWith.of_flt rfl hr hb (if_pos h), fun h hbad => FaultsWith.of_flt rfl hr hb ?_,
    fun h hbad hnone => ?_, fun h hbad k hp hm hlow => ?_⟩
  · exact (if_neg (hodd h)).trans (if_pos hbad)
  · exact Gives.of_setThr rfl hr hb ((if_neg (hodd h)).trans ((if_neg hbad).trans (if_pos hnone))) rfl
  · have hk : (x.pend &&& m).getLsbD k = true := by rw [BitVec.getLsbD_and, hp, hm]; rfl
    have hsome : ¬x.pend &&& m = 0 := fun h0 => by
      rw [h0] at hk
      simp at hk
    have hline : lowestLine (x.pend &&& m) = k :=
      lowestLine_eq hk fun j hj => by rw [BitVec.getLsbD_and]; exact hlow j hj
    refine Gives.of_setThr rfl hr hb ((if_neg (hodd h)).trans ((if_neg hbad).trans ((if_neg hsome).trans ?_))) rfl
    simp only [pairMask] at *
    rw [show lowestLine (x.pend &&& m) = k from hline]
    rfl

section

variable {s : State} {t : Tid} {i : Instr} {y : Until}

/-- A fence whose condition holds goes on. -/
theorem Gives.fence (hx : exec i s = .next (s.fence t y)) (hr : Runs s t 2) (hb : InBudget s t 1)
    (hy : s.holds y = true) : Gives i s (fun u => OnlyThread s u t 1 { s.thr t with pc := (s.thr t).pc + 2 }) :=
  Gives.of_setThr hx hr hb (if_pos hy) rfl

/-- A fence whose condition does not hold stalls, and names it. -/
theorem State.fence_stalls (hx : exec i s = .next (s.fence t y)) (hr : Runs s t 2) (hy : s.holds y = false) :
    exec i s = .next (s.setThr t { s.thr t with stall := some (.retry y) }) := by
  rw [hx, State.fence, State.issue_of_runs hr, hy]
  rfl

end

/-- Settles O22. -/
theorem fencesComplete : Obligations.FencesComplete := by
  intro s t hr hb on waits applied ended
  have hdrained : s.holds .drained = true ↔ s.core.sb = [] := by simp [State.holds]
  have happlied : s.holds .applied = true ↔ applied := by simp [State.holds, State.allApplied, applied]
  have hframes : s.holds .frames = true ↔ ended := by
    simp [State.holds, State.framesOver, ended, and_assoc]
  refine ⟨fun h => ?_, fun h => ?_, fun h => ?_, fun h => ?_, fun h => ?_, fun h => ?_⟩
  · exact ⟨Gives.fence rfl hr hb (hdrained.mpr h), Gives.fence rfl hr hb (hdrained.mpr h)⟩
  · have hno := Bool.eq_false_iff.mpr (mt hdrained.mp h)
    exact ⟨State.fence_stalls rfl hr hno, State.fence_stalls rfl hr hno⟩
  · exact Gives.fence rfl hr hb (happlied.mpr h)
  · exact State.fence_stalls rfl hr (Bool.eq_false_iff.mpr (mt happlied.mp h))
  · exact Gives.fence rfl hr hb (hframes.mpr h)
  · exact State.fence_stalls rfl hr (Bool.eq_false_iff.mpr (mt hframes.mp h))

end Sys2Proof.Machine
end

section
/-!
SUPPORT. mfc and mtc (R90, R125): what a read gives, and each register that a write may change.
-/

namespace Sys2Proof.Machine

/-- mfc of a register the ring may read. -/
theorem Gives.mfc {s : State} {t : Tid} {gd : Gpr} {cr : Fin 64} {v : Word} (hr : Runs s t 4) (hb : InBudget s t 1)
    (hok : State.crReadable cr (s.thr t).ring = true) (hv : s.crRead t (s.thr t) cr = v) :
    Gives (.mfc t gd cr) s (fun u => OnlyThread s u t 1 ((s.thr t).moved gd v 4)) := by
  subst hv
  exact Gives.of_setThr rfl hr hb (if_neg (by rw [hok]; decide)) rfl

/-- The reserved indices read 0. -/
theorem State.crRead_reserved (s : State) (t : Tid) (x : Thread) {cr : Nat} (h : (5 < cr ∧ cr < 32) ∨ 44 < cr) :
    s.crRead t x cr = 0 := by
  unfold State.crRead
  split
  case h_20 => rfl
  all_goals omega

theorem State.crReadable_of_not_listed {cr : Nat} (h2 : cr ≠ 2) (h4 : ¬(4 ≤ cr ∧ cr ≤ 5)) (h32 : ¬(32 ≤ cr ∧ cr ≤ 39))
    (ring : Nat) : State.crReadable cr ring = true := by
  unfold State.crReadable
  rw [if_neg (by omega), if_neg (by omega), if_neg (by omega)]

/-- Settles O23. -/
theorem readControlRegister : Obligations.ReadControlRegister := by
  intro s t gd cr hr hb x ok
  have hmfc : ∀ v, State.crReadable cr x.ring = true → s.crRead t x cr = v → ok v := fun v => Gives.mfc hr hb
  refine ⟨fun h => FaultsWith.of_flt rfl hr hb (if_pos h), ?_, ?_, ?_, fun h0 => ⟨?_, ?_, ?_, ?_⟩, fun h1 => ⟨?_, ?_⟩,
    fun h2 => ⟨?_, ?_, ?_, ?_⟩, ?_, ?_, ?_, ?_, ?_, ?_, fun h => ?_⟩
  · rintro rfl; exact hmfc _ rfl rfl
  · rintro rfl; exact hmfc _ rfl rfl
  · rintro rfl; exact hmfc _ rfl rfl
  · rintro rfl; exact hmfc _ (beq_iff_eq.mpr h0) rfl
  · rintro rfl; exact hmfc _ (beq_iff_eq.mpr h0) rfl
  · rintro rfl; exact hmfc _ (beq_iff_eq.mpr h0) rfl
  · rintro rfl; exact hmfc _ (beq_iff_eq.mpr h0) rfl
  · rintro rfl; exact hmfc _ (decide_eq_true h1) rfl
  · rintro rfl; exact hmfc _ (decide_eq_true h1) rfl
  · rintro rfl; exact hmfc _ (decide_eq_true h2) rfl
  · rintro rfl; exact hmfc _ (decide_eq_true h2) rfl
  · rintro rfl; exact hmfc _ (decide_eq_true h2) rfl
  · rintro rfl; exact hmfc _ (decide_eq_true h2) rfl
  · rintro rfl; exact hmfc _ rfl rfl
  · rintro rfl; exact hmfc _ rfl rfl
  · rintro rfl; exact hmfc _ rfl rfl
  · rintro rfl; exact hmfc _ rfl rfl
  · rintro rfl; exact hmfc _ rfl rfl
  · rintro rfl
    refine ⟨fun r hring => hmfc _ rfl ?_, fun hring => hmfc _ rfl (dif_neg (by omega))⟩
    exact (dif_pos (hring ▸ r.isLt)).trans (congrArg (s.fsp t) (Fin.ext hring))
  · exact hmfc _ (State.crReadable_of_not_listed (by omega) (by omega) (by omega) _) (s.crRead_reserved t x h)

section

variable {s s1 : State} {t : Tid} {x : Thread} {cr ring : Nat} {v : Word}

/-- What mtc leaves of the state `s` whose thread `t` is `x`: each register takes the value where the ring may write it
and the value is one it takes. -/
structure CrWrote (s s1 : State) (t : Tid) (x : Thread) (cr ring : Nat) (v : Word) : Prop where
  thr : s1.thr t = { x with
    psw := if cr = 0 then State.pswWrite x ring v else x.psw
    scr := if cr = 2 ∧ ring = 0 then v else x.scr
    icnt := if cr = 3 ∧ ring = 0 then v - 2 else x.icnt }
  others : ∀ w, w ≠ t → s1.thr w = s.thr w
  rest : s1 = { s with regs := s1.regs, core := { s.core with
    threads := s1.core.threads, fstop := s1.core.fstop, fslim := s1.core.fslim, vbase := s1.core.vbase
    gbase := s1.core.gbase, flvl := s1.core.flvl } }
  vbase : s1.core.vbase = if cr = 39 ∧ ring = 0 ∧ State.vbaseOk v = true then v else s.core.vbase
  gbase : ∀ k : Fin 4, s1.core.gbase[k] = if cr = 40 + k.val ∧ (ring = 0 ∨ ring = k.val) then v else s.core.gbase[k]
  flvl : s1.core.flvl = if cr = 44 ∧ ring = 0 ∧ 1 ≤ bitsOf v 0 3 ∧ bitsOf v 0 3 ≤ 6 then bitsOf v 0 3 else s.core.flvl
  fstop : ∀ h : Fin 3, s1.core.fstop[h] =
    if cr = 32 + 2 * h.val ∧ (ring = 0 ∨ ring = h.val) ∧ s.fsBusy h = false then v else s.core.fstop[h]
  fslim : ∀ h : Fin 3, s1.core.fslim[h] =
    if cr = 33 + 2 * h.val ∧ (ring = 0 ∨ ring = h.val) ∧ s.fsBusy h = false then v else s.core.fslim[h]

/-- A register of a thread. -/
theorem CrWrote.thread {y : Thread} (hcr : cr ≤ 3) (hy : y = { x with
    psw := if cr = 0 then State.pswWrite x ring v else x.psw
    scr := if cr = 2 ∧ ring = 0 then v else x.scr
    icnt := if cr = 3 ∧ ring = 0 then v - 2 else x.icnt }) : CrWrote s (s.setThr t y) t x cr ring v where
  thr := (State.thr_setThr_self _ _ _).trans hy
  others _ hw := State.thr_setThr_ne _ _ _ _ hw
  rest := rfl
  vbase := (if_neg (by omega)).symm
  gbase _ := (if_neg (by omega)).symm
  flvl := (if_neg (by omega)).symm
  fstop _ := (if_neg (by omega)).symm
  fslim _ := (if_neg (by omega)).symm

/-- A register of CORE or of none: what the write makes of the core's own registers. -/
theorem CrWrote.core (hx : s.thr t = x) (hcr : 3 < cr) (hrest : s1 = { s with regs := s1.regs, core := { s.core with
      fstop := s1.core.fstop, fslim := s1.core.fslim, vbase := s1.core.vbase, gbase := s1.core.gbase
      flvl := s1.core.flvl } })
    (hvbase : s1.core.vbase = if cr = 39 ∧ ring = 0 ∧ State.vbaseOk v = true then v else s.core.vbase := by
      exact (if_neg (by omega)).symm)
    (hgbase : ∀ k : Fin 4, s1.core.gbase[k] =
      if cr = 40 + k.val ∧ (ring = 0 ∨ ring = k.val) then v else s.core.gbase[k] := by
      exact fun _ => (if_neg (by omega)).symm)
    (hflvl : s1.core.flvl =
      if cr = 44 ∧ ring = 0 ∧ 1 ≤ bitsOf v 0 3 ∧ bitsOf v 0 3 ≤ 6 then bitsOf v 0 3 else s.core.flvl := by
      exact (if_neg (by omega)).symm)
    (hfstop : ∀ h : Fin 3, s1.core.fstop[h] =
      if cr = 32 + 2 * h.val ∧ (ring = 0 ∨ ring = h.val) ∧ s.fsBusy h = false then v else s.core.fstop[h] := by
      exact fun _ => (if_neg (by omega)).symm)
    (hfslim : ∀ h : Fin 3, s1.core.fslim[h] =
      if cr = 33 + 2 * h.val ∧ (ring = 0 ∨ ring = h.val) ∧ s.fsBusy h = false then v else s.core.fslim[h] := by
      exact fun _ => (if_neg (by omega)).symm) : CrWrote s s1 t x cr ring v := by
  have hthr : ∀ w, s1.thr w = s.thr w := fun w => by rw [hrest]; rfl
  refine ⟨?_, fun w _ => hthr w, ?_, hvbase, hgbase, hflvl, hfstop, hfslim⟩
  · rw [hthr, hx, if_neg (by omega), if_neg (by omega), if_neg (by omega)]
  · have hthreads : s1.core.threads = s.core.threads := by rw [hrest]
    rw [hthreads]
    exact hrest

/-- A register that the ring may not write, or whose value it does not take. -/
theorem CrWrote.ignored (hx : s.thr t = x) (hcr : 3 < cr) (hrest : s1 = { s with regs := s1.regs })
    (h39 : ¬(cr = 39 ∧ ring = 0 ∧ State.vbaseOk v = true) := by omega)
    (hg : ∀ k : Fin 4, ¬(cr = 40 + k.val ∧ (ring = 0 ∨ ring = k.val)) := by intro k; omega)
    (h44 : ¬(cr = 44 ∧ ring = 0 ∧ 1 ≤ bitsOf v 0 3 ∧ bitsOf v 0 3 ≤ 6) := by omega)
    (ht : ∀ h : Fin 3, ¬(cr = 32 + 2 * h.val ∧ (ring = 0 ∨ ring = h.val) ∧ s.fsBusy h = false) := by intro h; omega)
    (hl : ∀ h : Fin 3, ¬(cr = 33 + 2 * h.val ∧ (ring = 0 ∨ ring = h.val) ∧ s.fsBusy h = false) := by intro h; omega) :
    CrWrote s s1 t x cr ring v := by
  have hcore : s1.core = s.core := by rw [hrest]
  refine .core hx hcr ?_ ?_ (fun k => ?_) ?_ (fun h => ?_) (fun h => ?_)
  · rw [hcore]
    exact hrest
  · rw [hcore, if_neg h39]
  · rw [if_neg (hg k), hcore]
  · rw [hcore, if_neg h44]
  · rw [if_neg (ht h), hcore]
  · rw [if_neg (hl h), hcore]

theorem Vector.set_get {α : Type} {n : Nat} (f : Vector α n) (h k : Fin n) (v : α) :
    (f.set h v)[k] = if k = h then v else f[k] := by
  by_cases e : k = h
  · subst e
    simp
  · rw [if_neg e]
    exact Vector.getElem_set_ne _ _ (fun e' => e (Fin.ext e'.symm))

/-- FSTOP and FSLIM of the rings 0 to 2. -/
theorem CrWrote.fs (h : Fin 3) {top : Bool} (hx : s.thr t = x) (hcr : cr = (if top then 32 else 33) + 2 * h.val) :
    CrWrote s (if ring = 0 ∨ ring = h.val then s.fsWrite h top v else s) t x cr ring v := by
  by_cases hw : (ring = 0 ∨ ring = h.val) ∧ s.fsBusy h = false
  · obtain ⟨hring, hbusy⟩ := id hw
    have hsame : ∀ k : Fin 3, (k.val = h.val ∧ (ring = 0 ∨ ring = k.val) ∧ s.fsBusy k = false) ↔ k = h :=
      fun k => ⟨fun e => Fin.ext e.1, by rintro rfl; exact ⟨rfl, hw⟩⟩
    rw [if_pos hring, State.fsWrite, if_neg (by rw [hbusy]; decide)]
    cases top
    · replace hcr : cr = 33 + 2 * h.val := hcr
      refine .core hx (by omega) rfl (hfslim := fun k => (Vector.set_get _ _ _ _).trans (if_congr ?_ rfl rfl))
      rw [← hsame k, hcr]
      exact and_congr_left fun _ => by omega
    · replace hcr : cr = 32 + 2 * h.val := hcr
      refine .core hx (by omega) rfl (hfstop := fun k => (Vector.set_get _ _ _ _).trans (if_congr ?_ rfl rfl))
      rw [← hsame k, hcr]
      exact and_congr_left fun _ => by omega
  · have hne : ∀ k : Fin 3, k.val = h.val → ¬((ring = 0 ∨ ring = k.val) ∧ s.fsBusy k = false) :=
      fun k e => Fin.ext e ▸ hw
    have hrest : ∀ s1, s1 = (if ring = 0 ∨ ring = h.val then s.fsWrite h top v else s) →
        s1 = { s with regs := s1.regs } := by
      rintro s1 rfl
      split
      next hring =>
        rw [State.fsWrite, if_pos (by simpa using fun e => hw ⟨hring, e⟩)]
        rfl
      next => rfl
    cases top
    · replace hcr : cr = 33 + 2 * h.val := hcr
      exact .ignored hx (by omega) (hrest _ rfl) (hl := fun k hk => hne k (by omega) hk.2)
    · replace hcr : cr = 32 + 2 * h.val := hcr
      exact .ignored hx (by omega) (hrest _ rfl) (ht := fun k hk => hne k (by omega) hk.2)

/-- VBASE (R90). -/
theorem CrWrote.vbaseReg (hx : s.thr t = x) (hcr : cr = 39) :
    CrWrote s (if ring = 0 ∧ State.vbaseOk v then s.coreUpd (fun c => { c with vbase := v }) else s) t x cr ring v := by
  split
  next h => exact .core hx (by omega) rfl (hvbase := (if_pos ⟨hcr, h⟩).symm)
  next h => exact .ignored hx (by omega) rfl (h39 := fun e => h e.2)

/-- GBASE of each ring (R90). -/
theorem CrWrote.gbaseReg (hx : s.thr t = x) (hcr : 40 ≤ cr ∧ cr ≤ 43) :
    CrWrote s (if ring = 0 ∨ ring = cr - 40 then
      s.coreUpd (fun c => { c with gbase := c.gbase.set (Fin.ofNat 4 (cr - 40)) v }) else s) t x cr ring v := by
  have hk : ∀ k : Fin 4, k = Fin.ofNat 4 (cr - 40) ↔ cr = 40 + k.val := fun k => by
    rw [Fin.ext_iff, Fin.val_ofNat]
    omega
  split
  next h =>
    refine .core hx (by omega) rfl (hgbase := fun k => (Vector.set_get _ _ _ _).trans (if_congr ?_ rfl rfl))
    rw [hk]
    exact ⟨fun e => ⟨e, by omega⟩, fun e => e.1⟩
  next h => exact .ignored hx (by omega) rfl

/-- FLVL (R90). -/
theorem CrWrote.flvlReg (hx : s.thr t = x) (hcr : cr = 44) :
    CrWrote s (if ring = 0 ∧ 1 ≤ bitsOf v 0 3 ∧ bitsOf v 0 3 ≤ 6 then
      s.coreUpd (fun c => { c with flvl := bitsOf v 0 3 }) else s) t x cr ring v := by
  split
  next h => exact .core hx (by omega) rfl (hflvl := (if_pos ⟨hcr, h⟩).symm)
  next h => exact .ignored hx (by omega) rfl (h44 := fun e => h e.2)

theorem CrWrote.ite {c : Prop} [Decidable c] {a b : State} (ha : c → CrWrote s a t x cr ring v)
    (hb : ¬c → CrWrote s b t x cr ring v) : CrWrote s (if c then a else b) t x cr ring v := by
  split
  next h => exact ha h
  next h => exact hb h

/-- A thread's register that the write leaves. -/
theorem CrWrote.unwritten (hx : s.thr t = x) (hcr : cr ≤ 3) (h0 : cr ≠ 0) (hno : cr = 2 ∨ cr = 3 → ring ≠ 0) :
    CrWrote s s t x cr ring v := by
  have hself : s.setThr t x = s := by rw [← hx]; simp [State.setThr, State.thr]
  have h : CrWrote s (s.setThr t x) t x cr ring v := .thread hcr (by
    rw [if_neg h0, if_neg fun e => hno (.inl e.1) e.2, if_neg fun e => hno (.inr e.1) e.2])
  rwa [hself] at h

/-- A thread's register that ring 0 alone writes. -/
theorem CrWrote.threadReg {y : Thread} (hx : s.thr t = x) (h0 : cr ≠ 0) (hcr : cr ≤ 3)
    (hy : ring = 0 → y = { x with scr := if cr = 2 then v else x.scr, icnt := if cr = 3 then v - 2 else x.icnt }) :
    CrWrote s (if ring = 0 then s.setThr t y else s) t x cr ring v :=
  .ite (fun h => .thread hcr (by simp only [hy h, if_neg h0, h, and_true])) fun h => .unwritten hx hcr h0 fun _ => h

/-- mtc, register by register. -/
theorem CrWrote.of_crWrite (hx : s.thr t = x) : CrWrote s (s.crWrite t x cr ring v) t x cr ring v := by
  unfold State.crWrite
  refine .ite (fun h => ?psw) fun n0 => .ite (fun h => ?scr) fun n2 => .ite (fun h => ?icnt) fun n3 =>
    .ite (fun h => ?fs0) fun nfs0 => .ite (fun h => ?fs1) fun nfs1 => .ite (fun h => ?fs2) fun nfs2 =>
    .ite (fun h => .vbaseReg hx h) fun n39 => .ite (fun h => .gbaseReg hx h) fun ng =>
    .ite (fun h => .flvlReg hx h) fun n44 => ?other
  case psw =>
    subst h
    exact .thread (by decide) rfl
  case scr =>
    subst h
    exact .threadReg hx (by decide) (by decide) fun _ => rfl
  case icnt =>
    subst h
    exact .threadReg hx (by decide) (by decide) fun _ => rfl
  case fs0 =>
    have hring : ring = 0 ↔ ring = 0 ∨ ring = (0 : Fin 3).val := by simp
    rw [if_congr hring rfl rfl]
    refine .fs 0 hx ?_
    rcases h with h | h
    · rw [h]; rfl
    · rw [h]; rfl
  case fs1 =>
    have hring : ring ≤ 1 ↔ ring = 0 ∨ ring = (1 : Fin 3).val := Nat.le_one_iff_eq_zero_or_eq_one
    rw [if_congr hring rfl rfl]
    refine .fs 1 hx ?_
    rcases h with h | h
    · rw [h]; rfl
    · rw [h]; rfl
  case fs2 =>
    refine .fs 2 hx ?_
    rcases h with h | h
    · rw [h]; rfl
    · rw [h]; rfl
  case other =>
    by_cases hcr : cr ≤ 3
    · exact .unwritten hx hcr n0 (by omega)
    · exact .ignored hx (by omega) rfl

/-- What the accounting of an instruction leaves of a state that it computed, where it neither stops the core nor nears
the limits. -/
theorem State.account_plain {n len : Nat} (hr : Runs s t len) (hb : InBudget s t n) (hhold : s.core.gmHold + n ≤ 48)
    (hsq : s1.core.squall = s.core.squall) (hgale : s1.core.gale = s.core.gale)
    (hgm : s1.core.gmHold = s.core.gmHold) :
    let u := State.account s s1 t n
    u.thr t = { s1.thr t with icnt := (s1.thr t).icnt + BitVec.ofNat 32 n } ∧ (∀ w, w ≠ t → u.thr w = s1.thr w) ∧
      u.mem = s1.mem ∧ BlocksSame s1 u ∧ u.core.vbase = s1.core.vbase ∧ u.core.gbase = s1.core.gbase ∧
      u.core.flvl = s1.core.flvl ∧ u.core.fstop = s1.core.fstop ∧ u.core.fslim = s1.core.fslim := by
  have hacc := State.account_eq (s0 := s) (s := s1) (t := t) (n := n) (by rw [hsq]; exact State.canIssue_squall hr.1)
    (by rw [hgale]; exact hb.1) (fun _ => by rw [hgm]; exact hhold)
  simp only [hacc]
  refine ⟨by simp [State.thr], fun w hw => State.thr_setThr_ne s1 t w _ hw, trivial, ?_, trivial, trivial, trivial,
    trivial, trivial⟩
  simp [BlocksSame]

end

theorem BlocksSame.trans {a b c : State} (h : BlocksSame a b) (h' : BlocksSame b c) : BlocksSame a c := by
  unfold BlocksSame at *
  simp_all

/-- A state that differs inside CORE, by register fields and by memory alone has the blocks of the other. -/
theorem BlocksSame.of_core {a b : State}
    (h : b = { a with core := b.core, regs := b.regs, mem := b.mem, free := b.free, pins := b.pins }) : BlocksSame a b := by
  rw [h]
  simp [BlocksSame]

/-- A write of PSW keeps RING and takes the fields the ring may write (R89). -/
theorem pswWrite_fields (x y : Thread) (ring : Nat) (v : Word) (hy : y.psw = State.pswWrite x ring v) :
    y.lvl = (if ring ≤ 1 then bitsOf v 0 3 else x.lvl) ∧ y.gm = (if ring = 0 then bitOf v 3 else x.gm) ∧
      y.ring = x.ring ∧ y.fl = ⟨bitOf v 8, bitOf v 9, bitOf v 10, bitOf v 11⟩ := by
  have hbits : ∀ w : Word, bitsOf w 0 3 % 8 = bitsOf w 0 3 := fun w => Nat.mod_mod _ 8
  have hflag : ∀ k, k < 4 → bitOf (State.pswWrite x ring v) (8 + k) = bitOf v (8 + k) := fun k hk => by
    have hf : bitsOf (State.pswWrite x ring v) 8 4 = bitsOf v 8 4 := by
      rw [State.pswWrite, mkPsw_flags]
      exact Nat.mod_mod _ 16
    rw [bitOf_eq, bitOf_eq, decide_eq_decide]
    simp only [bitsOf] at hf
    have h8 : ∀ w : Word, w.toNat / 2 ^ (8 + k) % 2 = w.toNat / 2 ^ 8 % 2 ^ 4 / 2 ^ k % 2 := fun w => by
      rw [pow_add, ← Nat.div_div_eq_div_mul]
      interval_cases k <;> omega
    rw [h8, h8, hf]
  refine ⟨?_, ?_, ?_, ?_⟩
  · rw [Thread.lvl, hy, State.pswWrite, mkPsw_lvl]
    split
    · exact hbits v
    · exact hbits x.psw
  · rw [Thread.gm, hy, State.pswWrite, mkPsw_gm]
  · rw [Thread.ring, hy, State.pswWrite, mkPsw_ring]
    exact Nat.mod_mod _ 4
  · rw [Thread.fl, hy]
    have h0 := hflag 0 (by decide)
    have h1 := hflag 1 (by decide)
    have h2 := hflag 2 (by decide)
    have h3 := hflag 3 (by decide)
    simp only [Nat.reduceAdd] at h0 h1 h2 h3
    rw [h0, h1, h2, h3]

/-- A ring's fault stack is in use while any thread has a frame on it (R90). -/
theorem State.fsBusy_iff (s : State) (h : Fin 3) : s.fsBusy h = true ↔ ∃ t, (s.thr t).fsUsed[h] ≠ 0 := by
  simp only [State.fsBusy, List.any_eq_true, decide_eq_true_eq, Vector.mem_toList_iff, State.thr]
  constructor
  · rintro ⟨y, hy, hne⟩
    obtain ⟨k, hk, rfl⟩ := Vector.mem_iff_getElem.mp hy
    exact ⟨⟨k, hk⟩, hne⟩
  · rintro ⟨k, hne⟩
    exact ⟨_, Vector.getElem_mem k.isLt, hne⟩

theorem State.fsBusy_advance (s : State) (t : Tid) (len : Nat) (h : Fin 3) :
    (s.advance t len (s.thr t)).fsBusy h = s.fsBusy h := by
  have hused : ∀ w, ((s.advance t len (s.thr t)).thr w).fsUsed = (s.thr w).fsUsed := fun w => by
    by_cases e : w = t
    · subst e
      rw [State.advance, State.thr_setThr_self]
    · rw [State.advance, State.thr_setThr_ne _ _ _ _ e]
  rw [Bool.eq_iff_iff, State.fsBusy_iff, State.fsBusy_iff]
  simp only [hused]

theorem vbaseOk_iff (v : Word) : State.vbaseOk v = true ↔
    v.toNat % 256 = 0 ∧ 0x200B8000 ≤ v.toNat ∧ v.toNat + 0x300 ≤ 0x200C0000 := by
  simp [State.vbaseOk, and_assoc]

/-- Settles O24: `CrWrote` says what the write does, the accounting adds its two cycles. -/
theorem writeControlRegister : Obligations.WriteControlRegister := by
  intro s t gs cr hr hb hhold x v
  have hw : CrWrote (s.advance t 4 x) ((s.advance t 4 x).crWrite t { x with pc := x.pc + 4 } cr x.ring v) t
      { x with pc := x.pc + 4 } cr x.ring v := .of_crWrite (State.thr_setThr_self _ _ _)
  refine Gives.of_done rfl hr rfl ?_
  generalize (s.advance t 4 x).crWrite t { x with pc := x.pc + 4 } cr x.ring v = s1 at hw ⊢
  obtain ⟨hthr, hothers, hrest, hvbase, hgbase, hflvl, hfstop, hfslim⟩ := hw
  obtain ⟨hself, hother, hmem, hblocks, hvb, hgb, hfl, hft, hfm⟩ :=
    State.account_plain (s1 := s1) hr hb hhold (by rw [hrest]; rfl) (by rw [hrest]; rfl) (by rw [hrest]; rfl)
  rw [hthr] at hself
  have hpsw : ((State.account s s1 t 2).thr t).psw = if cr.val = 0 then State.pswWrite x x.ring v else x.psw :=
    congrArg Thread.psw hself
  have hcr : ∀ k : Fin 64, cr.val = k.val ↔ cr = k := fun k => Fin.ext_iff.symm
  have hlow : bitsOf v 0 3 = v.toNat % 8 := bitsOf_low v 3
  have hs1 : BlocksSame s s1 := by
    rw [hrest]
    exact .of_core (a := s) rfl
  refine ⟨by rw [hself], by rw [hself], fun w hw => ?_, MemorySame.of_mem ?_, ?_, ?_, ?_, ?_, ?_, fun k => ?_, ?_,
    fun h => ?_, fun h => ?_⟩
  · rw [hother w hw, hothers w hw, State.advance, State.thr_setThr_ne _ _ _ _ hw]
  · rw [hmem, hrest]
    rfl
  · exact hs1.trans hblocks
  · split
    next h =>
      subst h
      exact pswWrite_fields x _ x.ring v hpsw
    next h =>
      have hne : ¬cr.val = 0 := fun e => h (Fin.ext e)
      exact hpsw.trans (if_neg hne)
  · rw [hself]
    exact if_congr (and_congr_left' (hcr 2)) rfl rfl
  · rw [hself]
    by_cases h : cr = 3 ∧ x.ring = 0
    · obtain ⟨rfl, hring⟩ := id h
      rw [if_pos h]
      simp [hring]
    · rw [if_neg h]
      exact congrArg (· + 2) (if_neg (mt (and_congr_left' (hcr 3)).mp h))
  · rw [hvb, hvbase]
    exact if_congr (and_congr (hcr 39) (and_congr_right' (vbaseOk_iff v))) rfl rfl
  · rw [hgb, hgbase]
    rfl
  · rw [hfl, hflvl, hlow]
    exact if_congr (and_congr_left' (hcr 44)) rfl rfl
  · rw [hft, hfstop, State.fsBusy_advance]
    rfl
  · rw [hfm, hfslim, State.fsBusy_advance]
    rfl

end Sys2Proof.Machine
end

section
/-!
SUPPORT. Loads, stores, the retirement of a store and the atomics in SRAM (R95 to R98, R108, R116, R126).
-/

namespace Sys2Proof.Machine

section

variable {s z : State} {t : Tid} {len k n : Nat}

/-- The accounting of an instruction that goes on from a state `z` with other memory, fields or entries. -/
theorem State.account_advance {y : Thread} (hr : Runs s t len) (hb : InBudget s t n)
    (hcore : z.core = { s.core with sb := z.core.sb }) (hgm : y.gm = (s.thr t).gm) :
    let v := State.account s (z.advance t k y) t n
    ThreadBecomes s v t n { y with pc := y.pc + BitVec.ofNat 32 k } ∧ Counts s v t n ∧ CoreSame s v ∧
      v.core.sb = z.core.sb ∧ v.regs = z.regs ∧ v.mem = z.mem ∧ BlocksSame z v := by
  have hthr : (z.advance t k y).thr t = { y with pc := y.pc + BitVec.ofNat 32 k } := State.thr_setThr_self _ _ _
  have hothers : ∀ w, w ≠ t → (z.advance t k y).thr w = s.thr w := fun w hw => by
    rw [State.advance, State.thr_setThr_ne _ _ _ _ hw, State.thr, hcore, State.thr]
  have hcore' : (z.advance t k y).core =
      { s.core with threads := (z.advance t k y).core.threads, sb := (z.advance t k y).core.sb } := by
    simp only [State.advance, State.setThr]
    rw [hcore]
  obtain ⟨⟨hself, hother⟩, hcounts, hcs, hsb, hregs, hmem, hblocks⟩ :=
    State.account_frame (s1 := z.advance t k y) hr hb hcore' (by rw [hthr]; exact hgm)
  rw [hthr] at hself
  exact ⟨⟨hself, fun w hw => (hother w hw).trans (hothers w hw)⟩, hcounts, hcs, hsb, hregs, hmem, hblocks⟩

end

section

variable {s u : State} {t : Tid} {i : Instr} {f : MemForm} {size : Nat} {sext : Bool} {v w : Word}

theorem inFlash_of_inSram {a : Nat} (h : inSram a = true) : inFlash a = false := by
  simp only [inSram, Bool.and_eq_true, decide_eq_true_eq] at h
  simp [inFlash]
  omega

theorem State.loadData_sram {a : Nat} (h : inSram a = true) : s.loadData t a size = s.sramLoad a size := by
  rw [State.loadData, inFlash_of_inSram h, h]
  rfl

theorem State.sramLoad_of_none {a : Nat} (h : s.youngest a size = none) :
    s.sramLoad a size = .val s (s.memRead a size) := by
  rw [State.sramLoad, h]

/-- A data access that raises no fault is aligned. -/
theorem State.aligned_of_dataFault {ring a : Nat} {k : Acc} (h : s.dataFault ring a size k = none) : a % size = 0 := by
  by_contra hne
  rw [State.dataFault, if_pos (.inl hne)] at h
  cases h

/-- A load whose data are at hand writes its register. -/
theorem Gives.load (hx : exec i s = .next (s.loadReg t f size sext)) (hr : Runs s t f.len) (hb : InBudget s t 1)
    (hres : f.reserved = false)
    (hf : s.dataFault (s.thr t).ring (f.addr (s.thr t) size).toNat size accR = none)
    (hl : s.loadData t (f.addr (s.thr t) size).toNat size = .val s v) (he : State.extend v size sext = w) :
    Gives i s (fun u => OnlyThread s u t 1 ((s.thr t).moved f.r w f.len)) := by
  subst he
  refine Gives.of_setThr hx hr hb (y := (s.thr t).moved f.r (State.extend v size sext) f.len) ?_ rfl
  simp only [hres, hf, hl, Bool.false_eq_true, if_false]
  rfl

/-- A load of bytes in SRAM that no buffered store overlaps. -/
theorem Gives.loadSram (hx : exec i s = .next (s.loadReg t f size sext)) (hr : Runs s t f.len) (hb : InBudget s t 1)
    (hres : f.reserved = false)
    (h : s.dataFault (s.thr t).ring (f.addr (s.thr t) size).toNat size accR = none ∧
      inSram (f.addr (s.thr t) size).toNat = true ∧ s.youngest (f.addr (s.thr t) size).toNat size = none)
    (he : State.extend (s.memRead (f.addr (s.thr t) size).toNat size) size sext = w) :
    Gives i s (fun u => OnlyThread s u t 1 ((s.thr t).moved f.r w f.len)) := by
  obtain ⟨hf, hs, hy⟩ := h
  exact Gives.load hx hr hb hres hf ((State.loadData_sram hs).trans (State.sramLoad_of_none hy)) he

theorem State.storeEntry_word (w : Tid) (ring : Ring) {a : Nat} (ha : a % 4 = 0) (v : Word) :
    State.storeEntry w ring a 4 v = ⟨w, ring, a, .store 15 v⟩ := by
  simp [State.storeEntry, ha]

/-- The store that entered the buffer last serves a load of its word (R98). -/
theorem State.loadData_of_pushed {r : Tid} {ring : Ring} {a : Nat} (ha : a % 4 = 0) (hs : inSram a = true) :
    (s.sbPush (State.storeEntry r ring a 4 v)).loadData t a 4 = .val (s.sbPush (State.storeEntry r ring a 4 v)) v := by
  have hover : SbEntry.overlaps ⟨r, ring, a, .store 15 v⟩ a 4 = true :=
    List.any_eq_true.mpr ⟨0, by simp, by simp⟩
  have hyoung : (s.sbPush (State.storeEntry r ring a 4 v)).youngest a 4 = some ⟨r, ring, a, .store 15 v⟩ := by
    rw [State.storeEntry_word r ring ha v]
    rw [State.youngest, State.sbPush, State.coreUpd_core, List.reverse_append]
    exact List.find?_cons_of_pos hover
  have hcov : State.covers ⟨r, ring, a, .store 15 v⟩ a 4 = true := by
    simp only [State.covers, List.all_eq_true, List.mem_range, Bool.and_eq_true, decide_eq_true_eq]
    intro i hi
    refine ⟨⟨by omega, by omega⟩, ?_⟩
    rw [Nat.add_sub_cancel_left]
    interval_cases i <;> rfl
  rw [State.loadData_sram hs, State.sramLoad, hyoung]
  simp only [hcov, if_true]
  simp [State.entData, State.cutTo, State.shiftDown]

end

/-- Settles O13. -/
theorem loadsFromSram : Obligations.LoadsFromSram := by
  refine ⟨fun s t f hr hb hres => ?_, fun s t w ring f v hres => ?_⟩
  · intro x a ready h
    refine ⟨fun h4 => ?_, fun h2 => ⟨?_, ?_⟩, fun h1 => ⟨?_, ?_⟩⟩
    · exact Gives.loadSram rfl hr hb hres h4 rfl
    · exact Gives.loadSram rfl hr hb hres h2 rfl
    · refine Gives.loadSram rfl hr hb hres h2 ?_
      simp [State.extend, State.memRead, simm, h, a, x]
    · exact Gives.loadSram rfl hr hb hres h1 rfl
    · refine Gives.loadSram rfl hr hb hres h1 ?_
      simp [State.extend, State.memRead, simm, a, x]
  · intro a s' hr hb hf hs
    have ha : a % 4 = 0 := State.aligned_of_dataFault hf
    exact Gives.load (s := s') rfl hr hb hres hf (State.loadData_of_pushed ha hs) rfl

section

variable {s u : State} {t : Tid} {i : Instr} {f : MemForm} {size : Nat}

/-- A store that raises no fault and finds room is one more entry of the buffer (R96). -/
theorem Gives.store {be : BitVec 4} (hx : exec i s = .next (s.storeReg t f size)) (hr : Runs s t f.len)
    (hb : InBudget s t 1) (hres : f.reserved = false) (hsize : size = 4 ∧ be = 15 ∨ size = 2 ∧ be = 3 ∨ size = 1 ∧ be = 1) :
    let x := s.thr t
    let a := (f.addr x size).toNat
    s.dataFault x.ring a size accW = none → s.storeBlocked a = false →
    Gives i s (fun u => ThreadBecomes s u t 1 { x with pc := x.pc + BitVec.ofNat 32 f.len } ∧ Counts s u t 1 ∧
      CoreSame s u ∧ u.regs = s.regs ∧ MemorySame s u ∧ BlocksSame s u ∧
      u.core.sb = s.core.sb ++
        [⟨t, Fin.ofNat 4 x.ring, a - a % 4, .store (be <<< (a % 4)) (x.reg f.r <<< (8 * (a % 4)))⟩]) := by
  intro x a hf hroom
  have hentry : State.storeEntry t (Fin.ofNat 4 x.ring) a size (x.reg f.r) =
      ⟨t, Fin.ofNat 4 x.ring, a - a % 4, .store (be <<< (a % 4)) (x.reg f.r <<< (8 * (a % 4)))⟩ := by
    have ha : a % size = 0 := State.aligned_of_dataFault hf
    rcases hsize with ⟨rfl, rfl⟩ | ⟨rfl, rfl⟩ | ⟨rfl, rfl⟩
    · simp [State.storeEntry, ha]
    · rfl
    · rfl
  refine Gives.of_done (n := 1)
    (s1 := (s.sbPush (State.storeEntry t (Fin.ofNat 4 x.ring) a size (x.reg f.r))).advance t f.len x) hx hr ?_ ?_
  · simp only [hres, Bool.false_eq_true, if_false]
    rw [show s.dataFault _ _ size accW = none from hf]
    exact if_neg (by rw [hroom]; decide)
  · obtain ⟨hthr, hcounts, hcore, hsb, hregs, hmem, hblocks⟩ := State.account_advance (k := f.len) (y := x)
      (z := s.sbPush (State.storeEntry t (Fin.ofNat 4 x.ring) a size (x.reg f.r))) hr hb rfl rfl
    exact ⟨hthr, hcounts, hcore, hregs, MemorySame.of_mem hmem, hblocks,
      hsb.trans (congrArg (s.core.sb ++ [·]) hentry)⟩

end

/-- Settles O14. -/
theorem storesEnterTheBuffer : Obligations.StoresEnterTheBuffer := fun _ _ _ hr hb hres =>
  ⟨Gives.store rfl hr hb hres (.inl ⟨rfl, rfl⟩), Gives.store rfl hr hb hres (.inr (.inl ⟨rfl, rfl⟩)),
    Gives.store rfl hr hb hres (.inr (.inr ⟨rfl, rfl⟩))⟩

section

variable {s : State}

theorem State.byte_ite_setByte (c : Bool) (a b : Nat) (x : Byte) :
    (if c then s.setByte a x else s).byte b = if c = true ∧ a = b then x else s.byte b := by
  by_cases h : a = b
  · subst h
    cases c <;> simp
  · cases c
    · simp
    · simp [h, State.byte_setByte_ne _ _ h]

/-- A write of enabled bytes, byte by byte. -/
theorem State.byte_setWordBe_inside (a : Nat) (be : BitVec 4) (d : Word) {i : Nat} (hi : i < 4) :
    (s.setWordBe a be d).byte (a + i) = if be.getLsbD i then d.extractLsb' (8 * i) 8 else s.byte (a + i) := by
  unfold State.setWordBe
  simp only [State.byte_ite_setByte]
  interval_cases i <;> simp

theorem State.setWordBe_rest (a : Nat) (be : BitVec 4) (d : Word) :
    s.setWordBe a be d = { s with mem := (s.setWordBe a be d).mem } := by
  have key : ∀ (u : State) (c : Bool) (b : Nat) (x : Byte),
      ∃ m, (if c then u.setByte b x else u) = { u with mem := m } := by
    intro u c b x
    cases c
    · exact ⟨u.mem, rfl⟩
    · exact ⟨_, rfl⟩
  unfold State.setWordBe
  obtain ⟨m0, h0⟩ := key s (be.getLsbD 0) a (d.extractLsb' 0 8)
  simp only [h0]
  obtain ⟨m1, h1⟩ := key { s with mem := m0 } (be.getLsbD 1) (a + 1) (d.extractLsb' 8 8)
  simp only [h1]
  obtain ⟨m2, h2⟩ := key { s with mem := m1 } (be.getLsbD 2) (a + 2) (d.extractLsb' 16 8)
  simp only [h2]
  obtain ⟨m3, h3⟩ := key { s with mem := m2 } (be.getLsbD 3) (a + 3) (d.extractLsb' 24 8)
  rw [h3]

/-- Stalls that are over leave what a thread computes with. -/
theorem State.thr_retryStalls (s : State) (t : Tid) :
    ∃ y, s.retryStalls.thr t = { s.thr t with stall := y } := by
  rw [State.retryStalls, State.thr_mapThr]
  split
  · split
    · exact ⟨none, rfl⟩
    · exact ⟨_, rfl⟩
  · exact ⟨_, rfl⟩

theorem ProgramsSame.retryStalls (s : State) : ProgramsSame s s.retryStalls := fun t => by
  obtain ⟨y, hy⟩ := s.thr_retryStalls t
  rw [hy]
  exact ⟨rfl, rfl, rfl, rfl, rfl⟩

end

/-- Settles O15. -/
theorem storeRetiresIntoSram : Obligations.StoreRetiresIntoSram := by
  intro s w ring a be d rest hp hsb hs
  let s0 := s.coreUpd (fun c => { c with sb := rest })
  have hret : exec .storeRetire s = .next (s0.setWordBe a be d).retryStalls := by
    refine congrArg Host.Outcome.next ((if_pos hp).trans ?_)
    rw [State.storeRetire, hsb]
    simp only [State.retireEntry, hs]
    rfl
  refine ⟨_, hret, ?_, fun i hi => State.byte_setWordBe_inside (s := s0) a be d hi,
    fun b hb => State.byte_setWordBe_outside (s := s0) be d hb, fun t => ?_, ?_, ?_, ?_⟩
  · simp only [State.retryStalls, State.mapThr]
    rw [State.setWordBe_rest]
    rfl
  · have hthr : (s0.setWordBe a be d).thr t = s.thr t := by
      rw [State.setWordBe_rest]
      rfl
    exact hthr ▸ ProgramsSame.retryStalls (s0.setWordBe a be d) t
  · simp only [State.retryStalls, State.mapThr]
    rw [State.setWordBe_rest]
    rfl
  · simp only [State.retryStalls, State.mapThr]
    rw [State.setWordBe_rest]
    rfl
  · refine .of_core ?_
    simp only [State.retryStalls, State.mapThr]
    rw [State.setWordBe_rest]
    rfl

section

variable {s u : State} {t : Tid} {gs : Gpr} {i : Instr} {new : Thread → Word → Word} {res : Thread → Word → Thread}

theorem State.byte_of_mem (h : u.mem = s.mem) (a : Nat) : u.byte a = s.byte a := by
  rw [State.byte, State.byte, h]

theorem State.word_of_mem (h : u.mem = s.mem) (a : Nat) : u.word a = s.word a := by
  simp only [State.word, State.byte_of_mem h]

/-- The faults of an atomic's address (R126). -/
theorem FaultsWith.atomic {cause : Nat} (hx : exec i s = .next (s.atomic t gs new res)) (hr : Runs s t 4)
    (hb : InBudget s t 1) (h : s.atomFault (s.thr t).ring ((s.thr t).reg gs).toNat = some cause) :
    FaultsWith i s t cause ((s.thr t).reg gs) :=
  FaultsWith.of_flt hx hr hb (by simp only [h])

/-- An atomic of a word of SRAM with the buffer empty. -/
theorem Gives.atomic {w : Word} (y : Thread) (hx : exec i s = .next (s.atomic t gs new res)) (hr : Runs s t 4)
    (hb : InBudget s t 4) (hsb : s.core.sb = []) (hf : s.atomFault (s.thr t).ring ((s.thr t).reg gs).toNat = none)
    (hw : new (s.thr t) (s.word ((s.thr t).reg gs).toNat) = w)
    (hy : res (s.thr t) (s.word ((s.thr t).reg gs).toNat) = y) (hgm : y.gm = (s.thr t).gm) :
    let a := ((s.thr t).reg gs).toNat
    Gives i s (fun u => u.word a = w ∧ (∀ b, b < a ∨ a + 4 ≤ b → u.byte b = s.byte b) ∧
      ThreadBecomes s u t 4 { y with pc := y.pc + 4 } ∧ Counts s u t 4 ∧ CoreSame s u ∧ u.core.sb = [] ∧
      u.regs = s.regs ∧ BlocksSame s u) := by
  intro a
  refine Gives.of_done (n := 4) (s1 := (s.setWord a w).advance t 4 y) hx hr ?_ ?_
  · simp only [hf, hsb, hw, hy]
    rfl
  · obtain ⟨hthr, hcounts, hcore, hsb', hregs, hmem, hblocks⟩ :=
      State.account_advance (k := 4) (z := s.setWord a w) hr hb rfl hgm
    have hsame : BlocksSame s (s.setWord a w) := .of_core rfl
    refine ⟨?_, fun b hb => ?_, hthr, hcounts, hcore, hsb'.trans hsb, hregs, hsame.trans hblocks⟩
    · exact (State.word_of_mem hmem a).trans (State.word_setWord_self s a w)
    · exact (State.byte_of_mem hmem b).trans (State.byte_setWord_out s a w b hb)

end

/-- Settles O25. -/
theorem atomics : Obligations.Atomics := by
  intro s t gd gs gt hr hb x a
  refine ⟨fun cause h => ?_, fun hsb h4 hs hp => ?_⟩
  · have hf : s.atomFault x.ring a = some cause := by
      rcases h with ⟨h4, rfl⟩ | ⟨h4, hs, rfl⟩
      · exact if_pos h4
      · exact (if_neg (not_not.mpr h4)).trans (if_pos hs)
    have hb1 : InBudget s t 1 := hb.mono (by decide)
    exact ⟨FaultsWith.atomic rfl hr hb1 hf, FaultsWith.atomic rfl hr hb1 hf, FaultsWith.atomic rfl hr hb1 hf⟩
  · intro old leaves
    have hf : s.atomFault x.ring a = none := by
      rw [State.atomFault, if_neg (not_not.mpr h4), if_neg (by rw [hs]; decide), if_neg (by rw [hp]; decide)]
    refine ⟨Gives.atomic (x.setReg gd old) rfl hr hb hsb hf rfl rfl rfl,
      Gives.atomic (x.setReg gd old) rfl hr hb hsb hf rfl rfl rfl,
      Gives.atomic ((x.setReg gd old).setFl { x.fl with z := old == x.reg gd }) rfl hr hb hsb hf rfl rfl ?_⟩
    exact Thread.gm_setFl _ _

end Sys2Proof.Machine
end

section
/-!
SUPPORT. bset and bmov (R127): the state of a step after some of its words, and the settlement of O26.
-/

namespace Sys2Proof.Machine

section

/-- The registers of a block instruction after `n` words. -/
def blockDone (x : Thread) (gd gs gt : Gpr) (move : Bool) (n : Nat) : Thread :=
  Nat.repeat (fun y => State.blockRegs y gd gs gt move) n x

/-- The entries of a step that has stored `n` words of the values `v`. -/
def blockEntries (x : Thread) (t : Tid) (gd gs gt : Gpr) (move : Bool) (v : Nat → Word) (n : Nat) : List SbEntry :=
  (List.range n).map fun i =>
    ⟨t, Fin.ofNat 4 x.ring, ((blockDone x gd gs gt move i).reg gd).toNat, .store 15 (v i)⟩

/-- The state in the middle of a step: `y` for its thread, the entries `l` in the buffer. -/
def State.blockMid (s : State) (t : Tid) (l : List SbEntry) (y : Thread) : State :=
  (s.coreUpd (fun c => { c with sb := l })).setThr t y

variable {s : State} {t : Tid} {gd gs gt : Gpr} {move : Bool} {x y : Thread} {l : List SbEntry} {n : Nat}

theorem blockDone_fixed : (blockDone x gd gs gt move n).pc = x.pc ∧ (blockDone x gd gs gt move n).icnt = x.icnt ∧
    (blockDone x gd gs gt move n).psw = x.psw := by
  induction n with
  | zero => exact ⟨rfl, rfl, rfl⟩
  | succ n ih =>
    have hstep : ∀ z : Thread, (State.blockRegs z gd gs gt move).pc = z.pc ∧
        (State.blockRegs z gd gs gt move).icnt = z.icnt ∧ (State.blockRegs z gd gs gt move).psw = z.psw := fun z => by
      cases move
      · exact ⟨rfl, rfl, rfl⟩
      · exact ⟨rfl, rfl, rfl⟩
    obtain ⟨hpc, hicnt, hpsw⟩ := hstep (blockDone x gd gs gt move n)
    obtain ⟨hpc', hicnt', hpsw'⟩ := ih
    exact ⟨hpc.trans hpc', hicnt.trans hicnt', hpsw.trans hpsw'⟩

theorem State.thr_blockMid : (s.blockMid t l y).thr t = y := State.thr_setThr_self _ _ _

theorem State.blockMid_zero (hsb : s.core.sb = []) : s.blockMid t [] (s.thr t) = s := by
  have h : s.coreUpd (fun c => { c with sb := [] }) = s := by
    rw [← hsb]
    rfl
  simp [State.blockMid, h, State.setThr, State.thr]

theorem State.blockMid_push (e : SbEntry) (z : Thread) :
    ((s.blockMid t l y).sbPush e).setThr t z = s.blockMid t (l ++ [e]) z := by
  simp [State.blockMid, State.sbPush, State.setThr, State.coreUpd]

theorem State.thr_sbPush (e : SbEntry) : (s.sbPush e).thr t = s.thr t := rfl

theorem State.blockFault_blockMid (ring a : Nat) (dest : Bool) :
    (s.blockMid t l y).blockFault ring a dest = s.blockFault ring a dest := rfl

/-- Where a word may be stored it is aligned and in SRAM. -/
theorem State.blockFault_dest {ring a : Nat} (h : s.blockFault ring a true = none) : a % 4 = 0 ∧ inSram a = true := by
  have h4 : a % 4 = 0 := by
    by_contra hne
    rw [State.blockFault, if_pos hne] at h
    cases h
  refine ⟨h4, Bool.eq_true_of_not_eq_false fun hs => ?_⟩
  rw [State.blockFault, if_neg (not_not.mpr h4), if_pos ⟨rfl, hs⟩] at h
  cases h

theorem State.blockFault_src {ring a : Nat} (h : s.blockFault ring a false = none) : a % 4 = 0 := by
  by_contra hne
  rw [State.blockFault, if_pos hne] at h
  cases h

/-- A buffer with room takes a store into SRAM. -/
theorem State.room_of_inSram {u : State} {a : Nat} (hl : u.core.sb.length < 4) (hs : inSram a = true) :
    u.storeBlocked a = false := by
  simp only [inSram, Bool.and_eq_true, decide_eq_true_eq] at hs
  have hisl : islandOf a = none := by
    rw [islandOf, windowOf, if_neg (by omega)]
    rfl
  simp [State.storeBlocked, hisl, hl]

/-- Where a step ends that has stored its words: over with gt at 0, to be issued again otherwise. -/
def State.blockOver (s : State) (t : Tid) (gt : Gpr) (l : List SbEntry) (y : Thread) : State :=
  (s.blockMid t l (if y.reg gt = 0 then { y with pc := y.pc + 4 } else y)).tickFree

/-- The end of a step, on either side of its last word. -/
theorem State.blockStep_end {ring : Nat} {moved : Bool} (h : n = 0 ∨ y.reg gt = 0) :
    (s.blockMid t l y).blockStep t ring gd gs gt move moved n = .done (s.blockOver t gt l y) (1 + s.fresh % 12) := by
  have hover : (if y.reg gt = 0 then (s.blockMid t l y).advance t 4 y else s.blockMid t l y).tickFree =
      s.blockOver t gt l y := by
    unfold State.blockOver
    split
    · simp [State.advance, State.blockMid]
    · rfl
  cases n with
  | zero =>
    unfold State.blockStep
    simp only [State.thr_blockMid, hover]
    rfl
  | succ n =>
    have h0 : y.reg gt = 0 := h.resolve_left (Nat.succ_ne_zero n)
    unfold State.blockStep
    simp only [State.thr_blockMid, if_pos h0, ← hover]
    rfl

variable {v : Nat → Word} {m top : Nat}

/-- The words of a step, one after the other. -/
theorem State.blockStep_words
    (hword : ∀ i, i < m → (s.blockMid t (blockEntries x t gd gs gt move v i) (blockDone x gd gs gt move i)).blockWord t
      x.ring gs move = .val (s.blockMid t (blockEntries x t gd gs gt move v i) (blockDone x gd gs gt move i)) (v i))
    (hdst : ∀ i, i < m → s.blockFault x.ring ((blockDone x gd gs gt move i).reg gd).toNat true = none)
    (hgt : ∀ i, i < m → (blockDone x gd gs gt move i).reg gt ≠ 0)
    (htop : m = top ∨ (blockDone x gd gs gt move m).reg gt = 0) (hm : m ≤ top) (h4 : top ≤ 4) {moved : Bool} {i : Nat}
    (hi : i ≤ m) :
    (s.blockMid t (blockEntries x t gd gs gt move v i) (blockDone x gd gs gt move i)).blockStep t x.ring gd gs gt move
      moved (top - i) =
      .done (s.blockOver t gt (blockEntries x t gd gs gt move v m) (blockDone x gd gs gt move m))
        (1 + s.fresh % 12) := by
  induction hk : m - i generalizing i moved with
  | zero =>
    obtain rfl : i = m := by omega
    exact State.blockStep_end (htop.imp (by omega) id)
  | succ k ih =>
    have hlt : i < m := by omega
    obtain ⟨hal, hs⟩ := State.blockFault_dest (hdst i hlt)
    have hroom := State.room_of_inSram (u := s.blockMid t (blockEntries x t gd gs gt move v i)
      (blockDone x gd gs gt move i)) (by simp [State.blockMid, blockEntries, State.setThr]; omega) hs
    have hentries : blockEntries x t gd gs gt move v (i + 1) = blockEntries x t gd gs gt move v i ++
        [⟨t, Fin.ofNat 4 x.ring, ((blockDone x gd gs gt move i).reg gd).toNat, .store 15 (v i)⟩] := by
      simp [blockEntries, List.range_succ]
    have hnext := ih (moved := true) (i := i + 1) (by omega) (by omega)
    rw [hentries] at hnext
    obtain ⟨r, hr⟩ : ∃ r, top - i = r + 1 := ⟨top - i - 1, by omega⟩
    have hr' : top - (i + 1) = r := by omega
    rw [hr'] at hnext
    rw [hr]
    unfold State.blockStep
    simp only [State.thr_sbPush, State.thr_blockMid, if_neg (hgt i hlt), hword i hlt, State.blockFault_blockMid, hdst i hlt, hroom,
      State.storeEntry_word _ _ hal, Bool.false_eq_true, if_false, State.blockMid_push]
    exact hnext

end

section

variable {s : State} {t : Tid} {gd gs gt : Gpr} {move : Bool} {v : Nat → Word} {m top : Nat} {i : Instr}

/-- A step of a block instruction that stores `m` words of the values `v`. -/
theorem Gives.block (hx : exec i s = .next (s.block t gd gs gt move top)) (hr : Runs s t 4) (hb : InBudget s t 12)
    (hsb : s.core.sb = []) (hm0 : 0 < m) (hm : m ≤ top) (h4 : top ≤ 4)
    (hgt : ∀ i, i < m → (blockDone (s.thr t) gd gs gt move i).reg gt ≠ 0)
    (htop : m = top ∨ (blockDone (s.thr t) gd gs gt move m).reg gt = 0)
    (hdst : ∀ i, i < m → s.blockFault (s.thr t).ring ((blockDone (s.thr t) gd gs gt move i).reg gd).toNat true = none)
    (hsrc : move = true → ((s.thr t).reg gs).toNat % 4 = 0)
    (hword : ∀ i, i < m → (s.blockMid t (blockEntries (s.thr t) t gd gs gt move v i)
      (blockDone (s.thr t) gd gs gt move i)).blockWord t (s.thr t).ring gs move =
      .val (s.blockMid t (blockEntries (s.thr t) t gd gs gt move v i) (blockDone (s.thr t) gd gs gt move i)) (v i)) :
    let x := s.thr t
    let y := blockDone x gd gs gt move m
    Gives i s (fun u => { u.thr t with icnt := x.icnt } = { y with pc := if y.reg gt = 0 then x.pc + 4 else x.pc } ∧
      u.core.sb = blockEntries x t gd gs gt move v m ∧ (∀ w, w ≠ t → u.thr w = s.thr w) ∧ CoreSame s u ∧
      u.regs = s.regs ∧ MemorySame s u ∧ BlocksSame s u) := by
  intro x y
  obtain ⟨hpc, hicnt, hpsw⟩ := blockDone_fixed (x := x) (gd := gd) (gs := gs) (gt := gt) (move := move) (n := m)
  have hcycles : 1 + s.fresh % 12 ≤ 12 := by
    have := Nat.mod_lt s.fresh (y := 12) (by decide)
    omega
  have hgm : ∀ z : Thread, z.psw = x.psw → z.gm = x.gm := fun z hz => by rw [Thread.gm, hz, Thread.gm]
  refine Gives.of_done (n := 1 + s.fresh % 12)
    (s1 := s.blockOver t gt (blockEntries x t gd gs gt move v m) y) hx hr ?_ ?_
  · have hd0 : ¬((s.thr t).reg gd).toNat % 4 ≠ 0 := not_not.mpr (State.blockFault_dest (hdst 0 hm0)).1
    have hs0 : ¬(move = true ∧ ((s.thr t).reg gs).toNat % 4 ≠ 0) := fun h => h.2 (hsrc h.1)
    have hwords := State.blockStep_words (moved := false) (i := 0) hword hdst hgt htop hm h4 (Nat.zero_le m)
    have hzero : s.blockMid t (blockEntries (s.thr t) t gd gs gt move v 0) (blockDone (s.thr t) gd gs gt move 0) = s :=
      State.blockMid_zero hsb
    rw [hzero] at hwords
    exact (if_neg (hgt 0 hm0)).trans ((if_neg hd0).trans ((if_neg hs0).trans hwords))
  · have hself : (s.blockOver t gt (blockEntries x t gd gs gt move v m) y).thr t =
        if y.reg gt = 0 then { y with pc := y.pc + 4 } else y := State.thr_blockMid
    obtain ⟨⟨ht, hother⟩, -, hcore, hsb', hregs, hmem, hblocks⟩ := State.account_frame
      (s1 := s.blockOver t gt (blockEntries x t gd gs gt move v m) y) hr (hb.mono hcycles) rfl
      (by rw [hself]; split <;> exact hgm _ hpsw)
    refine ⟨?_, hsb', fun w hw => (hother w hw).trans (State.thr_setThr_ne _ _ _ _ hw), hcore, hregs,
      MemorySame.of_mem hmem, hblocks⟩
    rw [ht, hself]
    split
    · rw [← hicnt, ← hpc]
    · rw [← hicnt, ← hpc]

/-- A word that bmov takes from SRAM where the step has not stored. -/
theorem State.blockWord_sram {x y : Thread} {i : Nat} {a : Nat} (ha : (y.reg gs).toNat = a)
    (hf : s.blockFault x.ring a false = none) (hs : inSram a = true)
    (hdst : ∀ j, j < i → ((blockDone x gd gs gt true j).reg gd).toNat % 4 = 0 ∧
      ((blockDone x gd gs gt true j).reg gd).toNat ≠ a) :
    (s.blockMid t (blockEntries x t gd gs gt true v i) y).blockWord t x.ring gs true =
      .val (s.blockMid t (blockEntries x t gd gs gt true v i) y) (s.word a) := by
  have h4 := State.blockFault_src hf
  have hnone : (s.blockMid t (blockEntries x t gd gs gt true v i) y).youngest a 4 = none := by
    simp only [State.youngest, List.find?_eq_none, List.mem_reverse]
    intro e he
    simp only [State.blockMid, State.setThr, State.coreUpd, blockEntries, List.mem_map, List.mem_range] at he
    obtain ⟨j, hj, rfl⟩ := he
    obtain ⟨hj4, hne⟩ := hdst j hj
    simp only [SbEntry.overlaps, List.any_eq_true, List.mem_range, Bool.and_eq_true, decide_eq_true_eq, not_exists]
    intro k hk
    omega
  unfold State.blockWord
  simp only [State.thr_blockMid, ha, if_true, State.blockFault_blockMid, hf, State.loadData_sram hs,
    State.sramLoad_of_none hnone]
  rfl

end

/-- Settles O26. -/
theorem blockMovesAdvance : Obligations.BlockMovesAdvance := by
  intro s t gd gs gt hr hb x past done dst src is goesOn
  refine ⟨fun m hsb h => ?_, fun m hsb h hsrc => ?_, fun h => ⟨?_, ?_⟩, fun h0 hd => ⟨?_, ?_⟩, fun h0 hd hs => ?_⟩
  · obtain ⟨hm0, hm, hgt, htop, hdst⟩ := h
    exact Gives.block (move := false) (v := fun i => (done false i).reg gs) rfl hr hb hsb hm0 hm (by decide) hgt htop
      hdst (by simp) fun i _ => by
        unfold State.blockWord
        simp only [State.thr_blockMid]
        rfl
  · obtain ⟨hm0, hm, hgt, htop, hdst⟩ := h
    refine Gives.block (move := true) (v := fun i => s.word (src i)) rfl hr hb hsb hm0 hm (by decide) hgt htop
      hdst (fun _ => State.blockFault_src (hsrc 0 hm0).1) fun i hi => ?_
    obtain ⟨hf, hsram, hne⟩ := hsrc i hi
    exact State.blockWord_sram rfl hf hsram fun j hj => ⟨(State.blockFault_dest (hdst j (by omega))).1, hne j hj⟩
  · exact Gives.of_setThr rfl hr (hb.mono (by decide)) (if_pos h) rfl
  · exact Gives.of_setThr rfl hr (hb.mono (by decide)) (if_pos h) rfl
  · exact FaultsWith.of_flt rfl hr (hb.mono (by decide)) ((if_neg h0).trans (if_pos hd))
  · exact FaultsWith.of_flt rfl hr (hb.mono (by decide)) ((if_neg h0).trans (if_pos hd))
  · exact FaultsWith.of_flt rfl hr (hb.mono (by decide))
      ((if_neg h0).trans ((if_neg (not_not.mpr hd)).trans (if_pos ⟨rfl, hs⟩)))

end Sys2Proof.Machine
end

section
/-!
SUPPORT. The frame of a device command, operation by operation. `Dev K bs ks s u` says that of the way from `s` to `u`
only register fields with a key in `K`, the blocks `bs` and the lines `ks` may have changed; `Frame` and `FrameIn` of
Sys2Proof/Safety.lean are two forms of it. As with `Keeps`, a proof reads like the operation's body.
-/

namespace Sys2Proof.Machine

/-- The frame of a device command by the keys of the fields it may write. -/
structure Dev (K : Nat → Prop) (bs : List Block) (ks : List Nat) (s u : State) : Prop where
  keys : ∀ g : Fld, ¬K g.key → u.get g = s.get g
  blocks : BlocksBut bs s u
  core : CoreBut ks s u
  mem : u.mem = s.mem
  pending : u.pending = s.pending

theorem BlocksBut.trans {bs : List Block} {a b c : State} (h : BlocksBut bs a b) (h' : BlocksBut bs b c) :
    BlocksBut bs a c := by
  obtain ⟨h1, h2, h3, h4, h5, h6, h7, h8, h9, h10, h11, h12⟩ := h
  obtain ⟨k1, k2, k3, k4, k5, k6, k7, k8, k9, k10, k11, k12⟩ := h'
  exact ⟨fun n => (k1 n).trans (h1 n), fun n => (k2 n).trans (h2 n), fun n => (k3 n).trans (h3 n),
    fun n => (k4 n).trans (h4 n), fun n => (k5 n).trans (h5 n), fun n => (k6 n).trans (h6 n),
    fun n => (k7 n).trans (h7 n), fun n => (k8 n).trans (h8 n), fun n => (k9 n).trans (h9 n),
    fun n => (k10 n).trans (h10 n), fun n => (k11 n).trans (h11 n), fun n => (k12 n).trans (h12 n)⟩

/-- A command that changes no block changes none outside `bs`. -/
theorem BlocksBut.weaken {bs : List Block} {a b : State} (h : BlocksBut [] a b) : BlocksBut bs a b := by
  simp only [BlocksBut, List.not_mem_nil, not_false_eq_true, forall_true_left] at h
  obtain ⟨h1, h2, h3, h4, h5, h6, h7, h8, h9, h10, h11, h12⟩ := h
  exact ⟨fun _ => h1, fun _ => h2, fun _ => h3, fun _ => h4, fun _ => h5, fun _ => h6, fun _ => h7, fun _ => h8,
    fun _ => h9, fun _ => h10, fun _ => h11, fun _ => h12⟩

/-- The keys of the fields of a list. -/
abbrev keysOf (fs : List Fld) (k : Nat) : Prop := k ∈ fs.map Fld.key

/-- The keys of a list's fields and of the fields in address ranges. -/
abbrev keysIn (rs : List (Nat × Nat)) (fs : List Fld) (k : Nat) : Prop :=
  k ∈ fs.map Fld.key ∨ ∃ r ∈ rs, r.1 ≤ k / 32 ∧ k / 32 < r.2

namespace Dev

variable {K : Nat → Prop} {bs : List Block} {ks : List Nat} {s u v : State} {fs : List Fld} {rs : List (Nat × Nat)}

theorem frame (h : Dev (keysOf fs) bs ks s u) : Frame fs bs ks s u :=
  ⟨fun g hg => h.keys g hg, h.blocks, h.core, h.mem, h.pending⟩

theorem frameIn (h : Dev (keysIn rs fs) bs ks s u) : FrameIn rs fs bs ks s u := by
  refine ⟨fun g hg hr => h.keys g fun hk => ?_, h.blocks, h.core, h.mem, h.pending⟩
  rcases hk with hk | ⟨r, hmem, hlo, hhi⟩
  · exact hg hk
  · rcases hr r hmem with h' | h'
    · omega
    · omega

theorem refl : Dev K bs ks s s :=
  ⟨fun _ _ => rfl, by simp [BlocksBut], ⟨rfl, fun _ _ => rfl⟩, rfl, rfl⟩

theorem trans (h : Dev K bs ks s u) (h' : Dev K bs ks u v) : Dev K bs ks s v := by
  refine ⟨fun g hg => (h'.keys g hg).trans (h.keys g hg), h.blocks.trans h'.blocks, ?_, h'.mem.trans h.mem,
    h'.pending.trans h.pending⟩
  obtain ⟨hc, hr⟩ := h.core
  obtain ⟨hc', hr'⟩ := h'.core
  exact ⟨(congrArg (fun c : Core => { c with raised := s.core.raised }) hc').trans hc,
    fun k hk => (hr' k hk).trans (hr k hk)⟩

/-- An update of the register fields in `K` alone. -/
theorem regs (h : Dev K bs ks s u) (hk : ∀ g : Fld, ¬K g.key → v.get g = u.get g)
    (hv : v = { u with regs := v.regs } := by rfl) : Dev K bs ks s v := by
  refine h.trans ⟨hk, ?_, ?_, ?_, ?_⟩
  · rw [hv]
    simp [BlocksBut]
  · rw [hv]
    exact ⟨rfl, fun _ _ => rfl⟩
  · rw [hv]
  · rw [hv]

theorem put (h : Dev K bs ks s u) {f : Fld} {n : Nat} (hf : K f.key := by simp [keysOf]) :
    Dev K bs ks s (u.put f n) :=
  h.regs fun g hg => State.get_put_ne _ _ _ _ fun e => hg (e ▸ hf)

theorem putB (h : Dev K bs ks s u) {f : Fld} {b : Bool} (hf : K f.key := by simp [keysOf]) :
    Dev K bs ks s (u.putB f b) :=
  h.put hf

theorem setBit (h : Dev K bs ks s u) {f : Fld} {i : Nat} (hf : K f.key := by simp [keysOf]) :
    Dev K bs ks s (u.setBit f i) :=
  h.put hf

theorem bump (h : Dev K bs ks s u) {f : Fld} {n : Nat} (hf : K f.key := by simp [keysOf]) :
    Dev K bs ks s (u.bump f n) :=
  h.put hf

/-- An update of the blocks in `bs` alone, and of what a frame leaves out. -/
theorem block (h : Dev K bs ks s u) (hb : BlocksBut bs u v) (hr : v.regs = u.regs := by rfl)
    (hm : v.mem = u.mem := by rfl) (hc : v.core = u.core := by rfl) (hp : v.pending = u.pending := by rfl) :
    Dev K bs ks s v :=
  h.trans ⟨fun g _ => State.get_of_regs hr g, hb, ⟨by rw [hc], fun _ _ => by rw [hc]⟩, hm, hp⟩

theorem pwrUpd (h : Dev K bs ks s u) {f : PowerSt → PowerSt} (hb : .pwr ∈ bs := by simp) :
    Dev K bs ks s (u.pwrUpd f) :=
  h.block (by simp [BlocksBut, hb])

theorem bakUpd (h : Dev K bs ks s u) {f : BakSt → BakSt} (hb : .bak ∈ bs := by simp) :
    Dev K bs ks s (u.bakUpd f) :=
  h.block (by simp [BlocksBut, hb])

theorem seqUpd (h : Dev K bs ks s u) {f : SeqSt → SeqSt} (hb : .seq ∈ bs := by simp) :
    Dev K bs ks s (u.seqUpd f) :=
  h.block (by simp [BlocksBut, hb])

theorem swUpd (h : Dev K bs ks s u) {n : Fin 6} {f : SwSt → SwSt} (hb : .sw ∈ bs := by simp) :
    Dev K bs ks s (u.swUpd n f) :=
  h.block (by simp [BlocksBut, hb])

theorem portUpd (h : Dev K bs ks s u) {p : Fin 2} {f : PortSt → PortSt} (hb : .port ∈ bs := by simp) :
    Dev K bs ks s (u.portUpd p f) :=
  h.block (by simp [BlocksBut, hb])

theorem uartUpd (h : Dev K bs ks s u) {n : Fin 5} {f : UartSt → UartSt} (hb : .uart ∈ bs := by simp) :
    Dev K bs ks s (u.uartUpd n f) :=
  h.block (by simp [BlocksBut, hb])

theorem pwmUpd (h : Dev K bs ks s u) {n : Fin 6} {f : PwmSt → PwmSt} (hb : .pwm ∈ bs := by simp) :
    Dev K bs ks s (u.pwmUpd n f) :=
  h.block (by simp [BlocksBut, hb])

theorem winUpd (h : Dev K bs ks s u) {w : Fin 4} {f : Win → Win} (hb : .host ∈ bs := by simp) :
    Dev K bs ks s (u.winUpd w f) :=
  h.block (by simp [BlocksBut, hb])

theorem tickFree (h : Dev K bs ks s u) : Dev K bs ks s u.tickFree := h.block (by simp [BlocksBut])

theorem pinsNext (h : Dev K bs ks s u) : Dev K bs ks s u.pinsNext := h.block (by simp [BlocksBut])

/-- A raised line of `ks`. -/
theorem raise (h : Dev K bs ks s u) {k : Nat} (hk : k ∈ ks := by simp) : Dev K bs ks s (u.raise k) := by
  refine h.trans ⟨fun _ _ => rfl, by simp [BlocksBut], ⟨rfl, fun j hj => ?_⟩, rfl, rfl⟩
  have hne : k ≠ j := fun e => hj (e ▸ hk)
  simp [State.raise, BitVec.getLsbD_twoPow, hne]

theorem ite {c : Prop} [Decidable c] (hu : Dev K bs ks s u) (hv : Dev K bs ks s v) :
    Dev K bs ks s (if c then u else v) := by
  split
  · exact hu
  · exact hv

theorem foldl {α : Type} {f : State → α → State} (hf : ∀ v x, Dev K bs ks s v → Dev K bs ks s (f v x))
    (h : Dev K bs ks s u) (l : List α) : Dev K bs ks s (l.foldl f u) := by
  induction l generalizing u with
  | nil => exact h
  | cons x t ih => exact ih (hf u x h)

/-- A pass over the fields of a register. -/
theorem foldlFields {F : State → Field → State} (l : List Field)
    (hf : ∀ f ∈ l, ∀ v, Dev K bs ks s v → Dev K bs ks s (F v f)) (h : Dev K bs ks s u) :
    Dev K bs ks s (l.foldl F u) := by
  induction l generalizing u with
  | nil => exact h
  | cons f l ih =>
    exact ih (fun g hg => hf g (List.mem_cons_of_mem _ hg)) (hf f List.mem_cons_self u h)

/-- A plain store to the fields of one register. -/
theorem plainWrite (h : Dev K bs ks s u) {a ring : Nat} {v : Word} (hK : ∀ f ∈ fieldsAt a, K (a * 32 + f.lo)) :
    Dev K bs ks s (u.plainWrite a ring v) :=
  foldlFields _ (fun f hf _ hx => hx.put (hK f hf)) h

/-- The bits that hardware sets in the cycle of a store. -/
theorem setWins (h : Dev K bs ks s u) {s0 : State} {a : Nat} {v : Word} (hK : ∀ f ∈ fieldsAt a, K (a * 32 + f.lo)) :
    Dev K bs ks s (s0.setWins u a v) := by
  unfold State.setWins
  refine foldlFields _ (fun f hf x hx => ?_) h
  split
  · exact hx.put (hK f hf)
  · exact hx

/-- A command that raises no line leaves CORE. -/
theorem coreSame (h : Dev K bs [] s u) : u.core = s.core := by
  obtain ⟨hc, hr⟩ := h.core
  have hraised : u.core.raised = s.core.raised := BitVec.eq_of_getLsbD_eq fun i _ => hr i List.not_mem_nil
  rw [← hc, ← hraised]

/-- A command that changes no block. -/
theorem blocksSame (h : Dev K [] ks s u) : BlocksSame s u := by
  have hb := h.blocks
  simp only [BlocksBut, List.not_mem_nil, not_false_eq_true, forall_true_left] at hb
  exact ⟨h.pending, hb⟩

end Dev

section

variable {s : State} {f g : Fld}

theorem State.on_put_one (hw : 0 < f.width := by exact Nat.zero_lt_succ _) : (s.put f 1).on f = true := by
  have h1 : 1 % 2 ^ f.width = 1 := Nat.mod_eq_of_lt (Nat.one_lt_two_pow hw.ne')
  rw [State.on, State.get_put_self, h1]
  rfl

theorem State.on_put_zero : (s.put f 0).on f = false := by
  rw [State.on, State.get_put_self, Nat.zero_mod]
  rfl

theorem State.on_putB {b : Bool} (hw : 0 < f.width := by exact Nat.zero_lt_succ _) : (s.putB f b).on f = b := by
  cases b
  · exact State.on_put_zero
  · exact State.on_put_one hw

theorem State.on_put_ne {n : Nat} (h : f.key ≠ g.key) : (s.put f n).on g = s.on g := by
  rw [State.on, State.get_put_ne _ _ _ _ h, State.on]

theorem State.on_putB_ne {b : Bool} (h : f.key ≠ g.key) : (s.putB f b).on g = s.on g := State.on_put_ne h

@[simp] theorem State.on_raise (k : Nat) : (s.raise k).on f = s.on f := rfl
@[simp] theorem State.on_coreUpd (h : Core → Core) : (s.coreUpd h).on f = s.on f := rfl
@[simp] theorem State.on_pwrUpd (h : PowerSt → PowerSt) : (s.pwrUpd h).on f = s.on f := rfl
@[simp] theorem State.on_bakUpd (h : BakSt → BakSt) : (s.bakUpd h).on f = s.on f := rfl
@[simp] theorem State.on_seqUpd (h : SeqSt → SeqSt) : (s.seqUpd h).on f = s.on f := rfl
@[simp] theorem State.on_swUpd (n : Fin 6) (h : SwSt → SwSt) : (s.swUpd n h).on f = s.on f := rfl
@[simp] theorem State.on_portUpd (p : Fin 2) (h : PortSt → PortSt) : (s.portUpd p h).on f = s.on f := rfl
@[simp] theorem State.on_uartUpd (u : Fin 5) (h : UartSt → UartSt) : (s.uartUpd u h).on f = s.on f := rfl
@[simp] theorem State.on_winUpd (w : Fin 4) (h : Win → Win) : (s.winUpd w h).on f = s.on f := rfl
@[simp] theorem State.on_tickFree : s.tickFree.on f = s.on f := rfl

/-- A value that fits its field is read back. -/
theorem State.get_put_lt {n : Nat} (h : n < 2 ^ f.width) : (s.put f n).get f = n := by
  rw [State.get_put_self]
  exact Nat.mod_eq_of_lt h

end

end Sys2Proof.Machine
end

section
/-!
SUPPORT. Frames in memory and on a slice (R148, R149), and what an entry leaves (R147 to R149).
-/

namespace Sys2Proof.Machine

section

variable {s u : State} {t : Tid} {r : Fin 3}

theorem State.writeWords_rest (l : List Word) (a : Nat) :
    s.writeWords a l = { s with mem := (s.writeWords a l).mem } := by
  induction l generalizing s a with
  | nil => rfl
  | cons w l ih =>
    rw [State.writeWords, ih]
    rfl

theorem State.thr_writeWords (l : List Word) (a : Nat) : (s.writeWords a l).thr t = s.thr t := by
  rw [State.writeWords_rest]
  rfl

theorem State.byte_writeWords_out (l : List Word) (a b : Nat) (h : b < a ∨ a + 4 * l.length ≤ b) :
    (s.writeWords a l).byte b = s.byte b := by
  induction l generalizing s a with
  | nil => rfl
  | cons w l ih =>
    simp only [List.length_cons] at h
    rw [State.writeWords, ih _ (by omega), State.byte_setWord_out _ _ _ _ (by omega)]

theorem State.word_writeWords_out (l : List Word) (a b : Nat) (h : b + 4 ≤ a ∨ a + 4 * l.length ≤ b) :
    (s.writeWords a l).word b = s.word b := by
  rw [State.word, State.byte_writeWords_out _ _ _ (by omega), State.byte_writeWords_out _ _ _ (by omega),
    State.byte_writeWords_out _ _ _ (by omega), State.byte_writeWords_out _ _ _ (by omega), State.word]

/-- Words written one after the other are read back. -/
theorem State.word_writeWords (l : List Word) (a i : Nat) (h : i < l.length) :
    (s.writeWords a l).word (a + 4 * i) = l[i] := by
  induction l generalizing s a i with
  | nil => cases h
  | cons w l ih =>
    rw [State.writeWords]
    cases i with
    | zero =>
      rw [State.word_writeWords_out _ _ _ (by omega)]
      exact State.word_setWord_self s a w
    | succ i =>
      have hnext := ih (s := s.setWord a w) (a + 4) i (by simpa using h)
      rwa [show a + 4 * (i + 1) = a + 4 + 4 * i by omega]

/-- The frame's address. -/
def State.pushAddr (s : State) (t : Tid) (r : Fin 3) : Word :=
  s.sliceTop t r - BitVec.ofNat 32 ((s.thr t).fsUsed[r] + 32)

/-- A frame finds room on its slice. -/
theorem State.pushFrame_eq (h : CanPush s t r) (f : State.Frame) : s.pushFrame t r f =
    .ok ((s.writeWords (s.pushAddr t r).toNat (State.frameWords f)).setThr t
      { s.thr t with fsUsed := (s.thr t).fsUsed.set r ((s.thr t).fsUsed[r] + 32) }, s.pushAddr t r) := by
  obtain ⟨-, ⟨span, hspan, hroom⟩, halign⟩ := h
  have hroom' : ¬span / 16 < (s.thr t).fsUsed[r] + 32 := Nat.not_lt.mpr hroom
  have halign' : ¬(s.pushAddr t r).toNat % 4 ≠ 0 := not_not.mpr halign
  unfold State.pushFrame
  rw [hspan]
  dsimp only
  rw [if_neg hroom']
  refine (if_neg halign').trans ?_
  simp only [State.thr_writeWords]
  rfl


/-- The eight words of a frame, read back from the state that wrote them. -/
theorem State.words_of_frame (f : State.Frame) (a : Nat) (h : u.mem = (s.writeWords a (State.frameWords f)).mem) :
    [u.word a, u.word (a + 4), u.word (a + 8), u.word (a + 12), u.word (a + 16), u.word (a + 20), u.word (a + 24),
      u.word (a + 28)] = [f.pc, f.psw, f.info, f.faddr, f.g0, f.g1, f.g14, f.g15] := by
  have hw := fun i (hi : i < 8) => (State.word_of_mem h (a + 4 * i)).trans
    (State.word_writeWords (s := s) (State.frameWords f) a i hi)
  exact List.ext_getElem rfl fun i hi _ => by
    have hi8 : i < 8 := hi
    interval_cases i
    · exact hw 0 hi8
    · exact hw 1 hi8
    · exact hw 2 hi8
    · exact hw 3 hi8
    · exact hw 4 hi8
    · exact hw 5 hi8
    · exact hw 6 hi8
    · exact hw 7 hi8

theorem State.byte_of_frame (f : State.Frame) (a : Nat) (h : u.mem = (s.writeWords a (State.frameWords f)).mem) {b : Nat}
    (hb : b < a ∨ a + 32 ≤ b) : u.byte b = s.byte b :=
  (State.byte_of_mem h b).trans (State.byte_writeWords_out (State.frameWords f) a b hb)

/-- The flags of a PSW, put into another. -/
theorem mkPsw_fl (x y : Thread) (l : Nat) (g : Bool) (r : Nat) (hy : y.psw = mkPsw l g r x.flags := by rfl) :
    y.fl = x.fl := by
  have hnum : x.flags = x.fl.num := by
    simp only [Thread.flags, Thread.fl, Flags.num, bitsOf, bitOf_eq, decide_eq_true_eq]
    split_ifs <;> omega
  obtain ⟨hz, hn, hc, hv⟩ := mkPsw_flag l g r x.fl
  rw [← hnum] at hz hn hc hv
  rw [Thread.fl, hy, hz, hn, hc, hv]

/-- The INFO word of an entry (R148). -/
def State.entryInfo (s : State) (t : Tid) (q : State.EntryReq) : Word :=
  BitVec.ofNat 32 (q.code + s.cls t % 4 * 2 ^ 8 + t.val * 2 ^ 10 + q.orig * 2 ^ 16)

/-- The frame an entry pushes. -/
def State.entryFrame (s : State) (t : Tid) (q : State.EntryReq) : State.Frame :=
  let x := s.thr t
  ⟨x.pc, x.psw, s.entryInfo t q, q.faddr, x.reg 0, x.reg 1, x.reg 14, x.reg 15⟩

/-- The thread an entry leaves. -/
def State.entryThread (s : State) (t : Tid) (q : State.EntryReq) : Thread :=
  let x := s.thr t
  { (((State.entered { x with fsUsed := x.fsUsed.set q.ring (x.fsUsed[q.ring] + 32) }).setReg 0 (s.entryInfo t q)).setReg
      1 q.faddr).setReg 15 (s.pushAddr t q.ring) with
    pc := q.handler, psw := mkPsw q.lvl false q.ring.val x.flags }

/-- The state of an entry that finds room for its frame. -/
theorem State.enter_eq (q : State.EntryReq) (h : CanPush s t q.ring) (hcode : q.code < 256) (horig : q.orig < 256) :
    s.enter t q = ((s.writeWords (s.pushAddr t q.ring).toNat (State.frameWords (s.entryFrame t q))).setThr t
      (s.entryThread t q)).put (F.EVT_TCFG_CLASS t) q.cls := by
  have hinfo : State.infoWord q.code (s.cls t) t q.orig = s.entryInfo t q := by
    rw [State.infoWord, Nat.mod_eq_of_lt hcode, Nat.mod_eq_of_lt horig, State.entryInfo]
  unfold State.enter
  simp only [State.pushFrame_eq h, State.thr_setThr_self, State.setThr_setThr, hinfo]
  rfl

theorem State.entryThread_psw (q : State.EntryReq) :
    (s.entryThread t q).ring = q.ring.val ∧ (s.entryThread t q).gm = false ∧ (s.entryThread t q).lvl = q.lvl % 8 ∧
      (s.entryThread t q).fl = (s.thr t).fl := by
  have hring : q.ring.val < 4 := by have := q.ring.isLt; omega
  refine ⟨?_, ?_, ?_, ?_⟩
  · exact (mkPsw_ring _ _ _ _).trans (Nat.mod_eq_of_lt hring)
  · exact mkPsw_gm _ _ _ _
  · exact mkPsw_lvl _ _ _ _
  · exact mkPsw_fl (s.thr t) (s.entryThread t q) q.lvl false q.ring.val

theorem State.entryThread_reg (q : State.EntryReq) {p : Gpr} (h0 : p ≠ 0) (h1 : p ≠ 1) (h15 : p ≠ 15) :
    (s.entryThread t q).reg p = (s.thr t).reg p :=
  (Thread.reg_setReg_ne _ _ (Ne.symm h15)).trans
    ((Thread.reg_setReg_ne _ _ (Ne.symm h1)).trans (Thread.reg_setReg_ne _ _ (Ne.symm h0)))

theorem State.entryThread_args (q : State.EntryReq) : (s.entryThread t q).reg 0 = s.entryInfo t q ∧
    (s.entryThread t q).reg 1 = q.faddr ∧ (s.entryThread t q).reg 15 = s.pushAddr t q.ring := by
  refine ⟨?_, ?_, Thread.reg_setReg_self _ 15 _⟩
  · exact (Thread.reg_setReg_ne _ _ (by decide)).trans
      ((Thread.reg_setReg_ne _ _ (by decide)).trans (Thread.reg_setReg_self _ 0 _))
  · exact (Thread.reg_setReg_ne _ _ (by decide)).trans (Thread.reg_setReg_self _ 1 _)

/-- An entry with room for its frame. -/
theorem Entered.of_enter (q : State.EntryReq) (h : CanPush s t q.ring) (hst : (s.thr t).st ≠ .halted)
    (hcode : q.code < 256) (horig : q.orig < 256) :
    Entered s (s.enter t q) t q.ring q.handler q.code q.orig q.faddr (q.lvl % 8) (q.cls % 4) := by
  have heq := State.enter_eq q h hcode horig
  have hrest := State.writeWords_rest (s := s) (State.frameWords (s.entryFrame t q)) (s.pushAddr t q.ring).toNat
  generalize hz : s.writeWords (s.pushAddr t q.ring).toNat (State.frameWords (s.entryFrame t q)) = z at heq hrest
  have hmem : (s.enter t q).mem = z.mem := by rw [heq]; rfl
  have hmem' := hmem.trans (congrArg State.mem hz.symm)
  have hwords := State.words_of_frame (s.entryFrame t q) (s.pushAddr t q.ring).toNat hmem'
  have hbytes := fun b hb => State.byte_of_frame (b := b) (s.entryFrame t q) (s.pushAddr t q.ring).toNat hmem' hb
  generalize s.enter t q = u at heq hmem hmem' hwords hbytes ⊢
  have hy : u.thr t = s.entryThread t q := (congrArg (State.thr · t) heq).trans (State.thr_setThr_self _ _ _)
  have hregs : u.regs = ((s.setThr t (s.entryThread t q)).put (F.EVT_TCFG_CLASS t) q.cls).regs := by
    rw [heq, hrest]
    rfl
  have hcore : u.core = (s.setThr t (s.entryThread t q)).core := by
    rw [heq, hrest]
    rfl
  obtain ⟨hring, hgm, hlvl', hfl⟩ := State.entryThread_psw (s := s) (t := t) q
  obtain ⟨h0, h1, h15⟩ := State.entryThread_args (s := s) (t := t) q
  obtain ⟨hsb, -, -⟩ := h
  unfold Entered
  simp only [hy]
  refine ⟨rfl, if_neg hst, rfl, rfl, h0, h1, h15, fun p h0 h1 h15 => State.entryThread_reg q h0 h1 h15, hring, hgm,
    hlvl', hfl, rfl, rfl, rfl, rfl, ?used, ?cls, hwords, hbytes, fun v hv => ?others, fun g hg => ?fields, ?sb, ?latch,
    ?raised, ?blocks⟩
  case used => exact Vector.getElem_set_self _
  case cls =>
    rw [State.cls, State.get_of_regs hregs, State.get_put_self]
    rfl
  case others => rw [State.thr, hcore, ← State.thr, State.thr_setThr_ne _ _ _ _ hv]
  case fields =>
    have hne : (F.EVT_TCFG_CLASS t).key ≠ g.key := fun e => hg (by simp [e])
    rw [State.get_of_regs hregs, State.get_put_ne _ _ _ _ hne, State.get_setThr]
  case sb => rw [hcore, ← hsb]; rfl
  case latch => rw [hcore]; rfl
  case raised => rw [hcore]; rfl
  case blocks =>
    rw [heq, hrest]
    exact .of_core rfl

/-- Outside its threads an entry changes nothing of CORE. -/
theorem State.enter_core (q : State.EntryReq) (h : CanPush s t q.ring) (hcode : q.code < 256) (horig : q.orig < 256) :
    (s.enter t q).core = (s.setThr t (s.entryThread t q)).core := by
  rw [State.enter_eq q h hcode horig, State.writeWords_rest]
  rfl

/-- A frame has the same room where the thread's pointers are the same. -/
theorem CanPush.setThr {y : Thread} {v : Tid} (h : CanPush s t r) (hy : y.fsUsed = (s.thr v).fsUsed) :
    CanPush (s.setThr v y) t r := by
  have hused : ((s.setThr v y).thr t).fsUsed = (s.thr t).fsUsed := by
    by_cases e : t = v
    · subst e
      rw [State.thr_setThr_self, hy]
    · rw [State.thr_setThr_ne _ _ _ _ e]
  obtain ⟨hsb, hspan, ha⟩ := h
  unfold CanPush
  rw [hused]
  exact ⟨hsb, hspan, ha⟩

theorem State.drainSb_of_empty (h : s.core.sb = []) : s.drainSb = s := by
  rw [State.drainSb, h]
  rfl

end

theorem Entered.cls_eq {s u : State} {t : Tid} {r : Fin 3} {hd faddr : Word} {code orig lvl cls : Nat}
    (h : Entered s u t r hd code orig faddr lvl cls) : u.cls t = cls := by
  obtain ⟨-, -, -, -, -, -, -, -, -, -, -, -, -, -, -, -, -, hcls, -⟩ := h
  exact hcls

/-- T0 of a device after reset, at LVL 0 with a handler for ILLEGAL, whose CLASS field holds 4: more than its two bits. -/
def strayClass : State :=
  let s := (State.reset.setWord 0x200B8208 0).setWord 0x200B820C 0x80000000
  { s.setThr 0 { s.thr 0 with psw := 0 } with regs := [((F.EVT_TCFG_CLASS 0).key, 4)] }

/-- Refutes O28: the statement quantifies over states whose CLASS field holds more than its two bits. In `strayClass` it
holds 4; ILLEGAL of T0 is entered, the class to be written is max 4 2, and the field keeps its two low bits, 0. -/
theorem not_faultEntry : ¬ Obligations.FaultEntry := by
  intro h
  have hhyp : (strayClass.thr 0).st ≠ .halted ∧ (strayClass.thr 0).gm = false ∧
      strayClass.vecUsable (64 + 1) = some (0, (0 : Fin 3).val) ∧ (strayClass.thr 0).lvl < strayClass.core.flvl ∧
      (0 : Fin 3).val ≤ (strayClass.thr 0).ring := by decide +kernel
  have hroom : strayClass.core.sb = [] ∧ strayClass.fstackSpan 0 = some 8192 ∧
      (strayClass.thr 0).fsUsed[(0 : Fin 3)] + 32 ≤ 8192 / 16 ∧
      (strayClass.sliceTop 0 0 - BitVec.ofNat 32 ((strayClass.thr 0).fsUsed[(0 : Fin 3)] + 32)).toNat % 4 = 0 := by
    decide +kernel
  have hcls : (strayClass.fault 0 1 0).cls 0 = 0 ∧ strayClass.cls 0 = 4 := by decide +kernel
  obtain ⟨hst, hgm, hvec, hlvl, hring⟩ := hhyp
  obtain ⟨hsb, hspan, hfits, halign⟩ := hroom
  have hin := (h strayClass 0 1 0 0 (by decide) hst hgm).1 0 hvec hlvl hring ⟨hsb, ⟨8192, hspan, hfits⟩, halign⟩
  have hc := hin.cls_eq
  rw [hcls.1, hcls.2] at hc
  exact absurd hc (by decide)

/-- The begin of a GALE handler's span is no part of its entry. -/
theorem Entered.gale {s u : State} {t : Tid} {r : Fin 3} {hd faddr : Word} {code orig lvl cls : Nat} {g : Option GaleRun}
    (h : Entered s u t r hd code orig faddr lvl cls) :
    Entered s (u.coreUpd (fun c => { c with gale := g })) t r hd code orig faddr lvl cls := h

section

variable {s : State} {t v : Tid} {k : Fin 64} {hd : Word} {r : Fin 3}

/-- A line consumed in a thread's pending word. -/
theorem State.thr_unpend_st : ((s.unpend v k).thr t).st = (s.thr t).st ∧
    ((s.unpend v k).thr t).fsUsed = (s.thr t).fsUsed := by
  by_cases e : t = v
  · subst e
    rw [State.unpend, State.thr_setThr_self]
    exact ⟨rfl, rfl⟩
  · rw [State.unpend, State.thr_setThr_ne _ _ _ _ e]
    exact ⟨rfl, rfl⟩

theorem CanPush.unpend (h : CanPush s t r) : CanPush (s.unpend v k) t r := h.setThr rfl

/-- The entry of an event line. -/
theorem State.eventEntry_eq (hcan : s.canEnter = true) (hvec : s.vecUsable k = some (hd, r.val))
    (hasks : s.lineAsks k = true) (hline : s.lineCan k = true) (hfirst : s.lineFirst k = true) (hsb : s.core.sb = []) :
    s.eventEntry k = (s.unpend (s.target k) k).enter (s.target k)
      ⟨0x40 + k.val, 0, 0, hd, r, s.level k, s.get (F.EVT_ROUTE_CLASS k)⟩ := by
  rw [State.eventEntry, if_pos ⟨hcan, hasks⟩, hvec]
  simp only [State.drainSb_of_empty hsb]
  exact dif_pos ⟨hline, hfirst, r.isLt⟩

/-- The entry of a GALE line, up to the begin of its span. -/
theorem State.galeEntry_eq (hcan : s.canEnter = true) (hvec : s.vecUsable k = some (hd, r.val))
    (hasks : s.galeAsks k = true) (hnext : s.galeNext = some k.val) (hsb : s.core.sb = [])
    (ht : t = if (s.thr (s.target k)).st = .halted then 0 else s.target k) {w : State}
    (hw : w = ((s.unpend (s.target k) k).unpend t k).enter t ⟨0x40 + k.val, 0, 0, hd, 0, 7, 3⟩)
    (hsq : w.core.squall = false) :
    s.galeEntry k = w.coreUpd (fun c => { c with gale := some ⟨t, k, (w.thr t).fsUsed[0], 0⟩ }) := by
  subst ht hw
  rw [State.galeEntry, if_pos ⟨hcan, hasks⟩, hvec]
  simp only [State.drainSb_of_empty hsb, if_pos hnext]
  exact if_neg (Bool.eq_false_iff.mp hsq)

end

/-- Settles O30. -/
theorem eventAndGaleEntries : Obligations.EventAndGaleEntries := by
  intro s k hd r hcan unpend v
  have hk : k.val < 64 := k.isLt
  have hcode : 0x40 + k.val < 256 := by omega
  have hlive : s.core.squall = false := by
    simp only [State.canEnter, State.coreLive, Bool.and_eq_true, Bool.not_eq_true'] at hcan
    tauto
  refine ⟨fun hvec hline hfirst hpush => ?_, ?_, fun hvec => ⟨fun hasks => ?_, fun hasks => ?_⟩⟩
  · have hasks : s.lineAsks k = true := by
      simp only [State.lineCan, Bool.and_eq_true] at hline
      exact hline.1
    have hst : (s.thr v).st ≠ .halted := by
      simp only [State.lineAsks, Bool.and_eq_true, decide_eq_true_eq] at hasks
      exact hasks.1.2
    exact ⟨_, congrArg Host.Outcome.next (State.eventEntry_eq hcan hvec hasks hline hfirst hpush.1),
      Entered.of_enter _ hpush.unpend (fun e => hst (State.thr_unpend_st.1.symm.trans e)) hcode (by simp)⟩
  · intro t hvec hnext hpush hst
    have hasks : s.galeAsks k = true := by
      have hgale := List.find?_some hnext
      simp only [State.galeCan, Bool.and_eq_true] at hgale
      exact hgale.1
    have hpush' : CanPush ((s.unpend v k).unpend t k) t 0 := hpush.unpend.unpend
    have hst' : (((s.unpend v k).unpend t k).thr t).st ≠ .halted := by
      rwa [State.thr_unpend_st.1, State.thr_unpend_st.1]
    have hin := Entered.of_enter ⟨0x40 + k.val, 0, 0, hd, 0, 7, 3⟩ hpush' hst' hcode (by simp)
    have hcore := State.enter_core ⟨0x40 + k.val, 0, 0, hd, 0, 7, 3⟩ hpush' hcode (by simp)
    generalize hw : ((s.unpend v k).unpend t k).enter t ⟨0x40 + k.val, 0, 0, hd, 0, 7, 3⟩ = w at hin hcore
    have hsq : w.core.squall = false := by
      rw [hcore]
      exact hlive
    have hused : (w.thr t).fsUsed[0] = (s.thr t).fsUsed[0] + 32 := by
      obtain ⟨-, -, -, -, -, -, -, -, -, -, -, -, -, -, -, -, hused, -⟩ := hin
      rw [State.thr_unpend_st.2, State.thr_unpend_st.2] at hused
      exact hused
    refine ⟨_, congrArg Host.Outcome.next (State.galeEntry_eq hcan hvec hasks hnext hpush.1 rfl hw.symm hsq),
      hin.gale, ?_⟩
    rw [hused]
    rfl
  · refine ⟨_, congrArg Host.Outcome.next ((if_pos ⟨hcan, hasks⟩).trans (by rw [hvec]; rfl)),
      State.on_put_one, Dev.refl.put.frame⟩
  · refine ⟨_, congrArg Host.Outcome.next ((if_pos ⟨hcan, hasks⟩).trans (by rw [hvec]; rfl)),
      State.on_put_one, Dev.refl.put.frame⟩

section

variable {s u : State}

/-- The waiting threads as one number fit EDDYTHR. -/
theorem eddyThr_lt (w : Tid → Bool) :
    (List.finRange 16).foldl (fun n (t : Tid) => if w t then n + 2 ^ t.val else n) 0 < 2 ^ 16 := by
  have key : ∀ (l : List Tid) (n : Nat),
      l.foldl (fun n t => if w t then n + 2 ^ t.val else n) n ≤ n + (l.map (fun t => 2 ^ t.val)).sum := by
    intro l
    induction l with
    | nil => exact fun n => Nat.le_refl n
    | cons t l ih =>
      intro n
      refine (ih _).trans ?_
      rw [List.map_cons, List.sum_cons]
      dsimp only
      generalize 2 ^ t.val = m
      split
      · omega
      · omega
  have hsum : ((List.finRange 16).map (fun t : Tid => 2 ^ t.val)).sum = 65535 := by decide
  have := key (List.finRange 16) 0
  omega

/-- EDDY's record of the masks changes no thread and no field but the masks of waiting threads. -/
theorem State.eddyMask_thr (t v : Tid) : (s.eddyMask t).thr v = s.thr v := by
  unfold State.eddyMask
  split
  · rfl
  · rfl

/-- The fields of EDDY's masks. -/
def eddyMasks : List Fld :=
  (List.finRange 16).map (fun t : Tid => F.PROT_EDDYML_M t) ++ (List.finRange 16).map (fun t : Tid => F.PROT_EDDYMH_M t)

theorem mem_eddyMasks (t : Tid) : F.PROT_EDDYML_M t ∈ eddyMasks ∧ F.PROT_EDDYMH_M t ∈ eddyMasks :=
  ⟨List.mem_append_left _ (List.mem_map_of_mem (List.mem_finRange t)),
    List.mem_append_right _ (List.mem_map_of_mem (List.mem_finRange t))⟩

theorem Dev.eddyMask {K : Nat → Prop} {bs : List Block} {ks : List Nat} (h : Dev K bs ks s u) (t : Tid)
    (hl : K (F.PROT_EDDYML_M t).key) (hh : K (F.PROT_EDDYMH_M t).key) : Dev K bs ks s (u.eddyMask t) :=
  ((h.put hl).put hh).ite h

/-- The mask recorded for a waiting thread. -/
def EddyRecorded (s u : State) (t : Tid) : Prop :=
  u.get (F.PROT_EDDYML_M t) = ((s.thr t).waitMask.extractLsb' 0 32).toNat ∧
    u.get (F.PROT_EDDYMH_M t) = ((s.thr t).waitMask.extractLsb' 32 32).toNat

theorem State.eddyMask_records {t v : Tid} (hthr : ∀ w, u.thr w = s.thr w) (hw : (s.thr t).isWaiting = true)
    (h : v = t ∨ EddyRecorded s u t) : EddyRecorded s (u.eddyMask v) t := by
  have hkey : ∀ a b : Tid, a ≠ b → (F.PROT_EDDYML_M a).key ≠ (F.PROT_EDDYML_M b).key ∧
      (F.PROT_EDDYMH_M a).key ≠ (F.PROT_EDDYMH_M b).key := fun a b hab => by
    have : a.val ≠ b.val := fun e => hab (Fin.ext e)
    simp only [F.PROT_EDDYML_M, F.PROT_EDDYMH_M, Fld.key]
    omega
  have hcross : ∀ a b : Tid, (F.PROT_EDDYMH_M a).key ≠ (F.PROT_EDDYML_M b).key := fun a b => by
    simp only [F.PROT_EDDYML_M, F.PROT_EDDYMH_M, Fld.key]
    omega
  unfold State.eddyMask
  by_cases e : v = t
  · subst e
    rw [hthr, if_pos hw]
    refine ⟨?_, ?_⟩
    · rw [State.get_put_ne _ _ _ _ (hcross v v), State.get_put_self]
      exact Nat.mod_eq_of_lt (BitVec.isLt _)
    · rw [State.get_put_self]
      exact Nat.mod_eq_of_lt (BitVec.isLt _)
  · obtain ⟨hlo, hhi⟩ := h.resolve_left e
    split
    · refine ⟨?_, ?_⟩
      · rw [State.get_put_ne _ _ _ _ (hcross v t), State.get_put_ne _ _ _ _ (hkey v t e).1, hlo]
      · rw [State.get_put_ne _ _ _ _ (hkey v t e).2, State.get_put_ne _ _ _ _ (Ne.symm (hcross t v)), hhi]
    · exact ⟨hlo, hhi⟩

theorem State.eddyMasks_record (l : List Tid) {t : Tid} (hthr : ∀ w, u.thr w = s.thr w)
    (hw : (s.thr t).isWaiting = true) (h : t ∈ l ∨ EddyRecorded s u t) :
    EddyRecorded s (l.foldl (fun x t => x.eddyMask t) u) t := by
  induction l generalizing u with
  | nil => exact h.resolve_left List.not_mem_nil
  | cons v l ih =>
    refine ih (fun w => (State.eddyMask_thr v w).trans (hthr w)) ?_
    rcases h with h | h
    · rcases List.mem_cons.mp h with e | hl
      · exact .inr (State.eddyMask_records hthr hw (.inl e.symm))
      · exact .inl hl
    · exact .inr (State.eddyMask_records hthr hw (.inr h))

end

/-- The state of EDDY's detection before its cause is held. -/
def State.eddyRecord (s : State) : State :=
  ((List.finRange 16).foldl (fun x (t : Tid) => x.eddyMask t) (s.put F.PROT_EDDYTHR_THR ((List.finRange 16).foldl
    (fun n (t : Tid) => if (s.thr t).isWaiting then n + 2 ^ t.val else n) 0))).put F.PROT_FSTAT_EDDY 1

/-- What EDDY's detection records in its fields. -/
theorem State.eddyRecord_dev (s : State) :
    Dev (keysOf ([F.PROT_FSTAT_EDDY, F.PROT_EDDYTHR_THR] ++ eddyMasks)) [] [] s s.eddyRecord := by
  have hmask : ∀ f ∈ eddyMasks, keysOf ([F.PROT_FSTAT_EDDY, F.PROT_EDDYTHR_THR] ++ eddyMasks) f.key := fun f hf =>
    List.mem_map_of_mem (List.mem_append_right _ hf)
  exact (Dev.foldl (fun _ t hx => hx.eddyMask t (hmask _ (mem_eddyMasks t).1) (hmask _ (mem_eddyMasks t).2))
    (Dev.refl.put) _).put

theorem State.eddyRecord_thr (s : State) : s.eddyRecord.get F.PROT_EDDYTHR_THR =
    (List.finRange 16).foldl (fun n (t : Tid) => if (s.thr t).isWaiting then n + 2 ^ t.val else n) 0 := by
  have hkey : F.PROT_EDDYTHR_THR.key ∉ eddyMasks.map Fld.key := by decide
  have hdev : ∀ u : State, Dev (keysOf eddyMasks) [] [] u
      ((List.finRange 16).foldl (fun x (t : Tid) => x.eddyMask t) u) := fun u =>
    Dev.foldl (fun _ t hx => hx.eddyMask t (List.mem_map_of_mem (mem_eddyMasks t).1)
      (List.mem_map_of_mem (mem_eddyMasks t).2)) Dev.refl _
  rw [State.eddyRecord, State.get_put_ne _ _ _ _ (by decide), (hdev _).keys _ hkey, State.get_put_self]
  exact Nat.mod_eq_of_lt (eddyThr_lt fun t => (s.thr t).isWaiting)

theorem State.eddyRecord_records (s : State) {t : Tid} (hw : (s.thr t).isWaiting = true) :
    EddyRecorded s s.eddyRecord t := by
  obtain ⟨hlo, hhi⟩ := State.eddyMasks_record (s := s) (u := s.put F.PROT_EDDYTHR_THR ((List.finRange 16).foldl
    (fun n (t : Tid) => if (s.thr t).isWaiting then n + 2 ^ t.val else n) 0)) (List.finRange 16) (t := t) (fun _ => rfl) hw (.inl (List.mem_finRange t))
  have hl : F.PROT_FSTAT_EDDY.key ≠ (F.PROT_EDDYML_M t).key := by
    simp only [F.PROT_FSTAT_EDDY, F.PROT_EDDYML_M, Fld.key]
    omega
  have hh : F.PROT_FSTAT_EDDY.key ≠ (F.PROT_EDDYMH_M t).key := by
    simp only [F.PROT_FSTAT_EDDY, F.PROT_EDDYMH_M, Fld.key]
    omega
  exact ⟨(State.get_put_ne _ _ _ _ hl).trans hlo, (State.get_put_ne _ _ _ _ hh).trans hhi⟩

/-- The end of EDDY's detection: the cause is held, and a DOZE ends. -/
def State.eddyHold (s : State) : State :=
  let w := s.coreUpd (fun c => { c with eddyHeld := true, eddySeen := true })
  if w.pwr.state = .doze then w.pwrUpd (fun p => { p with state := .run }) else w

theorem State.eddyHold_rest (s : State) : s.eddyHold.regs = s.regs ∧ s.eddyHold.mem = s.mem ∧
    s.eddyHold.pending = s.pending ∧ BlocksBut [.pwr] s s.eddyHold ∧
    s.eddyHold.core = { s.core with eddyHeld := true, eddySeen := true } := by
  unfold State.eddyHold
  dsimp only
  split
  · exact ⟨rfl, rfl, rfl, by simp [BlocksBut, State.pwrUpd, State.coreUpd], rfl⟩
  · exact ⟨rfl, rfl, rfl, by simp [BlocksBut, State.coreUpd], rfl⟩

/-- A masked write of one byte depends on memory alone. -/
theorem State.mem_setByte_if {x y : State} {c : Prop} [Decidable c] {a : Nat} {v : Byte} (h : x.mem = y.mem) :
    (if c then x.setByte a v else x).mem = (if c then y.setByte a v else y).mem := by
  split
  · simp only [State.setByte, h]
  · exact h

theorem State.mem_setWordBe {x y : State} (h : x.mem = y.mem) (a : Nat) (be : BitVec 4) (d : Word) :
    (x.setWordBe a be d).mem = (y.setWordBe a be d).mem :=
  State.mem_setByte_if (State.mem_setByte_if (State.mem_setByte_if (State.mem_setByte_if h)))

/-- Memory with the buffered stores in place depends on memory and the store buffer. -/
theorem State.wordNow_of_mem {s u : State} (hm : u.mem = s.mem) (hsb : u.core.sb = s.core.sb) (a : Nat) :
    u.wordNow a = s.wordNow a := by
  refine State.word_of_mem ?_ a
  rw [State.sramNow, State.sramNow, hsb]
  refine List.foldl_rel (r := fun x y : State => x.mem = y.mem) hm fun e _ x y hxy => ?_
  cases e.op with
  | store be d =>
    dsimp only
    split
    · exact State.mem_setWordBe hxy _ _ _
    · exact hxy
  | _ => exact hxy

theorem State.vecUsable_eddyHeld {s : State} {k : Nat} {b : Bool} :
    (s.coreUpd (fun c => { c with eddyHeld := b })).vecUsable k = s.vecUsable k := by
  have hnow : ∀ a, (s.coreUpd (fun c => { c with eddyHeld := b })).wordNow a = s.wordNow a := State.wordNow_of_mem rfl rfl
  simp only [State.vecUsable, State.vec, hnow]
  rfl

theorem State.eddyEntry_eq {s : State} {hd : Word} (hcan : s.canEnter = true) (hfirst : s.eddyFirst = true)
    (hvec : s.vecUsable 0x50 = some (hd, 0)) (hsb : s.core.sb = []) :
    s.eddyEntry = (s.coreUpd (fun c => { c with eddyHeld := false })).enter 0
      ⟨cEDDY, 0, 0, hd, 0, (s.thr 0).lvl, s.faultClass 0⟩ := by
  have hvec' : (s.coreUpd (fun c => { c with eddyHeld := false })).vecUsable 0x50 = some (hd, 0) :=
    State.vecUsable_eddyHeld.trans hvec
  rw [State.eddyEntry, if_pos ⟨hcan, hfirst⟩, State.drainSb_of_empty hsb]
  simp only [show 64 + cEDDY = 0x50 from rfl, hvec']
  rfl

/-- The cause that an entry for EDDY no longer holds is no part of the entry. -/
theorem Entered.eddyHeld {s u : State} {t : Tid} {r : Fin 3} {hd faddr : Word} {code orig lvl cls : Nat} {b : Bool}
    (h : Entered (s.coreUpd (fun c => { c with eddyHeld := b })) u t r hd code orig faddr lvl cls) :
    Entered s u t r hd code orig faddr lvl cls := h

/-- Settles O31. -/
theorem eddyDetectedAndEntered : Obligations.EddyDetectedAndEntered := by
  intro s
  refine ⟨fun hlive hen hseen hcond => ?_, fun hd hcan hfirst hvec hpush hst hcls => ?_⟩
  · have hdev := s.eddyRecord_dev
    have hthr := s.eddyRecord_thr
    have hmasks := fun t hw => s.eddyRecord_records (t := t) hw
    have hon : s.eddyRecord.on F.PROT_FSTAT_EDDY = true := State.on_put_one
    have hx : exec .eddyDetect s = .next (State.eddyHold s.eddyRecord) :=
      congrArg Host.Outcome.next (if_pos ⟨hlive, hen, hseen, hcond⟩)
    rw [eddyMasks, ← List.append_assoc] at hdev
    generalize s.eddyRecord = w at hdev hthr hmasks hon hx
    obtain ⟨hregs, hmem, hpend, hblocks, hcore⟩ := State.eddyHold_rest w
    have hget : ∀ f, w.eddyHold.get f = w.get f := State.get_of_regs hregs
    rw [hdev.coreSame] at hcore
    refine ⟨_, hx, (congrArg (· != 0) (hget _)).trans hon, by rw [hcore], by rw [hcore], (hget _).trans hthr,
      fun t hwait => ?_, ⟨fun g hg => (hget g).trans (hdev.keys g hg), hmem.trans hdev.mem,
        fun t => by rw [State.thr, hcore]; rfl, by rw [hcore], hpend.trans hdev.pending⟩, by rw [hcore], ?_⟩
    · rw [hget, hget]
      exact hmasks t hwait
    · exact hdev.blocks.weaken.trans hblocks
  · have hcause : cEDDY < 256 := by decide
    have hin := Entered.of_enter (s := s.coreUpd (fun c => { c with eddyHeld := false }))
      ⟨cEDDY, 0, 0, hd, 0, (s.thr 0).lvl, s.faultClass 0⟩ hpush hst hcause (Nat.zero_lt_succ _)
    have hcore := State.enter_core (s := s.coreUpd (fun c => { c with eddyHeld := false }))
      ⟨cEDDY, 0, 0, hd, 0, (s.thr 0).lvl, s.faultClass 0⟩ hpush hcause (Nat.zero_lt_succ _)
    have hlvl : (s.thr 0).lvl % 8 = (s.thr 0).lvl := Nat.mod_mod_of_dvd _ (by decide)
    have hcls' : s.faultClass 0 % 4 = max (s.cls 0) 2 := Nat.mod_eq_of_lt (by simp only [State.faultClass]; omega)
    dsimp only at hin
    rw [hlvl, hcls'] at hin
    exact ⟨_, congrArg Host.Outcome.next (State.eddyEntry_eq hcan hfirst hvec hpush.1), congrArg Core.eddyHeld hcore,
      hin.eddyHeld⟩

end Sys2Proof.Machine
end

section
/-!
SUPPORT. Raised lines, resets of the core and its threads, and states whose fields hold more than their width.
-/

namespace Sys2Proof.Machine

section

variable {s u : State} {t : Tid} {i : Instr} {p : State → Prop}

/-- What a command answers is one state. -/
theorem Gives.holds (h : Gives i s p) (hx : exec i s = .next u) : p u := by
  obtain ⟨v, hv, hp⟩ := h
  have : Host.Outcome.next u = Host.Outcome.next v := hx.symm.trans hv
  rwa [Host.Outcome.next.inj this]

/-- A ready thread ends DOZE; nothing else of a state depends on it. -/
theorem State.dozeExit_rest (s : State) : s.dozeExit = { s with pwr := s.dozeExit.pwr } := by
  unfold State.dozeExit
  split
  · rfl
  · rfl

theorem State.dozeExit_pwr (s : State) : s.dozeExit.pwr =
    if s.pwr.state = .doze ∧ (∃ t, (s.thr t).st = .ready) then { s.pwr with state := .run } else s.pwr := by
  have hany : s.core.threads.toList.any (fun x => decide (x.st = .ready)) = true ↔ ∃ t, (s.thr t).st = .ready := by
    rw [Vector.any_toList]
    simp [State.thr, Vector.any_eq_true, Fin.exists_iff]
  unfold State.dozeExit
  simp only [hany]
  split
  · rfl
  · rfl

/-- Lines that become pending in every thread ready those that wait for one (R92). -/
theorem State.thr_pendAll (m : BitVec 64) : (s.pendAll m).thr t = (s.thr t).pendLines m :=
  State.thr_mapThr _ _ _

end

/-- The state of a raised line that becomes pending, before the end of DOZE. -/
def State.linePosted (s : State) (k : Nat) : State :=
  (s.coreUpd (fun c => { c with raised := State.clr32 c.raised k })).pendAll (lineMask k)

/-- A raised line that becomes pending: DOZE ends for a ready thread, and for a GALE line (R53). -/
theorem State.hwPending_eq {s : State} {k : Nat} (hlive : s.coreLive = true) (hk : s.core.raised.getLsbD k = true) :
    s.hwPending k = { s.linePosted k with
      pwr := if s.pwr.state = .doze ∧ ((∃ v, ((s.linePosted k).thr v).st = .ready) ∨ galeLine k = true) then
        { s.pwr with state := .run } else s.pwr } := by
  have hrest := (s.linePosted k).dozeExit_rest
  have hpwr := (s.linePosted k).dozeExit_pwr
  have hx : s.hwPending k = if galeLine k ∧ (s.linePosted k).dozeExit.pwr.state = .doze then
      (s.linePosted k).dozeExit.pwrUpd (fun p => { p with state := .run }) else (s.linePosted k).dozeExit :=
    if_pos ⟨hlive, hk⟩
  rw [hx, hrest]
  simp only [hpwr, show (s.linePosted k).pwr = s.pwr from rfl]
  by_cases hdoze : s.pwr.state = .doze
  · by_cases hready : ∃ v, ((s.linePosted k).thr v).st = .ready
    · simp [hdoze, hready]
    · by_cases hg : galeLine k = true
      · simp [hdoze, hready, hg, State.pwrUpd]
      · simp [hdoze, hready, hg]
  · simp [hdoze]

/-- Settles O29. -/
theorem raisedLineBecomesPending : Obligations.RaisedLineBecomesPending := by
  intro s k hlive hraised
  have hk : k.val < 32 := k.isLt
  have hthr : ∀ v, (s.linePosted k).thr v = { s.thr v with
      pend := (s.thr v).pend ||| BitVec.twoPow 64 k.val
      st := if (s.thr v).waitMask.getLsbD k then .ready else (s.thr v).st } := fun v =>
    (State.thr_pendAll _).trans (Thread.pendLines_line (s.thr v) (by omega))
  have hbits : ∀ j, (s.linePosted k).core.raised.getLsbD j = (s.core.raised.getLsbD j && decide (k.val ≠ j)) :=
    fun j => by
      have hj : s.core.raised.getLsbD j = true → j < 32 := BitVec.lt_of_getLsbD
      simp only [State.linePosted, State.clr32, State.pendAll, State.mapThr, State.coreUpd, BitVec.getLsbD_and,
        BitVec.getLsbD_not, BitVec.getLsbD_twoPow]
      by_cases hset : s.core.raised.getLsbD j = true
      · simp [hset, hj hset]
      · simp [hset]
  have hgale : State.galeLine k = true ↔ 1 ≤ k.val ∧ k.val ≤ 6 := by simp [State.galeLine]
  rw [Gives]
  refine ⟨_, congrArg Host.Outcome.next (State.hwPending_eq hlive hraised), ?_, fun j hj => ?_, hthr, fun hd hruns => ?_,
    fun hd hruns => ?_, fun hd => if_neg fun h => hd h.1, rfl, rfl, rfl, MemorySame.of_mem rfl, ?_⟩
  · exact (hbits k).trans (by simp)
  · exact (hbits j).trans (by simp [Ne.symm hj])
  · rw [← hgale] at hruns
    exact congrArg PowerSt.state (if_pos ⟨hd, hruns⟩)
  · rw [← hgale] at hruns
    exact (congrArg PowerSt.state (if_neg fun h => hruns h.2)).trans hd
  · simp [BlocksBut, State.linePosted, State.pendAll, State.mapThr, State.coreUpd]

/-- The threads and the store buffer of a reset: T0 READY at ring 0, the others HALTED (R88). -/
theorem Core.cold_threads {s : State} (h : s.core.threads = Core.cold.threads) (hsb : s.core.sb = []) :
    (s.thr 0).st = .ready ∧ (s.thr 0).ring = 0 ∧ (∀ t, t ≠ 0 → (s.thr t).st = .halted) ∧ s.core.sb = [] := by
  have hthr : ∀ t, s.thr t = Core.cold.threads[t] := fun t => by rw [State.thr, h]
  refine ⟨by rw [hthr]; rfl, by rw [hthr]; decide, fun t ht => ?_, hsb⟩
  have hcold : ∀ v : Tid, v ≠ 0 → Core.cold.threads[v].st = .halted := by decide
  rw [hthr]
  exact hcold t ht

theorem State.engCoreReset_core (s : State) (p : Fin 2) : (s.engCoreReset p).core = s.core := by
  unfold State.engCoreReset
  split
  · rfl
  · rfl

/-- A CORE reset up to its step for the engines. -/
def State.coreResetEngines (s : State) : State :=
  let s1 := s.drainSb
  let s2 := { s1 with core := { Core.cold with latch := s1.core.latch, raised := s1.core.raised } }
  let s3 := (s2.coldWindow 0x40003000 (fun _ => false)).coldWindow 0x40004000 (fun _ => false)
  let s4 := ((s3.put F.HOST_CTL_DISPEN 0).put F.SYS_RSTCAUSE_CORE 1).put F.SYS_RSTSTAT_CORE_PEND 0
  (s4.engCoreReset 0).engCoreReset 1

theorem State.coreResetEngines_core (s : State) : s.coreResetEngines.core =
    { Core.cold with latch := s.drainSb.core.latch, raised := s.drainSb.core.raised } := by
  simp only [State.coreResetEngines, State.engCoreReset_core]
  rfl

theorem State.coreReset_eq {s : State} (hdue : s.coreResetDue = true) : s.coreReset =
    ((if s.coreResetEngines.erSuspended then s.coreResetEngines.erResume else s.coreResetEngines).nvcUpd (fun n =>
      { n with held := n.held.map (fun e => { e with suspended := false }) })).pwrUpd (fun p =>
      { p with state := .run, coreHeld := true, inEntry := false, booted := false }) :=
  if_pos hdue

/-- Settles O33. -/
theorem t0RunsAtRingZeroAndCannotBeHalted : Obligations.T0RunsAtRingZeroAndCannotBeHalted := by
  intro s t0
  have hcold : ∀ u : State, u.core.threads = Core.cold.threads → u.core.sb = [] → u.pwr.coreHeld = true → t0 u :=
    fun u hthr hsb hheld => by
      obtain ⟨hst, hring, hothers, hsb⟩ := Core.cold_threads hthr hsb
      exact ⟨hst, hring, hheld, hothers, hsb⟩
  refine ⟨fun hp => ?_, fun hp hsc => ?_, fun hp hdue => ?_, fun hdue => ?_, fun ring => ?_, fun ring t hr => ?_,
    fun hr hb => FaultsWith.of_flt rfl hr hb (if_pos rfl), fun t ht hp => ?_⟩
  · exact ⟨_, congrArg Host.Outcome.next (if_pos ⟨hp, fun h => nomatch h⟩), hcold _ rfl rfl rfl⟩
  · exact ⟨_, congrArg Host.Outcome.next (if_pos ⟨hp, fun _ => hsc⟩), hcold _ rfl rfl rfl⟩
  · refine ⟨_, congrArg Host.Outcome.next (if_pos ⟨hp, hdue⟩), ?_⟩
    dsimp only
    split
    · exact hcold _ rfl rfl rfl
    · exact hcold _ rfl rfl rfl
  · refine ⟨_, congrArg Host.Outcome.next (State.coreReset_eq hdue), ?_⟩
    have hthr : s.coreResetEngines.core.threads = Core.cold.threads := by rw [State.coreResetEngines_core]
    have hsb : s.coreResetEngines.core.sb = [] := by rw [State.coreResetEngines_core]; rfl
    split
    · exact hcold _ hthr hsb rfl
    · exact hcold _ hthr hsb rfl
  · have hself : s.haltThread 0 = s := if_pos rfl
    exact congrArg Host.Outcome.next (by rw [hself, ite_self])
  · exact congrArg Host.Outcome.next (if_neg fun h => hr h.2)
  · have hself := State.thr_setThr_self s t
      { s.thr t with st := .halted, stall := none, yielding := false, divAt := none }
    exact ⟨_, congrArg Host.Outcome.next ((if_pos ⟨hp, rfl⟩).trans (if_neg ht)), by rw [hself], by rw [hself],
      by rw [hself], by rw [hself], by rw [hself], rfl, fun v hv => State.thr_setThr_ne _ _ _ _ hv, rfl, MemorySame.of_mem rfl,
      .of_core rfl⟩

/-- A field of a device after reset that holds `n`, which may be more than its width takes. -/
def strayField (f : Fld) (n : Nat) : State := { State.reset with regs := [(f.key, n)] }

theorem strayField_get (f : Fld) (n : Nat) : (strayField f n).get f = n := by
  simp [strayField, State.get, Sparse.get]

end Sys2Proof.Machine
end

section
/-!
SUPPORT. Stores to registers whose fields change one by one (R7 to R14).
-/

namespace Sys2Proof.Machine

/-! ## No two fields of a register lie at one place -/

/-- The fields of a register lie at different places. -/
abbrev Distinct (l : List Field) : Prop := (l.map Field.lo).Nodup

theorem Distinct.ite {c : Prop} [Decidable c] {l m : List Field} (hl : Distinct l) (hm : Distinct m) :
    Distinct (if c then l else m) := by
  split
  · exact hl
  · exact hm

theorem Distinct.append_ite {c : Prop} [Decidable c] {k l m : List Field} (hl : Distinct (k ++ l))
    (hm : Distinct (k ++ m)) : Distinct (k ++ if c then l else m) := by
  split
  · exact hl
  · exact hm

theorem Distinct.append_ite_append {c : Prop} [Decidable c] {k l m n : List Field} (hl : Distinct (k ++ l ++ n))
    (hm : Distinct (k ++ m ++ n)) : Distinct (k ++ (if c then l else m) ++ n) := by
  split
  · exact hl
  · exact hm

theorem sysFields_distinct (off : Nat) : Distinct (sysFields off) := by
  unfold sysFields
  apply_rules [Distinct.ite] <;> decide

theorem otpFields_distinct (off : Nat) : Distinct (otpFields off) := by
  unfold otpFields
  apply_rules [Distinct.ite] <;> decide

theorem qspiFields_distinct (off : Nat) : Distinct (qspiFields off) := by
  unfold qspiFields
  apply_rules [Distinct.ite] <;> decide

theorem evtFields_distinct (off : Nat) : Distinct (evtFields off) := by
  unfold evtFields
  apply_rules [Distinct.ite] <;> decide

theorem protFields_distinct (off : Nat) : Distinct (protFields off) := by
  unfold protFields
  apply_rules [Distinct.ite] <;> decide

theorem nvcFields_distinct (off : Nat) : Distinct (nvcFields off) := by
  unfold nvcFields
  apply_rules [Distinct.ite] <;> decide

theorem swFields_distinct (inst off : Nat) : Distinct (swFields inst off) := by
  unfold swFields
  apply_rules [Distinct.ite, Distinct.append_ite, Distinct.append_ite_append] <;> decide

theorem scFields_distinct (off : Nat) : Distinct (scFields off) := by
  unfold scFields
  apply_rules [Distinct.ite] <;> decide

theorem chgFields_distinct (off : Nat) : Distinct (chgFields off) := by
  unfold chgFields
  apply_rules [Distinct.ite] <;> decide

theorem seqFields_distinct (off : Nat) : Distinct (seqFields off) := by
  unfold seqFields
  apply_rules [Distinct.ite] <;> decide

theorem pFields_distinct (inst off : Nat) : Distinct (pFields inst off) := by
  unfold pFields
  repeat refine .ite (by decide) ?_
  decide

theorem hostFields_distinct (off : Nat) : Distinct (hostFields off) := by
  unfold hostFields
  apply_rules [Distinct.ite] <;> decide

theorem twFields_distinct (inst off : Nat) : Distinct (twFields inst off) := by
  unfold twFields
  apply_rules [Distinct.ite] <;> decide

theorem uFields_distinct (inst off : Nat) : Distinct (uFields inst off) := by
  unfold uFields
  apply_rules [Distinct.ite] <;> decide

theorem adcFields_distinct (off : Nat) : Distinct (adcFields off) := by
  unfold adcFields
  apply_rules [Distinct.ite] <;> decide

theorem thermFields_distinct (off : Nat) : Distinct (thermFields off) := by
  unfold thermFields
  apply_rules [Distinct.ite] <;> decide

theorem bakFields_distinct (off : Nat) : Distinct (bakFields off) := by
  unfold bakFields
  apply_rules [Distinct.ite] <;> decide

theorem pwmFields_distinct (off : Nat) : Distinct (pwmFields off) := by
  unfold pwmFields
  apply_rules [Distinct.ite] <;> decide

theorem fieldsAt_distinct (a : Nat) : Distinct (fieldsAt a) :=
  .ite (by decide) (.ite (sysFields_distinct _) (.ite (otpFields_distinct _) (.ite (qspiFields_distinct _)
    (.ite (evtFields_distinct _) (.ite (protFields_distinct _) (.ite (nvcFields_distinct _) (.ite (swFields_distinct _ _)
    (.ite (scFields_distinct _) (.ite (chgFields_distinct _) (.ite (seqFields_distinct _) (.ite (pFields_distinct _ _)
    (.ite (hostFields_distinct _) (.ite (twFields_distinct _ _) (.ite (uFields_distinct _ _) (.ite (adcFields_distinct _)
    (.ite (thermFields_distinct _) (.ite (bakFields_distinct _) (.ite (pwmFields_distinct _)
    (by decide)))))))))))))))))))

/-! ## What a store leaves, field by field -/

section

variable {F : State → Field → State} {val : Field → Nat → Nat} {a : Nat}

/-- A pass over the fields of a register, each of which is changed by its own step alone. -/
theorem get_foldl_fields (hself : ∀ x f, (F x f).get ⟨a, f.lo, f.width⟩ = val f (x.get ⟨a, f.lo, f.width⟩))
    (hother : ∀ x f (g : Fld), g.key ≠ a * 32 + f.lo → (F x f).get g = x.get g) (l : List Field) (hl : Distinct l)
    (s : State) :
    (∀ f ∈ l, (l.foldl F s).get ⟨a, f.lo, f.width⟩ = val f (s.get ⟨a, f.lo, f.width⟩)) ∧
      ∀ g : Fld, (∀ f ∈ l, g.key ≠ a * 32 + f.lo) → (l.foldl F s).get g = s.get g := by
  induction l generalizing s with
  | nil => exact ⟨fun _ h => absurd h List.not_mem_nil, fun _ _ => rfl⟩
  | cons h l ih =>
    rw [Distinct, List.map_cons, List.nodup_cons, List.mem_map, not_exists] at hl
    obtain ⟨hin, hout⟩ := ih hl.2 (F s h)
    have hne : ∀ f ∈ l, f.lo ≠ h.lo := fun f hf e => hl.1 f ⟨hf, e⟩
    refine ⟨fun f hf => ?_, fun g hg => ?_⟩
    · rcases List.mem_cons.mp hf with rfl | hf
      · refine (hout _ fun f hf e => hne f hf ?_).trans (hself s _)
        simpa [Fld.key] using e.symm
      · refine (hin f hf).trans (congrArg (val f) (hother _ _ _ fun e => hne f hf ?_))
        simpa [Fld.key] using e
    · exact (hout g fun f hf => hg f (List.mem_cons_of_mem _ hf)).trans (hother _ _ _ (hg h List.mem_cons_self))

end

section

variable {s : State} {a ring : Nat} {v : Word}

/-- What a plain store leaves in each field. -/
theorem State.get_plainWrite : (∀ f ∈ fieldsAt a, (s.plainWrite a ring v).get ⟨a, f.lo, f.width⟩ =
      f.next (s.locked a f) (s.get ⟨a, f.lo, f.width⟩) ring v % 2 ^ f.width) ∧
    ∀ g : Fld, (∀ f ∈ fieldsAt a, g.key ≠ a * 32 + f.lo) → (s.plainWrite a ring v).get g = s.get g :=
  get_foldl_fields (val := fun f _ => f.next (s.locked a f) (s.get ⟨a, f.lo, f.width⟩) ring v % 2 ^ f.width)
    (fun _ _ => State.get_put_self _ _ _) (fun _ _ _ hg => State.get_put_ne _ _ _ _ (Ne.symm hg)) _
    (fieldsAt_distinct a) s

/-- What the hardware's set bits leave in each field. -/
theorem State.get_setWins {s1 : State} : (∀ f ∈ fieldsAt a,
      (s.setWins s1 a v).get ⟨a, f.lo, f.width⟩ = if (f.kind = .w1c ∨ f.kind = .w1cAll) ∧ a / 0x1000 ≠ 0x40022 then
        (s1.get ⟨a, f.lo, f.width⟩ ||| (s.get ⟨a, f.lo, f.width⟩ &&& f.part v)) % 2 ^ f.width
      else s1.get ⟨a, f.lo, f.width⟩) ∧
    ∀ g : Fld, (∀ f ∈ fieldsAt a, g.key ≠ a * 32 + f.lo) → (s.setWins s1 a v).get g = s1.get g := by
  refine get_foldl_fields (val := fun f n => if (f.kind = .w1c ∨ f.kind = .w1cAll) ∧ a / 0x1000 ≠ 0x40022 then
    (n ||| (s.get ⟨a, f.lo, f.width⟩ &&& f.part v)) % 2 ^ f.width else n) (fun x f => ?_) (fun x f g hg => ?_) _
    (fieldsAt_distinct a) s1
  · split
    · exact State.get_put_self _ _ _
    · rfl
  · split
    · exact State.get_put_ne _ _ _ _ (Ne.symm hg)
    · rfl

end

/-! ## PWM's status registers have an action of their own -/

/-- No field of a list is cleared by a store. -/
abbrev NoClear (l : List Field) : Prop := ∀ f ∈ l, f.kind ≠ .w1c ∧ f.kind ≠ .w1cAll

theorem NoClear.ite {c : Prop} [Decidable c] {l m : List Field} (hl : NoClear l) (hm : NoClear m) :
    NoClear (if c then l else m) := by
  split
  · exact hl
  · exact hm

theorem pwmFields_noClear {off : Nat} (h : ¬inArray off 0x010 0x20 6 = true) : NoClear (pwmFields off) := by
  unfold pwmFields
  refine .ite (by decide) (.ite (by decide) (.ite (by decide) (.ite (by decide) ?_)))
  rw [if_neg h]
  apply_rules [NoClear.ite] <;> decide

/-- A field that a store clears is in no PWM register whose write is plain. -/
theorem not_pwm_of_plain {a : Nat} {f : Field} (hplain : ∀ x r w d, State.writeWord x a r w d = x.plainWrite a r w)
    (hf : f ∈ fieldsAt a) (hk : f.kind = .w1c ∨ f.kind = .w1cAll) : a / 0x1000 ≠ 0x40022 := by
  intro ha
  have hw : (a - 0x40000000) / 0x1000 = 0x22 := by omega
  have hfields : fieldsAt a = pwmFields (a % 0x1000) := by
    rw [fieldsAt, if_neg (by omega)]
    simp [hw]
  have harr : inArray (a % 0x1000) 0x010 0x20 6 = true := by
    by_contra hno
    have := pwmFields_noClear hno f (hfields ▸ hf)
    tauto
  have hstat : State.writeWord (strayField ⟨a, f.lo, f.width⟩ (2 ^ f.width)) a 3 0 Sense.quiet =
      strayField ⟨a, f.lo, f.width⟩ (2 ^ f.width) := by
    have hoff : a % 0x1000 < 0x0C0 ∧ a % 0x1000 % 0x20 = 0x10 := by
      simp only [inArray, Bool.and_eq_true, decide_eq_true_eq, beq_iff_eq] at harr
      omega
    have hpwm : State.writeWord (strayField ⟨a, f.lo, f.width⟩ (2 ^ f.width)) a 3 0 Sense.quiet =
        State.pwmWrite (strayField ⟨a, f.lo, f.width⟩ (2 ^ f.width)) (a % 0x1000) 3 0 Sense.quiet := by
      simp [State.writeWord, hw]
    rw [hpwm, State.pwmWrite, if_neg (by omega), if_pos hoff]
    rfl
  have hcut := State.get_plainWrite (s := strayField ⟨a, f.lo, f.width⟩ (2 ^ f.width)) (a := a) (ring := 3) (v := 0) |>.1 f hf
  rw [← hplain _ _ _ Sense.quiet, hstat, strayField_get] at hcut
  have := Nat.mod_lt (f.next ((strayField ⟨a, f.lo, f.width⟩ (2 ^ f.width)).locked a f) (2 ^ f.width) 3 0)
    (Nat.two_pow_pos f.width)
  omega

/-- Bit `i` of what a store offers to a field. -/
theorem Field.testBit_part (f : Field) (v : Word) (i : Nat) :
    (f.part v).testBit i = (decide (i < f.width) && v.getLsbD (f.lo + i)) := by
  rw [Field.part, Nat.testBit_mod_two_pow, Nat.testBit_div_two_pow, BitVec.testBit_toNat, Nat.add_comm]

theorem Field.part_lt (f : Field) (v : Word) : f.part v < 2 ^ f.width := Nat.mod_lt _ (Nat.two_pow_pos _)

section

variable (f : Field) {locked : Bool} {old ring : Nat} {v : Word}

theorem Field.next_above (h : f.ring < ring) : f.next locked old ring v = old := if_pos h

theorem Field.next_below (h : ring ≤ f.ring) : f.next locked old ring v =
    match f.kind with
    | .rw => if f.legal.ok (f.part v) then f.part v else old
    | .lk => if locked then old else if f.legal.ok (f.part v) then f.part v else old
    | .w1c => old &&& (2 ^ f.width - 1 - f.part v)
    | .w1cAll => if f.part v = 0 then old else 0
    | .stk => old ||| f.part v
    | .ro | .wo | .view => old :=
  if_neg (Nat.not_lt.mpr h)

/-- The fields that a store never changes. -/
theorem Field.next_unwritten (h : f.kind = .ro ∨ f.kind = .wo ∨ f.kind = .view) : f.next locked old ring v = old := by
  unfold Field.next
  rcases h with h | h | h
  · rw [h, ite_self]
  · rw [h, ite_self]
  · rw [h, ite_self]

end

/-- Bits that were set are set again. -/
theorem Nat.keep_set_bits (n m w : Nat) : (n % 2 ^ w ||| (n &&& m)) % 2 ^ w = n % 2 ^ w := by
  refine Nat.eq_of_testBit_eq fun i => ?_
  simp only [Nat.testBit_mod_two_pow, Nat.testBit_or, Nat.testBit_and]
  cases decide (i < w)
  · simp
  · cases n.testBit i
    · simp
    · simp

/-- Settles O34. -/
theorem registerWriteRules : Obligations.RegisterWriteRules := by
  intro s a ring v e f htake hplain hf
  have hx : exec (.registerWrite a ring v e) s = .next (s.setWins (s.plainWrite a.toNat ring.val v) a.toNat e.setNow) := by
    refine congrArg Host.Outcome.next ((if_pos htake).trans ?_)
    rw [State.applyWrite, hplain]
  have hdev : Dev (fun k => ∃ h ∈ fieldsAt a.toNat, k = a.toNat * 32 + h.lo) [] [] s
      (s.setWins (s.plainWrite a.toNat ring.val v) a.toNat e.setNow) :=
    (Dev.refl.plainWrite fun f hf => ⟨f, hf, rfl⟩).setWins fun f hf => ⟨f, hf, rfl⟩
  have hget := (State.get_setWins (s := s) (s1 := s.plainWrite a.toNat ring.val v) (a := a.toNat) (v := e.setNow)).1 f hf
  rw [(State.get_plainWrite (s := s)).1 f hf] at hget
  generalize s.setWins (s.plainWrite a.toNat ring.val v) a.toNat e.setNow = u at hx hdev hget
  refine ⟨u, hx, ?_⟩
  dsimp only
  generalize hold : s.get ⟨a.toNat, f.lo, f.width⟩ = old at hget ⊢
  generalize hpart : v.toNat / 2 ^ f.lo % 2 ^ f.width = part
  generalize u.get ⟨a.toNat, f.lo, f.width⟩ = new at hget ⊢
  have hlt : part < 2 ^ f.width := hpart ▸ f.part_lt v
  have hnew : new = if (f.kind = .w1c ∨ f.kind = .w1cAll) ∧ a.toNat / 0x1000 ≠ 0x40022 then
      (f.next (s.locked a.toNat f) old ring.val v % 2 ^ f.width ||| (old &&& f.part e.setNow)) % 2 ^ f.width
      else f.next (s.locked a.toNat f) old ring.val v % 2 ^ f.width := hget
  have hclear : (f.kind = .w1c ∨ f.kind = .w1cAll) → new =
      (f.next (s.locked a.toNat f) old ring.val v % 2 ^ f.width ||| (old &&& f.part e.setNow)) % 2 ^ f.width :=
    fun hk => hnew.trans (if_pos ⟨hk, not_pwm_of_plain hplain hf hk⟩)
  have hkeep : ¬(f.kind = .w1c ∨ f.kind = .w1cAll) → new = f.next (s.locked a.toNat f) old ring.val v % 2 ^ f.width :=
    fun hk => hnew.trans (if_neg fun h => hk h.1)
  refine ⟨fun hring => ?_, fun hring => ?_, fun hk => ?_, fun g hg => hdev.keys g fun ⟨h, hh, e⟩ => hg h hh e, hdev.core,
    MemorySame.of_mem hdev.mem, hdev.blocksSame⟩
  · rw [f.next_above hring] at hclear hkeep
    by_cases hk : f.kind = .w1c ∨ f.kind = .w1cAll
    · exact (hclear hk).trans (Nat.keep_set_bits _ _ _)
    · exact hkeep hk
  · rw [f.next_below hring, show f.part v = part from hpart] at hclear hkeep
    refine ⟨fun hk => ?_, fun hk => ?_, fun hk i => ?_, fun hk i => ?_, fun hk i => ?_⟩
    · rw [hkeep (by simp [hk]), hk]
      dsimp only
      split
      · exact Nat.mod_eq_of_lt hlt
      · rfl
    · rw [hkeep (by simp [hk]), hk]
      dsimp only
      by_cases hl : s.locked a.toNat f = true
      · simp [hl]
      · by_cases hok : f.legal.ok part = true
        · simp [hl, hok, Nat.mod_eq_of_lt hlt]
        · simp [hl, hok]
    · rw [hclear (by simp [hk]), hk]
      dsimp only
      rw [Nat.sub_sub, Nat.add_comm 1]
      simp only [Nat.testBit_mod_two_pow, Nat.testBit_or, Nat.testBit_and, Nat.testBit_two_pow_sub_succ hlt, f.testBit_part]
      cases decide (i < f.width) <;> cases old.testBit i <;> simp
    · rw [hclear (by simp [hk]), hk]
      dsimp only
      by_cases h0 : part = 0
      · simp only [h0, if_pos, Nat.testBit_mod_two_pow, Nat.testBit_or, Nat.testBit_and, f.testBit_part]
        cases decide (i < f.width) <;> cases old.testBit i <;> simp
      · simp only [h0, if_false, Nat.zero_mod, Nat.zero_or, Nat.testBit_mod_two_pow, Nat.testBit_and, f.testBit_part]
        cases decide (i < f.width) <;> cases old.testBit i <;> simp
    · rw [hkeep (by simp [hk]), hk]
      dsimp only
      rw [Nat.testBit_mod_two_pow, Nat.testBit_or]
  · have hnext : f.next (s.locked a.toNat f) old ring.val v = old := f.next_unwritten hk
    rw [hkeep (by rcases hk with hk | hk | hk <;> simp [hk]), hnext]

end Sys2Proof.Machine
end

section
/-!
SUPPORT. Statements that fail in states whose fields hold more than their width. The obligations quantify over all
states; a store that is refused writes each field back through `State.put`, which cuts it to its width.
-/

namespace Sys2Proof.Machine

/-- A device after reset with every domain at power-good, whose fields hold what the list says; a field may hold more
than its width takes. -/
def stray (l : List (Fld × Nat)) : State :=
  { State.reset with regs := (F.SYS_DOMSTAT_PG.key, 0xFFFF) :: l.map (fun x => (x.1.key, x.2)) }

/-- A command answers a state in which a field differs that its frame has unchanged. -/
theorem not_frame {i : Instr} {s u : State} {fs : List Fld} {bs : List Block} {ks : List Nat} (f : Fld)
    (hx : exec i s = .next u) (hf : f.key ∉ fs.map Fld.key) (hget : u.get f ≠ s.get f) :
    ¬Gives i s (fun u => Frame fs bs ks s u) := by
  intro h
  obtain ⟨hfields, -⟩ := h.holds hx
  exact hget (hfields f hf)

/-- Refutes O35: a store to ECFG at ring 1 cuts a GALEEN that holds 2 to its one bit. -/
theorem not_evtAndProtStores : ¬ Obligations.EvtAndProtStores := by
  intro h
  obtain ⟨-, -, -, hrings⟩ := h (stray [(F.PROT_ECFG_GALEEN, 2)]) 0 (by decide)
  obtain ⟨-, hecfg, -⟩ := hrings 1 (by decide)
  exact not_frame F.PROT_ECFG_GALEEN rfl (by decide) (by decide) hecfg

/-- A device in a fast stop toward a SYSTEM reset whose rise order names rail 19, VSTOR. -/
def strayRise : State :=
  { State.reset with
    pwr := { State.reset.pwr with stop := .fast, endSys := true }
    seq := { State.reset.seq with rise := [19] } }

/-- Refutes O38: the statement lets the rise order name any number. In `strayRise` the next rail of the stop is 19, which
is supervised but never switched: it stays on. -/
theorem not_pinResetAndLossOfSupply : ¬ Obligations.PinResetAndLossOfSupply := by
  intro h
  obtain ⟨-, -, hstop, -⟩ := h strayRise
  obtain ⟨hrail, -⟩ := ((hstop 0 rfl rfl).1 19 (by decide) rfl).holds rfl
  exact absurd hrail (by simp [State.railEn])

/-- Refutes O41: DOMSTAT.PG of 16 bits holds 2 ^ 16, and a domain that reaches power-good cuts it. -/
theorem not_domainsAndPowerStates : ¬ Obligations.DomainsAndPowerStates := by
  intro h
  obtain ⟨hpg, -⟩ := h (strayField F.SYS_DOMSTAT_PG 65536)
  obtain ⟨-, hothers, -⟩ := (hpg 1 (by decide) (by decide) (by decide) (by decide) (by decide)).holds rfl
  exact absurd (hothers 16 (by decide)) (by decide)

/-- Refutes O43: a refused copy cuts a GO that holds 2 to its one bit. -/
theorem not_qspiCopies : ¬ Obligations.QspiCopies := by
  intro h
  obtain ⟨hstore, -⟩ := h (stray [(⟨0x4002600C, 31, 1⟩, 2)]) (by decide)
  obtain ⟨-, hrefused, -⟩ := hstore 0x80000001 (by decide)
  obtain ⟨-, hfields, -⟩ := (hrefused rfl (by decide)).holds rfl
  exact absurd (hfields ⟨0x4002600C, 31, 1⟩ (by decide)) (by decide)

/-- Refutes O47: CAL at ring 1 cuts a CSOFS that holds 2 ^ 7 to its seven bits. -/
theorem not_softStartsRampsAndCalibration : ¬ Obligations.SoftStartsRampsAndCalibration := by
  intro h
  obtain ⟨-, hcal, -⟩ := h (stray [(F.SW_CAL_CSOFS 0, 128)]) 0
  obtain ⟨-, -, -, hrings⟩ := hcal 1 (by decide) (by decide)
  exact not_frame (F.SW_CAL_CSOFS 0) rfl (by decide) (by decide) (hrings 1 (by decide))

/-- Refutes O49: CTL of SC at ring 1 cuts a REVEN that holds 2 to its one bit. -/
theorem not_storageConverter : ¬ Obligations.StorageConverter := by
  intro h
  obtain ⟨-, -, -, -, hclr, -⟩ := h (stray [(F.SC_CTL_REVEN, 2)])
  obtain ⟨-, hrings⟩ := hclr 0 (by decide)
  exact not_frame F.SC_CTL_REVEN rfl (by decide) (by decide) (hrings 1 (by decide))

/-- A device in the third step of LULL whose NVC programs a granule outside flash. -/
def strayProgram : State :=
  { State.reset with
    pwr := { State.reset.pwr with stop := .lull 3 1 0 }
    nvc := { State.reset.nvc with cmd := some (.program 0x30000000 (List.replicate 16 0x11)) } }

/-- A device that reverses while DOMCTL has D15 off, with a store to SC in its landing latch. -/
def reversedOff : State :=
  let s := stray [(F.SC_STAT_MODE, 2), (F.SYS_DOMCTL_DSW, 0)]
  { s with core := { s.core with latch := [⟨.sc, ⟨0, 0, 0x4000E000, .store 0xF 0⟩⟩] } }

/-- Refutes O51: a CUT ends a reversal, with it D15 goes off, and what waits in SC's landing latch is lost; the frame has
the latches unchanged. -/
theorem not_railsAndSupervision : ¬ Obligations.RailsAndSupervision := by
  intro h
  obtain ⟨-, -, -, -, -, hcut⟩ := h reversedOff (by decide)
  obtain ⟨-, htrip, -⟩ := hcut 0
  obtain ⟨-, -, -, -, -, -, -, -, -, -, -, hlatch, -⟩ := (htrip (by decide)).holds rfl
  exact absurd hlatch (by decide +kernel)

/-- Refutes O52: the flush ends the NVC's command, and the statement lets the command program a granule anywhere. In
`strayProgram` it lies at 0x30000000, whose byte the flush then changes. -/
theorem not_lullSequence : ¬ Obligations.LullSequence := by
  intro h
  obtain ⟨-, -, hflush, -⟩ := h strayProgram (by decide)
  obtain ⟨-, -, -, -, -, -, -, -, -, hbytes, -⟩ := (hflush 1 0 rfl (by decide)).holds rfl
  exact absurd (hbytes 0x30000000 (by decide) (by decide)) (by decide +kernel)

/-- Refutes O53: MEAS at ring 1 cuts a RESULT that holds 2 ^ 8 to its width. -/
theorem not_portCommands : ¬ Obligations.PortCommands := by
  intro h
  obtain ⟨hrings, -⟩ := h (stray [(F.P_MEAS_RESULT 0, 256)]) 0 (by decide)
  obtain ⟨-, hmeas, -⟩ := hrings 1 1 (by decide)
  exact not_frame (F.P_MEAS_RESULT 0) rfl (by decide) (by decide) hmeas

/-- A device that answers address 8 on TW0 at window 0, whose NACKCNT holds 2 ^ 16. -/
def answersTw0 : State :=
  stray [(F.HOST_WCFG_BOUND 0, 1), (F.HOST_WCFG_PORT 0, 0), (F.HOST_WCFG_ADDR 0, 8), (F.TW_CNT_NACKCNT 0, 65536)]

/-- Refutes O56: a write transfer without a byte is never NACKed, and NACKCNT, which should then be cut to its sixteen
bits, stays. -/
theorem not_hostWindows : ¬ Obligations.HostWindows := by
  intro h
  obtain ⟨-, htw, -⟩ := h answersTw0 0 (by decide)
  obtain ⟨-, -, -, -, hframes, -⟩ := htw 0
  obtain ⟨-, -, -, hempty, -⟩ := hframes 8 .stop (by decide)
  obtain ⟨-, -, hnacks, -⟩ := hempty.holds rfl
  exact absurd hnacks (by decide)

/-- A device whose framer U0 firmware owns, with PRESC on. -/
def prescaled : State := stray [(F.U_CFG_PRESC 0, 1), (F.U_DIV_DIVI 0, 5)]

/-- Refutes O58: with PRESC the divider 2 is not too low, but its DIVI of 0 is no value the field takes: DIVI keeps 5. -/
theorem not_uartCommands : ¬ Obligations.UartCommands := by
  intro h
  obtain ⟨hstore, -⟩ := h prescaled 0 (by decide)
  obtain ⟨-, -, hown⟩ := hstore 0 2 false
  obtain ⟨-, -, -, -, -, -, ⟨-, hdiv⟩, -⟩ := hown (by decide) (by decide)
  obtain ⟨hdivi, -⟩ := (hdiv (by decide)).holds rfl
  exact absurd hdivi (by decide)

/-- A device whose engine A sends a broadcast of entry 0, a KIND 2 to address 255 with its buffer at the pool's start;
its counter of errors holds 2 ^ 16. -/
def broadcasts : State :=
  ((stray [(F.P_ENG_CNT_ERRS 0, 65536)]).setBytes 0x200A0000 ([9, 255, 0, 0, 0, 0, 0, 0] ++ le32 0x200A4000)).portUpd 0
    fun x => { x with exch := some ⟨0, false, .request, 0, 0, false, true, true⟩ }

/-- Refutes O54: the exchange ends without an error, and ERRS, which should then be cut to its sixteen bits, stays. -/
theorem not_engineAsMaster : ¬ Obligations.EngineAsMaster := by
  intro h
  obtain ⟨-, -, -, -, -, -, hexch, -⟩ := h broadcasts 0
  obtain ⟨-, hbroadcast, -⟩ := hexch _ rfl (by decide) (by decide +kernel)
  obtain ⟨-, -, herrs⟩ := (hbroadcast rfl rfl (by decide +kernel) (by decide +kernel)).holds rfl
  exact absurd herrs (by decide +kernel)

/-- Refutes O59: SUSP at ring 1 cuts an S that holds 2 ^ 8 to its eight bits. -/
theorem not_converterAndThermalScan : ¬ Obligations.ConverterAndThermalScan := by
  intro h
  obtain ⟨-, -, -, -, -, hsusp⟩ := h (stray [(F.THERM_SUSP_S, 256)]) (by decide)
  obtain ⟨hrings, -⟩ := hsusp 1 0
  exact not_frame F.THERM_SUSP_S rfl (by decide) (by decide) (hrings (by decide))

/-- Refutes O60: BILLCMPH at ring 2 cuts a V that holds 2 ^ 16 to its sixteen bits. -/
theorem not_backupCalendarAndPwm : ¬ Obligations.BackupCalendarAndPwm := by
  intro h
  obtain ⟨hbak, -⟩ := h (stray [(F.BAK_BILLCMPH_V, 65536)])
  obtain ⟨-, -, -, -, -, hbill, -⟩ := hbak (by decide)
  obtain ⟨-, hrings⟩ := hbill 2 0
  exact not_frame F.BAK_BILLCMPH_V rfl (by decide) (by decide) (hrings (by decide))

end Sys2Proof.Machine
end

section
/-!
SUPPORT. The state after reset, and the SQUALL of a hold that lasts too long.
-/

namespace Sys2Proof.Machine

/-- Settles O3. -/
theorem resetState : Obligations.ResetState := by
  have hothers : ∀ t : Tid, t ≠ 0 → (State.reset.thr t).st = .halted ∧ (State.reset.thr t).psw = 0x37 := by decide
  refine ⟨rfl, rfl, hothers, by decide, rfl, rfl, rfl, rfl, rfl, rfl, rfl, rfl, rfl, fun f hvin hlost => ?_, by decide,
    by decide⟩
  have hvin' : ¬F.SYS_RSTCAUSE_COLD_VIN.key = f.key := Ne.symm hvin
  have hlost' : ¬F.SYS_RSTCAUSE_BAKLOST.key = f.key := Ne.symm hlost
  have hlist : State.reset.regs = [(F.SYS_RSTCAUSE_COLD_VIN.key, 1), (F.SYS_RSTCAUSE_BAKLOST.key, 1)] := rfl
  simp only [State.get, hlist, Sparse.get, if_neg hvin', if_neg hlost']

section

variable {s u : State}

/-- A stop of the core by a SQUALL (R157): its cause is recorded and LULL leads to a SYSTEM reset. -/
def StopsFor (s u : State) (cause : Nat) : Prop :=
  u.core.squall = true ∧ u.on F.SYS_RSTCAUSE_SQUALL = true ∧ u.inLull = true ∧ u.pwr.endSys = true ∧
    (u.word 0x40024100).toNat % 256 = cause ∧ bitOf (u.word 0x40024100) 31 = true ∧
    (∀ t v, exec (.nop t) u = .next v → v = u) ∧ u.pending = s.pending

/-- The first word of the record of a SQUALL. -/
def State.squallWord (s : State) (cause : Nat) (t : Tid) : Nat :=
  cause + t.val * 2 ^ 8 + min 255 (bitsOf (s.word 0x40024100) 16 8 + 1) * 2 ^ 16 + 2 ^ 31

theorem State.setWords_eq (l : List Nat) (a : Nat) : s.setWords a l = s.writeWords a (l.map (BitVec.ofNat 32)) := by
  induction l generalizing s a with
  | nil => rfl
  | cons w l ih => exact ih _

theorem State.squallRecord_rest (cause : Nat) (t : Tid) (detail : Nat) :
    s.squallRecord cause t detail = { s with mem := (s.squallRecord cause t detail).mem } := by
  rw [State.squallRecord, State.setWords_eq]
  exact State.writeWords_rest _ _

theorem State.squallRecord_word (cause : Nat) (t : Tid) (detail : Nat) :
    (s.squallRecord cause t detail).word 0x40024100 = BitVec.ofNat 32 (s.squallWord cause t) := by
  rw [State.squallRecord, State.setWords_eq]
  exact State.word_writeWords _ _ 0 (by simp)

/-- The first word of the record names the cause and is marked as written. -/
theorem State.squallWord_bits {cause : Nat} (h : cause < 256) (t : Tid) :
    (BitVec.ofNat 32 (s.squallWord cause t)).toNat % 256 = cause ∧
      bitOf (BitVec.ofNat 32 (s.squallWord cause t)) 31 = true := by
  have ht := t.isLt
  have hlt : s.squallWord cause t < 2 ^ 32 := by
    unfold State.squallWord
    omega
  have hge : 2 ^ 31 ≤ s.squallWord cause t := Nat.le_add_left _ _
  refine ⟨?_, ?_⟩
  · rw [BitVec.toNat_ofNat, Nat.mod_eq_of_lt hlt]
    unfold State.squallWord
    omega
  · rw [bitOf, BitVec.getLsbD, BitVec.toNat_ofNat, Nat.mod_eq_of_lt hlt, Nat.testBit_eq_decide_div_mod_eq]
    simp only [decide_eq_true_eq]
    omega

/-! ## The start of a stop -/

theorem State.wdStop_same : s.wdStop.core = s.core ∧ s.wdStop.mem = s.mem ∧ s.wdStop.pending = s.pending ∧
    s.wdStop.regs = s.regs := ⟨rfl, rfl, rfl, rfl⟩

/-- LULL has begun (R240), before its event and the end of the measurements. -/
def State.lullBegun (s : State) (cause : Nat) (endSys : Bool) : State :=
  ((((s.pwrUpd (fun p => { p with
    stop := .lull 2 cause (s.get F.SEQ_LULLCFG_TLULL), endSys := endSys, sysDue := false, lulled := true })).put
    F.SEQ_LULLSTAT_RUN 1).put F.SEQ_LULLSTAT_STEP 2).put F.SEQ_LULLSTAT_CAUSE cause).putB F.SEQ_LULLSTAT_ENDSYS endSys

theorem State.lullStart_of_none (hstop : s.pwr.stop = .none) (hp : s.powered = true) (cause : Nat) (endSys : Bool) :
    s.lullStart cause endSys false = (((s.lullBegun cause endSys).raise 28).measAbort 0).measAbort 1 := by
  simp only [State.lullStart, Bool.false_eq_true, if_false, hstop, hp, if_true, Bool.or_false]
  rfl

theorem State.lullStart_reset (hstop : s.pwr.stop = .none) (hp : s.powered = true) (cause : Nat) (endSys : Bool) :
    s.lullStart cause endSys true = (((s.wdStop.lullBegun cause true).raise 28).measAbort 0).measAbort 1 := by
  have hstop' : s.wdStop.pwr.stop = .none := hstop
  have hp' : s.wdStop.powered = true := hp
  simp only [State.lullStart, if_true, hstop', hp', Bool.or_true]
  rfl

/-- The fields of a measurement that a stop ends. -/
def measFields (p : Fin 2) : List Fld := [F.P_MEAS_BUSY p, F.P_MEAS_RESULT p, F.P_MEAS_DONE p, F.P_STAT_STATEV p]

theorem Dev.flagRaise {K : Nat → Prop} {bs : List Block} {ks : List Nat} (h : Dev K bs ks s u) {f : Fld} {k : Nat}
    (hf : K f.key := by simp [keysOf]) (hk : k ∈ ks := by simp) : Dev K bs ks s (u.flagRaise f k) :=
  h.ite ((h.put hf).raise hk)

theorem Dev.measAbort {K : Nat → Prop} {bs : List Block} {ks : List Nat} (h : Dev K bs ks s u) {p : Fin 2}
    (hf : ∀ f ∈ measFields p, K f.key) (hk : 14 + p.val ∈ ks) (hb : .port ∈ bs) : Dev K bs ks s (u.measAbort p) :=
  ((((((h.put (hf _ (by simp [measFields]))).put (hf _ (by simp [measFields]))).put (hf _ (by simp [measFields]))).flagRaise
    (hf _ (by simp [measFields])) hk).portUpd hb)).ite h

theorem State.measAbort_pwr (p : Fin 2) : (s.measAbort p).pwr = s.pwr := by
  simp only [State.measAbort, State.portEvent, State.flagRaise]
  split
  · split
    · rfl
    · rfl
  · rfl

/-- What the begin of a stop changes. -/
theorem Dev.lullBegun {K : Nat → Prop} {bs : List Block} {ks : List Nat} (h : Dev K bs ks s u) {cause : Nat} {e : Bool}
    (hf : ∀ f ∈ [F.SEQ_LULLSTAT_RUN, F.SEQ_LULLSTAT_STEP, F.SEQ_LULLSTAT_CAUSE, F.SEQ_LULLSTAT_ENDSYS] ++ measFields 0 ++
      measFields 1, K f.key) (hk : 28 ∈ ks ∧ 14 ∈ ks ∧ 15 ∈ ks) (hb : .pwr ∈ bs ∧ .port ∈ bs) :
    Dev K bs ks s ((((u.lullBegun cause e).raise 28).measAbort 0).measAbort 1) := by
  obtain ⟨h28, h14, h15⟩ := hk
  obtain ⟨hpwr, hport⟩ := hb
  have h1 : Dev K bs ks s (u.lullBegun cause e) :=
    ((((h.pwrUpd hpwr).put (hf _ (by simp))).put (hf _ (by simp))).put (hf _ (by simp))).putB (hf _ (by simp))
  have h2 : Dev K bs ks s (((u.lullBegun cause e).raise 28).measAbort 0) :=
    (h1.raise h28).measAbort (fun f m => hf f (by simp [m])) h14 hport
  exact h2.measAbort (fun f m => hf f (by simp [m])) h15 hport

theorem State.lullBegun_pwr (cause : Nat) (e : Bool) :
    ((((s.lullBegun cause e).raise 28).measAbort 0).measAbort 1).pwr = { s.pwr with
      stop := .lull 2 cause (s.get F.SEQ_LULLCFG_TLULL), endSys := e, sysDue := false, lulled := true } := by
  rw [State.measAbort_pwr, State.measAbort_pwr]
  rfl

/-! ## A hold that lasts too long -/

/-- A core stopped by a SQUALL issues nothing. -/
theorem State.nop_of_squall (h : s.core.squall = true) (t : Tid) (v : State) (hx : exec (.nop t) s = .next v) : v = s := by
  have hno : s.canIssue t = false := by simp [State.canIssue, State.coreLive, h]
  have hself : exec (.nop t) s = .next s := congrArg Host.Outcome.next (State.issue_of_not_chosen hno)
  exact (Host.Outcome.next.inj (hself.symm.trans hx)).symm

theorem State.powered_of_pwr (h : u.pwr = s.pwr) : u.powered = s.powered := by
  simp [State.powered, h]

/-- A SQUALL of a core that runs stops it. -/
theorem StopsFor.of_squall (hsq : s.core.squall = false) (hsb : s.core.sb = []) (hstop : s.pwr.stop = .none)
    (hp : s.powered = true) {cause : Nat} (hc : cause < 256) (t : Tid) (detail : Nat) :
    StopsFor s (s.squall cause t detail) cause := by
  have hx : s.squall cause t detail = (((((s.coreUpd (fun c => { c with squall := true })).mapThr (fun x =>
      { x with stall := none })).squallRecord cause t detail).put F.SYS_RSTCAUSE_SQUALL 1).lullStart 4 false true) := by
    unfold State.squall
    rw [hsq, State.drainSb_of_empty hsb, if_neg Bool.false_ne_true]
  have hrest := State.squallRecord_rest (s := (s.coreUpd (fun c => { c with squall := true })).mapThr (fun x =>
    { x with stall := none })) cause t detail
  have hword := State.squallRecord_word (s := (s.coreUpd (fun c => { c with squall := true })).mapThr (fun x =>
    { x with stall := none })) cause t detail
  have hbits := State.squallWord_bits (s := (s.coreUpd (fun c => { c with squall := true })).mapThr (fun x =>
    { x with stall := none })) hc t
  generalize ((s.coreUpd (fun c => { c with squall := true })).mapThr (fun x =>
    { x with stall := none })).squallRecord cause t detail = y at hx hrest hword
  have hpwr : y.pwr = s.pwr := by rw [hrest]; rfl
  have hcore : y.core.squall = true := by rw [hrest]; rfl
  have hpend : y.pending = s.pending := by rw [hrest]; rfl
  have hstop' : (y.put F.SYS_RSTCAUSE_SQUALL 1).pwr.stop = .none := by rw [State.put_pwr, hpwr, hstop]
  have hp' : (y.put F.SYS_RSTCAUSE_SQUALL 1).powered = true := by
    rw [← hp]
    exact State.powered_of_pwr (by rw [State.put_pwr, hpwr])
  have hset : (y.put F.SYS_RSTCAUSE_SQUALL 1).on F.SYS_RSTCAUSE_SQUALL = true := State.on_put_one
  rw [State.lullStart_reset hstop' hp'] at hx
  have hdev := Dev.lullBegun (K := keysOf ([F.SEQ_LULLSTAT_RUN, F.SEQ_LULLSTAT_STEP, F.SEQ_LULLSTAT_CAUSE,
      F.SEQ_LULLSTAT_ENDSYS] ++ measFields 0 ++ measFields 1)) (bs := [.pwr, .port]) (ks := [28, 14, 15])
    (Dev.refl (s := (y.put F.SYS_RSTCAUSE_SQUALL 1).wdStop)) (cause := 4) (e := true)
    (fun f m => List.mem_map_of_mem m) (by simp) (by simp)
  have hlull := State.lullBegun_pwr (s := (y.put F.SYS_RSTCAUSE_SQUALL 1).wdStop) 4 true
  rw [← hx] at hdev hlull
  obtain ⟨hzcore, hzmem, hzpend, hzregs⟩ := State.wdStop_same (s := y.put F.SYS_RSTCAUSE_SQUALL 1)
  rw [State.put_core] at hzcore
  rw [State.put_mem] at hzmem
  rw [State.put_pending] at hzpend
  have hzon : (y.put F.SYS_RSTCAUSE_SQUALL 1).wdStop.on F.SYS_RSTCAUSE_SQUALL = true :=
    (congrArg (· != 0) (State.get_of_regs hzregs _)).trans hset
  generalize (y.put F.SYS_RSTCAUSE_SQUALL 1).wdStop = z at hdev hlull hzcore hzmem hzpend hzon
  generalize s.squall cause t detail = u at hdev hlull
  have hstopped : u.core.squall = true := (congrArg Core.squall hdev.core.1).trans (by rw [hzcore, hcore])
  have hon : u.get F.SYS_RSTCAUSE_SQUALL = z.get F.SYS_RSTCAUSE_SQUALL := hdev.keys _ (by decide)
  have hmem : u.word 0x40024100 = _ := (State.word_of_mem (hdev.mem.trans hzmem) _).trans hword
  refine ⟨hstopped, (congrArg (· != 0) hon).trans hzon, by simp [State.inLull, hlull], by simp [hlull], ?_, ?_,
    State.nop_of_squall hstopped, (hdev.pending.trans hzpend).trans hpend⟩
  · rw [hmem]
    exact hbits.1
  · rw [hmem]
    exact hbits.2

end

/-- The state of a NOP that is counted, before GM's hold is judged. -/
def State.heldNop (s : State) (t : Tid) : State :=
  let s1 := (s.advance t 2 (s.thr t)).coreUpd (fun c => { c with
    rr := c.rr.set (Fin.ofNat 4 (s.cls t)) (t + 1), awake := true, eddySeen := false })
  s1.setThr t { s1.thr t with icnt := (s1.thr t).icnt + BitVec.ofNat 32 1 }

/-- A NOP that makes a hold of GM too long. -/
theorem State.nop_held {s : State} {t : Tid} (hr : Runs s t 2) (hsq : s.core.squall = false) (hgm : (s.thr t).gm = true)
    (hgale : s.core.gale = none) (hhold : 48 ≤ s.core.gmHold) :
    s.plain t 2 1 (fun x => x) = (s.heldNop t).squall 0x20 t 0 := by
  have hcount : (s.heldNop t).galeCount t 1 = s.heldNop t := by
    have hg : (s.heldNop t).core.gale = none := hgale
    rw [State.galeCount, hg]
  have hgate : (s.heldNop t).gmCount t (s.thr t).gm 1 = (s.heldNop t).squall 0x20 t 0 := by
    have hh : 49 ≤ (s.heldNop t).core.gmHold + 1 := Nat.succ_le_succ hhold
    rw [hgm]
    simp only [State.gmCount, Bool.true_or, if_true, if_pos hh]
    rfl
  have hno : ¬(s.advance t 2 (s.thr t)).core.squall = true := by
    rw [State.advance]
    exact Bool.eq_false_iff.mp hsq
  rw [State.plain, State.issue_of_runs hr]
  refine (if_neg hno).trans ?_
  rw [← hgate]
  exact congrArg (fun z => State.gmCount z t _ 1) hcount

/-- Settles O32. -/
theorem longHoldsCauseASquall : Obligations.LongHoldsCauseASquall := by
  intro s t hlive hsb hstop
  have hsq : s.core.squall = false := by
    simp only [State.coreLive, Bool.and_eq_true, Bool.not_eq_true'] at hlive
    tauto
  have hp : s.powered = true := by
    have hstate : s.pwr.state = .run ∨ s.pwr.state = .doze := by
      simp only [State.coreLive, Bool.and_eq_true, Bool.or_eq_true, decide_eq_true_eq] at hlive
      tauto
    rcases hstate with h | h <;> simp [State.powered, h]
  refine ⟨fun hgm => ?_, fun hgm hr hgale hhold => ?_, fun g hg => ?_⟩
  · obtain ⟨v, hv⟩ : ∃ v, (List.finRange 16).find? (fun (t : Tid) => (s.thr t).gm) = some v :=
      Option.isSome_iff_exists.mp (List.find?_isSome.mpr ⟨t, List.mem_finRange t, hgm⟩)
    have hx : exec .gmHoldLimit s = .next (s.squall 0x20 v 0) := by
      refine congrArg Host.Outcome.next ?_
      rw [State.gmLimit, hv]
      exact if_pos hlive
    exact ⟨_, hx, StopsFor.of_squall hsq hsb hstop hp (by decide) _ _⟩
  · exact ⟨_, congrArg Host.Outcome.next (State.nop_held hr hsq hgm hgale hhold),
      StopsFor.of_squall (s := s.heldNop t) hsq hsb hstop hp (by decide) _ _⟩
  · have hx : exec .galeBudgetExceeded s = .next (s.squall 0x21 g.tid g.line) := by
      refine congrArg Host.Outcome.next ?_
      rw [State.galeLimit, hg]
      exact if_pos hlive
    exact ⟨_, hx, StopsFor.of_squall hsq hsb hstop hp (by decide) _ _⟩

end Sys2Proof.Machine
end

section
/-!
SUPPORT. Clocks (spec/02) and the OTP array (spec/03).
-/

namespace Sys2Proof.Machine

section

variable {s u : State}

/-- A line that an island raises. -/
theorem State.raised_raise {k : Nat} (hk : k < 32) : (s.raise k).core.raised.getLsbD k = true := by
  simp [State.raise, hk]

theorem State.on_of_get {f : Fld} (h : u.get f = s.get f) : u.on f = s.on f := congrArg (· != 0) h

/-- A one-bit part of a word, as a field holds it. -/
theorem part_bit (v : Word) (i : Nat) : (v.toNat / 2 ^ i % 2 ^ 1 != 0) = bitOf v i := by
  rw [bitOf, BitVec.getLsbD, Nat.testBit_eq_decide_div_mod_eq, Bool.eq_iff_iff]
  simp only [bne_iff_ne, decide_eq_true_eq]
  omega

end

/-- The register CLKCFG after a store from ring 0 that LOCK lets through. -/
theorem State.clkcfg_plainWrite {s : State} {v : Word} (hlock : s.on F.SYS_LOCK_LOCK = false) :
    (s.plainWrite F.SYS_CLKCFG_CSRC.addr 0 v).on F.SYS_CLKCFG_CSRC = bitOf v 0 ∧
      (s.plainWrite F.SYS_CLKCFG_CSRC.addr 0 v).on F.SYS_CLKCFG_PLLEN = bitOf v 1 ∧
      (s.plainWrite F.SYS_CLKCFG_CSRC.addr 0 v).get F.SYS_CLKCFG_CDIV =
        (if 2 ≤ bitsOf v 2 6 ∧ bitsOf v 2 6 ≤ 32 then bitsOf v 2 6 else s.get F.SYS_CLKCFG_CDIV % 64) := by
  have hget := (State.get_plainWrite (s := s) (a := F.SYS_CLKCFG_CSRC.addr) (ring := 0) (v := v)).1
  have hfields : fieldsAt F.SYS_CLKCFG_CSRC.addr = [⟨0, 1, .lk, 0, 0, .any, 0xfc, 0⟩, ⟨1, 1, .lk, 0, 0, .any, 0xfc, 0⟩,
    ⟨2, 6, .lk, 0, 2, .range 2 32, 0xfc, 0⟩] := by simp [fieldsAt, sysFields, F.SYS_CLKCFG_CSRC]
  have hl : ∀ f : Field, f.lockOff = 0xfc → f.lockBit = 0 → s.locked F.SYS_CLKCFG_CSRC.addr f = false := fun f ho hb => by
    rw [State.locked, ho, hb]
    exact hlock
  rw [hfields] at hget
  simp only [List.forall_mem_cons, List.not_mem_nil, false_imp_iff, implies_true, and_true, Field.next, hl] at hget
  obtain ⟨h0, h1, h2⟩ := hget
  refine ⟨?_, ?_, h2.trans ?_⟩
  · exact (congrArg (· != 0) h0).trans (by simpa [Legal.ok, Field.part] using part_bit v 0)
  · exact (congrArg (· != 0) h1).trans (by simpa [Legal.ok, Field.part] using part_bit v 1)
  · simp only [Legal.ok, Field.part, bitsOf, Bool.and_eq_true, lt_irrefl, if_false, Bool.false_eq_true]
    split
    · next h => exact (Nat.mod_mod _ _).trans (if_pos ⟨of_decide_eq_true h.1, of_decide_eq_true h.2⟩).symm
    · next h => exact (if_neg fun hr => h ⟨decide_eq_true hr.1, decide_eq_true hr.2⟩).symm

/-- A store to CLKCFG writes its three fields alone. -/
theorem Dev.clkcfg {K : Nat → Prop} {bs : List Block} {ks : List Nat} {s u : State} {ring : Nat} {v : Word}
    (h : Dev K bs ks s u) (hK : ∀ f ∈ [F.SYS_CLKCFG_CSRC, F.SYS_CLKCFG_PLLEN, F.SYS_CLKCFG_CDIV], K f.key) :
    Dev K bs ks s (u.plainWrite F.SYS_CLKCFG_CSRC.addr ring v) := by
  refine h.plainWrite fun f hf => ?_
  have hfields : fieldsAt F.SYS_CLKCFG_CSRC.addr = [⟨0, 1, .lk, 0, 0, .any, 0xfc, 0⟩, ⟨1, 1, .lk, 0, 0, .any, 0xfc, 0⟩,
    ⟨2, 6, .lk, 0, 2, .range 2 32, 0xfc, 0⟩] := by simp [fieldsAt, sysFields, F.SYS_CLKCFG_CSRC]
  simp only [List.forall_mem_cons, List.not_mem_nil, false_imp_iff, implies_true, and_true] at hK
  obtain ⟨h0, h1, h2⟩ := hK
  rw [hfields] at hf
  simp only [List.mem_cons, List.not_mem_nil, or_false] at hf
  rcases hf with rfl | rfl | rfl
  · exact h0
  · exact h1
  · exact h2

/-- One counting window of the FLL, with the lock after the fourth good one. -/
theorem fllWindow_gives {s : State} {n : Nat} (hp : s.powered = true) (hosc : s.on F.SYS_OSCSTAT_MOSC_OK = true)
    (hfroz : s.pwr.fllFrozen = false) : Gives (.fllWindow n) s fun u =>
      u.pwr.fllTrim = s.pwr.fllTrim + (if n < 46875 then 1 else if 46875 < n then -1 else 0) ∧
      u.pwr.fllGood = (if 46852 ≤ n ∧ n ≤ 46898 then min 4 (s.pwr.fllGood + 1) else 0) ∧
      (u.pwr.fllGood = 4 → u.on F.SYS_OSCSTAT_FLL_LOCK = true) ∧ (u.pwr.fllGood ≠ 4 → u.regs = s.regs) ∧
      Frame [F.SYS_OSCSTAT_FLL_LOCK] [.pwr] [] s u := by
  refine ⟨_, congrArg Host.Outcome.next (if_pos ⟨hp, hosc, hfroz⟩), ?_⟩
  simp only [Bool.and_eq_true, decide_eq_true_eq]
  generalize (if 46852 ≤ n ∧ n ≤ 46898 then min 4 (s.pwr.fllGood + 1) else 0) = m
  split
  · next h4 => exact ⟨rfl, rfl, fun _ => State.on_put_one, fun h => absurd h4 h, Dev.refl.pwrUpd.put.frame⟩
  · next h4 => exact ⟨rfl, rfl, fun h => absurd h h4, fun _ => rfl, Dev.refl.pwrUpd.frame⟩

theorem Dev.weaken {K L : Nat → Prop} {bs : List Block} {ks js : List Nat} {s u : State} (h : Dev K bs ks s u)
    (hK : ∀ k, K k → L k) (hk : ∀ k ∈ ks, k ∈ js) : Dev L bs js s u := by
  obtain ⟨hkeys, hblocks, ⟨hcore, hraised⟩, hmem, hpend⟩ := h
  exact ⟨fun g hg => hkeys g fun hg' => hg (hK _ hg'), hblocks, ⟨hcore, fun k hk' => hraised k fun h => hk' (hk k h)⟩, hmem,
    hpend⟩

/-- The lock of the core PLL falls with its enable: the end of `State.clkcfgWrite`. -/
def State.pllOff (x : State) : State :=
  if x.on F.SYS_CLKCFG_PLLEN then x else x.put F.SYS_OSCSTAT_PLL_LOCK 0

section

variable {x : State} {f : Fld}

@[simp] theorem State.on_pllOff :
    x.pllOff.on F.SYS_OSCSTAT_PLL_LOCK = (x.on F.SYS_OSCSTAT_PLL_LOCK && x.on F.SYS_CLKCFG_PLLEN) := by
  unfold State.pllOff
  split
  · next h => rw [h, Bool.and_true]
  · next h => rw [State.on_put_zero, Bool.eq_false_iff.2 h, Bool.and_false]

theorem State.get_pllOff (hf : F.SYS_OSCSTAT_PLL_LOCK.key ≠ f.key) : x.pllOff.get f = x.get f := by
  unfold State.pllOff
  split
  · rfl
  · exact State.get_put_ne _ _ _ _ hf

theorem State.on_pllOff_ne (hf : F.SYS_OSCSTAT_PLL_LOCK.key ≠ f.key) : x.pllOff.on f = x.on f :=
  State.on_of_get (State.get_pllOff hf)

theorem Dev.pllOff {K : Nat → Prop} {bs : List Block} {ks : List Nat} {s : State} (h : Dev K bs ks s x)
    (hK : K F.SYS_OSCSTAT_PLL_LOCK.key) : Dev K bs ks s x.pllOff :=
  h.ite (h.put hK)

end

/-- The rest of a store to CLKCFG whose plain part has given `w`: the refusals of the source and of the switch-off. -/
theorem clkcfg_refusals {s w : State} {S P : Prop} [Decidable S] [Decidable P] (hSP : S → ¬P)
    (hdev : Dev (keysOf [F.SYS_CLKCFG_CSRC, F.SYS_CLKCFG_PLLEN, F.SYS_CLKCFG_CDIV]) [] [] s w) {u : State}
    (hu : u = (let x := if S then w.put F.SYS_CLKCFG_CSRC 0 else w
      let y := if P then x.put F.SYS_CLKCFG_PLLEN 1 else x
      if S ∨ P then (y.pllOff.put F.SYS_OSCSTAT_CLKERR 1).raise 25 else y.pllOff)) :
    (S → u.on F.SYS_CLKCFG_CSRC = false) ∧ (¬S → u.on F.SYS_CLKCFG_CSRC = w.on F.SYS_CLKCFG_CSRC) ∧
    (P → u.on F.SYS_CLKCFG_PLLEN = true) ∧ (¬P → u.on F.SYS_CLKCFG_PLLEN = w.on F.SYS_CLKCFG_PLLEN) ∧
    u.get F.SYS_CLKCFG_CDIV = w.get F.SYS_CLKCFG_CDIV ∧
    (S ∨ P → u.on F.SYS_OSCSTAT_CLKERR = true ∧ u.core.raised.getLsbD 25 = true) ∧
    (¬S → ¬P → u.get F.SYS_OSCSTAT_CLKERR = s.get F.SYS_OSCSTAT_CLKERR ∧ u.core.raised = s.core.raised) ∧
    u.on F.SYS_OSCSTAT_PLL_LOCK = (s.on F.SYS_OSCSTAT_PLL_LOCK && u.on F.SYS_CLKCFG_PLLEN) ∧
    Frame [F.SYS_CLKCFG_CSRC, F.SYS_CLKCFG_PLLEN, F.SYS_CLKCFG_CDIV, F.SYS_OSCSTAT_PLL_LOCK,
      F.SYS_OSCSTAT_CLKERR] [] [25] s u := by
  have hpll := State.on_of_get (hdev.keys F.SYS_OSCSTAT_PLL_LOCK (by decide))
  have herr := hdev.keys F.SYS_OSCSTAT_CLKERR (by decide)
  have hK : Dev (keysOf [F.SYS_CLKCFG_CSRC, F.SYS_CLKCFG_PLLEN, F.SYS_CLKCFG_CDIV, F.SYS_OSCSTAT_PLL_LOCK,
      F.SYS_OSCSTAT_CLKERR]) [] [25] s w := hdev.weaken (by decide) (by simp)
  have hlock : keysOf [F.SYS_CLKCFG_CSRC, F.SYS_CLKCFG_PLLEN, F.SYS_CLKCFG_CDIV, F.SYS_OSCSTAT_PLL_LOCK,
      F.SYS_OSCSTAT_CLKERR] F.SYS_OSCSTAT_PLL_LOCK.key := by decide
  subst hu
  by_cases hS : S
  · simp (disch := decide) [hS, hSP hS, State.on_put_ne, State.on_put_zero, State.on_put_one, State.on_pllOff_ne,
      State.get_put_ne, State.get_pllOff, hpll]
    exact ⟨State.raised_raise (by decide), ((hK.put.pllOff hlock).put.raise).frame⟩
  · by_cases hP : P
    · simp (disch := decide) [hS, hP, State.on_put_ne, State.on_put_one, State.on_pllOff_ne,
        State.get_put_ne, State.get_pllOff, hpll]
      exact ⟨State.raised_raise (by decide), ((hK.put.pllOff hlock).put.raise).frame⟩
    · have hcore : w.pllOff.core = s.core :=
        ((hdev.weaken (L := fun _ => True) (by simp) (by simp)).pllOff trivial).coreSame
      simp (disch := decide) [hS, hP, State.on_pllOff_ne, State.get_pllOff, hpll, herr, hcore, (hK.pllOff hlock).frame]

/-- A store to CLKCFG. -/
theorem clkcfgWrite_gives {s : State} {ring : Ring} {v : Word} (hp : s.powered = true) :
    let takes := ring = 0 ∧ s.on F.SYS_LOCK_LOCK = false
    let csrc := s.on F.SYS_CLKCFG_CSRC
    let badSrc := v.getLsbD 0 = true ∧ csrc = false ∧ s.on F.SYS_OSCSTAT_PLL_LOCK = false
    let badPll := csrc = true ∧ v.getLsbD 0 = true ∧ v.getLsbD 1 = false ∧ s.on F.SYS_CLKCFG_PLLEN = true
    (¬takes → Gives (.clkcfgWrite ring v) s (fun u => u = s)) ∧
    (takes → Gives (.clkcfgWrite ring v) s (fun u =>
      (badSrc → u.on F.SYS_CLKCFG_CSRC = false) ∧ (¬badSrc → u.on F.SYS_CLKCFG_CSRC = v.getLsbD 0) ∧
      (badPll → u.on F.SYS_CLKCFG_PLLEN = true) ∧ (¬badPll → u.on F.SYS_CLKCFG_PLLEN = v.getLsbD 1) ∧
      u.get F.SYS_CLKCFG_CDIV =
        (if 2 ≤ bitsOf v 2 6 ∧ bitsOf v 2 6 ≤ 32 then bitsOf v 2 6 else s.get F.SYS_CLKCFG_CDIV % 64) ∧
      (badSrc ∨ badPll → u.on F.SYS_OSCSTAT_CLKERR = true ∧ u.core.raised.getLsbD 25 = true) ∧
      (¬badSrc → ¬badPll → u.get F.SYS_OSCSTAT_CLKERR = s.get F.SYS_OSCSTAT_CLKERR ∧ u.core.raised = s.core.raised) ∧
      u.on F.SYS_OSCSTAT_PLL_LOCK = (s.on F.SYS_OSCSTAT_PLL_LOCK && u.on F.SYS_CLKCFG_PLLEN) ∧
      Frame [F.SYS_CLKCFG_CSRC, F.SYS_CLKCFG_PLLEN, F.SYS_CLKCFG_CDIV, F.SYS_OSCSTAT_PLL_LOCK,
        F.SYS_OSCSTAT_CLKERR] [] [25] s u)) := by
  intro takes csrc badSrc badPll
  refine ⟨fun hno => ⟨s, congrArg Host.Outcome.next ((if_pos hp).trans (if_pos ?_)), rfl⟩, fun hyes => ?_⟩
  · by_contra hc
    simp only [not_or, not_not, Bool.not_eq_true] at hc
    exact hno ⟨Fin.ext hc.1, hc.2⟩
  · obtain ⟨rfl, hlock⟩ := hyes
    obtain ⟨h0, h1, h2⟩ := State.clkcfg_plainWrite (s := s) (v := v) hlock
    have hdev : Dev (keysOf [F.SYS_CLKCFG_CSRC, F.SYS_CLKCFG_PLLEN, F.SYS_CLKCFG_CDIV]) [] [] s
        (s.plainWrite F.SYS_CLKCFG_CSRC.addr 0 v) := Dev.refl.clkcfg (by decide)
    have hbad : badSrc → ¬badPll := fun hS hP => Bool.false_ne_true (hS.2.1.symm.trans hP.1)
    have hu := clkcfg_refusals (S := badSrc) (P := badPll) hbad hdev rfl
    rw [h0, h1, h2] at hu
    refine ⟨_, congrArg Host.Outcome.next ((if_pos hp).trans ((if_neg (by simp [hlock])).trans ?_)), hu⟩
    simp [badSrc, badPll, csrc, bitOf, and_assoc, State.pllOff]

/-- Settles O40. -/
theorem clockCommands : Obligations.ClockCommands := by
  intro s
  refine ⟨fun hstate hen => ?_, fun n hp hosc hfroz => ?_, fun hp hosc hfroz => ?_, fun hp hfroz => ?_, fun hp => ?_,
    fun hp hon => ?_, ?_, fun ring v hp => ?_⟩
  · refine ⟨_, congrArg Host.Outcome.next (if_pos ⟨hstate, hen⟩), ?_, rfl, (Dev.refl.put.pwrUpd).frame⟩
    simp (disch := decide) [State.on_put_one]
  · obtain ⟨u, hx, htrim, hgood, hlock, hregs, hframe⟩ := fllWindow_gives (n := n) hp hosc hfroz
    refine ⟨u, hx, htrim, fun hin => ?_, fun hout => ?_, fun hno => hregs ?_, hframe⟩
    · rw [if_pos hin] at hgood
      exact ⟨hgood, fun h3 => hlock (by omega)⟩
    · rw [hgood, if_neg (by omega)]
    · rw [hgood]
      split
      · omega
      · decide
  · refine ⟨_, congrArg Host.Outcome.next (if_pos ⟨hp, hosc, hfroz⟩), ?_, ?_, State.raised_raise (s := _) (by decide), rfl,
      ((Dev.refl.put.put.raise).pwrUpd).frame⟩
    · simp (disch := decide) [State.on_put_ne, State.on_put_zero]
    · simp (disch := decide) [State.on_put_one]
  · exact ⟨_, congrArg Host.Outcome.next (if_pos ⟨hp, hfroz⟩), rfl, State.on_put_one, (Dev.refl.pwrUpd.put).frame⟩
  · exact ⟨_, congrArg Host.Outcome.next (if_pos hp), State.on_put_one, Dev.refl.put.frame⟩
  · refine ⟨_, congrArg Host.Outcome.next (if_pos ⟨hp, hon⟩), ?_, ?_, State.raised_raise (by decide),
      Dev.refl.put.put.raise.frame⟩
    · simp (disch := decide) [State.on_put_ne, State.on_put_zero]
    · simp (disch := decide) [State.on_put_one]
  · exact ⟨_, rfl, rfl, Dev.refl.pwrUpd.frame⟩
  · exact clkcfgWrite_gives hp

/-! The OTP array: its rows, and what the end of an operation leaves. -/

section

variable {s u : State} {f : Fld} {n : Nat}

@[simp] theorem State.otpRow_put (q : Nat) : (s.put f n).otpRow q = s.otpRow q := by simp only [State.otpRow, State.put_mem]

@[simp] theorem State.otpRow_setOtpEcc (r v q : Nat) : (s.setOtpEcc r v).otpRow q = s.otpRow q := rfl

@[simp] theorem State.otpRow_tickFree (q : Nat) : s.tickFree.otpRow q = s.otpRow q := rfl

@[simp] theorem State.otpRow_setOtpRow_same (r : Nat) (v : Word) : (s.setOtpRow r v).otpRow r = v := by
  simp [State.otpRow, State.setOtpRow]

theorem State.otpRow_setOtpRow_ne {r q : Nat} (v : Word) (h : q ≠ r) : (s.setOtpRow r v).otpRow q = s.otpRow q := by
  simp only [State.otpRow, State.setOtpRow]
  rw [Sparse.get_set_ne _ _ _ h.symm]

/-- The rows of a list with bits added to each: how a word, and a programming that fails, is written. -/
def State.orRows (s : State) (l : List Nat) (d : Nat → Word) : State :=
  l.foldl (fun x k => x.setOtpRow k (x.otpRow k ||| d k)) s

theorem State.otpRow_orRows_of_not_mem {l : List Nat} {d : Nat → Word} {q : Nat} (h : q ∉ l) :
    (s.orRows l d).otpRow q = s.otpRow q := by
  induction l generalizing s with
  | nil => rfl
  | cons k l ih =>
    obtain ⟨hk, hl⟩ := List.ne_and_not_mem_of_not_mem_cons h
    exact (ih hl).trans (State.otpRow_setOtpRow_ne _ hk)

theorem State.otpRow_orRows_of_mem {l : List Nat} {d : Nat → Word} {q : Nat} (hl : l.Nodup) (h : q ∈ l) :
    (s.orRows l d).otpRow q = s.otpRow q ||| d q := by
  induction l generalizing s with
  | nil => exact absurd h List.not_mem_nil
  | cons k l ih =>
    obtain ⟨hk, hnodup⟩ := List.nodup_cons.1 hl
    rcases List.mem_cons.1 h with rfl | hq
    · exact (State.otpRow_orRows_of_not_mem hk).trans (State.otpRow_setOtpRow_same _ _)
    · have hne : q ≠ k := fun e => hk (e ▸ hq)
      refine (ih hnodup hq).trans ?_
      rw [State.otpRow_setOtpRow_ne _ hne]

/-- No bit of the array returns to 0 when bits are added. -/
theorem State.otpRow_orRows_and {l : List Nat} {d : Nat → Word} (hl : l.Nodup) (q : Nat) :
    (s.orRows l d).otpRow q &&& s.otpRow q = s.otpRow q := by
  by_cases h : q ∈ l
  · rw [State.otpRow_orRows_of_mem hl h]
    ext i hi
    cases hbit : (s.otpRow q)[i] <;> simp [hbit]
  · rw [State.otpRow_orRows_of_not_mem h, BitVec.and_self]

end

/-- The three copies of a wired word lie in three rows. -/
theorem wordRows_nodup (r : Nat) : [r, 4 + r, 8 + r].Nodup := by
  simp

/-- The fields that the end of an OTP operation may write beside BUSY. -/
abbrev otpResults : List Fld :=
  [F.OTP_STAT_BUSY, F.OTP_STAT_PERR, F.OTP_ROWDATA_DATA, F.OTP_ROWSTAT_ECC, F.OTP_ROWSTAT_BLANK]

/-- An OTP operation has ended in `u`, which changes the array, the results and E27 alone. -/
def OtpEnded (s u : State) : Prop :=
  u.pwr = { s.pwr with otpBusy := none } ∧ u.on F.OTP_STAT_BUSY = false ∧ u.core.raised.getLsbD 27 = true ∧
    OnlyFields s u otpResults ∧ BlocksBut [.pwr] s u ∧ CoreBut [27] s u ∧
    u.mem = { s.mem with otp := u.mem.otp, otpEcc := u.mem.otpEcc }

/-- The state in which every end of an OTP operation begins. -/
def State.otpIdle (s : State) : State :=
  ((s.pwrUpd (fun p => { p with otpBusy := none })).put F.OTP_STAT_BUSY 0).raise 27

@[simp] theorem State.otpRow_otpIdle (s : State) (q : Nat) : s.otpIdle.otpRow q = s.otpRow q := rfl

namespace OtpEnded

variable {s u v : State}

theorem idle : OtpEnded s s.otpIdle := by
  have hdev : Dev (keysOf otpResults) [.pwr] [27] s s.otpIdle := ((Dev.refl.pwrUpd).put (by decide)).raise
  exact ⟨rfl, State.on_put_zero (f := F.OTP_STAT_BUSY), State.raised_raise (by decide), hdev.keys, hdev.blocks, hdev.core, rfl⟩

theorem put (h : OtpEnded s u) {f : Fld} {n : Nat} (hf : f ∈ otpResults) (hb : f.key ≠ F.OTP_STAT_BUSY.key) :
    OtpEnded s (u.put f n) := by
  obtain ⟨hpwr, hbusy, hraised, hkeys, hblocks, hcore, hmem⟩ := h
  refine ⟨hpwr, (State.on_put_ne hb).trans hbusy, hraised, fun g hg => ?_, hblocks, hcore, hmem⟩
  refine (State.get_put_ne _ _ _ _ fun e => hg ?_).trans (hkeys g hg)
  exact e ▸ List.mem_map_of_mem hf

theorem setOtpRow (h : OtpEnded s u) (r : Nat) (d : Word) : OtpEnded s (u.setOtpRow r d) := by
  obtain ⟨hpwr, hbusy, hraised, hkeys, hblocks, hcore, hmem⟩ := h
  exact ⟨hpwr, hbusy, hraised, hkeys, hblocks, hcore, congrArg (fun m : MemSt => { m with otp := Sparse.set unlistedRow u.mem.otp r d.toNat }) hmem⟩

theorem setOtpEcc (h : OtpEnded s u) (r n : Nat) : OtpEnded s (u.setOtpEcc r n) := by
  obtain ⟨hpwr, hbusy, hraised, hkeys, hblocks, hcore, hmem⟩ := h
  exact ⟨hpwr, hbusy, hraised, hkeys, hblocks, hcore, congrArg (fun m : MemSt => { m with otpEcc := Sparse.set unlistedRow u.mem.otpEcc r n }) hmem⟩

theorem tickFree (h : OtpEnded s u) : OtpEnded s u.tickFree := h

theorem orRows (h : OtpEnded s u) (l : List Nat) (d : Nat → Word) : OtpEnded s (u.orRows l d) := by
  induction l generalizing u with
  | nil => exact h
  | cons k l ih => exact ih (h.setOtpRow k _)

end OtpEnded

/-- What a failed PROGRAM leaves: bits of the row, of the driver's choice. -/
theorem State.otpTorn_eq (s : State) (r : Nat) : s.otpTorn r =
    ((s.orRows [r] fun k => BitVec.ofNat 32 (Config.freeAt s.free k)).setOtpEcc r
      (Config.freeAt s.free (256 + r) % 3)).tickFree := rfl

/-- What a failed WPROG leaves: bits of the word in its three copies, of the driver's choice. -/
theorem State.otpTornWord_eq (s : State) (r : Nat) (d : Word) : s.otpTornWord r d =
    (s.orRows [r, 4 + r, 8 + r] fun k => d &&& BitVec.ofNat 32 (Config.freeAt s.free k)).tickFree := rfl

/-- The start of an OTP operation. -/
theorem otpStart_frame {s : State} (op : Nat) : (s.otpStart op).on F.OTP_STAT_BUSY = true ∧
    (s.otpStart op).pwr = { s.pwr with
      otpBusy := some (op, s.get F.OTP_ROWADDR_ROW, BitVec.ofNat 32 (s.get F.OTP_PROGDATA_DATA)) } ∧
    Frame [F.OTP_STAT_BUSY] [.pwr] [] s (s.otpStart op) :=
  ⟨State.on_put_one, rfl, Dev.refl.pwrUpd.put.frame⟩

/-- A refused OTP command. -/
theorem otpRefuse_frame {s : State} : s.otpRefuse.on F.OTP_STAT_REFUSED = true ∧ s.otpRefuse.core.raised.getLsbD 27 = true ∧
    Frame [F.OTP_STAT_REFUSED] [] [27] s s.otpRefuse :=
  ⟨State.on_put_one (f := F.OTP_STAT_REFUSED), State.raised_raise (by decide), Dev.refl.put.raise.frame⟩

/-- What refuses a PROGRAM and a WPROG alike. -/
theorem otpProgRefused_iff {s : State} {key : Byte} {v : Nat} :
    (s.pwr.otpBusy.isSome = true ∨ s.otpProgRefused key v = true) ↔
      (s.pwr.otpBusy.isSome = true ∨ s.on F.OTP_LOCK_PLOCK = true ∨ v < 8500 ∨ key ≠ 0x5A) := by
  simp [State.otpProgRefused, or_assoc]

/-- A command that does nothing without power, in a device that has it. -/
theorem Gives.of_powered {i : Instr} {s w u : State} {p : State → Prop} (hp : s.powered = true)
    (hx : exec i s = .next (if s.powered then w else s)) (hw : w = u) (h : p u) : Gives i s p :=
  ⟨u, hx.trans (congrArg Host.Outcome.next ((if_pos hp).trans hw)), h⟩

theorem Gives.of_otpOpDone {s w : State} {ok : Bool} {op r : Nat} {d : Word} {p : State → Prop} (hp : s.powered = true)
    (hrun : s.pwr.otpBusy = some (op, r, d))
    (hw : (if op = 1 then ((s.otpIdle.put F.OTP_ROWDATA_DATA (s.otpRow r).toNat).put F.OTP_ROWSTAT_ECC (s.otpStatus r)).putB
          F.OTP_ROWSTAT_BLANK (s.otpBlank r)
      else if op = 2 then
        if ok then s.otpIdle.setOtpRow r d else (s.otpIdle.otpTorn r).put F.OTP_STAT_PERR 1
      else if ok then s.otpIdle.orRows [r, 4 + r, 8 + r] fun _ => d
      else (s.otpIdle.otpTornWord r d).put F.OTP_STAT_PERR 1) = w) (h : p w) : Gives (.otpOpDone ok) s p := by
  refine ⟨w, congrArg Host.Outcome.next (Eq.trans ?_ hw), h⟩
  simp only [State.otpOpDone, hrun, hp, if_true]
  rfl

/-- Settles O42. -/
theorem otpCommands : Obligations.OtpCommands := by
  intro s hp row starts refused ends
  refine ⟨fun key v => ⟨fun hidle => ?_, fun hbusy => ?_, fun hok hrow hblank => ?_, fun hok hrow => ?_,
    fun hbad => ?_, fun hbad => ?_, fun ring hring => ⟨?_, ?_, ?_⟩⟩, fun op r d hrun => ⟨?_, ?_, ?_, ?_⟩⟩
  · exact .of_powered hp rfl (u := s.otpStart 1) (by simp [State.otpRead, hidle]) (otpStart_frame 1)
  · exact .of_powered hp rfl (u := s.otpRefuse) (by simp [State.otpRead, hbusy]) otpRefuse_frame
  · refine .of_powered hp rfl (u := s.otpStart 2) ?_ (otpStart_frame 2)
    have hb : s.otpBlank s.otpRowAddr = true := by simpa [row, State.otpRowAddr, State.otpBlank] using hblank
    have hr : ¬s.otpRowAddr < 12 := Nat.not_lt.2 hrow
    have hok' := mt otpProgRefused_iff.1 hok
    rw [not_or] at hok'
    simp [State.otpProgram, hb, hr, hok']
  · refine .of_powered hp rfl (u := s.otpStart 3) ?_ (otpStart_frame 3)
    have hr : ¬3 < s.otpRowAddr := Nat.not_lt.2 hrow
    have hok' := mt otpProgRefused_iff.1 hok
    rw [not_or] at hok'
    simp [State.otpWprog, hr, hok']
  · refine .of_powered hp rfl (u := s.otpRefuse) ((if_neg (by simp)).trans (if_pos ?_)) otpRefuse_frame
    rw [← or_assoc, otpProgRefused_iff]
    refine hbad.imp id (Or.imp id fun hb => ?_)
    simpa [row, State.otpRowAddr, State.otpBlank] using hb
  · refine .of_powered hp rfl (u := s.otpRefuse) ((if_neg (by simp)).trans (if_pos ?_)) otpRefuse_frame
    rw [← or_assoc, otpProgRefused_iff]
    exact hbad
  · exact .of_powered hp rfl (if_pos (Fin.val_ne_of_ne hring)) rfl
  · exact .of_powered hp rfl (if_pos (Fin.val_ne_of_ne hring)) rfl
  · exact .of_powered hp rfl (if_pos (Fin.val_ne_of_ne hring)) rfl
  · rintro rfl b
    refine .of_otpOpDone hp hrun (if_pos rfl)
      ⟨((OtpEnded.idle.put (by decide) (by decide)).put (by decide) (by decide)).put (by decide) (by decide), ?_, ?_⟩
    · rw [State.putB, State.get_put_ne _ _ _ _ (by decide), State.get_put_ne _ _ _ _ (by decide)]
      exact State.get_put_lt (s.otpRow r).isLt
    · simp only [State.putB, State.put_mem]
      rfl
  · rintro rfl
    exact .of_otpOpDone hp hrun rfl ⟨OtpEnded.idle.setOtpRow r d, State.otpRow_setOtpRow_same r d,
      fun q hq => State.otpRow_setOtpRow_ne d hq⟩
  · rintro rfl hr
    refine .of_otpOpDone hp hrun (w := s.otpIdle.orRows [r, 4 + r, 8 + r] fun _ => d) rfl ⟨OtpEnded.idle.orRows _ _,
      fun k hk => State.otpRow_orRows_of_mem (wordRows_nodup r) (by simpa using hk),
      fun q h0 h1 h2 => State.otpRow_orRows_of_not_mem (by simp [h0, h1, h2])⟩
  · rintro (rfl | rfl)
    · refine .of_otpOpDone hp hrun (w := (s.otpIdle.otpTorn r).put F.OTP_STAT_PERR 1) rfl
        ⟨?_, State.on_put_one, fun q => ?_, fun q hq _ => ?_⟩
      · rw [State.otpTorn_eq]
        exact (((OtpEnded.idle.orRows _ _).setOtpEcc _ _).tickFree).put (by decide) (by decide)
      · simpa [State.otpTorn_eq] using State.otpRow_orRows_and (s := s.otpIdle) (List.nodup_singleton r) q
      · simpa [State.otpTorn_eq] using State.otpRow_orRows_of_not_mem (s := s.otpIdle) (by simpa using hq)
    · refine .of_otpOpDone hp hrun (w := (s.otpIdle.otpTornWord r d).put F.OTP_STAT_PERR 1) rfl
        ⟨?_, State.on_put_one, fun q => ?_, fun q h0 h12 => ?_⟩
      · rw [State.otpTornWord_eq]
        exact ((OtpEnded.idle.orRows _ _).tickFree).put (by decide) (by decide)
      · simpa [State.otpTornWord_eq] using State.otpRow_orRows_and (s := s.otpIdle) (wordRows_nodup r) q
      · obtain ⟨h1, h2⟩ := h12 rfl
        simpa [State.otpTornWord_eq] using State.otpRow_orRows_of_not_mem (s := s.otpIdle) (by simp [h0, h1, h2])

end Sys2Proof.Machine
end

section
/-!
SUPPORT. The commands of the NVC: the judgement of a command, refusal by refusal in the table's order, and its start.
-/

namespace Sys2Proof.Machine

section

variable {K : Nat → Prop} {bs : List Block} {ks : List Nat} {s u : State}

theorem Dev.nvcUpd (h : Dev K bs ks s u) {f : Nvc → Nvc} (hb : .nvc ∈ bs := by simp) :
    Dev K bs ks s (u.nvcUpd f) :=
  h.block (by simp [BlocksBut, State.nvcUpd, hb])

theorem Dev.nvcBusyUpd (h : Dev K bs ks s u) (hf : K F.NVC_STAT_BUSY.key := by simp [keysOf]) :
    Dev K bs ks s u.nvcBusyUpd :=
  h.putB hf

theorem Dev.nvcResult (h : Dev K bs ks s u) {code : Nat}
    (hf : ∀ f ∈ [F.NVC_STAT_RESULT, F.NVC_STAT_DONE, F.NVC_STAT_BUSY], K f.key := by simp [keysOf])
    (hk : 16 ∈ ks := by simp) : Dev K bs ks s (u.nvcResult code) :=
  (((h.put (hf _ (by simp))).put (hf _ (by simp))).raise hk).nvcBusyUpd (hf _ (by simp))

/-- A command or an operation has ended with this result. -/
structure NvcEnded (u : State) (code : Nat) : Prop where
  result : u.get F.NVC_STAT_RESULT = code
  done : u.on F.NVC_STAT_DONE = true
  raised : u.core.raised.getLsbD 16 = true

theorem nvcEnded_nvcResult {code : Nat} (hc : code < 16) : NvcEnded (s.nvcResult code) code := by
  refine ⟨?_, ?_, ?_⟩
  · rw [State.nvcResult, State.nvcBusyUpd, State.putB, State.get_put_ne _ _ _ _ (by decide), State.nvcDone,
      State.get_raise, State.get_put_ne _ _ _ _ (by decide)]
    exact State.get_put_lt hc
  · rw [State.nvcResult, State.nvcBusyUpd, State.on_putB_ne (by decide), State.nvcDone, State.on_raise]
    exact State.on_put_one
  · exact State.raised_raise (by decide)

/-- The NVC has refused a command with this code. -/
def NvcRefused (s : State) (code : Nat) (u : State) : Prop :=
  u.get F.NVC_STAT_RESULT = code ∧ u.on F.NVC_STAT_DONE = true ∧ u.core.raised.getLsbD 16 = true ∧
    Frame [F.NVC_STAT_RESULT, F.NVC_STAT_DONE, F.NVC_STAT_BUSY] [] [16] s u

/-- The state `u` that a command leaves is that of its refusal with a code other than 0, or of its start. -/
def NvcJudged (s u : State) (code : Nat) (starts : State → Prop) : Prop :=
  (code ≠ 0 → NvcRefused s code u) ∧ (code = 0 → starts u)

namespace NvcJudged

variable {starts : State → Prop} {code n : Nat} {c c' : Prop} [Decidable c] [Decidable c']

theorem starting (h : starts u) : NvcJudged s u 0 starts := ⟨fun h0 => absurd rfl h0, fun _ => h⟩

theorem refused (h0 : n ≠ 0 := by decide) (h16 : n < 16 := by decide) : NvcJudged s (s.nvcResult n) n starts := by
  refine ⟨fun _ => ?_, fun e => absurd e h0⟩
  have h := nvcEnded_nvcResult (s := s) h16
  exact ⟨h.result, h.done, h.raised, Dev.refl.nvcResult.frame⟩

/-- One rule of R163's table, and the rules after it. -/
theorem rule (hc : c ↔ c') (h : ¬c → NvcJudged s u code starts) (h0 : n ≠ 0 := by decide) (h16 : n < 16 := by decide) :
    NvcJudged s (if c then s.nvcResult n else u) (if c' then n else code) starts := by
  by_cases hh : c
  · rw [if_pos hh, if_pos (hc.mp hh)]
    exact refused h0 h16
  · rw [if_neg hh, if_neg (mt hc.mpr hh)]
    exact h hh

/-- The rule that comes last decides between the start and the refusal. -/
theorem last (hc : c ↔ c') (h : c → starts u) (h0 : n ≠ 0 := by decide) (h16 : n < 16 := by decide) :
    NvcJudged s (if c then u else s.nvcResult n) (if c' then 0 else n) starts := by
  by_cases hh : c
  · rw [if_pos hh, if_pos (hc.mp hh)]
    exact starting (h hh)
  · rw [if_neg hh, if_neg (mt hc.mpr hh)]
    exact refused h0 h16

/-- A command whose answer is judged. -/
theorem gives {i : Instr} (h : NvcJudged s u code starts) (hx : exec i s = .next u) :
    (code ≠ 0 → Gives i s (NvcRefused s code)) ∧ (code = 0 → Gives i s starts) :=
  ⟨fun h0 => ⟨u, hx, h.1 h0⟩, fun h0 => ⟨u, hx, h.2 h0⟩⟩

end NvcJudged

/-- A command has begun: the NVC's own state and BUSY. -/
def NvcBegan (s : State) (n : Nvc) (u : State) : Prop :=
  u.nvc = n ∧ u.on F.NVC_STAT_BUSY = true ∧ Frame [F.NVC_STAT_BUSY] [.nvc] [] s u

theorem nvcBegan (f : Nvc → Nvc) (h : ((f s.nvc).cmd.isSome || (f s.nvc).er.isSome || (f s.nvc).held.isSome) = true) :
    NvcBegan s (f s.nvc) (s.nvcUpd f).nvcBusyUpd := by
  refine ⟨rfl, ?_, (Dev.refl.nvcUpd.nvcBusyUpd).frame⟩
  rw [State.nvcBusyUpd, State.on_putB]
  exact h

/-- A state with the NVC's power answers a command of the NVC by its rules. -/
theorem exec_of_nvcLive {i : Instr} {v : State} (hl : s.nvcLive = true)
    (hx : exec i s = .next (if s.nvcLive then u else s)) (h : u = v) : exec i s = .next v := by
  rw [hx, if_pos hl, h]

/-- What R163 calls busy: a command, an erase that runs, or a flush. -/
theorem nvcBusy_iff : (s.nvc.cmd.isSome ∨ s.erRunning ∨ s.nvc.flushing) ↔
    ¬(s.nvc.cmd = none ∧ s.erRunning = false ∧ s.nvc.flushing = false) := by
  rw [← Option.isNone_iff_eq_none]
  cases s.nvc.cmd <;> cases s.erRunning <;> simp

theorem nvcRange_iff {a k m : Nat} : (inFlash a = false ∨ a % m ≠ 0 ∨ 126 ≤ k) ↔
    (¬(inFlash a = true ∧ k < 126) ∨ a % m ≠ 0) := by
  rw [not_and_or, Bool.not_eq_true, not_lt]
  tauto

theorem nvcSealed_iff {k : Nat} : s.nvcSealed k = true ↔
    s.get F.NVC_SEAL_FIRST ≤ k ∧ k < s.get F.NVC_SEAL_FIRST + s.get F.NVC_SEAL_COUNT := by
  simp [State.nvcSealed]

theorem nvcNoPerm_iff {ring : Ring} {k : Nat} : s.nvcNoPerm ring k = true ↔
    (ring ≠ 0 ∧ s.bit (F.NVC_PEN_PEN (k / 32)) (k % 32) = false) := by
  simp only [State.nvcNoPerm, Bool.and_eq_true, bne_iff_ne, Bool.not_eq_true', ne_eq, Fin.ext_iff, Fin.val_zero]

theorem erStart_eq (goal : NvGoal) (need : Nat) (after : ErPhase) :
    s.erStart goal need after = ⟨goal, if need ≤ s.jFree then after
      else if s.sectorBlank s.jTarget then .jCopy 0 else .jErase, false, s.bak.tick⟩ := by
  unfold State.erStart
  split_ifs <;> rfl

end

/-- Settles O44. -/
theorem nvcCommandsStartOrAreRefused : Obligations.NvcCommandsStartOrAreRefused := by
  intro s ring key hl a k idle sane sealed noPerm value first began refused judged nothing
  refine ⟨fun hr => ⟨?_, ?_, ?_, ?_⟩, fun hr => ⟨?_, ?_, ?_, ?_⟩, fun hr => ?_, fun hr => ?_, ?_, fun hr => ?_, fun hr => ?_⟩
  · refine NvcJudged.gives ?_ (exec_of_nvcLive hl rfl (if_neg hr.not_gt))
    refine .rule nvcBusy_iff fun hcmd => .rule Iff.rfl fun _ => .rule nvcRange_iff fun _ => .rule nvcSealed_iff fun _ =>
      .rule nvcNoPerm_iff fun _ => .rule Iff.rfl fun _ => .rule Iff.rfl fun _ => .rule Iff.rfl fun _ => .starting ?_
    exact nvcBegan (fun n => { n with cmd := some (.program a s.nvcData) }) rfl
  · refine NvcJudged.gives ?_ (exec_of_nvcLive hl rfl (if_neg hr.not_gt))
    refine .rule nvcBusy_iff fun hbusy => .rule Iff.rfl fun _ => .rule nvcRange_iff fun hrange => .rule nvcSealed_iff fun _ =>
      .rule nvcNoPerm_iff fun _ => .rule Iff.rfl fun _ => .starting ?_
    have hcmd : s.nvc.cmd = none := by
      rw [nvcBusy_iff, not_not] at hbusy
      exact hbusy.1
    have hk : k < 126 := by
      rw [nvcRange_iff, not_or, not_not] at hrange
      exact hrange.1.2
    refine ⟨congrArg some (erStart_eq _ _ _), rfl, hcmd, ?_, ?_, Dev.frame ?_⟩
    · rw [State.nvcBusyUpd, State.putB, State.get_put_ne _ _ _ _ (by decide)]
      exact State.get_put_lt (hk.trans (by decide))
    · rw [State.nvcBusyUpd, State.on_putB]
      simp [State.nvcUpd]
    · exact (Dev.refl.nvcUpd.put).nvcBusyUpd
  · refine NvcJudged.gives ?_ (exec_of_nvcLive hl rfl (if_neg hr.not_gt))
    refine .rule Iff.rfl fun _ => .last Iff.rfl fun _ => ⟨rfl, State.get_put_lt (by decide), Dev.frame ?_⟩
    exact Dev.refl.nvcUpd.put
  · refine NvcJudged.gives ?_ (exec_of_nvcLive hl rfl (if_neg hr.not_gt))
    refine .rule Iff.rfl fun _ => .last Iff.rfl fun _ => ?_
    have h := nvcEnded_nvcResult (s := s.erResume) (code := 0) (by decide)
    refine ⟨rfl, rfl, rfl, ?_, h.result, h.done, h.raised, Dev.frame ?_⟩
    · rw [State.nvcResult, State.nvcBusyUpd, State.on_putB_ne (by decide), State.nvcDone, State.on_raise,
        State.on_put_ne (by decide), State.on_put_ne (by decide)]
      exact State.on_put_zero
    · exact Dev.nvcResult (Dev.refl.nvcUpd.put)
  · exact ⟨s, exec_of_nvcLive hl rfl (if_pos hr), rfl⟩
  · exact ⟨s, exec_of_nvcLive hl rfl (if_pos hr), rfl⟩
  · exact ⟨s, exec_of_nvcLive hl rfl (if_pos hr), rfl⟩
  · exact ⟨s, exec_of_nvcLive hl rfl (if_pos hr), rfl⟩
  · refine NvcJudged.gives ?_ (exec_of_nvcLive hl rfl (if_neg hr.not_gt))
    refine .rule nvcBusy_iff fun hbusy => .rule Iff.rfl fun _ => .rule Iff.rfl fun _ => .starting ?_
    by_cases hfree : 1 ≤ s.jFree
    · rw [if_pos hfree, if_pos hfree]
      exact nvcBegan (fun n => { n with cmd := some (.mark value s.bak.tick) }) rfl
    · rw [if_neg hfree, if_neg hfree, ← erStart_eq]
      exact nvcBegan (fun n => { n with held := n.er, er := some (s.erStart (.mark value) 1 .done) }) (by simp)
  · exact ⟨s, exec_of_nvcLive hl rfl (if_pos hr), rfl⟩
  · refine NvcJudged.gives ?_ (exec_of_nvcLive hl rfl rfl)
    refine .rule Iff.rfl fun _ => .rule ?_ fun _ => .starting ?_
    · rw [not_and_or, Bool.not_eq_true, not_lt]
    · exact nvcBegan (fun n => { n with cmd := some (.checkread (a - a % 16)) }) rfl
  · refine NvcJudged.gives ?_ (exec_of_nvcLive hl rfl (if_neg (by simp [hr])))
    refine .rule Iff.rfl fun _ => .starting ?_
    exact nvcBegan (fun n => { n with cmd := some .scan }) rfl
  · exact ⟨s, exec_of_nvcLive hl rfl (if_pos (Fin.pos_iff_ne_zero.mpr hr)), rfl⟩

end Sys2Proof.Machine
end

section
/-!
SUPPORT. The operations of the NVC: what a work on the array changes, the journal, the DIRTY bits, and the ends of the
operations.
-/

namespace Sys2Proof.Machine

section

variable {s u v : State} {lo hi : Nat}

theorem BlocksSame.refl : BlocksSame s s := ⟨rfl, rfl, rfl, rfl, rfl, rfl, rfl, rfl, rfl, rfl, rfl, rfl, rfl⟩

/-! ## Work on the array -/

/-- What work on the array in [lo, hi) changes: bytes and granule states in the range, and the line buffers. -/
structure FlashWork (lo hi : Nat) (s u : State) : Prop where
  regs : u.regs = s.regs
  blocks : BlocksSame s u
  core : u.core = { s.core with ibuf := u.core.ibuf, dbuf := u.core.dbuf }
  mem : u.mem = { s.mem with cells := u.mem.cells, gran := u.mem.gran }
  ibuf : u.core.ibuf = none ∨ u.core.ibuf = s.core.ibuf
  dbuf : u.core.dbuf = none ∨ u.core.dbuf = s.core.dbuf
  bytes : ∀ b, b < lo ∨ hi ≤ b → u.byte b = s.byte b
  grans : ∀ g, g < lo ∨ hi ≤ g → u.rawGran g = s.rawGran g

theorem State.rawGran_of_mem (h : u.mem = s.mem) (a : Nat) : u.rawGran a = s.rawGran a := by
  rw [State.rawGran, State.rawGran, h]

theorem State.rawGran_setGran_self (a w : Nat) : (s.setGran a w).rawGran a = w := Sparse.get_set_self _ _ _ _

theorem State.rawGran_setGran_ne {a g : Nat} (w : Nat) (h : a - a % 16 ≠ g - g % 16) :
    (s.setGran a w).rawGran g = s.rawGran g := Sparse.get_set_ne _ _ _ h

theorem State.rawGran_setBytes (a : Nat) (l : List Byte) (g : Nat) : (s.setBytes a l).rawGran g = s.rawGran g := by
  induction l generalizing s a with
  | nil => rfl
  | cons b t ih => exact ih _

/-- A list written changes the bytes' cells alone. -/
theorem State.setBytes_eq (a : Nat) (l : List Byte) :
    s.setBytes a l = { s with mem := { s.mem with cells := (s.setBytes a l).mem.cells } } := by
  induction l generalizing s a with
  | nil => rfl
  | cons b t ih => exact (ih (s := s.setByte a b) (a + 1)).trans rfl

namespace FlashWork

theorem refl : FlashWork lo hi s s :=
  ⟨rfl, BlocksSame.refl, rfl, rfl, .inr rfl, .inr rfl, fun _ _ => rfl, fun _ _ => rfl⟩

theorem trans (h : FlashWork lo hi s u) (h' : FlashWork lo hi u v) : FlashWork lo hi s v := by
  refine ⟨h'.regs.trans h.regs, h.blocks.trans h'.blocks, ?_, ?_, ?_, ?_, fun b hb => (h'.bytes b hb).trans (h.bytes b hb),
    fun g hg => (h'.grans g hg).trans (h.grans g hg)⟩
  · have hc := h'.core
    rw [h.core] at hc
    exact hc
  · have hm := h'.mem
    rw [h.mem] at hm
    exact hm
  · rcases h'.ibuf with e | e
    · exact .inl e
    · exact h.ibuf.imp e.trans e.trans
  · rcases h'.dbuf with e | e
    · exact .inl e
    · exact h.dbuf.imp e.trans e.trans

theorem ite {c : Prop} [Decidable c] (hu : FlashWork lo hi s u) (hv : FlashWork lo hi s v) :
    FlashWork lo hi s (if c then u else v) := by
  split
  · exact hu
  · exact hv

/-- Bytes written inside the range. -/
theorem setBytes (h : FlashWork lo hi s u) {a : Nat} {l : List Byte} (hlo : lo ≤ a) (hhi : a + l.length ≤ hi) :
    FlashWork lo hi s (u.setBytes a l) := by
  refine h.trans ?_
  have he := State.setBytes_eq (s := u) a l
  refine ⟨?_, ?_, ?_, ?_, ?_, ?_, fun b hb => State.byte_setBytes_out _ _ _ _ (by omega),
    fun g _ => State.rawGran_setBytes a l g⟩
  · rw [he]
  · rw [he]
    exact BlocksSame.refl
  · rw [he]
  · rw [he]
  · rw [he]
    exact .inr rfl
  · rw [he]
    exact .inr rfl

/-- The state of a granule inside the range. -/
theorem setGran (h : FlashWork lo hi s u) {a w : Nat} (h16 : lo % 16 = 0 ∧ hi % 16 = 0) (hlo : lo ≤ a) (hhi : a < hi) :
    FlashWork lo hi s (u.setGran a w) :=
  h.trans ⟨rfl, BlocksSame.refl, rfl, rfl, .inr rfl, .inr rfl, fun _ _ => rfl,
    fun g hg => State.rawGran_setGran_ne w (by omega)⟩

theorem dropLines (h : FlashWork lo hi s u) {l r : Nat} : FlashWork lo hi s (u.dropLines l r) := by
  refine h.trans ⟨rfl, BlocksSame.refl, rfl, rfl, ?_, ?_, fun _ _ => rfl, fun _ _ => rfl⟩
  · cases hb : u.core.ibuf with
    | none => exact .inl (by simp [State.dropLines, hb])
    | some b =>
      by_cases hin : l ≤ b.granule ∧ b.granule < r
      · exact .inl (by simp [State.dropLines, hb, hin])
      · exact .inr (by simp [State.dropLines, hb, hin])
  · cases hb : u.core.dbuf with
    | none => exact .inl (by simp [State.dropLines, hb])
    | some b =>
      by_cases hin : l ≤ b.granule ∧ b.granule < r
      · exact .inl (by simp [State.dropLines, hb, hin])
      · exact .inr (by simp [State.dropLines, hb, hin])

theorem tickFree (h : FlashWork lo hi s u) : FlashWork lo hi s u.tickFree :=
  h.trans ⟨rfl, BlocksSame.refl, rfl, rfl, .inr rfl, .inr rfl, fun _ _ => rfl, fun _ _ => rfl⟩

/-- A granule is programmed. -/
theorem progGran (h : FlashWork lo hi s u) {a : Nat} {l : List Byte} (h16 : lo % 16 = 0 ∧ hi % 16 = 0) (hl : l.length = 16)
    (hlo : lo ≤ a) (hhi : a + 16 ≤ hi) : FlashWork lo hi s (u.progGran a l) :=
  ((h.setBytes hlo (by omega)).setGran h16 hlo (by omega)).dropLines

/-- A granule is torn. -/
theorem tearGran (h : FlashWork lo hi s u) {a : Nat} (h16 : lo % 16 = 0 ∧ hi % 16 = 0) (hlo : lo ≤ a) (hhi : a + 16 ≤ hi) :
    FlashWork lo hi s (u.tearGran a) :=
  ((h.setBytes hlo (by simpa using hhi)).setGran h16 hlo (by omega)).dropLines.tickFree

theorem tearRecord (h : FlashWork lo hi s u) {a : Nat} (h16 : lo % 16 = 0 ∧ hi % 16 = 0) (hlo : lo ≤ a)
    (hhi : a + 16 ≤ hi) : FlashWork lo hi s (u.tearRecord a) :=
  ((h.tearGran h16 hlo hhi).setGran h16 hlo (by omega)).ite (h.tearGran h16 hlo hhi)

end FlashWork

/-- Both ends of a sector are ends of granules. -/
theorem sectorAddr_aligned (k : Nat) : sectorAddr k % 16 = 0 ∧ (sectorAddr k + 0x1000) % 16 = 0 := by
  unfold sectorAddr
  omega

theorem FlashWork.eraseSector (k : Nat) : FlashWork (sectorAddr k) (sectorAddr k + 0x1000) s (s.eraseSector k) := by
  have h16 := sectorAddr_aligned k
  simp only [State.eraseSector]
  refine FlashWork.dropLines ?_
  refine ⟨rfl, BlocksSame.refl, rfl, rfl, .inr rfl, .inr rfl, fun b hb => ?_, fun g hg => ?_⟩
  · exact (State.byte_forget s _ _ b).trans (if_pos hb)
  · refine (Sparse.get_filter unlistedGran s.mem.gran
      (fun q => decide (q < sectorAddr k) || decide (sectorAddr k + 0x1000 ≤ q)) _).trans (if_pos ?_)
    simp only [Bool.or_eq_true, decide_eq_true_eq]
    omega

/-- An erased sector of the flash reads 0xFF and BLANK. -/
theorem State.erased {k b : Nat} (hk : k < 128) (hlo : sectorAddr k ≤ b) (hhi : b < sectorAddr k + 0x1000) :
    (s.eraseSector k).byte b = 0xFF ∧ (s.eraseSector k).rawGran b = 3 := by
  have h16 := sectorAddr_aligned k
  refine ⟨?_, ?_⟩
  · refine (State.byte_forget s _ _ b).trans ((if_neg (by omega)).trans (if_pos ?_))
    unfold sectorAddr at hlo hhi
    omega
  · refine (Sparse.get_filter unlistedGran s.mem.gran
      (fun q => decide (q < sectorAddr k) || decide (sectorAddr k + 0x1000 ≤ q)) _).trans (if_neg ?_)
    simp only [Bool.or_eq_true, decide_eq_true_eq]
    omega

theorem FlashWork.tearSector (k : Nat) : FlashWork (sectorAddr k) (sectorAddr k + 0x1000) s (s.tearSector k) := by
  refine FlashWork.tickFree (List.foldlRecOn _ _ (FlashWork.eraseSector k) fun u hu i hi => ?_)
  have hlt := List.mem_range.mp hi
  refine (hu.setBytes (by omega) ?_).setGran (sectorAddr_aligned k) (by omega) (by omega)
  simp only [List.length_map, List.length_range]
  omega

theorem FlashWork.failErase (k : Nat) : FlashWork (sectorAddr k) (sectorAddr k + 0x1000) s (s.failErase k) :=
  (FlashWork.tearSector k).setGran (sectorAddr_aligned k) (by omega) (by omega)

/-- A sector whose erase has failed holds a granule that is not BLANK. -/
theorem State.failErase_not_blank (k : Nat) : ∃ i, i < 256 ∧ (s.failErase k).rawGran (sectorAddr k + 16 * i) ≠ 3 := by
  refine ⟨Config.freeAt s.free 4000 % 256, Nat.mod_lt _ (by decide), ?_⟩
  rw [State.failErase, State.rawGran_setGran_self]
  omega

/-- No line buffer holds a granule of [lo, hi). -/
def Unread (lo hi : Nat) (u : State) : Prop :=
  ∀ b, u.core.ibuf = some b ∨ u.core.dbuf = some b → b.granule < lo ∨ hi ≤ b.granule

theorem unread_dropLines : Unread lo hi (s.dropLines lo hi) := by
  have keep : ∀ (l : Option Line) (b : Line), (match l with
      | some x => if lo ≤ x.granule ∧ x.granule < hi then none else l
      | none => none) = some b → b.granule < lo ∨ hi ≤ b.granule := by
    intro l b hb
    cases l with
    | none => cases hb
    | some x =>
      dsimp only at hb
      split at hb
      · cases hb
      · cases hb
        omega
  intro b hb
  rcases hb with hb | hb
  · exact keep s.core.ibuf b hb
  · exact keep s.core.dbuf b hb

/-! ## The journal -/

theorem length_jRecord (tick : BitVec 48) (type sector value : Nat) : (State.jRecord tick type sector value).length = 16 := by
  simp [State.jRecord, le32]

theorem State.jNext_aligned (s : State) : s.jNext % 16 = 0 := by
  unfold State.jNext sectorAddr
  omega

/-- A record appended: its granule, and one free granule less. -/
theorem State.exists_jAppend (s : State) (good : Bool) (tick : BitVec 48) (type sector value : Nat) :
    ∃ v, FlashWork s.jNext (s.jNext + 16) s v ∧
      s.jAppend good tick type sector value = v.put F.NVC_JSTAT_FREE (s.get F.NVC_JSTAT_FREE - 1) := by
  have h16 := s.jNext_aligned
  have h16' : s.jNext % 16 = 0 ∧ (s.jNext + 16) % 16 = 0 := ⟨h16, by omega⟩
  cases good
  · exact ⟨_, FlashWork.refl.tearRecord h16' le_rfl le_rfl, rfl⟩
  · exact ⟨_, FlashWork.refl.progGran h16' (length_jRecord _ _ _ _) le_rfl le_rfl, rfl⟩

theorem State.jCopyAddr_aligned (s : State) (n : Nat) : s.jCopyAddr n % 16 = 0 := by
  unfold State.jCopyAddr sectorAddr
  split
  · omega
  · omega

/-! ## The DIRTY bits -/

theorem State.dirty_of_get {k : Nat} (h : u.get (F.NVC_DIRTY_D (k / 32)) = s.get (F.NVC_DIRTY_D (k / 32))) :
    u.dirty k = s.dirty k := by
  rw [State.dirty, State.dirty, State.bit, State.bit, h]

theorem testBit_sub_two_pow {n i : Nat} (h : n.testBit i = true) (j : Nat) :
    (n - 2 ^ i).testBit j = (decide (i ≠ j) && n.testBit j) := by
  have hodd : n / 2 ^ i % 2 = 1 := by simpa [Nat.testBit_eq_decide_div_mod_eq] using h
  have hn : n = 2 ^ i * (n / 2 ^ i) + n % 2 ^ i := (Nat.div_add_mod n _).symm
  have hr : n % 2 ^ i < 2 ^ i := Nat.mod_lt _ (Nat.two_pow_pos i)
  generalize n / 2 ^ i = q at hodd hn
  generalize n % 2 ^ i = r at hn hr
  subst hn
  obtain ⟨p, rfl⟩ : ∃ p, q = p + 1 := ⟨q - 1, by omega⟩
  have hsub : 2 ^ i * (p + 1) + r - 2 ^ i = 2 ^ i * p + r := by
    rw [Nat.mul_succ]
    omega
  rw [hsub, Nat.testBit_two_pow_mul_add _ hr, Nat.testBit_two_pow_mul_add _ hr]
  by_cases hj : j < i
  · simp [hj, hj.ne']
  · rw [if_neg hj, if_neg hj]
    obtain ⟨m, rfl⟩ := Nat.exists_eq_add_of_le (not_lt.mp hj)
    rw [Nat.add_sub_cancel_left]
    cases m with
    | zero =>
      simp only [Nat.add_zero, ne_eq, not_true, decide_false, Bool.false_and, Nat.testBit_zero, decide_eq_false_iff_not]
      omega
    | succ m =>
      have hdiv : p / 2 = (p + 1) / 2 := by omega
      rw [Nat.testBit_succ, Nat.testBit_succ, hdiv]
      simp

theorem State.dirty_setDirty_self (k : Nat) (b : Bool) : (s.setDirty k b).dirty k = b := by
  have hlt : k % 32 < 32 := Nat.mod_lt _ (by decide)
  cases b
  · simp only [State.setDirty, Bool.false_eq_true, if_false, State.clrBit]
    by_cases hb : s.bit (F.NVC_DIRTY_D (k / 32)) (k % 32) = true
    · rw [if_pos hb, State.dirty, State.bit, State.get_put_self, Nat.testBit_mod_two_pow, testBit_sub_two_pow hb]
      simp
    · rw [if_neg hb]
      exact Bool.eq_false_iff.mpr hb
  · rw [State.setDirty, if_pos rfl, State.setBit, State.dirty, State.bit, State.get_put_self, Nat.testBit_mod_two_pow]
    simp [F.NVC_DIRTY_D, hlt]

theorem State.dirty_setDirty_ne {j k : Nat} (b : Bool) (h : j ≠ k) : (s.setDirty k b).dirty j = s.dirty j := by
  by_cases hw : j / 32 = k / 32
  · have hne : k % 32 ≠ j % 32 := by omega
    have hlt : j % 32 < 32 := Nat.mod_lt _ (by decide)
    cases b
    · simp only [State.setDirty, Bool.false_eq_true, if_false, State.clrBit]
      by_cases hb : s.bit (F.NVC_DIRTY_D (k / 32)) (k % 32) = true
      · rw [if_pos hb, State.dirty, hw, State.bit, State.get_put_self, Nat.testBit_mod_two_pow, testBit_sub_two_pow hb,
          State.dirty, hw, State.bit]
        simp [F.NVC_DIRTY_D, hlt, hne]
      · rw [if_neg hb]
    · rw [State.setDirty, if_pos rfl, State.setBit, State.dirty, hw, State.bit, State.get_put_self,
        Nat.testBit_mod_two_pow, Nat.testBit_or, Nat.testBit_two_pow, State.dirty, hw, State.bit]
      simp [F.NVC_DIRTY_D, hlt, hne]
  · refine State.dirty_of_get ?_
    have hkey : (F.NVC_DIRTY_D (k / 32)).key ≠ (F.NVC_DIRTY_D (j / 32)).key := by
      simp only [F.NVC_DIRTY_D, Fld.key]
      omega
    have hput : ∀ n, (s.put (F.NVC_DIRTY_D (k / 32)) n).get (F.NVC_DIRTY_D (j / 32)) = s.get (F.NVC_DIRTY_D (j / 32)) :=
      fun n => State.get_put_ne _ _ _ _ hkey
    cases b
    · simp only [State.setDirty, Bool.false_eq_true, if_false, State.clrBit]
      split
      · exact hput _
      · rfl
    · exact hput _

/-! ## The frame of the NVC -/

/-- A step of the NVC beside the array: its window, its own state and E16. -/
abbrev NvcDev (s u : State) : Prop := Dev (keysIn [(0x40002000, 0x40003000)] []) [.nvc] [16] s u

/-- The field lies in the NVC's window. -/
abbrev Fld.InNvcWindow (f : Fld) : Prop := 0x40002000 ≤ f.key / 32 ∧ f.key / 32 < 0x40003000

theorem NvcDev.put (h : NvcDev s u) {f : Fld} {n : Nat} (hf : f.InNvcWindow := by decide) : NvcDev s (u.put f n) :=
  Dev.put h (.inr ⟨_, .head _, hf⟩)

theorem NvcDev.nvcResult (h : NvcDev s u) {code : Nat} : NvcDev s (u.nvcResult code) :=
  (((h.put).put).raise).nvcBusyUpd (.inr ⟨_, .head _, by decide⟩)

/-- Nothing outside [lo, hi) changes in the memory and the granules. -/
def OutsideSame (lo hi : Nat) (s u : State) : Prop :=
  (∀ b, b < lo ∨ hi ≤ b → u.byte b = s.byte b) ∧ ∀ g, g < lo ∨ hi ≤ g → u.rawGran g = s.rawGran g

/-- Of the device only the NVC's window, its own state, the line buffers, E16, bytes and granule states have changed. -/
def InNvc (s u : State) : Prop :=
  OnlyRanges s u [(0x40002000, 0x40003000)] [] ∧ BlocksBut [.nvc] s u ∧
    CoreBut [16] s { u with core := { u.core with ibuf := s.core.ibuf, dbuf := s.core.dbuf } } ∧
    (u.core.ibuf = none ∨ u.core.ibuf = s.core.ibuf) ∧ (u.core.dbuf = none ∨ u.core.dbuf = s.core.dbuf) ∧
    u.pending = s.pending ∧ u.mem = { s.mem with cells := u.mem.cells, gran := u.mem.gran }

/-- A step of the NVC whose work on the array lies in [lo, hi). -/
structure NvcStep (lo hi : Nat) (s u : State) : Prop where
  inNvc : InNvc s u
  outside : OutsideSame lo hi s u

namespace NvcStep

theorem refl : NvcStep lo hi s s := by
  refine ⟨⟨fun _ _ _ => rfl, ?_, ⟨rfl, fun _ _ => rfl⟩, .inr rfl, .inr rfl, rfl, rfl⟩, fun _ _ => rfl, fun _ _ => rfl⟩
  simp [BlocksBut]

theorem trans (h : NvcStep lo hi s u) (h' : NvcStep lo hi u v) : NvcStep lo hi s v := by
  obtain ⟨⟨hr, hb, ⟨hc, hl⟩, hi1, hd1, hp, hm⟩, hbytes, hgrans⟩ := h
  obtain ⟨⟨kr, kb, ⟨kc, kl⟩, ki1, kd1, kp, km⟩, kbytes, kgrans⟩ := h'
  refine ⟨⟨fun g hg hrs => (kr g hg hrs).trans (hr g hg hrs), hb.trans kb, ⟨?_, fun k hk => (kl k hk).trans (hl k hk)⟩,
    ?_, ?_, kp.trans hp, ?_⟩, fun b hb => (kbytes b hb).trans (hbytes b hb),
    fun g hg => (kgrans g hg).trans (hgrans g hg)⟩
  · exact (congrArg (fun c : Core => { c with
      raised := s.core.raised, ibuf := s.core.ibuf, dbuf := s.core.dbuf }) kc).trans hc
  · rcases ki1 with e | e
    · exact .inl e
    · exact hi1.imp e.trans e.trans
  · rcases kd1 with e | e
    · exact .inl e
    · exact hd1.imp e.trans e.trans
  · exact km.trans (congrArg (fun m : MemSt => { m with cells := v.mem.cells, gran := v.mem.gran }) hm)

theorem flash (h : NvcStep lo hi s u) (hf : FlashWork lo hi u v) : NvcStep lo hi s v := by
  obtain ⟨hpend, h1, h2, h3, h4, h5, h6, h7, h8, h9, h10, h11, h12⟩ := hf.blocks
  have hraised : v.core.raised = u.core.raised := by rw [hf.core]
  refine h.trans ⟨⟨fun g _ _ => State.get_of_regs hf.regs g, ⟨fun _ => h1, fun _ => h2, fun _ => h3, fun _ => h4,
    fun _ => h5, fun _ => h6, fun _ => h7, fun _ => h8, fun _ => h9, fun _ => h10, fun _ => h11, fun _ => h12⟩,
    ⟨?_, fun k _ => congrArg (BitVec.getLsbD · k) hraised⟩, hf.ibuf, hf.dbuf, hpend, hf.mem⟩, hf.bytes, hf.grans⟩
  exact congrArg (fun c : Core => { c with
    raised := u.core.raised, ibuf := u.core.ibuf, dbuf := u.core.dbuf }) hf.core

theorem dev (h : NvcStep lo hi s u) (hd : NvcDev u v) : NvcStep lo hi s v := by
  obtain ⟨hranges, hblocks, ⟨hc, hl⟩, hm, hp⟩ := hd.frameIn
  refine h.trans ⟨⟨hranges, hblocks, ⟨?_, hl⟩, .inr (congrArg Core.ibuf hc :), .inr (congrArg Core.dbuf hc :), hp, ?_⟩,
    fun b _ => State.byte_of_mem hm b, fun g _ => State.rawGran_of_mem hm g⟩
  · exact congrArg (fun c : Core => { c with ibuf := u.core.ibuf, dbuf := u.core.dbuf }) hc
  · rw [hm]

end NvcStep

/-- An operation has ended with this result. -/
def NvcEndsWith (s : State) (code : Nat) (u : State) : Prop :=
  u.get F.NVC_STAT_RESULT = code ∧ u.on F.NVC_STAT_DONE = true ∧ u.core.raised.getLsbD 16 = true ∧ InNvc s u

theorem NvcStep.ends (h : NvcStep lo hi s u) {code : Nat} (hc : code < 16 := by decide) :
    NvcEndsWith s code (u.nvcResult code) ∧ OutsideSame lo hi s (u.nvcResult code) := by
  have hstep : NvcStep lo hi s (u.nvcResult code) := h.dev (NvcDev.nvcResult Dev.refl)
  have hend := nvcEnded_nvcResult (s := u) hc
  exact ⟨⟨hend.result, hend.done, hend.raised, hstep.inNvc⟩, hstep.outside⟩

theorem InNvc.bak (h : InNvc s u) : u.bak = s.bak := by
  obtain ⟨-, hb, -⟩ := h
  obtain ⟨-, -, -, -, -, -, -, -, -, -, hbak, -⟩ := hb
  exact hbak (by simp)

theorem FlashWork.nvc (h : FlashWork lo hi s u) : u.nvc = s.nvc := by
  obtain ⟨-, -, hnvc, -⟩ := h.blocks
  exact hnvc

theorem FlashWork.get (h : FlashWork lo hi s u) (f : Fld) : u.get f = s.get f := State.get_of_regs h.regs f

@[simp] theorem State.nvcResult_nvc (code : Nat) : (s.nvcResult code).nvc = s.nvc := rfl
@[simp] theorem State.nvcResult_mem (code : Nat) : (s.nvcResult code).mem = s.mem := rfl
@[simp] theorem State.nvcUpd_get (f : Nvc → Nvc) (g : Fld) : (s.nvcUpd f).get g = s.get g := rfl

theorem State.get_nvcResult (code : Nat) {f : Fld}
    (hf : f.key ∉ [F.NVC_STAT_RESULT, F.NVC_STAT_DONE, F.NVC_STAT_BUSY].map Fld.key) :
    (s.nvcResult code).get f = s.get f :=
  (Dev.refl (s := s)).nvcResult (ks := [16]) (bs := []) |>.keys f hf

theorem State.on_nvcResult (code : Nat) {f : Fld}
    (hf : f.key ∉ [F.NVC_STAT_RESULT, F.NVC_STAT_DONE, F.NVC_STAT_BUSY].map Fld.key) :
    (s.nvcResult code).on f = s.on f := by
  rw [State.on, State.on, State.get_nvcResult code hf]

/-- The field is no DIRTY register. -/
abbrev Fld.NotDirty (f : Fld) : Prop := f.key < (F.NVC_DIRTY_D 0).key ∨ (F.NVC_DIRTY_D 3).key < f.key

theorem State.dirty_put {f : Fld} {n k : Nat} (hk : k < 126) (hf : f.NotDirty := by decide) :
    (s.put f n).dirty k = s.dirty k := by
  refine State.dirty_of_get (State.get_put_ne _ _ _ _ ?_)
  simp only [Fld.NotDirty, F.NVC_DIRTY_D, Fld.key] at hf ⊢
  omega

theorem State.dirty_nvcResult {k : Nat} (hk : k < 126) (code : Nat) : (s.nvcResult code).dirty k = s.dirty k := by
  rw [State.nvcResult, State.nvcBusyUpd, State.putB, State.dirty_put hk]
  have hraise : (s.put F.NVC_STAT_RESULT code).nvcDone.dirty k =
      ((s.put F.NVC_STAT_RESULT code).put F.NVC_STAT_DONE 1).dirty k := rfl
  rw [hraise, State.dirty_put hk, State.dirty_put hk]

/-! ## Commands at their end -/

/-- The state in which a command has been taken from the NVC. -/
def State.nvcTaken (s : State) : State := s.nvcUpd fun n => { n with cmd := none }

theorem nvcTaken_step : NvcStep lo hi s s.nvcTaken := NvcStep.refl.dev Dev.refl.nvcUpd

theorem Gives.of_nvcFinish (hl : s.nvcLive = true) {c : NvCmd} (hc : s.nvc.cmd = some c) {ok : Bool} {p : State → Prop}
    (hu : s.nvcFinish c ok = u) (h : p u) : Gives (.nvcCommandEnd ok) s p := by
  refine ⟨u, congrArg Host.Outcome.next ?_, h⟩
  rw [State.nvcCommandEnd, hc, ← hu]
  exact if_pos hl

theorem State.byte_progGran {a i : Nat} {l : List Byte} (h : i < l.length) : (s.progGran a l).byte (a + i) = l.getD i 0 :=
  (State.byte_setBytes_inside s l a i h).trans (List.getElem_eq_getD 0)

theorem State.rawGran_progGran {a : Nat} {l : List Byte} (h : ∃ b ∈ l, b ≠ 0xFF) : (s.progGran a l).rawGran a = 0 := by
  have hall : l.all (fun b => b == 0xFF) = false := by
    simpa using h
  refine (State.rawGran_setGran_self _ _).trans ?_
  rw [hall]
  rfl

/-- The four data registers take the words of a granule. -/
def State.takeData (s u : State) (a : Nat) : State :=
  (List.range 4).foldl (fun x i => x.put (F.NVC_DATA_DATA i) (s.word (a + 4 * i)).toNat) u

theorem takeData_dev (a : Nat) : NvcDev u (s.takeData u a) := by
  refine List.foldlRecOn _ _ Dev.refl fun x hx i hi => hx.put ?_
  have hlt := List.mem_range.mp hi
  simp only [Fld.InNvcWindow, F.NVC_DATA_DATA, Fld.key]
  omega

theorem takeData_get (a : Nat) {i : Nat} (hi : i < 4) :
    (s.takeData u a).get (F.NVC_DATA_DATA i) = (s.word (a + 4 * i)).toNat := by
  have hlt : ∀ j, (s.word (a + 4 * j)).toNat < 2 ^ 32 := fun j => (s.word (a + 4 * j)).isLt
  simp only [State.takeData, List.range_succ, List.range_zero, List.nil_append, List.cons_append, List.foldl_cons,
    List.foldl_nil]
  interval_cases i
  · rw [State.get_put_ne _ _ _ _ (by decide), State.get_put_ne _ _ _ _ (by decide), State.get_put_ne _ _ _ _ (by decide)]
    exact State.get_put_lt (hlt 0)
  · rw [State.get_put_ne _ _ _ _ (by decide), State.get_put_ne _ _ _ _ (by decide)]
    exact State.get_put_lt (hlt 1)
  · rw [State.get_put_ne _ _ _ _ (by decide)]
    exact State.get_put_lt (hlt 2)
  · exact State.get_put_lt (hlt 3)

/-- The DIRTY registers start a scan clean. -/
def State.cleanAll (s : State) : State := (List.range 4).foldl (fun x k => x.put (F.NVC_DIRTY_D k) 0) s

theorem dirtyKey_inWindow {k : Nat} (h : k < 4) : (F.NVC_DIRTY_D k).InNvcWindow := by
  simp only [Fld.InNvcWindow, F.NVC_DIRTY_D, Fld.key]
  omega

theorem cleanAll_dev : NvcDev s s.cleanAll :=
  List.foldlRecOn _ _ Dev.refl fun _ hx _ hi => hx.put (dirtyKey_inWindow (List.mem_range.mp hi))

theorem cleanAll_get {k : Nat} (h : k < 4) : s.cleanAll.get (F.NVC_DIRTY_D k) = 0 := by
  simp only [State.cleanAll, List.range_succ, List.range_zero, List.nil_append, List.cons_append, List.foldl_cons,
    List.foldl_nil]
  interval_cases k
  · rw [State.get_put_ne _ _ _ _ (by decide), State.get_put_ne _ _ _ _ (by decide), State.get_put_ne _ _ _ _ (by decide)]
    exact State.get_put_lt (by decide)
  · rw [State.get_put_ne _ _ _ _ (by decide), State.get_put_ne _ _ _ _ (by decide)]
    exact State.get_put_lt (by decide)
  · rw [State.get_put_ne _ _ _ _ (by decide)]
    exact State.get_put_lt (by decide)
  · exact State.get_put_lt (by decide)

theorem NvcDev.setDirty (h : NvcDev s u) {k : Nat} {b : Bool} (hk : k < 126) : NvcDev s (u.setDirty k b) := by
  have hw := dirtyKey_inWindow (k := k / 32) (by omega)
  unfold State.setDirty State.setBit State.clrBit
  exact Dev.ite (h.put hw) (Dev.ite (h.put hw) h)

theorem NvcDev.scanRecord (h : NvcDev s u) {x : State} {a : Nat} : NvcDev s (x.scanRecord a u) := by
  unfold State.scanRecord
  dsimp only
  split_ifs with h1 h2 h3 h4 h5
  · exact h
  · exact h.setDirty h3.2
  · exact h.setDirty h4.2
  · exact (h.put).put
  · exact h
  · exact h.put

theorem scan_dev : NvcDev s s.scan := by
  unfold State.scan
  dsimp only
  split
  · exact (((((cleanAll_dev.put).put).put).put).put).put
  · exact List.foldlRecOn _ _ ((((((cleanAll_dev.put).put).put).put).put).put) fun _ hx _ _ => hx.scanRecord

/-- A scan that finds no valid HEADER. -/
theorem scan_none (h0 : s.jHeaderGen 126 = 0) (h1 : s.jHeaderGen 127 = 0) : s.scan.get F.NVC_JGEN_GEN = 0 ∧
    s.scan.get F.NVC_JSTAT_FREE = 0 ∧ ∀ k, k < 126 → s.scan.dirty k = false := by
  have hx : s.scan = ((((((s.cleanAll.put F.NVC_MARKSEQ_SEQ 0).put F.NVC_JSTAT_MARKV 0).put F.NVC_JSTAT_JBAD 0).put
      F.NVC_JSTAT_ACTIVE 0).put F.NVC_JGEN_GEN 0).put F.NVC_JSTAT_FREE 0) := by
    unfold State.scan
    rw [h0, h1]
    rfl
  rw [hx]
  refine ⟨?_, State.get_put_lt (by decide), fun k hk => ?_⟩
  · rw [State.get_put_ne _ _ _ _ (by decide)]
    exact State.get_put_lt (by decide)
  · rw [State.dirty_put hk, State.dirty_put hk, State.dirty_put hk, State.dirty_put hk, State.dirty_put hk,
      State.dirty_put hk, State.dirty, State.bit, cleanAll_get (by omega), Nat.zero_testBit]

/-! ## Phases -/

theorem Gives.of_erPhaseEnd (hl : s.nvcLive = true) (hc : s.nvc.cmd = none) {g : NvGoal} {p0 : ErPhase} {tick : BitVec 48}
    (he : s.nvc.er = some ⟨g, p0, false, tick⟩) {ok : Bool} {p : State → Prop}
    (hu : s.erPhaseEnd ⟨g, p0, false, tick⟩ ok = u) (h : p u) : Gives (.erasePhaseEnd ok) s p := by
  refine ⟨u, congrArg Host.Outcome.next ?_, h⟩
  rw [State.erasePhaseEnd, he, ← hu]
  exact if_pos ⟨hl, rfl, hc⟩

/-- The operation goes on with a phase, whose record is built now. -/
def LeadsTo (s : State) (g : NvGoal) (p : ErPhase) (u : State) : Prop :=
  u.nvc = { s.nvc with er := some ⟨g, p, false, s.bak.tick⟩ } ∧ InNvc s u

theorem NvcStep.leads (h : NvcStep lo hi s u) (hn : u.nvc = s.nvc) {g : NvGoal} {p0 p : ErPhase} {tick : BitVec 48} :
    LeadsTo s g p (u.erTo ⟨g, p0, false, tick⟩ p) ∧ OutsideSame lo hi s (u.erTo ⟨g, p0, false, tick⟩ p) := by
  have hstep : NvcStep lo hi s (u.erTo ⟨g, p0, false, tick⟩ p) := h.dev Dev.refl.nvcUpd
  refine ⟨⟨?_, hstep.inNvc⟩, hstep.outside⟩
  rw [← hn, ← h.inNvc.bak]
  rfl

/-- The end of an operation: a suspended erase comes back. -/
theorem NvcStep.erEnds (h : NvcStep lo hi s u) (hn : u.nvc = s.nvc) {code : Nat} (hc : code < 16 := by decide) :
    NvcEndsWith s code (u.erEnd code) ∧ (u.erEnd code).nvc.er = s.nvc.held ∧ OutsideSame lo hi s (u.erEnd code) := by
  have hstep : NvcStep lo hi s ((u.nvcUpd (fun n => { n with
      er := n.held, held := none, suspReq := false, autoReq := false })).putB F.NVC_STAT_ESUSP
      (u.nvcUpd (fun n => { n with er := n.held, held := none, suspReq := false, autoReq := false })).erSuspended) :=
    h.dev (NvcDev.put Dev.refl.nvcUpd)
  obtain ⟨hends, hout⟩ := hstep.ends hc
  refine ⟨hends, ?_, hout⟩
  rw [← hn]
  rfl

theorem State.dirty_erEnd {k : Nat} (hk : k < 126) (code : Nat) : (s.erEnd code).dirty k = s.dirty k :=
  (State.dirty_nvcResult hk code).trans (State.dirty_put (f := F.NVC_STAT_ESUSP) hk)

theorem unread_eraseSector (k : Nat) : Unread (sectorAddr k) (sectorAddr k + 0x1000) (s.eraseSector k) :=
  unread_dropLines

theorem jAppend_step (good : Bool) (tick : BitVec 48) (type sector value : Nat) :
    NvcStep s.jNext (s.jNext + 16) s (s.jAppend good tick type sector value) := by
  obtain ⟨v, hv, hx⟩ := s.exists_jAppend good tick type sector value
  rw [hx]
  exact (NvcStep.refl.flash hv).dev (NvcDev.put Dev.refl)

theorem State.jAppend_nvc (good : Bool) (tick : BitVec 48) (type sector value : Nat) :
    (s.jAppend good tick type sector value).nvc = s.nvc := by
  obtain ⟨v, hv, hx⟩ := s.exists_jAppend good tick type sector value
  rw [hx, State.put_nvc, hv.nvc]

theorem State.jAppend_free (good : Bool) (tick : BitVec 48) (type sector value : Nat) :
    (s.jAppend good tick type sector value).get F.NVC_JSTAT_FREE = (s.get F.NVC_JSTAT_FREE - 1) % 256 := by
  obtain ⟨v, hv, hx⟩ := s.exists_jAppend good tick type sector value
  rw [hx, State.get_put_self]
  rfl

theorem State.dirty_jAppend {k : Nat} (hk : k < 126) (good : Bool) (tick : BitVec 48) (type sector value : Nat) :
    (s.jAppend good tick type sector value).dirty k = s.dirty k := by
  obtain ⟨v, hv, hx⟩ := s.exists_jAppend good tick type sector value
  rw [hx, State.dirty_put hk]
  exact State.dirty_of_get (hv.get _)

theorem State.setDirty_nvc (k : Nat) (b : Bool) : (s.setDirty k b).nvc = s.nvc := by
  unfold State.setDirty State.setBit State.clrBit
  split_ifs <;> rfl

/-- Record `n` of a switch is in place: its granule, and what selects the journal. -/
theorem jCopyStep_step (tick : BitVec 48) (n : Nat) :
    NvcStep (s.jCopyAddr n) (s.jCopyAddr n + 16) s (s.jCopyStep tick n) ∧ (s.jCopyStep tick n).nvc = s.nvc := by
  have h16 : s.jCopyAddr n % 16 = 0 ∧ (s.jCopyAddr n + 16) % 16 = 0 := by
    have := s.jCopyAddr_aligned n
    omega
  unfold State.jCopyStep
  split
  case h_1 ty sec v hx =>
    have hf : FlashWork (s.jCopyAddr n) (s.jCopyAddr n + 16) s (s.progGran (s.jCopyAddr n) (State.jRecord tick ty sec v)) :=
      FlashWork.refl.progGran h16 (length_jRecord _ _ _ _) le_rfl le_rfl
    exact ⟨NvcStep.refl.flash hf, hf.nvc⟩
  case h_2 hx =>
    have hn : ¬n < s.jCopies.length := not_lt.mpr (List.getElem?_eq_none_iff.mp hx)
    have ha : sectorAddr s.jTarget = s.jCopyAddr n := by rw [State.jCopyAddr, if_neg hn, Nat.add_zero]
    rw [ha]
    have hf : FlashWork (s.jCopyAddr n) (s.jCopyAddr n + 16) s
        (s.progGran (s.jCopyAddr n) (State.jRecord tick 0x4A 0xFF (s.get F.NVC_JGEN_GEN + 1))) :=
      FlashWork.refl.progGran h16 (length_jRecord _ _ _ _) le_rfl le_rfl
    refine ⟨(NvcStep.refl.flash hf).dev (((NvcDev.put Dev.refl).put).put), ?_⟩
    rw [State.put_nvc, State.put_nvc, State.put_nvc, hf.nvc]

theorem State.nvcTaken_jNext : s.nvcTaken.jNext = s.jNext := rfl

theorem State.nvcTaken_jHeaderGen (k : Nat) : s.nvcTaken.jHeaderGen k = s.jHeaderGen k := rfl

/-- A MARK ends well: the record is appended, and it is the latest. -/
theorem markEnds (v : Word) (tick : BitVec 48) :
    NvcEndsWith s 0 (s.nvcFinish (.mark v tick) true) ∧
      (s.nvcFinish (.mark v tick) true).nvc = { s.nvc with cmd := none } ∧
      (s.nvcFinish (.mark v tick) true).get F.NVC_MARKSEQ_SEQ = v.toNat ∧
      (s.nvcFinish (.mark v tick) true).on F.NVC_JSTAT_MARKV = true ∧
      (s.nvcFinish (.mark v tick) true).get F.NVC_JSTAT_FREE = (s.get F.NVC_JSTAT_FREE - 1) % 256 ∧
      OutsideSame s.jNext (s.jNext + 16) s (s.nvcFinish (.mark v tick) true) := by
  have hx : s.nvcFinish (.mark v tick) true = (((s.nvcTaken.jAppend true tick 4 0xFF v.toNat).put F.NVC_MARKSEQ_SEQ
      v.toNat).put F.NVC_JSTAT_MARKV 1).nvcResult 0 := rfl
  have happ := jAppend_step (s := s.nvcTaken) true tick 4 0xFF v.toNat
  have hnvc := State.jAppend_nvc (s := s.nvcTaken) true tick 4 0xFF v.toNat
  have hfree := State.jAppend_free (s := s.nvcTaken) true tick 4 0xFF v.toNat
  rw [State.nvcTaken_jNext] at happ
  rw [hx]
  generalize s.nvcTaken.jAppend true tick 4 0xFF v.toNat = w at happ hnvc hfree
  obtain ⟨hends, hout⟩ := ((nvcTaken_step.trans happ).dev ((NvcDev.put (f := F.NVC_MARKSEQ_SEQ) (n := v.toNat)
    Dev.refl).put (f := F.NVC_JSTAT_MARKV) (n := 1))).ends (code := 0)
  refine ⟨hends, hnvc, ?_, ?_, ?_, hout⟩
  · rw [State.get_nvcResult _ (by decide), State.get_put_ne _ _ _ _ (by decide)]
    exact State.get_put_lt v.isLt
  · rw [State.on_nvcResult _ (by decide)]
    exact State.on_put_one
  · rw [State.get_nvcResult _ (by decide), State.get_put_ne _ _ _ _ (by decide), State.get_put_ne _ _ _ _ (by decide)]
    exact hfree

theorem takeData_nvc (a : Nat) : (s.takeData u a).nvc = u.nvc :=
  List.foldlRecOn (motive := fun x : State => x.nvc = u.nvc) _ _ rfl fun _ hx _ _ => hx

/-- A CHECKREAD ends: the granule in DATA0 to DATA3, and its status. -/
theorem checkreadEnds {x : State} {a : Nat} (hdata : NvcDev s.nvcTaken x) (hnvc : x.nvc = s.nvcTaken.nvc)
    (hget : ∀ i, i < 4 → x.get (F.NVC_DATA_DATA i) = (s.word (a + 4 * i)).toNat) :
    let w := (x.put F.NVC_STAT_RSTAT (s.granStatus a)).nvcResult 0
    NvcEndsWith s 0 w ∧ w.nvc = { s.nvc with cmd := none } ∧
      (∀ i, i < 4 → w.get (F.NVC_DATA_DATA i) = (s.word (a + 4 * i)).toNat) ∧
      w.get F.NVC_STAT_RSTAT = s.granStatus a % 8 ∧ w.mem = s.mem := by
  have hstep : NvcStep 0 0 s (x.put F.NVC_STAT_RSTAT (s.granStatus a)) := nvcTaken_step.dev (NvcDev.put hdata)
  obtain ⟨hends, -⟩ := hstep.ends (code := 0)
  refine ⟨hends, ?_, fun i hi => ?_, ?_, ?_⟩
  · rw [State.nvcResult_nvc, State.put_nvc, hnvc]
    rfl
  · have hkey : ∀ f ∈ [F.NVC_STAT_RESULT, F.NVC_STAT_DONE, F.NVC_STAT_BUSY, F.NVC_STAT_RSTAT],
        f.key ≠ (F.NVC_DATA_DATA i).key := by
      intro f hf
      have hlt : (F.NVC_DATA_DATA i).key < F.NVC_STAT_BUSY.key := by
        simp only [F.NVC_DATA_DATA, F.NVC_STAT_BUSY, Fld.key]
        omega
      have hle : F.NVC_STAT_BUSY.key ≤ f.key := by
        simp only [List.mem_cons, List.not_mem_nil, or_false] at hf
        rcases hf with rfl | rfl | rfl | rfl <;> decide
      exact (hlt.trans_le hle).ne'
    refine (State.get_nvcResult _ ?_).trans ((State.get_put_ne _ _ _ _ (hkey _ (by simp))).trans (hget i hi))
    simp only [List.map_cons, List.map_nil, List.mem_cons, List.not_mem_nil, or_false, not_or]
    exact ⟨(hkey _ (by simp)).symm, (hkey _ (by simp)).symm, (hkey _ (by simp)).symm⟩
  · rw [State.get_nvcResult _ (by decide), State.get_put_self]
    rfl
  · rw [State.nvcResult_mem, State.put_mem, hdata.mem]
    rfl

theorem cleanAll_nvc : s.cleanAll.nvc = s.nvc :=
  List.foldlRecOn (motive := fun x : State => x.nvc = s.nvc) _ _ rfl fun _ hx _ _ => hx

theorem scanRecord_nvc (a : Nat) (x : State) : (s.scanRecord a x).nvc = x.nvc := by
  unfold State.scanRecord
  dsimp only
  split_ifs
  · rfl
  · exact State.setDirty_nvc _ _
  · exact State.setDirty_nvc _ _
  · rfl
  · rfl
  · rfl

theorem scan_nvc : s.scan.nvc = s.nvc := by
  unfold State.scan
  dsimp only
  split
  · exact cleanAll_nvc
  · exact List.foldlRecOn (motive := fun x : State => x.nvc = s.nvc) _ _ cleanAll_nvc
      fun _ hx _ _ => (scanRecord_nvc _ _).trans hx

/-- A SCAN ends. -/
theorem scanEnds {x : State} (hscan : NvcDev s.nvcTaken x) (hnvc : x.nvc = s.nvcTaken.nvc)
    (hnone : s.jHeaderGen 126 = 0 → s.jHeaderGen 127 = 0 → x.get F.NVC_JGEN_GEN = 0 ∧ x.get F.NVC_JSTAT_FREE = 0 ∧
      ∀ k, k < 126 → x.dirty k = false) :
    let w := x.nvcResult 0
    NvcEndsWith s 0 w ∧ w.nvc = { s.nvc with cmd := none } ∧ w.mem = s.mem ∧
      (s.jHeaderGen 126 = 0 → s.jHeaderGen 127 = 0 →
        w.get F.NVC_JGEN_GEN = 0 ∧ w.get F.NVC_JSTAT_FREE = 0 ∧ ∀ k, k < 126 → w.dirty k = false) := by
  obtain ⟨hends, -⟩ := ((nvcTaken_step (lo := 0) (hi := 0)).dev hscan).ends (code := 0)
  refine ⟨hends, hnvc, hscan.mem, fun h0 h1 => ?_⟩
  obtain ⟨hgen, hfree, hdirty⟩ := hnone h0 h1
  exact ⟨(State.get_nvcResult _ (by decide)).trans hgen, (State.get_nvcResult _ (by decide)).trans hfree,
    fun k hk => (State.dirty_nvcResult hk _).trans (hdirty k hk)⟩

/-- Sector `k` has been erased, and no other byte and no other granule has changed. -/
def SectorErased (k : Nat) (s u : State) : Prop :=
  Unread (sectorAddr k) (sectorAddr k + 0x1000) u ∧
    (∀ b, sectorAddr k ≤ b → b < sectorAddr k + 0x1000 → u.byte b = 0xFF ∧ u.rawGran b = 3) ∧
    OutsideSame (sectorAddr k) (sectorAddr k + 0x1000) s u

/-- The array phase of an erase ends, and the operation goes on. -/
theorem eraseLeads {k : Nat} (hk : k < 128) {g : NvGoal} {p0 p : ErPhase} {tick : BitVec 48} :
    LeadsTo s g p ((s.eraseSector k).erTo ⟨g, p0, false, tick⟩ p) ∧
      ((s.eraseSector k).erTo ⟨g, p0, false, tick⟩ p).regs = s.regs ∧
      SectorErased k s ((s.eraseSector k).erTo ⟨g, p0, false, tick⟩ p) := by
  have hf := FlashWork.eraseSector (s := s) k
  have hun := unread_eraseSector (s := s) k
  have herased := fun b h h' => State.erased (s := s) (b := b) hk h h'
  generalize s.eraseSector k = x at hf hun herased
  obtain ⟨hleads, hout⟩ := (NvcStep.refl.flash hf).leads hf.nvc (g := g) (p0 := p0) (p := p) (tick := tick)
  exact ⟨hleads, hf.regs, hun, herased, hout⟩

theorem State.erEnd_mem (code : Nat) : (s.erEnd code).mem = s.mem := by
  rw [State.erEnd, State.nvcResult_mem, State.putB, State.put_mem]
  rfl

/-- An erase whose verify fails ends. -/
theorem failEnds (k : Nat) : NvcEndsWith s 10 ((s.failErase k).erEnd 10) ∧
    ((s.failErase k).erEnd 10).nvc.er = s.nvc.held ∧
    OutsideSame (sectorAddr k) (sectorAddr k + 0x1000) s ((s.failErase k).erEnd 10) ∧
    (∀ j, j < 126 → ((s.failErase k).erEnd 10).dirty j = s.dirty j) ∧
    ∃ i, i < 256 ∧ ((s.failErase k).erEnd 10).rawGran (sectorAddr k + 16 * i) ≠ 3 := by
  have hf := FlashWork.failErase (s := s) k
  obtain ⟨i, hi, hgran⟩ := State.failErase_not_blank (s := s) k
  generalize s.failErase k = x at hf hgran
  obtain ⟨hends, her, hout⟩ := (NvcStep.refl.flash hf).erEnds hf.nvc (code := 10)
  refine ⟨hends, her, hout, fun j hj => (State.dirty_erEnd hj _).trans (State.dirty_of_get (hf.get _)), i, hi, ?_⟩
  rwa [State.rawGran_of_mem (State.erEnd_mem _)]

/-- A record of an erase has been appended, and the sector has become DIRTY or clean. -/
theorem recorded_step {k : Nat} (hk : k < 126) (b : Bool) (tick : BitVec 48) (type : Nat) :
    NvcStep s.jNext (s.jNext + 16) s ((s.jAppend true tick type k 0).setDirty k b) ∧
      ((s.jAppend true tick type k 0).setDirty k b).nvc = s.nvc ∧
      ((s.jAppend true tick type k 0).setDirty k b).dirty k = b ∧
      ∀ j, j < 126 → j ≠ k → ((s.jAppend true tick type k 0).setDirty k b).dirty j = s.dirty j := by
  have happ := jAppend_step (s := s) true tick type k 0
  have hnvc := State.jAppend_nvc (s := s) true tick type k 0
  have hdirty := fun j hj => State.dirty_jAppend (s := s) (k := j) hj true tick type k 0
  generalize s.jAppend true tick type k 0 = x at happ hnvc hdirty
  exact ⟨happ.dev (NvcDev.setDirty Dev.refl hk), (State.setDirty_nvc _ _).trans hnvc, State.dirty_setDirty_self _ _,
    fun j hj hne => (State.dirty_setDirty_ne _ hne).trans (hdirty j hj)⟩

end

/-- Settles O45. -/
theorem nvcOperationsEnd : Obligations.NvcOperationsEnd := by
  intro s hl inNvc ended outside unread blank
  refine ⟨fun a bs hc hlen ha => ⟨?_, ?_⟩, fun v tick hc => ?_, fun a hc => ?_, fun hc => ?_, fun g tick hc => ⟨?_, ?_, ?_⟩,
    fun k tick hc hk => ⟨?_, ?_, ?_, ?_⟩, fun e he => ⟨fun hs hp hreq => ?_, fun hs hauto => ?_⟩⟩
  · have h16 : a % 16 = 0 ∧ (a + 16) % 16 = 0 := ⟨ha, by omega⟩
    have hf := (FlashWork.refl (s := s.nvcTaken)).progGran h16 hlen le_rfl le_rfl
    obtain ⟨hends, hout⟩ := (nvcTaken_step.flash hf).ends (code := 0)
    refine .of_nvcFinish hl hc (u := (s.nvcTaken.progGran a bs).nvcResult 0) rfl ⟨hends, hf.nvc, fun i hi => State.byte_progGran (by omega), hout, unread_dropLines,
      State.rawGran_progGran⟩
  · have h16 : a % 16 = 0 ∧ (a + 16) % 16 = 0 := ⟨ha, by omega⟩
    have hf := (FlashWork.refl (s := s.nvcTaken)).tearGran h16 le_rfl le_rfl
    refine .of_nvcFinish hl hc (u := (s.nvcTaken.tearGran a).nvcResult 10) rfl ?_
    generalize s.nvcTaken.tearGran a = w at hf
    obtain ⟨hends, hout⟩ := (nvcTaken_step.flash hf).ends (code := 10)
    exact ⟨hends, hf.nvc, hout⟩
  · exact .of_nvcFinish hl hc rfl (markEnds v tick)
  · exact .of_nvcFinish hl hc (u := ((s.takeData s.nvcTaken a).put F.NVC_STAT_RSTAT (s.granStatus a)).nvcResult 0) rfl
      (checkreadEnds (takeData_dev a) (takeData_nvc a) fun i hi => takeData_get a hi)
  · exact .of_nvcFinish hl hc (u := s.nvcTaken.scan.nvcResult 0) rfl (scanEnds scan_dev scan_nvc fun h0 h1 =>
      scan_none ((State.nvcTaken_jHeaderGen _).trans h0) ((State.nvcTaken_jHeaderGen _).trans h1))
  · intro he hk
    obtain ⟨hleads, -, herased⟩ := eraseLeads (s := s) hk
    exact .of_erPhaseEnd hl hc he rfl ⟨hleads, herased⟩
  · intro he
    refine ⟨.of_erPhaseEnd hl hc he rfl ⟨?_, rfl, rfl⟩,
      .of_erPhaseEnd hl hc he (u := (s.failErase s.jTarget).erEnd 10) rfl ?_⟩
    · exact ((NvcStep.refl (lo := 0) (hi := 0)).leads rfl).1
    · obtain ⟨hends, her, hout, -⟩ := failEnds (s := s) s.jTarget
      exact ⟨hends, her, hout⟩
  · intro n he
    obtain ⟨hstep, hnvc⟩ := jCopyStep_step (s := s) tick n
    by_cases hn : n < s.jCopies.length
    · refine .of_erPhaseEnd hl hc he (if_pos hn) ?_
      rw [if_pos hn]
      exact hstep.leads hnvc
    · rw [if_neg hn]
      cases g with
      | erase k => exact .of_erPhaseEnd hl hc he (if_neg hn) (hstep.leads hnvc)
      | mark v => exact .of_erPhaseEnd hl hc he (if_neg hn) (hstep.leads hnvc)
  · intro he
    obtain ⟨hstep, hnvc, hself, hothers⟩ := recorded_step (s := s) hk true tick 1
    refine ⟨.of_erPhaseEnd hl hc he (u := ((s.jAppend true tick 1 k 0).setDirty k true).erTo ⟨.erase k, .intent, false,
        tick⟩ .array) rfl ?_, .of_erPhaseEnd hl hc he (u := (s.jAppend false tick 1 k 0).erEnd 10) rfl ?_⟩
    · generalize (s.jAppend true tick 1 k 0).setDirty k true = x at hstep hnvc hself hothers
      obtain ⟨hleads, hout⟩ := hstep.leads hnvc
      exact ⟨hleads, hself, hout, hothers⟩
    · obtain ⟨hends, her, hout⟩ := (jAppend_step (s := s) false tick 1 k 0).erEnds (State.jAppend_nvc _ _ _ _ _) (code := 10)
      exact ⟨hends, her, (State.dirty_erEnd hk _).trans (State.dirty_jAppend hk _ _ _ _ _), hout⟩
  · intro he
    exact .of_erPhaseEnd hl hc he rfl (eraseLeads (by omega))
  · intro he
    refine ⟨.of_erPhaseEnd hl hc he rfl ⟨?_, rfl, rfl⟩,
      .of_erPhaseEnd hl hc he (u := (s.failErase k).erEnd 10) rfl ?_⟩
    · exact ((NvcStep.refl (lo := 0) (hi := 0)).leads rfl).1
    · obtain ⟨hends, her, hout, hdirty, hgran⟩ := failEnds (s := s) k
      exact ⟨hends, her, hdirty k hk, hgran, hout⟩
  · intro he hfree
    obtain ⟨hstep, hnvc, hself, hothers⟩ := recorded_step (s := s) hk false tick 2
    have hu : s.erPhaseEnd ⟨.erase k, .done, false, tick⟩ true =
        ((s.jAppend true tick 2 k 0).setDirty k false).erEnd 0 := by
      have hswitch : (if s.jFree = 0 then s.jSwitch else s) = s := if_neg (by omega)
      simp only [State.erPhaseEnd, hswitch]
      rfl
    obtain ⟨hends, her, hout⟩ := hstep.erEnds hnvc (code := 0)
    exact .of_erPhaseEnd hl hc he hu ⟨hends, her, (State.dirty_erEnd hk _).trans hself,
      fun j hj hne => (State.dirty_erEnd hj _).trans (hothers j hj hne), hout⟩
  · have hx : s.suspendEffect = (((s.nvcUpd (fun n => { n with
        er := some { e with suspended := true }, autoSusp := !n.suspReq, suspReq := false, autoReq := false })).put
        F.NVC_STAT_ESUSP 1).nvcDone) := by
      rw [State.suspendEffect, he]
      exact if_pos ⟨hl, hs, hp, hreq⟩
    refine ⟨_, congrArg Host.Outcome.next hx, rfl, ?_, ?_, State.raised_raise (by decide), Dev.frame ?_⟩
    · rw [State.nvcDone, State.on_raise, State.on_put_ne (by decide)]
      exact State.on_put_one
    · rw [State.nvcDone, State.on_raise]
      exact State.on_put_one
    · exact ((Dev.refl.nvcUpd.put).put).raise
  · have hx : s.autosuspResume = s.erResume := if_pos ⟨hl, by rw [State.erSuspended, he]; exact hs, hauto⟩
    refine ⟨_, congrArg Host.Outcome.next hx, ?_, State.on_put_zero, Dev.frame ?_⟩
    · rw [State.erResume, State.put_nvc, State.nvcUpd, he]
      rfl
    · exact Dev.refl.nvcUpd.put

end Sys2Proof.Machine
end

section
/-!
SUPPORT. Gates and returns (R125, R136, R137, R148, R150, R394).
-/

namespace Sys2Proof.Machine

section

variable {s u : State} {t : Tid} {n : Fin 64} {target w a : Word} {used : Vector Nat 3}

/-! ## Frames -/

theorem State.wordNow_of_empty (h : s.core.sb = []) (b : Nat) : s.wordNow b = s.word b := by
  rw [State.wordNow, State.sramNow, h]
  rfl

theorem State.setWordBe_all (b : Nat) (v : Word) : s.setWordBe b 15 v = s.setWord b v := rfl

/-- The words of a frame in SRAM, as stores that retire. -/
theorem State.storeFrame_sram (l : List Word) {b : Nat} (hlo : 0x20000000 ≤ b) (hhi : b + 4 * l.length ≤ 0x200C0000) :
    s.storeFrame t b l = s.writeWords b l := by
  induction l generalizing s b with
  | nil => rfl
  | cons v l ih =>
    rw [List.length_cons] at hhi
    have hin : inSram b = true := by
      simp only [inSram, Bool.and_eq_true, decide_eq_true_eq]
      omega
    have hret : s.retireEntry ⟨t, 3, b, .store 15 v⟩ = s.setWord b v := by
      simp only [State.retireEntry, hin]
      rfl
    have hnext : (b + 4) % 2 ^ 32 = b + 4 := Nat.mod_eq_of_lt (by omega)
    rw [State.storeFrame, State.writeWords, hret, hnext]
    exact ih (by omega) (by omega)

/-- The words of a ring-3 frame in SRAM that the access may reach. -/
theorem State.frameFault_none (k : Acc) (m : Nat) {b : Nat} (hhi : b + 4 * m ≤ 0x200C0000)
    (h : ∀ i, i < m → s.dataFault 3 (b + 4 * i) 4 k = none) : s.frameFault b k m = none := by
  induction m generalizing b with
  | zero => rfl
  | succ m ih =>
    have h0 : s.dataFault 3 b 4 k = none := h 0 (Nat.zero_lt_succ m)
    have hnext : (b + 4) % 2 ^ 32 = b + 4 := Nat.mod_eq_of_lt (by omega)
    rw [State.frameFault, h0, hnext]
    refine ih (by omega) fun i hi => ?_
    have hi' := h (i + 1) (Nat.succ_lt_succ hi)
    rwa [show b + 4 * (i + 1) = b + 4 + 4 * i by omega] at hi'

theorem inSram_bounds {b : Nat} (h : inSram b = true) : 0x20000000 ≤ b ∧ b < 0x200C0000 := by
  simpa only [inSram, Bool.and_eq_true, decide_eq_true_eq] using h

/-! ## Gates -/

theorem gateOk_iff {c r : Nat} : State.gateOk target w c r = true ↔ bitOf w 31 = true ∧ bitsOf w 4 27 = 0 ∧
    bitOf target 0 = false ∧ bitOf w c = true ∧ r ≤ c := by
  simp [State.gateOk, and_assoc]

/-- The frame a gate pushes. -/
def State.gateFrame (s : State) (t : Tid) (n : Fin 64) : State.Frame :=
  let x := s.thr t
  ⟨x.pc + 4, x.psw, State.infoWord 0x80 (s.cls t) t n.val, 0, 0, 0, x.reg 14, x.reg 15⟩

/-- The thread a gate leaves. -/
def State.gateThread (s : State) (t : Tid) (n : Fin 64) (target a : Word) (used : Vector Nat 3) : Thread :=
  { (({ s.thr t with fsUsed := used } : Thread).setReg 15 a).setRing (n.val / 16) with pc := target }

/-- The state of a gate that has been entered, its frame at `a`. -/
def State.gated (s : State) (t : Tid) (n : Fin 64) (target a : Word) (used : Vector Nat 3) : State :=
  (s.writeWords a.toNat (State.frameWords (s.gateFrame t n))).setThr t (s.gateThread t n target a used)

/-- A gate into ring 0 to 2, its frame on the thread's slice. -/
theorem State.gateEnter_slice {r : Fin 3} (h : CanPush s t r) (hr : n.val / 16 = r.val) : s.gateEnter t n target =
    s.gated t n target (s.pushAddr t r) ((s.thr t).fsUsed.set r ((s.thr t).fsUsed[r] + 32)) := by
  have hlt : n.val / 16 < 3 := hr.trans_lt r.isLt
  have hfin : (⟨n.val / 16, hlt⟩ : Fin 3) = r := Fin.ext hr
  unfold State.gateEnter
  rw [dif_pos hlt]
  dsimp only
  rw [hfin, State.pushFrame_eq h]
  simp only [State.thr_setThr_self, State.setThr_setThr]
  rfl

/-- A gate into ring 3, its frame on the caller's stack. -/
theorem State.gateEnter_stack (hr : n.val / 16 = 3) (hlo : inSram ((s.thr t).reg 15 - 32).toNat = true)
    (hhi : inSram (((s.thr t).reg 15 - 32).toNat + 31) = true) : s.gateEnter t n target =
    s.gated t n target ((s.thr t).reg 15 - 32) (s.thr t).fsUsed := by
  have hno : ¬n.val / 16 < 3 := by omega
  obtain ⟨hlo', -⟩ := inSram_bounds hlo
  obtain ⟨-, hhi'⟩ := inSram_bounds hhi
  have hstore := State.storeFrame_sram (s := s) (t := t) (State.frameWords (s.gateFrame t n)) hlo'
    (show _ + 4 * 8 ≤ _ by omega)
  unfold State.gateEnter
  rw [dif_neg hno]
  refine (congrArg (fun z : State => z.setThr t
    { ((z.thr t).setReg 15 ((s.thr t).reg 15 - 32)).setRing 3 with pc := target }) hstore).trans ?_
  simp only [State.thr_writeWords, State.gated, State.gateThread, hr]

/-- A gate that has been entered, its frame at `a`. -/
def GateEntered (s : State) (t : Tid) (n : Fin 64) (target a : Word) (u : State) : Prop :=
  let x := s.thr t
  let y := u.thr t
  y.pc = target ∧ y.ring = n.val / 16 ∧ y.lvl = x.lvl ∧ y.gm = x.gm ∧ y.fl = x.fl ∧ y.reg 15 = a ∧
    (∀ q, q ≠ 15 → y.reg q = x.reg q) ∧
    [u.word a.toNat, u.word (a.toNat + 4), u.word (a.toNat + 12), u.word (a.toNat + 16), u.word (a.toNat + 20),
      u.word (a.toNat + 24), u.word (a.toNat + 28)] = [x.pc + 4, x.psw, 0, 0, 0, x.reg 14, x.reg 15] ∧
    (u.word (a.toNat + 8)).toNat = 0x80 + s.cls t % 4 * 2 ^ 8 + t.val * 2 ^ 10 + n.val * 2 ^ 16 ∧
    (∀ b, b < a.toNat ∨ a.toNat + 32 ≤ b → u.byte b = s.byte b) ∧ (∀ v, v ≠ t → u.thr v = s.thr v) ∧
    u.core.sb = [] ∧ u.regs = s.regs ∧ BlocksSame s u

theorem State.gateThread_psw : (s.gateThread t n target a used).ring = n.val / 16 ∧
    (s.gateThread t n target a used).lvl = (s.thr t).lvl ∧ (s.gateThread t n target a used).gm = (s.thr t).gm ∧
    (s.gateThread t n target a used).fl = (s.thr t).fl := by
  have hn := n.isLt
  refine ⟨?_, ?_, ?_, ?_⟩
  · exact (mkPsw_ring _ _ _ _).trans (Nat.mod_eq_of_lt (by omega))
  · exact (mkPsw_lvl _ _ _ _).trans (Nat.mod_eq_of_lt (Nat.mod_lt _ (by decide)))
  · exact mkPsw_gm _ _ _ _
  · exact mkPsw_fl (s.thr t) _ _ _ _

/-- The INFO word of a gate's frame. -/
theorem State.gateInfo_toNat : (State.infoWord 0x80 (s.cls t) t n.val).toNat =
    0x80 + s.cls t % 4 * 2 ^ 8 + t.val * 2 ^ 10 + n.val * 2 ^ 16 := by
  have hn := n.isLt
  have ht := t.isLt
  rw [State.infoWord, BitVec.toNat_ofNat]
  omega

/-- A state that differs by memory and one thread alone. -/
theorem State.setThr_of_mem {v : State} (h : v = { s with mem := v.mem }) (y : Thread) :
    BlocksSame s (v.setThr t y) ∧ (v.setThr t y).regs = s.regs ∧
      (v.setThr t y).core = { s.core with threads := (v.setThr t y).core.threads } := by
  rw [h]
  exact ⟨.of_core rfl, rfl, rfl⟩

/-- A gate that has been entered, after its accounting. -/
theorem GateEntered.of_gated {m : Nat} (hr : Runs s t 4) (hb : InBudget s t m) (hsb : s.core.sb = []) :
    GateEntered s t n target a (State.account s ((s.gated t n target a used).tickFree) t m) ∧
      ((State.account s ((s.gated t n target a used).tickFree) t m).thr t).fsUsed = used := by
  obtain ⟨hring, hlvl, hgm, hfl⟩ := State.gateThread_psw (s := s) (t := t) (n := n) (target := target) (a := a) (used := used)
  have hrest := State.writeWords_rest (s := s) (State.frameWords (s.gateFrame t n)) a.toNat
  have hthr : (s.gated t n target a used).thr t = s.gateThread t n target a used := State.thr_setThr_self _ _ _
  have hothers : ∀ v, v ≠ t → (s.gated t n target a used).thr v = s.thr v := fun v hv =>
    (State.thr_setThr_ne _ t v _ hv).trans (State.thr_writeWords _ _)
  have hmem : (s.gated t n target a used).mem = (s.writeWords a.toNat (State.frameWords (s.gateFrame t n))).mem := rfl
  have hsame : BlocksSame s (s.gated t n target a used) ∧ (s.gated t n target a used).regs = s.regs ∧
      (s.gated t n target a used).core = { s.core with threads := (s.gated t n target a used).core.threads } := by
    exact State.setThr_of_mem hrest _
  generalize s.gated t n target a used = z at hthr hothers hmem hsame
  obtain ⟨hblocks0, hregs, hcore⟩ := hsame
  have hfree : BlocksSame z z.tickFree := .of_core rfl
  obtain ⟨⟨hself, hother⟩, -, -, hsb', hregs', hmem', hblocks⟩ := State.account_frame (s1 := z.tickFree) (n := m) hr hb
    (by rw [State.tickFree_core, hcore]) (by rw [← hgm, ← hthr]; rfl)
  generalize State.account s z.tickFree t m = u at hself hother hsb' hregs' hmem' hblocks
  have hframe := State.words_of_frame (s.gateFrame t n) a.toNat (hmem'.trans hmem)
  have hzsb : z.core.sb = [] := by rw [hcore]; exact hsb
  have hthr' : z.tickFree.thr t = _ := hthr
  simp only [List.cons.injEq, and_true] at hframe
  obtain ⟨h0, h4, h8, h12, h16, h20, h24, h28⟩ := hframe
  unfold GateEntered
  rw [hthr'] at hself
  simp only [hself]
  refine ⟨⟨rfl, hring, hlvl, hgm, hfl, ?_, fun q hq => ?_, ?_, ?_, fun b hb => ?_, fun v hv => ?_, hsb'.trans hzsb,
    hregs'.trans hregs, (hblocks0.trans hfree).trans hblocks⟩, rfl⟩
  · exact Thread.reg_setReg_self { s.thr t with fsUsed := used } 15 a
  · exact Thread.reg_setReg_ne { s.thr t with fsUsed := used } a (Ne.symm hq)
  · simp only [h0, h4, h12, h16, h20, h24, h28]
    rfl
  · rw [h8]
    exact State.gateInfo_toNat
  · exact State.byte_of_frame _ _ (hmem'.trans hmem) hb
  · exact (hother v hv).trans (hothers v hv)

/-- The entry of a gate is read from SRAM. -/
def GateReads (s : State) (n : Fin 64) : Prop :=
  (s.gateAddr n).toNat % 8 = 0 ∧ inSram (s.gateAddr n).toNat = true ∧ s.protAllows 0 (s.gateAddr n).toNat accR = true ∧
    s.domOff (s.gateAddr n).toNat = false

/-- A gate comes to what its entry says. -/
theorem State.gate_of_reads (hr : Runs s t 4) (hsb : s.core.sb = []) (hreads : GateReads s n) {res : Res}
    (hread : s.gateRead t (s.thr t) n (s.gateAddr n) (s.word (s.gateAddr n).toNat) (s.word ((s.gateAddr n).toNat + 4)) =
      res) : s.gate t n = s.issue t 4 fun _ _ => res := by
  obtain ⟨h8, hin, hprot, hdom⟩ := hreads
  have hplace : ¬((s.gateAddr n).toNat % 8 ≠ 0 ∨ (inSram (s.gateAddr n).toNat = false ∧
      inFlash (s.gateAddr n).toNat = false)) := by simp [h8, hin]
  rw [State.gate, State.issue_of_runs hr, State.issue_of_runs hr]
  dsimp only
  rw [if_neg hplace, if_neg (by simp [hprot]), if_neg (by simp [hdom]), if_pos hin, State.wordNow_of_empty hsb,
    State.wordNow_of_empty hsb, hread]

/-- A gate whose entry lets the thread in. -/
theorem State.gateRead_done (hok : State.gateOk target w (s.thr t).ring (n.val / 16) = true) (hsb : s.core.sb = [])
    (hframe : n.val / 16 = 3 → s.frameFault ((s.thr t).reg 15 - 32).toNat accW 8 = none) :
    s.gateRead t (s.thr t) n a target w = .done ((s.gateEnter t n target).tickFree) s.gateCycles := by
  have hnone : (if n.val / 16 = 3 then s.frameFault ((s.thr t).reg 15 - 32).toNat accW 8 else none) = none := by
    split
    next h => exact hframe h
    next => rfl
  rw [State.gateRead, if_neg (by rw [hok]; decide)]
  dsimp only
  rw [hnone, State.drainSb_of_empty hsb]

theorem State.gateCycles_le (s : State) : s.gateCycles ≤ 48 := by
  have := Nat.mod_lt s.fresh (y := 43) (by decide)
  unfold State.gateCycles
  omega

end

/-- Settles O20. -/
theorem gatePushesItsFrame : Obligations.GatePushesItsFrame := by
  intro s t n hr x e target w reads allows enters
  have hok : State.gateOk target w x.ring (n.val / 16) = true ↔ allows := gateOk_iff
  refine ⟨fun hb hbad => ?_, fun hb hsb hreads hallows => ⟨fun r span hn hspan hroom ha => ?_, fun hn hlo hhi hf => ?_⟩⟩
  · by_cases hplace : e % 8 ≠ 0 ∨ (inSram e = false ∧ inFlash e = false)
    · exact FaultsWith.of_flt rfl hr hb (if_pos hplace)
    · obtain ⟨hsb, hreads, hno⟩ : s.core.sb = [] ∧ reads ∧ ¬allows := by tauto
      have hread : s.gateRead t x n (s.gateAddr n) target w = .flt cGATE (s.gateAddr n) :=
        if_pos (Bool.eq_false_iff.mpr (mt hok.mp hno))
      exact FaultsWith.of_flt (congrArg Host.Outcome.next (State.gate_of_reads hr hsb hreads hread)) hr hb rfl
  · have hin : CanPush s t r := ⟨hsb, ⟨span, hspan, hroom⟩, ha⟩
    have hread : s.gateRead t x n (s.gateAddr n) target w = _ :=
      State.gateRead_done (hok.mpr hallows) hsb fun h3 => absurd (hn.symm.trans h3) r.isLt.ne
    rw [State.gateEnter_slice hin hn] at hread
    obtain ⟨hentered, hused⟩ := GateEntered.of_gated (n := n) (target := target) (a := s.pushAddr t r)
      (used := x.fsUsed.set r (x.fsUsed[r] + 32)) hr (hb.mono s.gateCycles_le) hsb
    refine Gives.of_done (congrArg Host.Outcome.next (State.gate_of_reads hr hsb hreads hread)) hr rfl ⟨hentered, ?_⟩
    rw [hused]
    exact Vector.getElem_set_self _
  · have hend : (x.reg 15 - 32).toNat + 4 * 8 ≤ 0x200C0000 := by
      obtain ⟨-, hhi'⟩ := inSram_bounds hhi
      exact hhi'
    have hread : s.gateRead t x n (s.gateAddr n) target w = _ :=
      State.gateRead_done (hok.mpr hallows) hsb fun _ => State.frameFault_none accW 8 hend hf
    rw [State.gateEnter_stack hn hlo hhi] at hread
    exact Gives.of_done (congrArg Host.Outcome.next (State.gate_of_reads hr hsb hreads hread)) hr rfl
      (GateEntered.of_gated hr (hb.mono s.gateCycles_le) hsb)

section

variable {s u : State} {t : Tid} {i : Instr} {f : State.Frame} {m : Nat}

/-! ## Returns -/

/-- The frame that the eight words at `a` make. -/
def State.frameIn (s : State) (a : Nat) : State.Frame := State.frameOf fun i => s.word (a + 4 * i)

theorem State.frameAt_of_empty (h : s.core.sb = []) (a : Nat) : s.frameAt a = s.frameIn a := by
  have hnow : s.sramNow = s := by
    rw [State.sramNow, h]
    rfl
  rw [State.frameAt, hnow, State.frameIn]

/-- The words of a ring-3 frame in SRAM. -/
theorem State.popWords_sram (hsb : s.core.sb = []) (m : Nat) {b : Nat} (hlo : 0x20000000 ≤ b)
    (hhi : b + 4 * m ≤ 0x200C0000) :
    s.popWords t b m = .words s ((List.range m).map fun i => s.word (b + 4 * i)) := by
  induction m generalizing b with
  | zero => rfl
  | succ m ih =>
    have hin : inSram b = true := by
      simp only [inSram, Bool.and_eq_true, decide_eq_true_eq]
      omega
    have hload : s.frameLoad t b = .val s (s.word b) := by
      rw [State.frameLoad, if_pos hin, State.wordNow_of_empty hsb]
    have hnext : (b + 4) % 2 ^ 32 = b + 4 := Nat.mod_eq_of_lt (by omega)
    rw [State.popWords, hload]
    dsimp only
    rw [hnext, ih (by omega) (by omega)]
    dsimp only
    rw [List.range_succ_eq_map, List.map_cons, List.map_map]
    refine congrArg (fun l => State.PopRes.words s (s.word b :: l)) (List.map_congr_left fun j _ => ?_)
    exact congrArg s.word (by simp only [Nat.succ_eq_add_one]; omega)

theorem State.frameOf_words (a : Nat) :
    State.frameOf (fun i => ((List.range 8).map fun i => s.word (a + 4 * i)).getD i 0) = s.frameIn a := by
  simp [State.frameOf, State.frameIn, List.range_succ]

/-- The PSW that a return restores, field by field (R150). -/
theorem retPsw_fields {y : Thread} {cur lvl : Nat} {w : Word} (hcur : cur ≤ 3) (hy : y.psw = State.retPsw cur lvl w) :
    y.fl = ⟨bitOf w 8, bitOf w 9, bitOf w 10, bitOf w 11⟩ ∧ y.ring = max (bitsOf w 4 2) cur ∧
      y.gm = (cur == 0 && bitOf w 3) ∧ y.lvl = if 2 ≤ cur then min (bitsOf w 0 3) lvl else bitsOf w 0 3 := by
  have hlvl : bitsOf w 0 3 < 8 := Nat.mod_lt _ (by decide)
  have hring : bitsOf w 4 2 < 4 := Nat.mod_lt _ (by decide)
  refine ⟨mkPsw_fl { y with psw := w } y _ _ _ hy, ?_, ?_, ?_⟩
  · rw [Thread.ring, hy, State.retPsw, mkPsw_ring]
    exact Nat.mod_eq_of_lt (by omega)
  · rw [Thread.gm, hy, State.retPsw, mkPsw_gm]
  · rw [Thread.lvl, hy, State.retPsw, mkPsw_lvl]
    exact Nat.mod_eq_of_lt (by split <;> omega)

/-- The registers that a return restores. -/
theorem restored_regs (x : Thread) (isGate : Bool) : (State.restored x f isGate).reg 14 = f.g14 ∧
    (State.restored x f isGate).reg 15 = f.g15 ∧
    (State.restored x f isGate).reg 0 = (if isGate then x.reg 0 else f.g0) ∧
    (State.restored x f isGate).reg 1 = (if isGate then x.reg 1 else f.g1) ∧
    ∀ q, q ≠ 0 → q ≠ 1 → q ≠ 14 → q ≠ 15 → (State.restored x f isGate).reg q = x.reg q := by
  have key : ∀ q, (State.restored x f isGate).reg q = (if isGate then (x.setReg 14 f.g14).setReg 15 f.g15
      else (((x.setReg 14 f.g14).setReg 15 f.g15).setReg 0 f.g0).setReg 1 f.g1).reg q := fun q => by
    unfold State.restored
    dsimp only
    split
    next => rfl
    next => rfl
  simp only [key]
  cases isGate
  · simp only [Bool.false_eq_true, if_false]
    refine ⟨?_, ?_, ?_, Thread.reg_setReg_self _ _ _, fun q h0 h1 h14 h15 => ?_⟩
    · rw [Thread.reg_setReg_ne _ _ (by decide), Thread.reg_setReg_ne _ _ (by decide), Thread.reg_setReg_ne _ _ (by decide),
        Thread.reg_setReg_self]
    · rw [Thread.reg_setReg_ne _ _ (by decide), Thread.reg_setReg_ne _ _ (by decide), Thread.reg_setReg_self]
    · rw [Thread.reg_setReg_ne _ _ (by decide), Thread.reg_setReg_self]
    · rw [Thread.reg_setReg_ne _ _ h1.symm, Thread.reg_setReg_ne _ _ h0.symm, Thread.reg_setReg_ne _ _ h15.symm,
        Thread.reg_setReg_ne _ _ h14.symm]
  · simp only [if_true]
    refine ⟨?_, Thread.reg_setReg_self _ _ _, ?_, ?_, fun q h0 h1 h14 h15 => ?_⟩
    · rw [Thread.reg_setReg_ne _ _ (by decide), Thread.reg_setReg_self]
    · rw [Thread.reg_setReg_ne _ _ (by decide), Thread.reg_setReg_ne _ _ (by decide)]
    · rw [Thread.reg_setReg_ne _ _ (by decide), Thread.reg_setReg_ne _ _ (by decide)]
    · rw [Thread.reg_setReg_ne _ _ h15.symm, Thread.reg_setReg_ne _ _ h14.symm]

theorem restored_rest (x : Thread) (isGate : Bool) : (State.restored x f isGate).pc = f.pc &&& 0xFFFFFFFE ∧
    (State.restored x f isGate).psw = State.retPsw x.ring x.lvl f.psw ∧
    (State.restored x f isGate).fsUsed =
      if h : x.ring < 3 then x.fsUsed.set x.ring (x.fsUsed[x.ring] - 32) else x.fsUsed := by
  refine ⟨rfl, rfl, ?_⟩
  unfold State.restored
  dsimp only
  cases isGate
  · split
    next => rfl
    next => rfl
  · split
    next => rfl
    next => rfl

/-- The GALE handler that still runs after a return. -/
def State.galeAfter (s : State) (t : Tid) : Option GaleRun :=
  if (s.endsGale t (s.thr t)).isSome then none else s.core.gale

/-- The state of a return, before its accounting. -/
def State.returned (s : State) (t : Tid) (f : State.Frame) : State :=
  ((s.setThr t (State.restored (s.thr t) f (bitsOf f.info 0 8 == 0x80))).put (F.EVT_TCFG_CLASS t)
    (s.retClass t (s.thr t) f (bitsOf f.info 0 8 == 0x80))).coreUpd fun c => { c with gale := s.galeAfter t }

/-- A return within the budgets. -/
theorem State.restoreFrame_eq (hsb : s.core.sb = []) (hg : ∀ g ∈ s.core.gale, g.tid = t → g.count + m ≤ 256) :
    s.restoreFrame t (s.thr t) f m = .done (s.returned t f) m := by
  unfold State.restoreFrame State.returned State.galeAfter
  dsimp only
  split
  case h_1 g hend =>
    have hgale : s.core.gale = some g ∧ g.tid = t := by
      unfold State.endsGale at hend
      split at hend
      · rename_i g' hg'
        split at hend
        · rename_i hcond
          cases hend
          exact ⟨hg', hcond.1⟩
        · cases hend
      · cases hend
    obtain ⟨hgale, htid⟩ := hgale
    have hcount := hg g hgale htid
    have hno : ¬257 ≤ g.count + m := by omega
    rw [if_neg (not_not.mpr hsb), if_neg hno, hend]
    rfl
  case h_2 hend =>
    rw [hend]
    rfl

/-- What a return leaves (R150). -/
def Popped (s : State) (t : Tid) (a : Nat) (u : State) : Prop :=
  let x := s.thr t
  let y := u.thr t
  let w := s.word (a + 4)
  let isGate := bitsOf (s.word (a + 8)) 0 8 = 0x80
  y.pc = s.word a &&& 0xFFFFFFFE ∧ y.fl = ⟨bitOf w 8, bitOf w 9, bitOf w 10, bitOf w 11⟩ ∧
    y.ring = max (bitsOf w 4 2) x.ring ∧ y.gm = (x.ring == 0 && bitOf w 3) ∧
    y.lvl = (if 2 ≤ x.ring then min (bitsOf w 0 3) x.lvl else bitsOf w 0 3) ∧
    y.reg 14 = s.word (a + 24) ∧ y.reg 15 = s.word (a + 28) ∧
    (isGate → y.reg 0 = x.reg 0 ∧ y.reg 1 = x.reg 1 ∧ u.cls t = s.cls t) ∧
    (¬isGate → y.reg 0 = s.word (a + 16) ∧ y.reg 1 = s.word (a + 20) ∧
      u.cls t = if 2 ≤ x.ring then min (bitsOf (s.word (a + 8)) 8 2) (s.cls t) else bitsOf (s.word (a + 8)) 8 2) ∧
    (∀ q, q ≠ 0 → q ≠ 1 → q ≠ 14 → q ≠ 15 → y.reg q = x.reg q) ∧
    (∀ v, v ≠ t → u.thr v = s.thr v) ∧ OnlyFields s u [F.EVT_TCFG_CLASS t] ∧ u.core.sb = [] ∧ MemorySame s u ∧
    BlocksSame s u ∧
    (∀ g, s.core.gale = some g → g.tid = t → x.ring = 0 → x.fsUsed[0] = g.frameUsed → u.core.gale = none)

theorem State.galeAfter_some {g : GaleRun} (h : s.galeAfter t = some g) : s.core.gale = some g := by
  unfold State.galeAfter at h
  split at h
  · cases h
  · exact h

/-- The return that pops the frame of the running GALE handler ends its span. -/
theorem State.galeAfter_none {g : GaleRun} (hg : s.core.gale = some g) (ht : g.tid = t) (h0 : (s.thr t).ring = 0)
    (hu : (s.thr t).fsUsed[0] = g.frameUsed) : s.galeAfter t = none := by
  have hend : s.endsGale t (s.thr t) = some g := by
    unfold State.endsGale
    rw [hg]
    exact if_pos ⟨ht, h0, hu⟩
  rw [State.galeAfter, hend]
  rfl

theorem State.retClass_lt (hcls : s.cls t ≤ 3) (x : Thread) (isGate : Bool) : s.retClass t x f isGate < 4 := by
  have hc : bitsOf f.info 8 2 < 4 := Nat.mod_lt _ (by decide)
  unfold State.retClass
  dsimp only
  split_ifs <;> omega

/-- What a return changes, before its accounting. -/
theorem State.returned_facts (hcls : s.cls t ≤ 3) : let isGate := bitsOf f.info 0 8 == 0x80
    (s.returned t f).thr t = State.restored (s.thr t) f isGate ∧ (∀ v, v ≠ t → (s.returned t f).thr v = s.thr v) ∧
      OnlyFields s (s.returned t f) [F.EVT_TCFG_CLASS t] ∧
      (s.returned t f).cls t = s.retClass t (s.thr t) f isGate ∧ (s.returned t f).mem = s.mem ∧
      (s.returned t f).core.sb = s.core.sb ∧ (s.returned t f).core.gale = s.galeAfter t ∧
      (s.returned t f).core.squall = s.core.squall ∧ (s.returned t f).core.gmHold = s.core.gmHold ∧
      BlocksSame s (s.returned t f) := by
  intro isGate
  refine ⟨State.thr_setThr_self s t _, fun v hv => State.thr_setThr_ne s t v _ hv, fun g hg => ?_, ?_, rfl, rfl, rfl, rfl,
    rfl, .of_core rfl⟩
  · have hne : (F.EVT_TCFG_CLASS t).key ≠ g.key := fun e => hg (by simp [e])
    exact (State.get_put_ne _ _ _ _ hne).trans (State.get_setThr _ _ _ _)
  · exact State.get_put_lt (s := s.setThr t _) (State.retClass_lt hcls _ _)

/-- A return, after its accounting. -/
theorem Popped.of_returned (hr : Runs s t 2) (hb : InBudget s t m) (hhold : s.core.gmHold + m ≤ 48) (hcls : s.cls t ≤ 3)
    (hsb : s.core.sb = []) (a : Nat) :
    Popped s t a (State.account s (s.returned t (s.frameIn a)) t m) ∧
      ((State.account s (s.returned t (s.frameIn a)) t m).thr t).fsUsed =
        if h : (s.thr t).ring < 3 then (s.thr t).fsUsed.set (s.thr t).ring ((s.thr t).fsUsed[(s.thr t).ring] - 32)
        else (s.thr t).fsUsed := by
  obtain ⟨hthr, hothers, hfields, hzcls, hmem, hzsb, hgale, hsq, hgm, hblocks⟩ :=
    State.returned_facts (s := s) (t := t) (f := s.frameIn a) hcls
  generalize s.returned t (s.frameIn a) = z at hthr hothers hfields hzcls hmem hzsb hgale hsq hgm hblocks
  have hacc := State.account_eq (s0 := s) (s := z) (t := t) (n := m) (hsq.trans (State.canIssue_squall hr.1))
    (fun g hg => hb.1 g (State.galeAfter_some (hgale ▸ hg))) (fun _ => by rw [hgm]; exact hhold)
  have hself : (State.account s z t m).thr t = { z.thr t with icnt := (z.thr t).icnt + BitVec.ofNat 32 m } := by
    rw [hacc]
    simp [State.thr]
  have hother : ∀ v, v ≠ t → (State.account s z t m).thr v = s.thr v := fun v hv => by
    rw [hacc]
    exact (State.thr_setThr_ne z t v _ hv).trans (hothers v hv)
  have hregs : (State.account s z t m).regs = z.regs := by rw [hacc]
  have hrest : (State.account s z t m).core.sb = [] ∧ (State.account s z t m).mem = s.mem ∧
      BlocksSame s (State.account s z t m) := by
    rw [hacc]
    exact ⟨hzsb.trans hsb, hmem, hblocks.trans (.of_core rfl)⟩
  have hend : z.core.gale = none → (State.account s z t m).core.gale = none := fun h => by
    rw [hacc]
    simp [h]
  generalize State.account s z t m = u at hself hother hregs hrest hend
  obtain ⟨husb, humem, hublocks⟩ := hrest
  have hucls : u.cls t = s.retClass t (s.thr t) (s.frameIn a) (bitsOf (s.frameIn a).info 0 8 == 0x80) :=
    (State.get_of_regs hregs _).trans hzcls
  obtain ⟨h14, h15, h0, h1, hregs'⟩ := restored_regs (f := s.frameIn a) (s.thr t) (bitsOf (s.frameIn a).info 0 8 == 0x80)
  obtain ⟨hpc, hpsw, hused⟩ := restored_rest (f := s.frameIn a) (s.thr t) (bitsOf (s.frameIn a).info 0 8 == 0x80)
  obtain ⟨hfl, hring, hgm', hlvl⟩ := retPsw_fields (Thread.ring_le_three _) hpsw
  rw [hthr] at hself
  unfold Popped
  rw [hself]
  refine ⟨⟨hpc, hfl, hring, hgm', hlvl, h14, h15, fun hg => ?_, fun hg => ?_, hregs', hother,
    fun g hg => (State.get_of_regs hregs g).trans (hfields g hg), husb, MemorySame.of_mem humem, hublocks,
    fun g hg ht hr0 hu => hend (hgale.trans (State.galeAfter_none hg ht hr0 hu))⟩, hused⟩
  · have hgate : (bitsOf (s.frameIn a).info 0 8 == 0x80) = true := beq_iff_eq.mpr hg
    exact ⟨h0.trans (if_pos hgate), h1.trans (if_pos hgate), hucls.trans (if_pos hgate)⟩
  · have hgate : (bitsOf (s.frameIn a).info 0 8 == 0x80) = false := beq_eq_false_iff_ne.mpr hg
    have hno := Bool.eq_false_iff.mp hgate
    exact ⟨h0.trans (if_neg hno), h1.trans (if_neg hno), hucls.trans (if_neg hno)⟩

/-- A return comes to the frame that it pops. -/
theorem Gives.ret (hx : exec i s = .next (s.ret t m)) (hr : Runs s t 2) (hb : InBudget s t m)
    (hhold : s.core.gmHold + m ≤ 48) (hcls : s.cls t ≤ 3) (hsb : s.core.sb = []) {a : Word}
    (hat : s.popAt t (s.thr t) = .ok a) (hwords : ¬(s.thr t).ring < 3 → a.toNat + 32 ≤ 0x200C0000 ∧ 0x20000000 ≤ a.toNat) :
    Gives i s fun u => Popped s t a.toNat u ∧ (u.thr t).fsUsed =
      if h : (s.thr t).ring < 3 then (s.thr t).fsUsed.set (s.thr t).ring ((s.thr t).fsUsed[(s.thr t).ring] - 32)
      else (s.thr t).fsUsed := by
  refine Gives.of_done hx hr ?_ (Popped.of_returned hr hb hhold hcls hsb a.toNat)
  rw [hat]
  dsimp only
  by_cases hring : (s.thr t).ring < 3
  · rw [if_pos hring, State.frameAt_of_empty hsb]
    exact State.restoreFrame_eq hsb hb.1
  · obtain ⟨hhi, hlo⟩ := hwords hring
    rw [if_neg hring, State.popWords_sram hsb 8 hlo hhi]
    dsimp only
    rw [State.frameOf_words]
    exact State.restoreFrame_eq hsb hb.1

/-- Where a return of ring 0 to 2 pops its frame. -/
theorem State.popAt_slice {r : Fin 3} (hring : (s.thr t).ring = r.val) : s.popAt t (s.thr t) =
    if (s.thr t).fsUsed[r] = 0 then .error (cBUS, s.sliceTop t r)
    else if (s.fsp t r).toNat % 4 ≠ 0 then .error (cALIGN, s.fsp t r)
    else if inSram (s.fsp t r).toNat ∧ inSram ((s.fsp t r).toNat + 31) then .ok (s.fsp t r)
    else .error (cBUS, s.fsp t r) := by
  have hlt : (s.thr t).ring < 3 := hring.trans_lt r.isLt
  obtain rfl : r = ⟨(s.thr t).ring, hlt⟩ := Fin.ext hring.symm
  exact dif_pos hlt

theorem State.popAt_stack (hring : (s.thr t).ring = 3) (hf : s.frameFault ((s.thr t).reg 15).toNat accR 8 = none) :
    s.popAt t (s.thr t) = .ok ((s.thr t).reg 15) := by
  unfold State.popAt
  rw [dif_neg (by omega), hf]

/-- One frame less on the slice. -/
theorem fsUsed_popped {x : Thread} {used : Vector Nat 3} {r : Fin 3} (hring : x.ring = r.val)
    (h : used = if h : x.ring < 3 then x.fsUsed.set x.ring (x.fsUsed[x.ring] - 32) else x.fsUsed) :
    used[r] = x.fsUsed[r] - 32 := by
  obtain ⟨k, hk⟩ := r
  dsimp only at hring
  subst hring
  rw [h, dif_pos hk]
  exact Vector.getElem_set_self hk

end

/-- Settles O21. -/
theorem returnsRestoreTheFrame : Obligations.ReturnsRestoreTheFrame := by
  intro s t hr hb hhold hcls x popped
  have hb6 : InBudget s t 6 := hb.mono (by decide)
  have hb1 : InBudget s t 1 := hb.mono (by decide)
  have hhold6 : s.core.gmHold + 6 ≤ 48 := by omega
  refine ⟨fun r hring => ⟨fun h0 => ?_, fun hsb hused ha hlo hhi => ?_⟩, fun hring hsb hlo hhi hf => ?_⟩
  · have hat : s.popAt t x = .error (cBUS, s.sliceTop t r) := (State.popAt_slice hring).trans (if_pos h0)
    exact ⟨FaultsWith.of_flt rfl hr hb1 (by rw [hat]; rfl), FaultsWith.of_flt rfl hr hb1 (by rw [hat]; rfl)⟩
  · have hlt : x.ring < 3 := hring.trans_lt r.isLt
    have hat : s.popAt t x = .ok (s.fsp t r) := by
      rw [State.popAt_slice hring, if_neg hused, if_neg (not_not.mpr ha), if_pos ⟨hlo, hhi⟩]
    obtain ⟨u, hu, hpop, hfs⟩ := Gives.ret (i := .rete t) rfl hr hb hhold hcls hsb hat (fun h => absurd hlt h)
    obtain ⟨v, hv, hpop', hfs'⟩ := Gives.ret (i := .retg t) rfl hr hb6 hhold6 hcls hsb hat (fun h => absurd hlt h)
    exact ⟨⟨u, hu, hpop, fsUsed_popped hring hfs⟩, ⟨v, hv, hpop', fsUsed_popped hring hfs'⟩⟩
  · have hno : ¬x.ring < 3 := by omega
    have hbounds : (x.reg 15).toNat + 32 ≤ 0x200C0000 ∧ 0x20000000 ≤ (x.reg 15).toNat := by
      obtain ⟨hlo', -⟩ := inSram_bounds hlo
      obtain ⟨-, hhi'⟩ := inSram_bounds hhi
      exact ⟨hhi', hlo'⟩
    have hat : s.popAt t x = .ok (x.reg 15) := State.popAt_stack hring (State.frameFault_none accR 8 hbounds.1 hf)
    obtain ⟨u, hu, hpop, hfs⟩ := Gives.ret (i := .rete t) rfl hr hb hhold hcls hsb hat (fun _ => hbounds)
    obtain ⟨v, hv, hpop', hfs'⟩ := Gives.ret (i := .retg t) rfl hr hb6 hhold6 hcls hsb hat (fun _ => hbounds)
    exact ⟨⟨u, hu, hpop, hfs.trans (dif_neg hno)⟩, ⟨v, hv, hpop', hfs'.trans (dif_neg hno)⟩⟩

end Sys2Proof.Machine
end

section
/-!
SUPPORT. Loads that return: from register windows (R97, R393), the tick instruction (R128), and a flash miss (R160).
-/

namespace Sys2Proof.Machine

section

variable {s u z : State} {t : Tid} {gd : Gpr} {a len : Nat} {v : Word} {fs : List Fld} {bs : List Block} {i : Instr}

/-- A load whose request waits at its island with every write ahead of it applied. -/
def LoadWaits (s : State) (t : Tid) (gd : Gpr) (len a : Nat) : Prop :=
  (s.thr t).stall = some (.window ⟨a, gd, len, 0⟩) ∧ s.domOff a = false

/-- A load has returned `v`: its thread goes on, and of the device only the fields `fs` and the blocks `bs` may have
changed. -/
def LoadReturned (s : State) (t : Tid) (gd : Gpr) (len : Nat) (v : Word) (fs : List Fld) (bs : List Block) (u : State) :
    Prop :=
  u.thr t = { (s.thr t).setReg gd v with pc := (s.thr t).pc + BitVec.ofNat 32 len, stall := none } ∧
    (∀ w, w ≠ t → u.thr w = s.thr w) ∧ u.core.sb = s.core.sb ∧ OnlyFields s u fs ∧ BlocksBut bs s u ∧ MemorySame s u

/-- The state a load leaves that has returned `v`, where its read has left the device as `z`. -/
def State.goesOn (z : State) (t : Tid) (gd : Gpr) (len : Nat) (v : Word) : State :=
  z.advance t len { (z.thr t).setReg gd v with stall := none }

theorem LoadReturned.of_dev (h : Dev (keysOf fs) bs [] s z) : LoadReturned s t gd len v fs bs (z.goesOn t gd len v) := by
  have hthr : ∀ w, z.thr w = s.thr w := fun w => by rw [State.thr, h.coreSame, State.thr]
  have hblocks : BlocksBut bs z (z.goesOn t gd len v) := BlocksBut.weaken (by simp [BlocksBut, State.goesOn, State.advance])
  have hmem : (z.goesOn t gd len v).mem = z.mem := rfl
  have hsb : z.core.sb = s.core.sb := by rw [h.coreSame]
  refine ⟨?_, fun w hw => ?_, hsb, fun g hg => ?_, h.blocks.trans hblocks,
    MemorySame.of_mem (hmem.trans h.mem)⟩
  · rw [State.goesOn, State.advance, State.thr_setThr_self, hthr]
    rfl
  · rw [State.goesOn, State.advance, State.thr_setThr_ne _ _ _ _ hw, hthr]
  · exact (State.get_setThr _ _ _ _).trans (h.keys g hg)

theorem State.loadReturn_eq (hlive : s.coreLive = true) (h : LoadWaits s t gd len a) (hr : s.regRead t a = (v, z)) :
    s.loadReturn t ⟨a, gd, len, 0⟩ = z.goesOn t gd len v := by
  have hno : ¬(s.coreLive = false ∨ 0 ≠ 0) := by simp [hlive]
  rw [State.loadReturn, if_neg hno, if_neg (Bool.eq_false_iff.mp h.2), hr]
  rfl

/-- A load of a register with a read of its own returns. -/
theorem Gives.readReturn {p : State → Prop} (hx : exec i s = .next (s.readReturn t gd a)) (hlive : s.coreLive = true)
    (h : LoadWaits s t gd len a) (hr : s.regRead t a = (v, z)) (hp : p (z.goesOn t gd len v)) : Gives i s p := by
  refine ⟨_, hx.trans (congrArg Host.Outcome.next ?_), hp⟩
  rw [State.readReturn, h.1]
  exact (if_pos ⟨rfl, rfl⟩).trans (State.loadReturn_eq hlive h hr)

theorem State.windowReturn_load {ld : LoadReq} (h : (s.thr t).stall = some (.window ld)) :
    s.windowReturn t = s.loadReturn t ld := by
  rw [State.windowReturn, h]

theorem State.windowReturn_tick {ahead : Nat} (h : (s.thr t).stall = some (.tick gd ahead)) :
    s.windowReturn t = s.tickReturn t gd ahead := by
  rw [State.windowReturn, h]

/-! ## The reads that act -/

theorem State.regRead_tickl : s.regRead t 0x40024000 = s.ticklRead t := rfl
theorem State.regRead_evf0 : s.regRead t 0x40024040 = s.evf0Read t := rfl
theorem State.regRead_adcFifo : s.regRead t 0x40012010 = s.adcFifoRead := rfl

theorem State.regRead_cq (p : Fin 2) : s.regRead t (0x40014110 + 0x1000 * p.val) = s.cqRead p := by
  have hp : State.cqOf (0x40014110 + 0x1000 * p.val) = some p := by decide +revert
  rw [State.regRead, hp]

theorem State.regRead_uartData (n : Fin 5) : s.regRead t (0x4001C008 + 0x1000 * n.val) = s.uartDataRead n := by
  have hcq : State.cqOf (0x4001C008 + 0x1000 * n.val) = none := by decide +revert
  have hdata : State.dataOf (0x4001C008 + 0x1000 * n.val) = some n := by decide +revert
  rw [State.regRead, hcq, hdata]

theorem State.regRead_adcRes (k : Fin 32) : s.regRead t (0x40012108 + 16 * k.val) = s.adcResRead k := by
  have hcq : State.cqOf (0x40012108 + 16 * k.val) = none := by decide +revert
  have hdata : State.dataOf (0x40012108 + 16 * k.val) = none := by decide +revert
  have hres : State.resOf (0x40012108 + 16 * k.val) = some k := by decide +revert
  rw [State.regRead, hcq, hdata, hres]

/-- The address of an execution port's PAY. -/
def payAddr : ExecPort → Nat
  | .kernel => 0x40018204
  | .service w => 0x40018404 + 0x100 * w.val

theorem State.regRead_pay (p : ExecPort) : s.regRead t (payAddr p) = s.payRead p := by
  cases p with
  | kernel => rfl
  | service w =>
    have hcq : State.cqOf (payAddr (.service w)) = none := by decide +revert
    have hdata : State.dataOf (payAddr (.service w)) = none := by decide +revert
    have hres : State.resOf (payAddr (.service w)) = none := by decide +revert
    have hpay : State.payOf (payAddr (.service w)) = some (.service w) := by decide +revert
    rw [State.regRead, hcq, hdata, hres, hpay]

theorem Dev.adcUpd {K : Nat → Prop} {ks : List Nat} (h : Dev K bs ks s u) {f : AdcSt → AdcSt} (hb : .adc ∈ bs := by simp) :
    Dev K bs ks s (u.adcUpd f) :=
  h.block (by simp [BlocksBut, State.adcUpd, hb])

theorem Dev.setPresented {K : Nat → Prop} {ks : List Nat} (h : Dev K bs ks s u) {p : ExecPort} {x : Option Presented}
    (hb : .host ∈ bs := by simp) : Dev K bs ks s (u.setPresented p x) := by
  cases p
  · exact h.block (by simp [BlocksBut, State.setPresented, hb])
  · exact h.block (by simp [BlocksBut, State.setPresented, hb])

theorem State.presented_setPresented (p : ExecPort) (x : Option Presented) : (s.setPresented p x).presented p = x := by
  cases p with
  | kernel => rfl
  | service w => exact Vector.getElem_set_self _

/-! ## A flash miss -/

/-- A granule that the array delivers. -/
theorem State.granRead_eq (g : Nat) : ∃ z, s.granRead g = (⟨g, s.bytes g 16, s.granStatus g⟩, z) ∧
    Dev (keysOf [F.NVC_ECCSTAT_CORRCNT, F.NVC_ECCSTAT_UNCORR, F.NVC_ECCADDR_ADDR]) [] [] s z := by
  unfold State.granRead
  dsimp only
  split_ifs
  · exact ⟨_, rfl, (Dev.refl.bump).put⟩
  · exact ⟨_, rfl, (Dev.refl.put).put⟩
  · exact ⟨_, rfl, Dev.refl⟩

/-- A thread whose miss has been served tries again. -/
structure MissFilled (s : State) (t : Tid) (u : State) : Prop where
  thread : u.thr t = { s.thr t with stall := none }
  others : ∀ w, w ≠ t → u.thr w = s.thr w
  fields : OnlyFields s u [F.NVC_ECCSTAT_CORRCNT, F.NVC_ECCSTAT_UNCORR, F.NVC_ECCADDR_ADDR]
  sb : u.core.sb = s.core.sb
  memory : MemorySame s u
  blocks : BlocksSame s u

theorem MissFilled.of_unstall (h : Dev (keysOf [F.NVC_ECCSTAT_CORRCNT, F.NVC_ECCSTAT_UNCORR, F.NVC_ECCADDR_ADDR]) [] [] s z)
    {i d : Option Line} : MissFilled s t ((z.coreUpd (fun c => { c with ibuf := i, dbuf := d })).unstall t) := by
  have hthr : ∀ w, (z.coreUpd (fun c => { c with ibuf := i, dbuf := d })).thr w = s.thr w := fun w =>
    show z.core.threads[w] = s.core.threads[w] by rw [h.coreSame]
  have hsb : z.core.sb = s.core.sb := by rw [h.coreSame]
  refine ⟨?_, fun w hw => ?_, fun g hg => ?_, hsb, MemorySame.of_mem h.mem, h.blocksSame.trans (.of_core rfl)⟩
  · rw [State.unstall, State.thr_setThr_self, hthr]
  · rw [State.unstall, State.thr_setThr_ne _ _ _ _ hw, hthr]
  · exact (State.get_setThr _ _ _ _).trans (h.keys g hg)

end

/-- Settles O36. -/
theorem windowReadsReturn : Obligations.WindowReadsReturn := by
  intro s t gd len hlive x waits goes
  refine ⟨fun a hw => ?_, fun a k hw => ⟨fun hk => ?_, ?_⟩, fun hw => ?_, fun e q hw hq => ?_, fun e q hw hq => ?_,
    fun k hw => ?_, fun n e q hw hown hq => ?_, fun p e q hw hq => ?_, fun p hw c hc => ?_, fun heven hw => ?_,
    fun hr hb => ⟨fun hodd => ?_, fun heven hprot => ?_, fun heven hprot hbusy => ?_⟩,
    fun g hdom hread => ⟨fun hw => ?_, fun hw => ?_⟩⟩
  · refine ⟨_, congrArg Host.Outcome.next ((State.windowReturn_load hw.1).trans (State.loadReturn_eq hlive hw rfl)), ?_⟩
    refine ⟨State.thr_setThr_self _ _ _, fun w hw => State.thr_setThr_ne _ _ _ _ hw, rfl, rfl, .of_core rfl,
      MemorySame.of_mem rfl⟩
  · exact ⟨s, congrArg Host.Outcome.next ((State.windowReturn_load hw).trans (if_pos (.inr hk))), rfl⟩
  · rintro rfl hdom hwait
    refine ⟨_, congrArg Host.Outcome.next ((State.windowReturn_load hw).trans ?_), rfl⟩
    have hno : ¬(s.coreLive = false ∨ 0 ≠ 0) := by simp [hlive]
    rw [State.loadReturn, if_neg hno, if_pos hdom, hwait]
    rfl
  · have hv : BitVec.ofNat 32 s.bak.tick.toNat = s.bak.tick.setWidth 32 := rfl
    rw [← hv]
    exact Gives.readReturn rfl hlive hw State.regRead_tickl ⟨LoadReturned.of_dev Dev.refl.bakUpd, rfl⟩
  · have hr : s.regRead t 0x40024040 = (BitVec.ofNat 32 e.stamp.toNat, s.bakUpd (fun b => { b with
        fifo := q, evUsed := true, evf1Latch := b.evf1Latch.set t (State.evf1Word e) })) := by
      rw [State.regRead_evf0, State.evf0Read, hq]
    exact Gives.readReturn rfl hlive hw hr ⟨LoadReturned.of_dev Dev.refl.bakUpd, rfl, rfl⟩
  · have hr : s.regRead t 0x40012010 = (State.adcEntryWord e, s.adcUpd (fun a => { a with fifo := q, used := true })) := by
      rw [State.regRead_adcFifo, State.adcFifoRead, hq]
    exact Gives.readReturn rfl hlive hw hr ⟨LoadReturned.of_dev Dev.refl.adcUpd, rfl, rfl⟩
  · have ha : (F.ADC_RES_CODE k).addr = 0x40012108 + 16 * k.val := by
      show 0x40012108 + k.val * 0x10 = _
      rw [Nat.mul_comm]
    have hx : exec (.adcResRead k t gd) s = .next (s.readReturn t gd (0x40012108 + 16 * k.val)) :=
      congrArg (fun a => Host.Outcome.next (s.readReturn t gd a)) ha
    have hr : s.regRead t (0x40012108 + 16 * k.val) = (s.storedWord (0x40012108 + 16 * k.val), s.put (F.ADC_RES_NEW k) 0) := by
      rw [State.regRead_adcRes, State.adcResRead, ha]
    exact Gives.readReturn hx hlive hw hr ⟨LoadReturned.of_dev Dev.refl.put, State.on_put_zero⟩
  · have hr : s.regRead t (0x4001C008 + 0x1000 * n.val) = (BitVec.ofNat 32 (e.data.toNat + (if e.pe then 2 ^ 9 else 0) +
        (if e.fe then 2 ^ 10 else 0) + (if e.brk then 2 ^ 11 else 0) + (if e.nz then 2 ^ 12 else 0) +
        (if e.ovw then 2 ^ 13 else 0) + 2 ^ 31), s.uartUpd n (fun x => { x with rx := q })) := by
      rw [State.regRead_uartData, State.uartDataRead, if_pos hown, hq]
    refine Gives.readReturn rfl hlive hw hr ⟨LoadReturned.of_dev Dev.refl.uartUpd, ?_, fun m hm => ?_⟩
    · exact congrArg UartSt.rx (Vector.getElem_set_self (i := n.val) n.isLt)
    · exact Vector.getElem_set_ne n.isLt m.isLt fun h => hm (Fin.ext h.symm)
  · have hr : s.regRead t (0x40014110 + 0x1000 * p.val) = (State.cqWord e,
        s.portUpd p (fun x => { x with cq := q, cqUsed := true })) := by
      rw [State.regRead_cq, State.cqRead, hq]
    refine Gives.readReturn rfl hlive hw hr ⟨LoadReturned.of_dev Dev.refl.portUpd, ?_, fun m hm => ?_⟩
    · exact congrArg PortSt.cq (Vector.getElem_set_self (i := p.val) p.isLt)
    · exact Vector.getElem_set_ne p.isLt m.isLt fun h => hm (Fin.ext h.symm)
  · have hr : s.regRead t (payAddr p) = (State.payWord c.cmd.payload c.payIdx,
        s.setPresented p (some { c with payIdx := c.payIdx + 1 })) := by
      rw [State.regRead_pay, State.payRead, hc]
    have hpay : ∀ z : State, (z.goesOn t gd len (State.payWord c.cmd.payload c.payIdx)).presented p = z.presented p :=
      fun z => by cases p <;> rfl
    refine Gives.readReturn ?_ hlive ?_ hr ⟨LoadReturned.of_dev Dev.refl.setPresented,
      (hpay _).trans (State.presented_setPresented p _)⟩
    · cases p <;> rfl
    · cases p <;> exact hw
  · have hx : s.tickReturn t gd 0 = s.advance t 2 { (x.setReg gd (s.bak.tick.extractLsb' 0 32)).setReg (gd + 1)
        ((s.bak.tick.extractLsb' 32 16).setWidth 32) with stall := none } := if_neg (by simp [hlive])
    refine ⟨_, congrArg Host.Outcome.next ((State.windowReturn_tick hw).trans hx), ?_, fun w hw =>
      State.thr_setThr_ne _ _ _ _ hw, rfl, rfl, MemorySame.of_mem rfl, .of_core rfl⟩
    rw [State.advance, State.thr_setThr_self]
    have hv : s.bak.tick.extractLsb' 0 32 = s.bak.tick.setWidth 32 :=
      (BitVec.setWidth_eq_extractLsb' (by decide)).symm
    rw [hv]
    rfl
  · exact FaultsWith.of_flt rfl hr hb (if_pos hodd)
  · exact FaultsWith.of_flt rfl hr hb ((if_neg (by omega)).trans (if_pos hprot))
  · have hprot' : ¬s.protAllows x.ring 0x40024000 accR = false := Bool.not_eq_false _ ▸ hprot
    exact Gives.of_setThr rfl hr hb ((if_neg (by omega)).trans ((if_neg hprot').trans (if_neg (by simp [hbusy])))) rfl
  · obtain ⟨z, hz, hdev⟩ := s.granRead_eq g
    have hx : s.missFill t = (z.coreUpd (fun c => { c with ibuf := some ⟨g, s.bytes g 16, s.granStatus g⟩ })).unstall t := by
      rw [State.missFill, if_neg (by simp [hlive]), hw]
      dsimp only
      rw [if_neg (by simp [hdom]), if_pos hread, hz]
    have hfill := MissFilled.of_unstall (t := t) (i := some ⟨g, s.bytes g 16, s.granStatus g⟩) (d := z.core.dbuf) hdev
    have hdbuf : z.core.dbuf = s.core.dbuf := by rw [hdev.coreSame]
    exact ⟨_, congrArg Host.Outcome.next hx, ⟨hfill.thread, hfill.others, hfill.fields, hfill.sb, hfill.memory,
      hfill.blocks⟩, rfl, hdbuf⟩
  · obtain ⟨z, hz, hdev⟩ := s.granRead_eq g
    have hx : s.missFill t = (z.coreUpd (fun c => { c with dbuf := some ⟨g, s.bytes g 16, s.granStatus g⟩ })).unstall t := by
      rw [State.missFill, if_neg (by simp [hlive]), hw]
      dsimp only
      rw [if_neg (by simp [hdom]), if_pos hread, hz]
    have hfill := MissFilled.of_unstall (t := t) (i := z.core.ibuf) (d := some ⟨g, s.bytes g 16, s.granStatus g⟩) hdev
    have hibuf : z.core.ibuf = s.core.ibuf := by rw [hdev.coreSame]
    exact ⟨_, congrArg Host.Outcome.next hx, ⟨hfill.thread, hfill.others, hfill.fields, hfill.sb, hfill.memory,
      hfill.blocks⟩, rfl, hibuf⟩

end Sys2Proof.Machine
end

section
/-!
SUPPORT. BOOT without an image (R80, BOOTSRC 1). Two facts run through the ROM's steps, operation by operation: CORE
stays released, and, up to the choice of an image, the wired words that hold BOOTSRC stay as they are.
-/

set_option Elab.async false

namespace Sys2Proof.Machine

variable {s u : State}

/-- CORE is released. -/
structure Released (s : State) : Prop where
  held : s.pwr.coreHeld = false

namespace Released

/-- An update that leaves the power state, or what of it holds CORE. -/
theorem quiet (h : Released s) (hp : u.pwr.coreHeld = s.pwr.coreHeld := by rfl) : Released u :=
  ⟨hp.trans h.held⟩

theorem ite {c : Prop} [Decidable c] (hs : Released s) (hu : Released u) : Released (if c then s else u) := by
  split
  · exact hs
  · exact hu

theorem andIf {c : Prop} [Decidable c] (h : Released s) (hf : Released s → Released u) :
    Released (if c then u else s) :=
  (hf h).ite h

theorem orIf {c : Prop} [Decidable c] (h : Released s) (hf : Released s → Released u) :
    Released (if c then s else u) :=
  h.ite (hf h)

theorem foldl {α : Type} {f : State → α → State} (hf : ∀ v x, Released v → Released (f v x)) (h : Released s)
    (l : List α) : Released (l.foldl f s) := by
  induction l generalizing s with
  | nil => exact h
  | cons x t ih => exact ih (hf s x h)

theorem put (h : Released s) {f : Fld} {n : Nat} : Released (s.put f n) := h.quiet

theorem putB (h : Released s) {f : Fld} {b : Bool} : Released (s.putB f b) := h.quiet

theorem coreUpd (h : Released s) {f : Core → Core} : Released (s.coreUpd f) := h.quiet

theorem storeUpd (h : Released s) {f : StoreSt → StoreSt} : Released (s.storeUpd f) := h.quiet

theorem seqUpd (h : Released s) {f : SeqSt → SeqSt} : Released (s.seqUpd f) := h.quiet

theorem portUpd (h : Released s) {p : Fin 2} {f : PortSt → PortSt} : Released (s.portUpd p f) := h.quiet

theorem raise (h : Released s) {k : Nat} : Released (s.raise k) := h.quiet

theorem pwrUpd (h : Released s) {f : PowerSt → PowerSt}
    (hf : (f s.pwr).coreHeld = s.pwr.coreHeld := by rfl) : Released (s.pwrUpd f) :=
  h.quiet hf

theorem tickFree (h : Released s) : Released s.tickFree := h.quiet

theorem coldWindow (h : Released s) {base : Nat} {keep : Nat → Bool} : Released (s.coldWindow base keep) := h.quiet

theorem clrBit (h : Released s) {f : Fld} {i : Nat} : Released (s.clrBit f i) := h.andIf (·.put)

theorem setPg (h : Released s) {d : Nat} {b : Bool} : Released (s.setPg d b) := h.put.ite h.clrBit

theorem setBytes (h : Released s) {a : Nat} {l : List Byte} : Released (s.setBytes a l) := by
  induction l generalizing s a with
  | nil => exact h
  | cons b t ih => exact ih (h.quiet (u := s.setByte a b))

theorem setWord (h : Released s) {a : Nat} {v : Word} : Released (s.setWord a v) := h.setBytes

theorem plainWrite (h : Released s) {a ring : Nat} {v : Word} : Released (s.plainWrite a ring v) :=
  foldl (fun _ _ hx => hx.put) h _

theorem flagRaise (h : Released s) {f : Fld} {k : Nat} : Released (s.flagRaise f k) :=
  h.orIf (·.put.raise)

theorem maybeRaise (h : Released s) {k : Nat} : Released (s.maybeRaise k) := h.orIf (·.raise)

/-! The domains. -/

theorem qspiCold (h : Released s) : Released s.qspiCold := by
  unfold State.qspiCold
  extract_lets s1
  have h1 : Released s1 := by
    unfold s1
    split
    · exact h.setBytes.tickFree
    · exact h
  exact coldWindow (h1.quiet)

theorem dropLatch (h : Released s) {isl : Island} : Released (s.dropLatch isl) := h.quiet

theorem hostCold (h : Released s) : Released s.hostCold := by
  unfold State.hostCold
  extract_lets s1
  have h1 : Released s1 := foldl (fun _ _ hx => hx.coldWindow) h _
  exact h1.quiet

/-- The power-good of a rail that is no port falls. -/
theorem pgFall (h : Released s) {c : Nat} (hc : c < 17) : Released (s.pgPut c false) := by
  have h17 : ¬c = 17 := by omega
  have h18 : ¬c = 18 := by omega
  simp only [State.pgPut, h17, h18, or_self, if_false, Bool.false_eq_true]
  exact h.orIf fun h => raise h.clrBit

theorem pgSet (h : Released s) {c : Nat} (hc : c < 16) : Released (s.pgSet c false) :=
  (h.pgFall (by omega)).andIf fun h => h.pgFall (c := c + 1) (by omega)

theorem railDown (h : Released s) {c : Nat} (hc : c < 16) : Released (s.railDown c) := by
  unfold State.railDown State.riseDrop State.supBlank
  exact (h.pgSet hc).seqUpd.seqUpd

theorem linOff (h : Released s) {k : Nat} {dis : Bool} (hk : k < 9) : Released (s.linOff k dis) :=
  railDown (seqUpd h.put.put.putB) (by omega)

theorem ldoDomainOff (h : Released s) : Released s.ldoDomainOff :=
  List.foldlRecOn (motive := Released) _ _ h fun x hx k hk =>
    hx.andIf fun hx => raise (put (hx.linOff (by have := List.mem_range.1 hk; omega)))

theorem scLose (h : Released s) : Released s.scLose :=
  storeUpd (dropLatch (setPg (storeUpd (coldWindow (coldWindow h.storeUpd)))))

theorem domainOff (h : Released s) {d : Nat} : Released (s.domainOff d) := by
  unfold State.domainOff
  extract_lets s0
  have h0 : Released s0 := h.setPg
  split
  · exact (qspiCold (h0.quiet (u := s0.nvcColdRegs))).dropLatch.dropLatch
  · split
    · exact h0.quiet
    · split
      · exact h0.hostCold.dropLatch
      · split
        · exact h0.quiet
        · split
          · exact h0.quiet
          · exact h0.ldoDomainOff.ite ((h0.quiet).ite (h0.andIf (·.scLose)))

theorem domStep (h : Released s) {want refuse : Bool} {d : Nat} : Released (s.domStep want refuse d) :=
  h.ite (h.put.ite (h.put.ite h.clrBit.domainOff))

theorem domctlWrite (h : Released s) {ring : Nat} {v : Word} : Released (s.domctlWrite ring v) := by
  unfold State.domctlWrite
  exact h.ite (foldl (fun _ _ hx => hx.domStep.ite hx.domStep) h _)

theorem scan (h : Released s) : Released s.scan := by
  unfold State.scan
  extract_lets g0 g1 act s1 s2 s3 s4
  have h1 : Released s1 := foldl (fun _ _ hx => hx.put) h _
  have h4 : Released s4 := h1.put.put.put.put.put.put
  refine h1.put.put.put.put.put.put.ite (foldl (fun x _ hx => ?_) h4 _)
  unfold State.scanRecord
  have hdirty : ∀ (k : Nat) (b : Bool), Released (x.setDirty k b) := fun k b => hx.put.ite hx.clrBit
  exact hx.ite (((hdirty _ _).ite ((hdirty _ _).ite (hx.put.put.ite hx))).ite hx.put)

theorem engineRate (h : Released s) {p : Fin 2} {code : Nat} : Released (s.engineRate p code) := by
  unfold State.engineRate
  extract_lets u d s1 s2
  have h1 : Released s1 := h.quiet
  exact Released.ite h1.put.put.putB.put.put h1

theorem domainPowerGood (h : Released s) {d : Nat} : Released (s.domainPowerGood d) := by
  unfold State.domainPowerGood
  extract_lets s1
  have h1 : Released s1 := h.setPg
  refine Released.andIf h fun _ => Released.ite ?_ ((h1.quiet).ite (h1.put.put.ite (h1.put.put.ite
    (h1.engineRate.engineRate.ite (h1.andIf (·.quiet))))))
  exact scan (h1.quiet (u := s1.nvcColdRegs))

theorem romDomainOn (h : Released s) {d : Nat} : Released (s.romDomainOn d) :=
  h.orIf (·.domctlWrite.domainPowerGood)

/-! Steps 1 to 7. -/

theorem bootClock (h : Released s) : Released s.bootClock := h.orIf (·.put.put.put.put)

theorem bootRows (h : Released s) : Released s.bootRows :=
  maybeRaise (put (foldl (fun _ _ hx => hx.setWord.setWord) h.put.put.put.put _))

theorem bootScan (h : Released s) : Released s.bootScan := (h.andIf (·.scan)).maybeRaise

theorem romLoads (h : Released s) {sts : List Nat} : Released (s.romLoads sts) :=
  (((h.andIf (·.put)).andIf (·.put)).andIf (·.put)).andIf (·.put)

theorem bootReport (h : Released s) {o : ImgOut} {code final dirty : Nat} {alarm : Bool} :
    Released (s.bootReport o code final alarm dirty) :=
  h.orIf (·.put.put.put.putB.put.putB.putB.put.put)

theorem bootGates (h : Released s) : Released s.bootGates :=
  foldl (fun _ _ hx => hx.setWord.setWord)
    (foldl (fun _ _ hx => hx.setWord) h.coreUpd _) _

/-! Descriptors. -/

theorem winSet (h : Released s) {w : Fin 4} {d : WinDesc} : Released (s.winSet w d) := by
  unfold State.winSet
  extract_lets s1 s2 s3 s4
  have h1 : Released s1 := h.orIf (·.put.put.put.putB.putB.put.put.put.put)
  have h4 : Released s4 := h1.put.put.put.put.put.put.put.put.put.put
  exact h4.quiet

theorem winBind (h : Released s) {e : BootEnt} : Released (s.winBind e) := by
  unfold State.winBind
  exact ((h.orIf (·.put)).orIf (·.winSet)).put.put

theorem bindWindows (h : Released s) {ws : List BootEnt} : Released (s.bindWindows ws) := by
  unfold State.bindWindows
  extract_lets s1 s2
  have h1 : Released s1 := h.ite (foldl (fun _ _ hx => hx.winBind) h.romDomainOn _)
  have h2 : Released s2 := h1.andIf (·.put)
  exact h2.quiet

theorem threadStart (h : Released s) {sealed : Bool} {e : BootEnt} : Released (s.threadStart sealed e) := by
  unfold State.threadStart
  extract_lets b t s1
  have h1 : Released s1 := h.put
  exact h1.ite (quiet h1)

theorem portSetv (h : Released s) {p : Fin 2} {code : Nat} : Released (s.portSetv p code) :=
  portUpd (put (h.andIf (·.put)))

theorem answerOver (h : Released s) {p : Fin 2} : Released (s.answerOver p) :=
  h.andIf fun h => quiet (s := (s.put (F.P_STAT_TXHOLD p) 0).portUpd p (fun x => { x with answer := none })) h.put.portUpd

theorem portCtlWrite (h : Released s) {p : Fin 2} {ring : Nat} {v : Word} : Released (s.portCtlWrite p ring v) := by
  unfold State.portCtlWrite
  refine h.orIf fun h => ?_
  extract_lets old mode s1
  have h1 : Released s1 := h.plainWrite.put
  refine h1.put.ite (h1.ite (h1.put.ite (h1.ite (h1.put.ite ?_))))
  exact h1.put.put.portUpd.answerOver

theorem portLineWrite (h : Released s) {p : Fin 2} {ring : Nat} {v : Word} : Released (s.portLineWrite p ring v) :=
  h.plainWrite.put.orIf (·.portSetv)

theorem portLedgWrite (h : Released s) {p : Fin 2} {ring : Nat} {v : Word} : Released (s.portLedgWrite p ring v) := by
  unfold State.portLedgWrite
  extract_lets s1 cap
  have hcap : ∀ {x : State} {f : Fld} {c : Nat}, Released x → Released (cap f c x) := fun hx => hx.andIf (·.put)
  exact hcap (hcap (hcap h.plainWrite))

theorem measGo (h : Released s) {p : Fin 2} {boot : Bool} : Released (s.measGo p boot) := by
  unfold State.measGo
  have hb : Released (s.measBegin p boot) := h.put.put.portUpd
  refine h.ite (h.put.put.put.flagRaise.ite (h.put.put.flagRaise.ite (Released.ite (hb.andIf fun hb => ?_) hb)))
  exact portUpd (flagRaise hb.put.put.put)

theorem engFree (h : Released s) {p : Fin 2} : Released (s.engFree p) := by
  unfold State.engFree
  exact h.put.put.put.put.put.put.put.put.put.put.put

theorem portStart (h : Released s) {e : BootEnt} : Released (s.portStart e) :=
  (h.romDomainOn.portCtlWrite.portLineWrite.put.put.portLedgWrite.orIf (·.engFree)).measGo

end Released

/-! ## BOOTSRC -/

/-- The wired words hold BOOTSRC `b`. -/
def BootsFrom (b : Nat) (s : State) : Prop := s.bootSrc = b

namespace BootsFrom

variable {b : Nat}

/-- The fields of the wired words stay. -/
theorem regs (h : BootsFrom b s) (hg : ∀ k < 4, u.get (F.OTP_WIRED_W k) = s.get (F.OTP_WIRED_W k)) :
    BootsFrom b u := by
  unfold BootsFrom State.bootSrc State.wired at h ⊢
  rw [hg 0 (by decide), hg 1 (by decide), hg 2 (by decide), hg 3 (by decide)]
  exact h

theorem quiet (h : BootsFrom b s) (hr : u.regs = s.regs := by rfl) : BootsFrom b u :=
  h.regs fun _ _ => State.get_of_regs hr _

theorem ite {c : Prop} [Decidable c] (hs : BootsFrom b s) (hu : BootsFrom b u) : BootsFrom b (if c then s else u) := by
  split
  · exact hs
  · exact hu

theorem andIf {c : Prop} [Decidable c] (h : BootsFrom b s) (hf : BootsFrom b s → BootsFrom b u) :
    BootsFrom b (if c then u else s) :=
  (hf h).ite h

theorem orIf {c : Prop} [Decidable c] (h : BootsFrom b s) (hf : BootsFrom b s → BootsFrom b u) :
    BootsFrom b (if c then s else u) :=
  h.ite (hf h)

theorem foldl {α : Type} {f : State → α → State} (hf : ∀ v x, BootsFrom b v → BootsFrom b (f v x))
    (h : BootsFrom b s) (l : List α) : BootsFrom b (l.foldl f s) := by
  induction l generalizing s with
  | nil => exact h
  | cons x t ih => exact ih (hf s x h)

/-- A write outside the wired words. -/
theorem put (h : BootsFrom b s) {f : Fld} {n : Nat}
    (hf : ∀ k < 4, f.key ≠ (F.OTP_WIRED_W k).key := by decide) : BootsFrom b (s.put f n) :=
  h.regs fun k hk => State.get_put_ne _ _ _ _ (hf k hk)

theorem clrBit (h : BootsFrom b s) {f : Fld} {i : Nat}
    (hf : ∀ k < 4, f.key ≠ (F.OTP_WIRED_W k).key := by decide) : BootsFrom b (s.clrBit f i) :=
  h.andIf (·.put hf)

theorem coldWindow (h : BootsFrom b s) {base : Nat} {keep : Nat → Bool}
    (hb : base / 0x1000 ≠ 0x40001 := by decide) : BootsFrom b (s.coldWindow base keep) := by
  refine h.regs fun k hk => ?_
  refine (Sparse.get_filter coldOf s.regs (fun k => k / 32 / 0x1000 != base / 0x1000 || keep k) _).trans (if_pos ?_)
  have hkey : (F.OTP_WIRED_W k).key / 32 / 0x1000 = 0x40001 := by
    have : k = 0 ∨ k = 1 ∨ k = 2 ∨ k = 3 := by omega
    rcases this with rfl | rfl | rfl | rfl <;> rfl
  simp [hkey, Ne.symm hb]

theorem setPg (h : BootsFrom b s) {d : Nat} {v : Bool} : BootsFrom b (s.setPg d v) := h.put.ite h.clrBit

theorem setBytes (h : BootsFrom b s) {a : Nat} {l : List Byte} : BootsFrom b (s.setBytes a l) := by
  induction l generalizing s a with
  | nil => exact h
  | cons x t ih => exact ih (h.quiet (u := s.setByte a x))

theorem setWord (h : BootsFrom b s) {a : Nat} {v : Word} : BootsFrom b (s.setWord a v) := h.setBytes

theorem seqUpd (h : BootsFrom b s) {f : SeqSt → SeqSt} : BootsFrom b (s.seqUpd f) := h.quiet

theorem storeUpd (h : BootsFrom b s) {f : StoreSt → StoreSt} : BootsFrom b (s.storeUpd f) := h.quiet

theorem adcUpd (h : BootsFrom b s) {f : AdcSt → AdcSt} : BootsFrom b (s.adcUpd f) := h.quiet

theorem thermUpd (h : BootsFrom b s) {f : ThermSt → ThermSt} : BootsFrom b (s.thermUpd f) := h.quiet

theorem portUpd (h : BootsFrom b s) {p : Fin 2} {f : PortSt → PortSt} : BootsFrom b (s.portUpd p f) := h.quiet

theorem swUpd (h : BootsFrom b s) {n : Fin 6} {f : SwSt → SwSt} : BootsFrom b (s.swUpd n f) := h.quiet

theorem pwmCold (h : BootsFrom b s) {keep : Nat → Bool} : BootsFrom b (s.pwmCold keep) := by
  have hc : BootsFrom b (s.coldWindow 0x40022000 keep) := h.coldWindow
  exact hc.quiet

theorem raise (h : BootsFrom b s) {k : Nat} : BootsFrom b (s.raise k) := h.quiet

theorem dropLatch (h : BootsFrom b s) {isl : Island} : BootsFrom b (s.dropLatch isl) := h.quiet

theorem maybeRaise (h : BootsFrom b s) {k : Nat} : BootsFrom b (s.maybeRaise k) := h.orIf (·.raise)

theorem qspiCold (h : BootsFrom b s) : BootsFrom b s.qspiCold := by
  unfold State.qspiCold
  extract_lets s1
  have h1 : BootsFrom b s1 := by
    unfold s1
    split
    · exact quiet (s := s.setBytes _ _) h.setBytes
    · exact h
  exact coldWindow h1.quiet

theorem nvcColdRegs (h : BootsFrom b s) : BootsFrom b s.nvcColdRegs := by
  unfold State.nvcColdRegs
  extract_lets s1
  have h1 : BootsFrom b s1 := h.coldWindow
  exact h1.quiet

theorem hostCold (h : BootsFrom b s) : BootsFrom b s.hostCold := by
  unfold State.hostCold
  extract_lets s1
  have h1 : BootsFrom b s1 :=
    List.foldlRecOn (motive := BootsFrom b) _ _ h fun x hx base hbase => hx.coldWindow (by
      revert base
      decide)
  exact h1.quiet

theorem railDown (h : BootsFrom b s) {c : Nat} (hc : c < 16) : BootsFrom b (s.railDown c) := by
  have hfall : ∀ {x : State} {c : Nat}, c < 17 → BootsFrom b x → BootsFrom b (x.pgPut c false) := by
    intro x c hc hx
    have h17 : ¬c = 17 := by omega
    have h18 : ¬c = 18 := by omega
    simp only [State.pgPut, h17, h18, or_self, if_false, Bool.false_eq_true]
    exact hx.orIf fun hx => raise hx.clrBit
  have h1 : BootsFrom b (s.pgSet c false) :=
    (hfall (by omega) h).andIf fun h => hfall (c := c + 1) (by omega) h
  unfold State.railDown State.riseDrop State.supBlank
  exact h1.seqUpd.seqUpd

theorem ldoDomainOff (h : BootsFrom b s) : BootsFrom b s.ldoDomainOff := by
  refine List.foldlRecOn (motive := BootsFrom b) _ _ h fun x hx k hk => hx.andIf fun hx => raise ?_
  have hk4 : k < 4 := List.mem_range.1 hk
  have hkey : ∀ k < 4, ∀ j < 4, (State.linEN k).key ≠ (F.OTP_WIRED_W j).key ∧ (State.linRAMP k).key ≠ (F.OTP_WIRED_W j).key ∧
      (State.linDISCH k).key ≠ (F.OTP_WIRED_W j).key ∧ (State.linCAUSE k).key ≠ (F.OTP_WIRED_W j).key := by decide
  have hoff : BootsFrom b (x.linOff k (x.on (State.linDISCH k))) :=
    railDown (seqUpd (((hx.put fun j hj => (hkey k hk4 j hj).1).put fun j hj => (hkey k hk4 j hj).2.1).put
      fun j hj => (hkey k hk4 j hj).2.2.1)) (by omega)
  exact hoff.put fun j hj => (hkey k hk4 j hj).2.2.2

theorem scLose (h : BootsFrom b s) : BootsFrom b s.scLose :=
  storeUpd (dropLatch (setPg (storeUpd (coldWindow (coldWindow h.storeUpd)))))

theorem domainOff (h : BootsFrom b s) {d : Nat} : BootsFrom b (s.domainOff d) := by
  unfold State.domainOff
  extract_lets s0
  have h0 : BootsFrom b s0 := h.setPg
  split
  · exact h0.nvcColdRegs.qspiCold.dropLatch.dropLatch
  · split
    · exact dropLatch (dropLatch (thermUpd (coldWindow (adcUpd (coldWindow h0)))))
    · split
      · exact h0.hostCold.dropLatch
      · split
        · exact dropLatch (portUpd (coldWindow h0 (by dsimp only; omega)))
        · split
          · exact dropLatch (swUpd (coldWindow h0 (by dsimp only; omega)))
          · exact h0.ldoDomainOff.ite (h0.pwmCold.dropLatch.ite (h0.andIf (·.scLose)))

theorem domctlWrite (h : BootsFrom b s) {ring : Nat} {v : Word} : BootsFrom b (s.domctlWrite ring v) := by
  have hstep : ∀ {x : State} {want refuse : Bool} {d : Nat}, BootsFrom b x → BootsFrom b (x.domStep want refuse d) :=
    fun hx => hx.ite (hx.put.ite (hx.put.ite hx.clrBit.domainOff))
  unfold State.domctlWrite
  exact h.ite (foldl (fun _ _ hx => (hstep hx).ite (hstep hx)) h _)

theorem scan (h : BootsFrom b s) : BootsFrom b s.scan := by
  have hd : ∀ k j, j < 4 → (F.NVC_DIRTY_D k).key ≠ (F.OTP_WIRED_W j).key := by
    intro k j hj
    simp only [F.NVC_DIRTY_D, F.OTP_WIRED_W, Fld.key]
    omega
  unfold State.scan
  extract_lets g0 g1 act s1 s2 s3 s4
  have h1 : BootsFrom b s1 := foldl (fun _ k hx => hx.put (hd k)) h _
  have h3 : BootsFrom b s3 := h1.put.put.put.put.put
  have h4 : BootsFrom b s4 := h3.put
  refine h3.put.ite (foldl (fun x _ hx => ?_) h4 _)
  unfold State.scanRecord
  have hdirty : ∀ (k : Nat) (v : Bool), BootsFrom b (x.setDirty k v) := fun k v => (hx.put (hd _)).ite (hx.clrBit (hd _))
  exact hx.ite (((hdirty _ _).ite ((hdirty _ _).ite (hx.put.put.ite hx))).ite hx.put)

/-- Step 1: the flash domain. -/
theorem romDomainOn (h : BootsFrom b s) : BootsFrom b (s.romDomainOn 2) := by
  refine h.orIf fun h => ?_
  have hw := h.domctlWrite (ring := 0) (v := BitVec.ofNat 32 (s.get F.SYS_DOMCTL_DSW * 4) ||| BitVec.twoPow 32 2)
  unfold State.domainPowerGood
  exact hw.andIf fun hw => scan (nvcColdRegs hw.setPg)

theorem bootClock (h : BootsFrom b s) : BootsFrom b s.bootClock := h.orIf (·.put.put.put.put)

theorem bootRows (h : BootsFrom b s) : BootsFrom b s.bootRows :=
  maybeRaise (put (foldl (fun _ _ hx => hx.setWord.setWord) h.put.put.put.put _))

theorem bootScan (h : BootsFrom b s) : BootsFrom b s.bootScan := (h.andIf (·.scan)).maybeRaise

end BootsFrom

/-! ## The end of the boot -/

/-- What the ROM leaves: CORE runs, T0 is READY at ring 0 with GM 0. -/
structure BootLeft (u : State) : Prop where
  released : Released u
  inEntry : u.pwr.inEntry = false
  ready : (u.thr 0).st = .ready
  ring : (u.thr 0).ring = 0
  gm : (u.thr 0).gm = false

/-- T0 as the ROM leaves it. -/
theorem BootLeft.of_romThread (h : Released s) (he : s.pwr.inEntry = false) (pc : Word) :
    BootLeft (s.romThread pc) := by
  unfold State.romThread
  extract_lets x y
  refine ⟨h.quiet, he, ?_, ?_, ?_⟩
  · rw [State.thr_tickFree, State.thr_setThr_self]
  · rw [State.thr_tickFree, State.thr_setThr_self]
    exact mkPsw_ring _ _ _ _
  · rw [State.thr_tickFree, State.thr_setThr_self]
    exact mkPsw_gm _ _ _ _

theorem BootLeft.of_serviceOnly (h : Released s) : BootLeft s.serviceOnly := by
  unfold State.serviceOnly
  extract_lets s0 s1
  have h0 : Released s0 := Released.foldl (fun _ _ hx => hx.put) h.romDomainOn _
  have h1 : Released s1 := h0.winSet
  exact of_romThread h1.put.put.put.pwrUpd rfl _

theorem BootLeft.of_bootFinish (h : Released s) (a : Nat) : BootLeft (s.bootFinish a) := by
  unfold State.bootFinish
  split
  · unfold State.bootTabFail
    refine of_serviceOnly (Released.put (Released.put ?_))
    split
    · exact h.romLoads
    · exact h.romLoads
  · extract_lets s0 s1 s2 s3
    have h1 : Released s1 := Released.foldl (fun _ _ hx => hx.threadStart) h.romLoads _
    have h2 : Released s2 := h1.bindWindows
    have h3 : Released s3 := h2.ite (Released.foldl (fun _ _ hx => hx.portStart) h2 _)
    exact of_romThread h3.pwrUpd rfl _

/-- Step 7 when no image has been accepted. -/
theorem BootLeft.of_bootRun (h : Released s) {o : ImgOut} (ho : o.accepted = none) : BootLeft (s.bootRun o) := by
  unfold State.bootRun
  rw [ho]
  extract_lets otpprog s1 s2 s3
  have h1 : Released s1 := h.orIf (·.put)
  have h2 : Released s2 := h1.andIf (·.quiet)
  exact of_bootFinish (h2.bootGates.tickFree) _

/-- Step 5 without an image: nothing is done. -/
theorem bootImage_none (h : BootsFrom 1 s) (vio : Bool) (act : Nat) :
    (s.bootImage vio act).1 = s ∧ (s.bootImage vio act).2.accepted = none := by
  have h' : s.bootSrc = 1 := h
  unfold State.bootImage
  rw [if_pos h']
  split
  · exact ⟨rfl, rfl⟩
  · exact ⟨rfl, rfl⟩

theorem BootLeft.of_bootStart (h : BootsFrom 1 s) (vio : Bool) : BootLeft (s.bootStart vio) := by
  unfold State.bootStart
  extract_lets s0 alarm s1 act3
  have hr : Released (s.pwrUpd (fun p => { p with coreHeld := false })) := ⟨rfl⟩
  have hr1 : Released s1 := hr.romDomainOn.bootClock.bootRows.bootScan
  have hb : BootsFrom 1 (s.pwrUpd (fun p => { p with coreHeld := false })) := h.quiet
  have hb1 : BootsFrom 1 s1 := hb.romDomainOn.bootClock.bootRows.bootScan
  obtain ⟨hs2, ho⟩ := bootImage_none hb1 vio act3
  split
  next s2 o hd =>
    rw [hd] at hs2 ho
    dsimp only at hs2 ho
    subst hs2
    extract_lets act5 code s3 s4 final s5
    have h3 : Released s3 := hr1.orIf fun h => h.orIf (·.romLoads)
    have h4 : Released s4 := h3.andIf (·.put.put.put.put.put.put.put)
    have h5 : Released s5 := h4.bootReport.tickFree.pwrUpd
    split
    · exact of_serviceOnly h5
    · exact of_bootRun h5 ho

/-- Settles O39: without an image every way through the ROM ends in `romThread`, with CORE released. -/
theorem bootWithoutImage : Obligations.BootWithoutImage := by
  unfold Obligations.BootWithoutImage
  intro s vio hready hsrc
  have hx : exec (.boot vio) s = .next (s.boot vio) := rfl
  have hboot : s.boot vio = s.bootStart vio := if_pos hready
  obtain ⟨hheld, hentry, hst, hring, hgm⟩ := BootLeft.of_bootStart (s := s) hsrc vio
  refine ⟨_, hx, ?_⟩
  rw [hboot]
  exact ⟨hheld.held, hentry, hst, hring, hgm, (Keeps.refl s).bootStart.pending⟩

end Sys2Proof.Machine
end

section
/-!
SUPPORT. The switching channels under rail operations (R132, R195 to R199): what each operation may change, and the
fields it leaves. `swKeys n` are the fields of SW and SEQ but the EN bits of channels other than `n`.
-/

set_option Elab.async false

namespace Sys2Proof.Machine

variable {K : Nat → Prop} {bs : List Block} {ks : List Nat} {s u : State}

/-- The fields a rail operation on channel `n` may write. -/
abbrev swKeys (n : Fin 6) (k : Nat) : Prop :=
  (0x40008000 ≤ k / 32 ∧ k / 32 < 0x4000E000 ∨ 0x40010000 ≤ k / 32 ∧ k / 32 < 0x40011000) ∧
    ∀ m : Fin 6, m ≠ n → k ≠ (F.SW_CTL_EN m).key

/-- The frame of a rail operation on channel `n`. -/
abbrev SwDev (n : Fin 6) (s u : State) : Prop := Dev (swKeys n) [.sw, .seq] [8, 9] s u

theorem Dev.orIf {c : Prop} [Decidable c] {v : State} (h : Dev K bs ks s u) (hf : Dev K bs ks s u → Dev K bs ks s v) :
    Dev K bs ks s (if c then u else v) :=
  h.ite (hf h)

theorem Dev.andIf {c : Prop} [Decidable c] {v : State} (h : Dev K bs ks s u) (hf : Dev K bs ks s u → Dev K bs ks s v) :
    Dev K bs ks s (if c then v else u) :=
  (hf h).ite h

theorem Dev.clrBit (h : Dev K bs ks s u) {f : Fld} {i : Nat} (hf : K f.key := by simp [keysOf]) :
    Dev K bs ks s (u.clrBit f i) :=
  h.andIf (·.put hf)

/-! ## Power-good -/

/-- The power-good bit of a rail that is no port falls. -/
theorem Dev.pgFall (h : Dev K bs ks s u) {c : Nat} (hc : c < 17) (hK : K F.SEQ_PG_PG.key := by simp [keysOf])
    (hk : 8 ∈ ks := by simp) : Dev K bs ks s (u.pgPut c false) := by
  have h17 : ¬c = 17 := by omega
  have h18 : ¬c = 18 := by omega
  simp only [State.pgPut, h17, h18, or_self, if_false, Bool.false_eq_true]
  exact h.orIf fun h => (h.clrBit hK).raise hk

/-- A rail that is no port goes down. -/
theorem Dev.railDown (h : Dev K bs ks s u) {c : Nat} (hc : c < 16) (hK : K F.SEQ_PG_PG.key := by simp [keysOf])
    (hk : 8 ∈ ks := by simp) (hb : .seq ∈ bs := by simp) : Dev K bs ks s (u.railDown c) := by
  have hpg : Dev K bs ks s (u.pgSet c false) :=
    (h.pgFall (by omega) hK hk).andIf fun h => h.pgFall (c := c + 1) (by omega) hK hk
  unfold State.railDown State.riseDrop State.supBlank
  exact (hpg.seqUpd hb).seqUpd hb

/-- A cleared bit reads 0, and no other bit becomes 1. -/
theorem State.bit_clrBit (s : State) (f : Fld) (i j : Nat) (h : i = j ∨ s.bit f j = false) :
    (s.clrBit f i).bit f j = false := by
  unfold State.clrBit
  split
  next hi =>
    rw [State.bit, State.get_put_self, Nat.testBit_mod_two_pow, testBit_sub_two_pow hi]
    rcases h with rfl | h
    · simp
    · rw [State.bit] at h
      simp [h]
  next hi =>
    rcases h with rfl | h
    · simpa using hi
    · exact h

/-- Power-good that falls is 0, and none rises with it. -/
theorem State.pg_pgFall (s : State) {c c' : Nat} (hc : c' < 17) (h : c = c' ∨ s.pg c = false) :
    (s.pgPut c' false).pg c = false := by
  have h17 : ¬c' = 17 := by omega
  have h18 : ¬c' = 18 := by omega
  simp only [State.pgPut, h17, h18, or_self, if_false, Bool.false_eq_true]
  split
  next h0 => exact h.elim (fun e => e ▸ h0) id
  next => exact State.bit_clrBit s _ _ _ (h.imp (fun e => by rw [e]) id)

theorem State.pg_railDown (s : State) {c : Nat} (hc : c < 16) : (s.railDown c).pg c = false := by
  have h1 : (s.pgPut c false).pg c = false := State.pg_pgFall s (by omega) (.inl rfl)
  have h2 : (s.pgSet c false).pg c = false := by
    unfold State.pgSet
    extract_lets s1
    split
    · exact State.pg_pgFall s1 (by omega) (.inr h1)
    · exact h1
  exact h2

/-! ## Gates and the start of a channel -/

/-- The fields that go to rest with a channel's gates. -/
abbrev gateFields (m : Fin 6) : List Fld :=
  [F.SW_STAT_LOCKED m, F.SW_CNT_UNLOCKCNT m, F.SW_STAT_RUN m, F.SW_STAT_SSDONE m, F.SW_STAT_YIELD m, F.SW_REF_MOVING m]

/-- The gates of channel `m` go off. -/
theorem Dev.swGatesOff (h : Dev K bs ks s u) {m : Fin 6} (hK : ∀ f ∈ gateFields m, K f.key)
    (hb : .sw ∈ bs := by simp) (hk : 9 ∈ ks := by simp) : Dev K bs ks s (u.swGatesOff m) := by
  have hlock : Dev K bs ks s (u.swLocked m false) :=
    h.orIf fun h => ((h.putB (hK _ (by simp))).bump (hK _ (by simp))).andIf (·.raise hk)
  unfold State.swGatesOff
  exact ((((hlock.put (hK _ (by simp))).put (hK _ (by simp))).put (hK _ (by simp))).put (hK _ (by simp))).swUpd hb

theorem swGatesOff_dev (s : State) (m : Fin 6) : Dev (keysOf (gateFields m)) [.sw] [9] s (s.swGatesOff m) :=
  Dev.refl.swGatesOff fun _ hf => List.mem_map_of_mem hf

theorem gateFields_sw (n m : Fin 6) : ∀ f ∈ gateFields m, swKeys n f.key := by decide +revert

/-- Fields of one channel that are written after RUN, SSDONE or EN in the same operation are other fields. -/
theorem restKeys_ne (n : Fin 6) :
    (F.SW_REF_MOVING n).key ≠ (F.SW_STAT_RUN n).key ∧ (F.SW_STAT_YIELD n).key ≠ (F.SW_STAT_RUN n).key ∧
      (F.SW_STAT_SSDONE n).key ≠ (F.SW_STAT_RUN n).key ∧ (F.SW_REF_MOVING n).key ≠ (F.SW_STAT_SSDONE n).key ∧
      (F.SW_STAT_YIELD n).key ≠ (F.SW_STAT_SSDONE n).key := by decide +revert

theorem offKeys_ne (n : Fin 6) :
    (F.SW_CTL_DISCH n).key ≠ (F.SW_CTL_EN n).key ∧ (F.SW_CTL_DISCH n).key ≠ (F.SW_STAT_RUN n).key ∧
      (F.SW_CTL_EN n).key ≠ (F.SW_STAT_RUN n).key ∧ (F.SW_CTL_DISCH n).key ≠ (F.SW_STAT_SSDONE n).key ∧
      (F.SW_CTL_EN n).key ≠ (F.SW_STAT_SSDONE n).key := by decide +revert

/-- A channel's gates are its own. -/
theorem gateFields_ne (n m : Fin 6) (h : n ≠ m) :
    (F.SW_STAT_RUN n).key ∉ (gateFields m).map Fld.key ∧ (F.SW_STAT_SSDONE n).key ∉ (gateFields m).map Fld.key := by
  decide +revert

theorem pgKey_ne (n : Fin 6) : ∀ f ∈ [F.SW_CTL_EN n, F.SW_STAT_RUN n, F.SW_STAT_SSDONE n, F.SW_CTL_DISCH n],
    f.key ∉ [F.SEQ_PG_PG].map Fld.key := by decide +revert

theorem swGatesOff_rest (s : State) (m : Fin 6) :
    (s.swGatesOff m).on (F.SW_STAT_RUN m) = false ∧ (s.swGatesOff m).on (F.SW_STAT_SSDONE m) = false := by
  unfold State.swGatesOff
  extract_lets s1 s2
  obtain ⟨h1, h2, h3, h4, h5⟩ := restKeys_ne m
  constructor
  · rw [State.on_swUpd, State.on_put_ne h1, State.on_put_ne h2, State.on_put_ne h3, State.on_put_zero]
  · rw [State.on_swUpd, State.on_put_ne h4, State.on_put_ne h5, State.on_put_zero]

/-- The gates of a channel and of the follower it leads go off. -/
theorem Dev.swStop {n : Fin 6} (h : SwDev n s u) : SwDev n s (u.swStop n) := by
  unfold State.swStop
  extract_lets s1
  have h1 : SwDev n s s1 := h.swGatesOff (gateFields_sw n n)
  split
  next hl => exact h1.swGatesOff (gateFields_sw n _)
  next => exact h1

theorem swStop_rest (s : State) (n : Fin 6) :
    (s.swStop n).on (F.SW_STAT_RUN n) = false ∧ (s.swStop n).on (F.SW_STAT_SSDONE n) = false := by
  unfold State.swStop
  extract_lets s1
  obtain ⟨hrun, hss⟩ := swGatesOff_rest s n
  split
  next hl =>
    have hd := (swGatesOff_dev s1 ⟨n.val + 1, hl.2⟩).keys
    obtain ⟨hrun', hss'⟩ := gateFields_ne n ⟨n.val + 1, hl.2⟩ (fun e => by simpa using congrArg Fin.val e)
    exact ⟨by rw [State.on, hd _ hrun']; exact hrun, by rw [State.on, hd _ hss']; exact hss⟩
  next => exact ⟨hrun, hss⟩

/-- A channel that is switched off: at rest, EN 0, its discharge path as asked, its power-good gone. -/
structure SwOff (n : Fin 6) (dis : Bool) (u : State) : Prop where
  en : u.on (F.SW_CTL_EN n) = false
  run : u.on (F.SW_STAT_RUN n) = false
  ssdone : u.on (F.SW_STAT_SSDONE n) = false
  pg : u.pg (n.val + 1) = false
  disch : u.on (F.SW_CTL_DISCH n) = dis

theorem swEn_swKeys (n : Fin 6) : swKeys n (F.SW_CTL_EN n).key ∧ swKeys n (F.SW_CTL_DISCH n).key := by decide +revert

theorem pg_swKeys (n : Fin 6) : swKeys n F.SEQ_PG_PG.key := by decide +revert

theorem Dev.swDisable {n : Fin 6} (h : SwDev n s u) (dis : Bool) : SwDev n s (u.swDisable n dis) := by
  obtain ⟨hen, hdis⟩ := swEn_swKeys n
  exact ((h.swStop.put hen).putB hdis).swUpd.railDown (by omega) (pg_swKeys n)

theorem swDisable_off (s : State) (n : Fin 6) (dis : Bool) : SwOff n dis (s.swDisable n dis) := by
  unfold State.swDisable
  extract_lets s1 s2
  obtain ⟨hrun, hss⟩ := swStop_rest s n
  have hdown : Dev (keysOf [F.SEQ_PG_PG]) [.seq] [8] s2 (s2.railDown (n.val + 1)) := Dev.refl.railDown (by omega)
  have hkeep : ∀ f ∈ [F.SW_CTL_EN n, F.SW_STAT_RUN n, F.SW_STAT_SSDONE n, F.SW_CTL_DISCH n],
      (s2.railDown (n.val + 1)).on f = s1.on f := fun f hf => congrArg (· != 0) (hdown.keys f (pgKey_ne n f hf))
  obtain ⟨h1, h2, h3, h4, h5⟩ := offKeys_ne n
  refine ⟨?_, ?_, ?_, State.pg_railDown s2 (by omega), ?_⟩
  · rw [hkeep _ (by simp), State.on_putB_ne h1, State.on_put_zero]
  · rw [hkeep _ (by simp), State.on_putB_ne h2, State.on_put_ne h3]
    exact hrun
  · rw [hkeep _ (by simp), State.on_putB_ne h4, State.on_put_ne h5]
    exact hss
  · rw [hkeep _ (by simp), State.on_putB]

/-! ## The start -/

/-- The fields of channel `m` that its start writes. -/
abbrev startFields (m : Fin 6) : List Fld :=
  [F.SW_CAL_BUSY m, F.SW_CAL_RESULT m, F.SW_STAT_RUN m, F.SW_STAT_CAUSE m]

theorem startFields_sw (n m : Fin 6) : ∀ f ∈ startFields m, swKeys n f.key := by decide +revert

theorem Dev.swCalAbort (h : Dev K bs ks s u) {m : Fin 6} (hK : ∀ f ∈ startFields m, K f.key) (hk : 9 ∈ ks := by simp) :
    Dev K bs ks s (u.swCalAbort m) :=
  h.andIf fun h => ((h.put (hK _ (by simp))).put (hK _ (by simp))).raise hk

theorem swCalAbort_sw (s : State) (m : Nat) : (s.swCalAbort m).sw = s.sw := by
  unfold State.swCalAbort
  split
  · rfl
  · rfl

theorem ownStart_sw (n : Fin 6) : ∀ f ∈ [F.SW_REF_NOW n, F.SW_REF_MOVING n, F.SW_STAT_SSDONE n, F.SW_STAT_RUN n,
    F.SW_CTL_EN n, F.SW_STAT_CAUSE n, F.SW_STAT_RETRIES n, F.SW_REF_TARGET n, F.SW_CTL_DISCH n, F.SW_STAT_GANGIGN n],
    swKeys n f.key := by decide +revert

theorem Dev.softStartBegin {n : Fin 6} (h : SwDev n s u) (fb : Nat) : SwDev n s (u.softStartBegin n fb) := by
  have hown := ownStart_sw n
  unfold State.softStartBegin
  extract_lets s1 s2 s3
  have h2 : SwDev n s s2 := ((((h.put (hown _ (by simp))).put (hown _ (by simp))).put (hown _ (by simp))).put
    (hown _ (by simp))).swUpd
  have h3 : SwDev n s s3 := by
    unfold s3
    split
    next m _ => exact (h2.swCalAbort (startFields_sw n m)).put (startFields_sw n m _ (by simp))
    next => exact h2
  exact h3.seqUpd

theorem swCalAbort_seq (s : State) (m : Nat) : (s.swCalAbort m).seq = s.seq := by
  unfold State.swCalAbort
  split
  · rfl
  · rfl

theorem softStartBegin_seq (s : State) (n : Fin 6) (fb : Nat) :
    (s.softStartBegin n fb).seq = (s.supBlank (n.val + 1)).seq := by
  unfold State.softStartBegin
  extract_lets s1 s2 s3
  have h3 : s3.seq = s.seq := by
    unfold s3
    split
    · exact swCalAbort_seq s2 _
    · rfl
  unfold State.supBlank State.seqUpd
  dsimp only
  rw [h3]

/-- An enable of a channel at rest up to the check of the CUT comparators. -/
def State.swOn (s : State) (n : Fin 6) (fb : Nat) : State :=
  let s2 := (((s.swCalAbort n).put (F.SW_CTL_EN n) 1).put (F.SW_STAT_CAUSE n) 0).put (F.SW_STAT_RETRIES n) 0
  let s3 := match s.gangMate n with
    | some m => s2.put (F.SW_STAT_CAUSE m) 0
    | none => s2
  (s3.swUpd n (fun x => { x with dis := false })).softStartBegin n fb

theorem Dev.swOn {n : Fin 6} (h : SwDev n s u) (fb : Nat) : SwDev n s (u.swOn n fb) := by
  have hown := ownStart_sw n
  unfold State.swOn
  extract_lets s2 s3
  have h2 : SwDev n s s2 := (((h.swCalAbort (startFields_sw n n)).put (hown _ (by simp))).put (hown _ (by simp))).put
    (hown _ (by simp))
  have h3 : SwDev n s s3 := by
    unfold s3
    split
    next m _ => exact h2.put (startFields_sw n m _ (by simp))
    next => exact h2
  exact (h3.swUpd).softStartBegin fb

theorem susp_swKeys (n : Fin 6) : ¬swKeys n F.THERM_SUSP_S.key := by decide +revert

theorem swOn_cut (s : State) (n : Fin 6) (fb : Nat) : (s.swOn n fb).cutActive = s.cutActive := by
  have hsusp : (s.swOn n fb).get F.THERM_SUSP_S = s.get F.THERM_SUSP_S :=
    (Dev.refl.swOn fb).keys _ (susp_swKeys n)
  have hcut : (s.swOn n fb).seq.cutNow = s.seq.cutNow := by
    unfold State.swOn
    extract_lets s2 s3
    have h3 : s3.seq = s.seq := by
      unfold s3
      split
      · exact swCalAbort_seq s n
      · exact swCalAbort_seq s n
    rw [softStartBegin_seq]
    change s3.seq.cutNow = s.seq.cutNow
    rw [h3]
  rw [State.cutActive, State.cutActive, hsusp, hcut]

theorem swEnable_eq (n : Fin 6) (fb : Nat) (hstop : s.stopping = false)
    (hen : s.on (F.SW_CTL_EN n) = false) (hcut : s.cutActive = false) : s.swEnable n fb = s.swOn n fb := by
  have hc := swOn_cut s n fb
  rw [hcut] at hc
  unfold State.swEnable
  rw [if_neg (by simp [hstop]), if_neg (by simp [hen])]
  exact if_neg (ne_true_of_eq_false hc)

/-- A channel that has begun its soft-start from the code `now`. -/
structure SwStarted (n : Fin 6) (now : Nat) (u : State) : Prop where
  en : u.on (F.SW_CTL_EN n) = true
  ref : u.get (F.SW_REF_NOW n) = now % 2048
  run : u.on (F.SW_STAT_RUN n) = true
  ssdone : u.on (F.SW_STAT_SSDONE n) = false
  cause : u.get (F.SW_STAT_CAUSE n) = 0
  ss : u.sw[n].ss = true

theorem gangMate_ne {n m : Fin 6} (h : s.gangMate n = some m) : n ≠ m := by
  rintro rfl
  unfold State.gangMate at h
  split at h
  · split at h
    · cases h
    · cases h
  · split at h
    · cases h
    · cases h
  · split at h
    · cases h
    · cases h
  · split at h
    · cases h
    · cases h
  · cases h

theorem swMate_ne {n m : Fin 6} (h : s.swMate n = some m) : n ≠ m := by
  unfold State.swMate at h
  split at h
  next k hk =>
    split at h
    · cases h
    · cases h
      exact gangMate_ne hk
  next => cases h

/-- The fields of channel `n` that its start reads back. -/
abbrev startedFields (n : Fin 6) : List Fld :=
  [F.SW_CTL_EN n, F.SW_REF_NOW n, F.SW_STAT_RUN n, F.SW_STAT_SSDONE n, F.SW_STAT_CAUSE n, F.SW_REF_TARGET n,
    F.SW_REF_MOVING n]

theorem startedKeys_ne (n m : Fin 6) (h : n ≠ m) :
    ∀ f ∈ startedFields n, f.key ∉ (startFields m).map Fld.key := by decide +revert

theorem refKeys_ne (n : Fin 6) :
    (∀ f ∈ [F.SW_STAT_RUN n, F.SW_STAT_SSDONE n, F.SW_REF_MOVING n], f.key ≠ (F.SW_REF_NOW n).key) ∧
      (∀ f ∈ [F.SW_STAT_RUN n, F.SW_STAT_SSDONE n, F.SW_REF_MOVING n, F.SW_REF_NOW n],
        ∀ g ∈ [F.SW_CTL_EN n, F.SW_STAT_CAUSE n, F.SW_REF_TARGET n], f.key ≠ g.key) ∧
      (F.SW_STAT_RUN n).key ≠ (F.SW_STAT_SSDONE n).key ∧ (F.SW_STAT_RUN n).key ≠ (F.SW_REF_MOVING n).key ∧
      (F.SW_STAT_SSDONE n).key ≠ (F.SW_REF_MOVING n).key := by decide +revert

/-- What a soft-start sets in its channel, and what it keeps. -/
structure SwBegun (n : Fin 6) (fb : Nat) (s u : State) : Prop where
  run : u.on (F.SW_STAT_RUN n) = true
  moving : u.on (F.SW_REF_MOVING n) = true
  ref : u.get (F.SW_REF_NOW n) = min fb (s.get (F.SW_REF_TARGET n)) % 2048
  ssdone : u.on (F.SW_STAT_SSDONE n) = false
  kept : ∀ f ∈ [F.SW_CTL_EN n, F.SW_STAT_CAUSE n, F.SW_REF_TARGET n], u.get f = s.get f
  ss : u.sw[n].ss = true
  restart : u.sw[n].restart = false
  vsysStop : u.sw[n].vsysStop = false

theorem softStartBegin_begun (s : State) (n : Fin 6) (fb : Nat) : SwBegun n fb s (s.softStartBegin n fb) := by
  obtain ⟨hnow, hown, hrun, hrunm, hdonem⟩ := refKeys_ne n
  unfold State.softStartBegin
  extract_lets s1 s2 s3
  have hmate : (∀ f ∈ startedFields n, s3.get f = s1.get f) ∧ s3.sw = s2.sw := by
    unfold s3
    split
    next m hm =>
      have hd : Dev (keysOf (startFields m)) [] [9] s2 ((s2.swCalAbort m).put (F.SW_STAT_RUN m) 1) :=
        (Dev.refl.swCalAbort fun _ hf => List.mem_map_of_mem hf).put
      exact ⟨fun f hf => hd.keys f (startedKeys_ne n m (swMate_ne hm) f hf), swCalAbort_sw s2 m⟩
    next => exact ⟨fun _ _ => rfl, rfl⟩
  obtain ⟨hget, hsw⟩ := hmate
  have hkeep : ∀ f ∈ startedFields n, (s3.supBlank (n.val + 1)).get f = s1.get f := hget
  have hon : ∀ f ∈ startedFields n, (s3.supBlank (n.val + 1)).on f = s1.on f := fun f hf =>
    congrArg (· != 0) (hget f hf)
  have hput : ∀ f ∈ [F.SW_CTL_EN n, F.SW_STAT_CAUSE n, F.SW_REF_TARGET n], s1.get f = s.get f := by
    intro f hf
    rw [State.get_put_ne _ _ _ _ (hown _ (by simp) f hf), State.get_put_ne _ _ _ _ (hown _ (by simp) f hf),
      State.get_put_ne _ _ _ _ (hown _ (by simp) f hf), State.get_put_ne _ _ _ _ (hown _ (by simp) f hf)]
  have hn : s3.sw[n] = { s.sw[n] with
      ss := true, ramp := none, restart := false, vsysStop := false, ssTrips := 0, tripped := false, cleanRun := 0 } := by
    simp [hsw, s2, s1]
  refine ⟨?_, ?_, ?_, ?_, fun f hf => ?_, ?_, ?_, ?_⟩
  · rw [hon _ (by simp), State.on_put_one]
  · rw [hon _ (by simp), State.on_put_ne hrunm, State.on_put_ne hdonem, State.on_put_one]
  · rw [hkeep _ (by simp), State.get_put_ne _ _ _ _ (hnow _ (by simp)), State.get_put_ne _ _ _ _ (hnow _ (by simp)),
      State.get_put_ne _ _ _ _ (hnow _ (by simp)), State.get_put_self]
    rfl
  · rw [hon _ (by simp), State.on_put_ne hrun, State.on_put_zero]
  · rw [hkeep f (by simp only [List.mem_cons, List.not_mem_nil, or_false] at hf ⊢; tauto), hput f hf]
  · exact congrArg SwSt.ss hn
  · exact congrArg SwSt.restart hn
  · exact congrArg SwSt.vsysStop hn

/-- A soft-start keeps EN, CAUSE and the target of its channel and sets the rest. -/
theorem softStartBegin_starts (s : State) (n : Fin 6) (fb : Nat) (hen : s.on (F.SW_CTL_EN n) = true)
    (hcause : s.get (F.SW_STAT_CAUSE n) = 0) :
    SwStarted n (min fb (s.get (F.SW_REF_TARGET n))) (s.softStartBegin n fb) ∧
      (s.softStartBegin n fb).get (F.SW_REF_TARGET n) = s.get (F.SW_REF_TARGET n) := by
  obtain ⟨hrun, -, hnow, hdone, hkept, hss, -, -⟩ := softStartBegin_begun s n fb
  exact ⟨⟨(State.on_of_get (hkept _ (by simp))).trans hen, hnow, hrun, hdone, (hkept _ (by simp)).trans hcause, hss⟩,
    hkept _ (by simp)⟩

theorem enableKeys_ne (n : Fin 6) :
    (∀ f ∈ [F.SW_CTL_EN n, F.SW_STAT_CAUSE n, F.SW_REF_TARGET n], (F.SW_STAT_RETRIES n).key ≠ f.key) ∧
      (∀ f ∈ [F.SW_CTL_EN n, F.SW_REF_TARGET n], (F.SW_STAT_CAUSE n).key ≠ f.key) ∧
      (F.SW_CTL_EN n).key ≠ (F.SW_REF_TARGET n).key ∧
      (F.SW_REF_TARGET n).key ∉ (startFields n).map Fld.key := by decide +revert

/-- A start from rest clears CAUSE, and keeps the target. -/
theorem swOn_starts (s : State) (n : Fin 6) (fb : Nat) :
    SwStarted n (min fb (s.get (F.SW_REF_TARGET n))) (s.swOn n fb) ∧
      (s.swOn n fb).get (F.SW_REF_TARGET n) = s.get (F.SW_REF_TARGET n) := by
  obtain ⟨hretries, hcause, hen, htarget⟩ := enableKeys_ne n
  unfold State.swOn
  extract_lets s2 s3
  have hmate : ∀ f ∈ startedFields n, s3.get f = s2.get f := by
    intro f hf
    unfold s3
    split
    next m hm =>
      refine State.get_put_ne _ _ _ _ fun e => ?_
      exact startedKeys_ne n m (gangMate_ne hm) f hf (by simp [e])
    next => rfl
  have habort : Dev (keysOf (startFields n)) [] [9] s (s.swCalAbort n) :=
    Dev.refl.swCalAbort fun _ hf => List.mem_map_of_mem hf
  have h3en : s3.on (F.SW_CTL_EN n) = true := by
    rw [State.on, hmate _ (by simp), State.get_put_ne _ _ _ _ (hretries _ (by simp)),
      State.get_put_ne _ _ _ _ (hcause _ (by simp))]
    exact State.on_put_one
  have h3cause : s3.get (F.SW_STAT_CAUSE n) = 0 := by
    rw [hmate _ (by simp), State.get_put_ne _ _ _ _ (hretries _ (by simp)), State.get_put_self, Nat.zero_mod]
  have h3target : s3.get (F.SW_REF_TARGET n) = s.get (F.SW_REF_TARGET n) := by
    rw [hmate _ (by simp), State.get_put_ne _ _ _ _ (hretries _ (by simp)),
      State.get_put_ne _ _ _ _ (hcause _ (by simp)), State.get_put_ne _ _ _ _ hen, habort.keys _ htarget]
  have hstart := softStartBegin_starts (s3.swUpd n (fun x => { x with dis := false })) n fb h3en h3cause
  rwa [State.get_swUpd, h3target] at hstart

/-! ## Codes -/

theorem Dev.swFallTo {n : Fin 6} (h : SwDev n s u) (code : Nat) : SwDev n s (u.swFallTo n code) := by
  unfold State.swFallTo State.swFall
  exact h.andIf fun h => (h.swUpd).seqUpd

/-- A fall writes no field and leaves the ramp. -/
theorem swFallTo_keeps (s : State) (n : Fin 6) (code : Nat) :
    (s.swFallTo n code).regs = s.regs ∧ (s.swFallTo n code).sw[n].ramp = s.sw[n].ramp := by
  unfold State.swFallTo
  split
  · refine ⟨rfl, ?_⟩
    change ((s.sw.set n _)[n]).ramp = _
    simp
  · exact ⟨rfl, rfl⟩

/-- The reference of channel `n` is fixed: in a soft-start and in a latched channel. -/
theorem swTargetOnly_iff (s : State) (n : Fin 6) :
    s.swTargetOnly n = true ↔ s.sw[n].ss = true ∨ s.get (F.SW_STAT_CAUSE n) ≠ 0 := by
  simp [State.swTargetOnly]

theorem Dev.swSetv {n : Fin 6} (h : SwDev n s u) (code : Nat) : SwDev n s (u.swSetv n code) := by
  have hown := ownStart_sw n
  unfold State.swSetv
  refine Dev.ite (h.put (hown _ (by simp))) ?_
  have h1 : SwDev n s (u.put (F.SW_REF_TARGET n) code) := h.put (hown _ (by simp))
  exact (h1.swFallTo code).ite (h1.ite (((h1.swFallTo code).put (hown _ (by simp))).put (hown _ (by simp))).swUpd)

theorem Dev.swRamp {n : Fin 6} (h : SwDev n s u) (code us : Nat) : SwDev n s (u.swRamp n code us) := by
  have hown := ownStart_sw n
  unfold State.swRamp
  refine (h.swSetv code).ite ?_
  have h1 : SwDev n s (u.put (F.SW_REF_TARGET n) code) := h.put (hown _ (by simp))
  exact ((h1.put (hown _ (by simp))).swUpd).ite (((h1.swFallTo code).put (hown _ (by simp))).swUpd)

theorem codeKeys_ne (n : Fin 6) :
    (F.SW_REF_TARGET n).key ≠ (F.SW_REF_NOW n).key ∧ (F.SW_REF_MOVING n).key ≠ (F.SW_REF_NOW n).key ∧
      (F.SW_REF_MOVING n).key ≠ (F.SW_REF_TARGET n).key := by decide +revert

/-- What setv leaves: the target; the reference follows at once unless the channel starts or is latched. -/
structure SwSet (n : Fin 6) (code : Nat) (s u : State) : Prop where
  target : u.get (F.SW_REF_TARGET n) = code
  busy : s.swTargetOnly n = true → u.get (F.SW_REF_NOW n) = s.get (F.SW_REF_NOW n) ∧ u.sw[n].ramp = s.sw[n].ramp
  idle : s.swTargetOnly n = false → u.get (F.SW_REF_NOW n) = code ∧ u.on (F.SW_REF_MOVING n) = false ∧ u.sw[n].ramp = none

theorem swSetv_set (s : State) (n : Fin 6) {code : Nat} (hf : s.follower n = false) (hc : code ≤ 1250) :
    SwSet n code s (s.swSetv n code) := by
  obtain ⟨htn, hmn, hmt⟩ := codeKeys_ne n
  have hcode : code < 2 ^ 11 := by omega
  unfold State.swSetv
  rw [if_neg (by simp [hf])]
  extract_lets s1
  have ht1 : s1.get (F.SW_REF_TARGET n) = code := State.get_put_lt hcode
  have hn1 : s1.get (F.SW_REF_NOW n) = s.get (F.SW_REF_NOW n) := State.get_put_ne _ _ _ _ htn
  obtain ⟨hregs, hramp⟩ := swFallTo_keeps s1 n code
  have hfall : ∀ f, (s1.swFallTo n code).get f = s1.get f := State.get_of_regs hregs
  by_cases hbusy : s.swTargetOnly n = true
  · split
    · exact ⟨by rw [hfall, ht1], fun _ => ⟨by rw [hfall, hn1], hramp⟩, fun h => absurd hbusy (by simp [h])⟩
    · exact ⟨ht1, fun _ => ⟨hn1, rfl⟩, fun h => absurd hbusy (by simp [h])⟩
  · have hss : ¬s.sw[n].ss = true := fun h => hbusy ((swTargetOnly_iff s n).2 (.inl h))
    rw [if_neg hss, if_neg hbusy]
    refine ⟨?_, fun h => absurd h hbusy, fun _ => ⟨?_, ?_, ?_⟩⟩
    · rw [State.get_swUpd, State.get_put_ne _ _ _ _ hmt, State.get_put_ne _ _ _ _ htn.symm, hfall, ht1]
    · rw [State.get_swUpd, State.get_put_ne _ _ _ _ hmn, State.get_put_lt hcode]
    · rw [State.on_swUpd, State.on_put_zero]
    · simp

/-- What ramp with a step time leaves on a channel that moves. -/
theorem swRamp_moves (s : State) (n : Fin 6) {code us : Nat} (hf : s.follower n = false) (hc : code ≤ 1250)
    (hus : us ≠ 0) (hidle : s.swTargetOnly n = false) :
    (s.swRamp n code us).get (F.SW_REF_TARGET n) = code ∧
      (s.swRamp n code us).get (F.SW_REF_NOW n) = s.get (F.SW_REF_NOW n) ∧
      (s.get (F.SW_REF_NOW n) ≠ code → (s.swRamp n code us).on (F.SW_REF_MOVING n) = true ∧
        (s.swRamp n code us).sw[n].ramp = some (code, us)) := by
  obtain ⟨htn, hmn, hmt⟩ := codeKeys_ne n
  have hcode : code < 2 ^ 11 := by omega
  unfold State.swRamp
  rw [if_neg (by simp [hus, hf, hidle])]
  extract_lets s1
  have ht1 : s1.get (F.SW_REF_TARGET n) = code := State.get_put_lt hcode
  have hn1 : s1.get (F.SW_REF_NOW n) = s.get (F.SW_REF_NOW n) := State.get_put_ne _ _ _ _ htn
  obtain ⟨hregs, -⟩ := swFallTo_keeps s1 n code
  have hfall : ∀ f, (s1.swFallTo n code).get f = s1.get f := State.get_of_regs hregs
  split
  next heq =>
    refine ⟨?_, ?_, fun h => absurd heq h⟩
    · rw [State.get_swUpd, State.get_put_ne _ _ _ _ hmt, ht1]
    · rw [State.get_swUpd, State.get_put_ne _ _ _ _ hmn, hn1]
  next hne =>
    refine ⟨?_, ?_, fun _ => ⟨?_, ?_⟩⟩
    · rw [State.get_swUpd, State.get_put_ne _ _ _ _ hmt, hfall, ht1]
    · rw [State.get_swUpd, State.get_put_ne _ _ _ _ hmn, hfall, hn1]
    · rw [State.on_swUpd, State.on_put_one]
    · simp

/-! ## Rail operations of a channel -/

theorem Dev.sw2Shed (h : SwDev 1 s u) (op : Nat) : SwDev 1 s (u.sw2Shed op) := by
  have hkeys : swKeys 1 (F.SW_CTL_SHED 0).key ∧ swKeys 1 (F.SW_TRIM_BTRIM 0).key := by decide
  obtain ⟨hshed, hbtrim⟩ := hkeys
  unfold State.sw2Shed
  split
  · refine h.andIf fun h => ?_
    have h1 := (h.put hshed (n := 0)).put hbtrim (n := 0)
    exact h1.andIf fun h => ((h.swCalAbort (startFields_sw 1 1)).put (startFields_sw 1 1 _ (by simp))).swUpd
  · exact (h.swGatesOff (gateFields_sw 1 1)).put hshed

/-- rail sw2 in a gang sheds SW2, or adds it again. -/
theorem sw2Shed_shed (s : State) (op : Nat) :
    (s.sw2Shed op).on (F.SW_CTL_SHED 0) = decide (op ≠ 1) ∧ (op ≠ 1 → (s.sw2Shed op).on (F.SW_STAT_RUN 1) = false) := by
  unfold State.sw2Shed
  by_cases hop : op = 1
  · rw [if_pos hop]
    refine ⟨?_, fun h => absurd hop h⟩
    simp only [hop, ne_eq, not_true_eq_false, decide_false]
    split
    next hon =>
      generalize hs1 : (s.put (F.SW_CTL_SHED 0) 0).put (F.SW_TRIM_BTRIM 0) 0 = s1
      have h1 : s1.on (F.SW_CTL_SHED 0) = false := by
        rw [← hs1, State.on_put_ne (by decide), State.on_put_zero]
      have habort : Dev (keysOf (startFields 1)) [] [9] s1 (s1.swCalAbort 1) :=
        Dev.refl.swCalAbort (m := 1) fun _ hf => List.mem_map_of_mem hf
      have hkey : (F.SW_CTL_SHED 0).key ∉ (startFields 1).map Fld.key := by decide
      split
      · rw [State.on_swUpd, State.on_put_ne (by decide), State.on, habort.keys _ hkey]
        exact h1
      · exact h1
    next hoff => simpa using hoff
  · rw [if_neg hop]
    refine ⟨?_, fun _ => ?_⟩
    · rw [State.on_put_one]
      simp [hop]
    · rw [State.on_put_ne (by decide)]
      exact (swGatesOff_rest s 1).1

/-- rail on of a channel that leads itself and is at rest. -/
theorem swRail_on (s : State) (n : Fin 6) (fb : Nat) (hf : s.follower n = false) (hen : s.on (F.SW_CTL_EN n) = false)
    (hstop : s.stopping = false) (hcut : s.cutActive = false) :
    SwDev n s (s.swRail n 1 fb) ∧ SwStarted n (min fb (s.get (F.SW_REF_TARGET n))) (s.swRail n 1 fb) := by
  obtain ⟨hent, hdis⟩ := swEn_swKeys n
  obtain ⟨hde, -, -, -, -⟩ := offKeys_ne n
  have htarget : (F.SW_CTL_DISCH n).key ≠ (F.SW_REF_TARGET n).key := by
    simp only [F.SW_CTL_DISCH, F.SW_REF_TARGET, Fld.key]
    omega
  unfold State.swRail
  rw [if_neg (by simp [hf]), if_pos rfl, if_neg (by simp [hstop])]
  generalize hx : (s.put (F.SW_CTL_DISCH n) 0).swUpd n (fun x => { x with dis := false }) = x
  have hd : SwDev n s x := hx ▸ (Dev.refl.put hdis).swUpd
  have hxen : x.on (F.SW_CTL_EN n) = false := by
    rw [← hx, State.on_swUpd, State.on_put_ne hde]
    exact hen
  have hxt : x.get (F.SW_REF_TARGET n) = s.get (F.SW_REF_TARGET n) := by
    rw [← hx, State.get_swUpd, State.get_put_ne _ _ _ _ htarget]
  have hxs : x.stopping = false := hx ▸ hstop
  have hxc : x.cutActive = false := by
    have hsusp : x.get F.THERM_SUSP_S = s.get F.THERM_SUSP_S := hd.keys _ (susp_swKeys n)
    rw [← hcut, State.cutActive, State.cutActive, hsusp, ← hx]
    rfl
  rw [swEnable_eq n fb hxs hxen hxc]
  exact ⟨hd.trans (Dev.refl.swOn fb), hxt ▸ (swOn_starts x n fb).1⟩

/-! ## Landing latches -/

theorem ProgramsSame.trans {a b c : State} (h : ProgramsSame a b) (h' : ProgramsSame b c) : ProgramsSame a c := by
  intro t
  obtain ⟨hg, hpc, hpsw, hpend, hicnt⟩ := h t
  obtain ⟨hg', hpc', hpsw', hpend', hicnt'⟩ := h' t
  exact ⟨hg'.trans hg, hpc'.trans hpc, hpsw'.trans hpsw, hpend'.trans hpend, hicnt'.trans hicnt⟩

theorem ProgramsSame.loadAhead (s : State) (isl : Island) : ProgramsSame s (s.loadAhead isl) := by
  intro t
  unfold State.loadAhead
  rw [State.thr_mapThr]
  split
  · split
    · exact ⟨rfl, rfl, rfl, rfl, rfl⟩
    · exact ⟨rfl, rfl, rfl, rfl, rfl⟩
  · split
    · exact ⟨rfl, rfl, rfl, rfl, rfl⟩
    · exact ⟨rfl, rfl, rfl, rfl, rfl⟩
  · exact ⟨rfl, rfl, rfl, rfl, rfl⟩

/-- A latched write that is applied: the entry is handed to the island without its latch slot. -/
theorem latchApply_eq {isl : Island} {e : Sense} {x : SbEntry} {rest : List LatchWrite} (hp : s.powered = true)
    (hfirst : s.loadFirst isl = false) (htake : State.latchTake isl s.core.latch = some (x, rest)) :
    s.latchApply isl e =
      (((s.coreUpd (fun c => { c with latch := rest })).applyEntry x e).loadAhead isl).retryStalls := by
  unfold State.latchApply
  rw [if_pos ⟨hp, hfirst⟩, htake]

/-- What an applied latched write leaves of CORE and of memory. -/
structure LatchLeft (rest : List LatchWrite) (s u : State) : Prop where
  latch : u.core.latch = rest
  sb : u.core.sb = s.core.sb
  programs : ProgramsSame s u
  mem : u.mem = s.mem

/-- A device command leaves the latches, the store buffer and the threads. -/
theorem Dev.coreRest (h : Dev K bs ks s u) :
    u.core.latch = s.core.latch ∧ u.core.sb = s.core.sb ∧ u.core.threads = s.core.threads := by
  obtain ⟨hcore, -⟩ := h.core
  rw [← hcore]
  exact ⟨rfl, rfl, rfl⟩

theorem LatchLeft.of_dev {isl : Island} {rest : List LatchWrite} {v : State}
    (h : Dev K bs ks (s.coreUpd (fun c => { c with latch := rest })) v) :
    LatchLeft rest s (v.loadAhead isl).retryStalls := by
  obtain ⟨hlatch, hsb, hthr⟩ := h.coreRest
  refine ⟨hlatch, hsb, ?_, h.mem⟩
  have hv : ProgramsSame s v := fun t => by
    rw [State.thr, hthr]
    exact ⟨rfl, rfl, rfl, rfl, rfl⟩
  exact (hv.trans (.loadAhead v isl)).trans (.retryStalls _)

theorem Gives.latched {isl : Island} {e : Sense} {x : SbEntry} {rest : List LatchWrite} {P : State → Prop}
    (hp : s.powered = true) (hfirst : s.loadFirst isl = false)
    (htake : State.latchTake isl s.core.latch = some (x, rest)) {v : State}
    (hv : (s.coreUpd (fun c => { c with latch := rest })).applyEntry x e = v)
    (h : P (v.loadAhead isl).retryStalls) : Gives (.latchApply isl e) s P := by
  have hx : exec (.latchApply isl e) s = .next (s.latchApply isl e) := rfl
  refine ⟨_, hx, ?_⟩
  rw [latchApply_eq hp hfirst htake, hv]
  exact h

/-- The frame of an applied rail operation on channel `n`. -/
theorem SwDev.latched {n : Fin 6} {rest : List LatchWrite} {v : State}
    (h : SwDev n (s.coreUpd (fun c => { c with latch := rest })) v) (isl : Island) :
    let u := (v.loadAhead isl).retryStalls
    (u.core.latch = rest ∧ u.core.sb = s.core.sb ∧ ProgramsSame s u ∧ u.mem = s.mem) ∧
      OnlyRanges s u [(0x40008000, 0x4000E000), (0x40010000, 0x40011000)] [] ∧ BlocksBut [.sw, .seq] s u ∧
      ∀ m : Fin 6, m ≠ n → s.gangMate n ≠ some m → u.on (F.SW_CTL_EN m) = s.on (F.SW_CTL_EN m) := by
  obtain ⟨hlatch, hsb, hprog, hmem⟩ := LatchLeft.of_dev (isl := isl) h
  refine ⟨⟨hlatch, hsb, hprog, hmem⟩, fun g _ hr => h.keys g fun hg => ?_, h.blocks, fun m hm _ => ?_⟩
  · have h1 := hr (0x40008000, 0x4000E000) (by simp)
    have h2 := hr (0x40010000, 0x40011000) (by simp)
    simp only at h1 h2
    omega
  · exact congrArg (· != 0) (h.keys _ fun hg => hg.2 m hm rfl)

/-- An applied write of one field to 1. -/
theorem latched_flag (s : State) (rest : List LatchWrite) (isl : Island) (f : Fld) (hf : 0 < f.width) :
    let u := (((s.coreUpd (fun c => { c with latch := rest })).put f 1).loadAhead isl).retryStalls
    u.on f = true ∧ (u.core.latch = rest ∧ u.core.sb = s.core.sb ∧ ProgramsSame s u ∧ u.mem = s.mem) ∧
      OnlyFields s u [f] ∧ BlocksSame s u := by
  have h : Dev (keysOf [f]) [] [] (s.coreUpd (fun c => { c with latch := rest }))
      ((s.coreUpd (fun c => { c with latch := rest })).put f 1) := Dev.refl.put
  obtain ⟨hlatch, hsb, hprog, hmem⟩ := LatchLeft.of_dev (isl := isl) h
  exact ⟨State.on_put_one hf, ⟨hlatch, hsb, hprog, hmem⟩, h.keys, h.blocksSame⟩

theorem swOfRail_channel (n : Fin 6) : State.swOfRail (n.val + 1) = some n := by decide +revert

theorem applySetv_channel (s : State) (n : Fin 6) (code : Nat) : s.applySetv (n.val + 1) code = s.swSetv n code := by
  unfold State.applySetv
  rw [swOfRail_channel]

theorem applyRamp_channel (s : State) (n : Fin 6) (code us : Nat) :
    s.applyRamp (n.val + 1) code us = s.swRamp n code us := by
  unfold State.applyRamp
  rw [swOfRail_channel]

theorem applyRail_channel (s : State) (n : Fin 6) (op : Nat) (e : Sense) :
    s.applyRail (n.val + 1) op e = s.swRail n op e.fbCode := by
  unfold State.applyRail
  rw [swOfRail_channel]

/-! ## The early rail -/

theorem earlyKeys_ne (n : Fin 6) :
    (∀ f ∈ [F.SW_CTL_EN n, F.THERM_SUSP_S], f.key ∉ [F.SYS_DOMCTL_DSW, F.SYS_DOMSTAT_PG, F.SW_REF_TARGET n].map Fld.key) ∧
      (F.SW_REF_TARGET n).key ≠ F.SYS_DOMSTAT_PG.key ∧ ¬swKeys n F.SYS_DOMSTAT_PG.key := by decide +revert

theorem State.bit_setBit (s : State) (f : Fld) {i : Nat} (j : Nat) (hi : i < f.width) (h : i = j ∨ s.bit f j = true)
    (hj : j < f.width) : (s.setBit f i).bit f j = true := by
  rw [State.setBit, State.bit, State.get_put_self, Nat.testBit_mod_two_pow]
  rw [State.bit] at h
  rcases h with rfl | h
  · simp [hi]
  · simp [hj, h]

theorem State.adcUpd_pwr (s : State) (f : AdcSt → AdcSt) : (s.adcUpd f).pwr = s.pwr := rfl

/-- The early rail's start: its domains, its target, then an enable from rest. -/
theorem earlyRailStart_starts (s : State) (n : Fin 6) (fb : Nat) (hp : s.powered = true) (hotp : s.pwr.otpOk = true)
    (hosc : s.on F.SYS_OSCSTAT_MOSC_OK = true) (hrst : s.pwr.rstLow = false) (hdone : s.pwr.earlyDone = false)
    (hstop : s.stopping = false) (hn : s.earlyChannel = some n) (hen : s.on (F.SW_CTL_EN n) = false)
    (hcut : s.cutActive = false) :
    SwStarted n (min fb s.earlyRef) (s.earlyRailStart fb) ∧ (s.earlyRailStart fb).mem = s.mem ∧
      (s.earlyRailStart fb).pwr.earlyDone = true ∧ (s.earlyRailStart fb).get (F.SW_REF_TARGET n) = s.earlyRef ∧
      (s.earlyRailStart fb).domPg (7 + n.val) = true ∧ (s.earlyRailStart fb).domPg 3 = true := by
  have href : s.earlyRef < 2 ^ 11 := by
    unfold State.earlyRef State.wired
    exact Nat.mod_lt _ (by decide)
  unfold State.earlyRailStart
  rw [if_pos ⟨hp, hotp, hosc, hrst, hdone, hstop⟩, hn]
  dsimp only
  generalize hx : (((((s.pwrUpd (fun p => { p with earlyDone := true })).setBit F.SYS_DOMCTL_DSW (7 + n.val - 2)).setBit
    F.SYS_DOMCTL_DSW 1).setPg (7 + n.val) true).setPg 3 true |>.adcLoad).put (F.SW_REF_TARGET n) s.earlyRef = x
  have hd : Dev (keysOf [F.SYS_DOMCTL_DSW, F.SYS_DOMSTAT_PG, F.SW_REF_TARGET n]) [.pwr, .adc] [] s x :=
    hx ▸ (((((Dev.refl.pwrUpd).setBit).setBit).setBit).setBit.adcUpd.tickFree).put
  obtain ⟨hkeys, hpgt, hpgk⟩ := earlyKeys_ne n
  have hxpwr : x.pwr = { s.pwr with earlyDone := true } := by
    rw [← hx, State.put_pwr]
    simp only [State.adcLoad, State.tickFree_pwr, State.adcUpd_pwr, State.setPg, State.setBit, if_true, State.put_pwr,
      State.pwrUpd_pwr]
  have hxen : x.on (F.SW_CTL_EN n) = false := by
    rw [State.on, hd.keys _ (hkeys _ (by simp))]
    exact hen
  have hxcut : x.cutActive = false := by
    obtain ⟨-, -, -, -, hseq, -⟩ := hd.blocks
    have hseq := hseq (by simp)
    rw [← hcut, State.cutActive, State.cutActive, hd.keys _ (hkeys _ (by simp)), hseq]
  have hxstop : x.stopping = false := by
    rw [← hstop, State.stopping, State.stopping, hxpwr]
  have hxt : x.get (F.SW_REF_TARGET n) = s.earlyRef := by
    rw [← hx, State.get_put_lt href]
  have hxpg : x.domPg (7 + n.val) = true ∧ x.domPg 3 = true := by
    rw [← hx, State.domPg, State.domPg, State.bit, State.bit, State.get_put_ne _ _ _ _ hpgt]
    refine ⟨State.bit_setBit _ F.SYS_DOMSTAT_PG (7 + n.val) (by decide) (.inr ?_) ?_,
      State.bit_setBit _ F.SYS_DOMSTAT_PG 3 (by decide) (.inl rfl) (by decide)⟩
    · exact State.bit_setBit _ F.SYS_DOMSTAT_PG (7 + n.val) (by simp [F.SYS_DOMSTAT_PG]; omega) (.inl rfl)
        (by simp [F.SYS_DOMSTAT_PG]; omega)
    · simp [F.SYS_DOMSTAT_PG]
      omega
  obtain ⟨hstart, htarget⟩ := swOn_starts x n fb
  have hon : SwDev n x (x.swOn n fb) := Dev.refl.swOn fb
  have hpwr : (x.swOn n fb).pwr = x.pwr := by
    have hb := hon.blocks
    exact hb.1 (by simp)
  have hpgon : ∀ d, (x.swOn n fb).domPg d = x.domPg d := fun d =>
    congrArg (·.testBit d) (hon.keys _ hpgk)
  rw [swEnable_eq n fb hxstop hxen hxcut]
  rw [hxt] at hstart htarget
  exact ⟨hstart, hon.mem.trans hd.mem, by rw [hpwr, hxpwr], htarget, by rw [hpgon, hxpg.1], by rw [hpgon, hxpg.2]⟩

/-! ## The statement -/

/-- A latched store does what `REGISTER_WRITE` does. -/
theorem latched_store {isl : Island} {e : Sense} {x : SbEntry} {rest : List LatchWrite} {be : BitVec 4} {d : Word}
    (hp : s.powered = true) (hfirst : s.loadFirst isl = false)
    (htake : State.latchTake isl s.core.latch = some (x, rest)) (hop : x.op = .store be d)
    (hcan : s.canTake x.addr = true) :
    Gives (.registerWrite (BitVec.ofNat 32 x.addr) x.ring d e) { s with core := { s.core with latch := rest } }
      (fun v => Gives (.latchApply isl e) s (fun u => u.regs = v.regs ∧ BlocksSame v u ∧ u.mem = v.mem ∧
        u.core.latch = v.core.latch ∧ ProgramsSame v u)) := by
  have haddr : (BitVec.ofNat 32 x.addr).toNat = x.addr := by
    have hwin : (windowOf x.addr).isSome = true := by
      simp only [State.canTake, Bool.and_eq_true] at hcan
      exact hcan.1.1.2
    have hlt : x.addr < 2 ^ 32 := by
      unfold windowOf at hwin
      split at hwin
      next h => omega
      next => cases hwin
    exact (BitVec.toNat_ofNat _ _).trans (Nat.mod_eq_of_lt hlt)
  have hx : exec (.registerWrite (BitVec.ofNat 32 x.addr) x.ring d e) { s with core := { s.core with latch := rest } } =
      .next (if s.canTake (BitVec.ofNat 32 x.addr).toNat then
        (s.coreUpd (fun c => { c with latch := rest })).applyWrite (BitVec.ofNat 32 x.addr).toNat x.ring d e
        else (s.coreUpd (fun c => { c with latch := rest }))) := rfl
  rw [haddr, if_pos hcan] at hx
  refine ⟨_, hx, ?_⟩
  generalize hv : (s.coreUpd (fun c => { c with latch := rest })).applyWrite x.addr x.ring d e = v
  have happly : (s.coreUpd (fun c => { c with latch := rest })).applyEntry x e = v := by
    rw [State.applyEntry, hop]
    exact hv
  refine Gives.latched hp hfirst htake happly ⟨rfl, BlocksSame.refl, rfl, rfl, ?_⟩
  exact (ProgramsSame.loadAhead v isl).trans (.retryStalls _)

theorem Gives.imp {i : Instr} {P Q : State → Prop} (h : Gives i s P) (hpq : ∀ u, P u → Q u) : Gives i s Q :=
  let ⟨u, hx, hu⟩ := h
  ⟨u, hx, hpq u hu⟩

/-- What an applied rail operation on channel `n` leaves as it was. -/
abbrev SwApplied (n : Fin 6) (rest : List LatchWrite) (s u : State) : Prop :=
  (u.core.latch = rest ∧ u.core.sb = s.core.sb ∧ ProgramsSame s u ∧ u.mem = s.mem) ∧
    OnlyRanges s u [(0x40008000, 0x4000E000), (0x40010000, 0x40011000)] [] ∧ BlocksBut [.sw, .seq] s u ∧
    ∀ m : Fin 6, m ≠ n → s.gangMate n ≠ some m → u.on (F.SW_CTL_EN m) = s.on (F.SW_CTL_EN m)

section

variable {n : Fin 6} {e : Sense} {x : SbEntry} {rest : List LatchWrite} (hp : s.powered = true)
  (hfirst : s.loadFirst (.sw n) = false) (htake : State.latchTake (.sw n) s.core.latch = some (x, rest))

include hp hfirst htake

theorem latched_setv {code : Nat} (hf : s.follower n = false) (hc : code ≤ 1250) (hop : x.op = .setv (n.val + 1) code) :
    Gives (.latchApply (.sw n) e) s fun u => SwSet n code s u ∧ SwApplied n rest s u := by
  generalize hv : (s.coreUpd (fun c => { c with latch := rest })).swSetv n code = v
  have happly : (s.coreUpd (fun c => { c with latch := rest })).applyEntry x e = v := by
    rw [State.applyEntry, hop]
    exact (applySetv_channel _ n code).trans hv
  obtain ⟨htarget, hbusy, hidle⟩ := hv ▸ swSetv_set (s.coreUpd (fun c => { c with latch := rest })) n hf hc
  have hd : SwDev n (s.coreUpd (fun c => { c with latch := rest })) v := hv ▸ Dev.refl.swSetv code
  exact Gives.latched hp hfirst htake happly ⟨⟨htarget, hbusy, hidle⟩, SwDev.latched hd _⟩

theorem latched_ramp {code us : Nat} (hf : s.follower n = false) (hc : code ≤ 1250)
    (hop : x.op = .ramp (n.val + 1) code us) :
    Gives (.latchApply (.sw n) e) s fun u => (us = 0 ∨ s.swTargetOnly n = true → SwSet n code s u) ∧
      (us ≠ 0 → s.swTargetOnly n = false → u.get (F.SW_REF_TARGET n) = code ∧
        u.get (F.SW_REF_NOW n) = s.get (F.SW_REF_NOW n) ∧
        (s.get (F.SW_REF_NOW n) ≠ code → u.on (F.SW_REF_MOVING n) = true ∧ u.sw[n].ramp = some (code, us))) ∧
      SwApplied n rest s u := by
  generalize hv : (s.coreUpd (fun c => { c with latch := rest })).swRamp n code us = v
  have happly : (s.coreUpd (fun c => { c with latch := rest })).applyEntry x e = v := by
    rw [State.applyEntry, hop]
    exact (applyRamp_channel _ n code us).trans hv
  have hd : SwDev n (s.coreUpd (fun c => { c with latch := rest })) v := hv ▸ Dev.refl.swRamp code us
  refine Gives.latched hp hfirst htake happly ⟨fun h => ?_, fun hus hidle => ?_, SwDev.latched hd _⟩
  · have heq : v = (s.coreUpd (fun c => { c with latch := rest })).swSetv n code := by
      rw [← hv]
      exact if_pos (h.imp id .inr)
    obtain ⟨htarget, hbusy, hidle⟩ := heq ▸ swSetv_set (s.coreUpd (fun c => { c with latch := rest })) n hf hc
    exact ⟨htarget, hbusy, hidle⟩
  · exact hv ▸ swRamp_moves (s.coreUpd (fun c => { c with latch := rest })) n hf hc hus hidle

theorem latched_rail {op : Nat} {v : State} (hop : x.op = .rail (n.val + 1) op)
    (hv : (s.coreUpd (fun c => { c with latch := rest })).swRail n op e.fbCode = v) {P : State → Prop}
    (h : P (v.loadAhead (.sw n)).retryStalls) : Gives (.latchApply (.sw n) e) s P := by
  refine Gives.latched hp hfirst htake ?_ h
  rw [State.applyEntry, hop]
  exact (applyRail_channel _ n op e).trans hv

theorem latched_on (hf : s.follower n = false) (hop : x.op = .rail (n.val + 1) 1) (hen : s.on (F.SW_CTL_EN n) = false)
    (hstop : s.stopping = false) (hcut : s.cutActive = false) :
    Gives (.latchApply (.sw n) e) s fun u =>
      SwStarted n (min e.fbCode (s.get (F.SW_REF_TARGET n))) u ∧ SwApplied n rest s u := by
  obtain ⟨hd, hstart⟩ := swRail_on (s.coreUpd (fun c => { c with latch := rest })) n e.fbCode hf hen hstop hcut
  generalize hv : (s.coreUpd (fun c => { c with latch := rest })).swRail n 1 e.fbCode = v at hd hstart
  obtain ⟨h1, h2, h3, h4, h5, h6⟩ := hstart
  exact latched_rail hp hfirst htake hop hv ⟨⟨h1, h2, h3, h4, h5, h6⟩, SwDev.latched hd _⟩

theorem latched_off {op : Nat} (hf : s.follower n = false) (hop : x.op = .rail (n.val + 1) op) (h1 : op ≠ 1) :
    Gives (.latchApply (.sw n) e) s fun u => SwOff n (op == 2) u ∧ SwApplied n rest s u := by
  have heq : (s.coreUpd (fun c => { c with latch := rest })).swRail n op e.fbCode =
      (s.coreUpd (fun c => { c with latch := rest })).swDisable n (op == 2) := by
    unfold State.swRail
    rw [if_neg h1]
    exact if_neg (ne_true_of_eq_false hf)
  have hd : SwDev n _ ((s.coreUpd (fun c => { c with latch := rest })).swDisable n (op == 2)) := Dev.refl.swDisable _
  have hoff := swDisable_off (s.coreUpd (fun c => { c with latch := rest })) n (op == 2)
  generalize (s.coreUpd (fun c => { c with latch := rest })).swDisable n (op == 2) = v at heq hd hoff
  obtain ⟨hen, hrun, hss, hpg, hdis⟩ := hoff
  exact latched_rail hp hfirst htake hop heq ⟨⟨hen, hrun, hss, hpg, hdis⟩, SwDev.latched hd _⟩

theorem latched_shed {op : Nat} (hn : n = 1) (hf : s.follower n = true) (hop : x.op = .rail (n.val + 1) op) :
    Gives (.latchApply (.sw n) e) s fun u => (u.on (F.SW_CTL_SHED 0) = decide (op ≠ 1) ∧
      (op ≠ 1 → u.on (F.SW_STAT_RUN 1) = false)) ∧ SwApplied n rest s u := by
  subst hn
  have heq : (s.coreUpd (fun c => { c with latch := rest })).swRail 1 op e.fbCode =
      (s.coreUpd (fun c => { c with latch := rest })).sw2Shed op := by
    unfold State.swRail
    exact (if_pos hf).trans (if_pos rfl)
  have hd : SwDev 1 _ ((s.coreUpd (fun c => { c with latch := rest })).sw2Shed op) := Dev.refl.sw2Shed op
  have hshed := sw2Shed_shed (s.coreUpd (fun c => { c with latch := rest })) op
  generalize (s.coreUpd (fun c => { c with latch := rest })).sw2Shed op = v at heq hd hshed
  exact latched_rail hp hfirst htake hop heq ⟨hshed, SwDev.latched hd _⟩

end

/-- Settles O48: a latched write is applied as by `REGISTER_WRITE`, a rail operation by the lemmas above. -/
theorem railOperationsTakeEffect : Obligations.RailOperationsTakeEffect := by
  unfold Obligations.RailOperationsTakeEffect
  intro s n e x rest hp started left inRails
  refine ⟨fun isl hfirst => ?_, fun isl be d hfirst htake hop hcan => ?_, fun hfirst htake hf => ?_,
    fun hfirst htake hf => ?_, fun fb hotp hosc hrst hdone hstop hn hen hcut => ?_⟩
  · have hx : exec (.latchApply isl e) s = .next (s.latchApply isl e) := rfl
    exact ⟨_, hx, if_neg (by simp [hfirst])⟩
  · exact latched_store hp hfirst htake hop hcan
  · intro busy
    have hbusy : s.swTargetOnly n = true ↔ busy := swTargetOnly_iff s n
    have hidle : ¬busy → s.swTargetOnly n = false := fun h => Bool.eq_false_iff.2 fun h' => h (hbusy.1 h')
    refine ⟨fun code hop hc => ?_, fun code us hop hc => ?_, fun hop hen => ⟨fun hstop hcut => ?_, fun hstop => ?_⟩,
      fun op hop h1 => ?_⟩
    · exact (latched_setv hp hfirst htake hf hc hop).imp fun u ⟨⟨ht, hb, hi⟩, hr⟩ =>
        ⟨ht, hr, fun h => hb (hbusy.2 h), fun h => hi (hidle h)⟩
    · refine (latched_ramp hp hfirst htake hf hc hop).imp fun u ⟨hset, hmove, hr⟩ => ⟨?_, hr, ?_, ?_, ?_⟩
      · by_cases h : us = 0 ∨ s.swTargetOnly n = true
        · exact (hset h).target
        · obtain ⟨h0, h1⟩ := not_or.1 h
          exact (hmove h0 (Bool.eq_false_iff.2 h1)).1
      · intro h
        by_cases hb : busy
        · exact ((hset (.inr (hbusy.2 hb))).busy (hbusy.2 hb)).1
        · exact (hmove (h.resolve_right hb) (hidle hb)).2.1
      · exact fun h0 hb hne => (hmove h0 (hidle hb)).2.2 hne
      · exact fun h0 hb => (((hset (.inl h0)).idle (hidle hb)).imp id And.left)
    · exact (latched_on hp hfirst htake hf hop hen hstop hcut).imp fun u ⟨⟨h1, h2, h3, h4, h5, h6⟩, hr⟩ =>
        ⟨⟨h1, h2, h3, h4, h5, h6, hr.1.2.2.2⟩, hr⟩
    · have heq : (s.coreUpd (fun c => { c with latch := rest })).swRail n 1 e.fbCode =
          (s.coreUpd (fun c => { c with latch := rest })).put F.SEQ_STAT_REFUSED 1 := by
        unfold State.swRail
        rw [if_pos rfl]
        exact (if_neg (ne_true_of_eq_false hf)).trans (if_pos hstop)
      exact latched_rail hp hfirst htake hop heq (latched_flag s rest _ _ (by decide))
    · exact (latched_off hp hfirst htake hf hop h1).imp fun u ⟨⟨hen, hrun, hss, hpg, hdis⟩, hr⟩ =>
        ⟨hen, hrun, hss, hpg, hdis, hr⟩
  · refine ⟨fun code us hop => ?_, fun op hop => ⟨fun hn => ?_, fun hn => ?_⟩⟩
    · have happly : (s.coreUpd (fun c => { c with latch := rest })).applyEntry x e =
          (s.coreUpd (fun c => { c with latch := rest })).put (F.SW_STAT_GANGIGN n) 1 := by
        rw [State.applyEntry]
        rcases hop with hop | hop
        · rw [hop]
          exact (applySetv_channel _ n code).trans (if_pos hf)
        · rw [hop]
          exact (applyRamp_channel _ n code us).trans ((if_pos (.inr (.inl hf))).trans (if_pos hf))
      exact Gives.latched hp hfirst htake happly (latched_flag s rest _ _ Nat.one_pos)
    · have heq : (s.coreUpd (fun c => { c with latch := rest })).swRail n op e.fbCode =
          (s.coreUpd (fun c => { c with latch := rest })).put (F.SW_STAT_GANGIGN n) 1 := by
        unfold State.swRail
        exact (if_pos hf).trans (if_neg (by simp [hn]))
      exact latched_rail hp hfirst htake hop heq (latched_flag s rest _ _ Nat.one_pos)
    · exact (latched_shed hp hfirst htake hn hf hop).imp fun u ⟨⟨h1, h2⟩, hr⟩ => ⟨h1, hr, h2⟩
  · have hx : exec (.earlyRailStart fb) s = .next (s.earlyRailStart fb) := rfl
    obtain ⟨⟨h1, h2, h3, h4, h5, h6⟩, hmem, hdone', htarget, hpg, hpg3⟩ :=
      earlyRailStart_starts s n fb hp hotp hosc hrst hdone hstop hn hen hcut
    exact ⟨_, hx, ⟨h1, h2, h3, h4, h5, h6, hmem⟩, hdone', htarget, hpg, hpg3⟩

end Sys2Proof.Machine
end

section
/-!
SUPPORT. The charger (spec/09): the fields that each of its operations may write, and what it leaves in STATE, MODE and
FAULT. The operations share `chgEval` (R214), `scForward` and `chgWatch`, so their facts stand first.
-/

set_option Elab.async false

namespace Sys2Proof.Machine

variable {K : Nat → Prop} {bs : List Block} {ks : List Nat} {s u : State}

/-- The frame of a charger operation: SC, CHG, their own state and E10. -/
abbrev StoreDev (s u : State) : Prop := Dev (keysIn [(0x4000E000, 0x40010000)] []) [.store] [10] s u

theorem Dev.storeUpd (h : Dev K bs ks s u) {f : StoreSt → StoreSt} (hb : .store ∈ bs := by simp) :
    Dev K bs ks s (u.storeUpd f) :=
  h.block (by simp [BlocksBut, hb, State.storeUpd])

theorem Dev.vstorSeen (h : Dev K bs ks s u) (v : Nat) (hK : K F.CHG_STAT_BAL.key := by simp [keysOf])
    (hb : .store ∈ bs := by simp) : Dev K bs ks s (u.vstorSeen v) :=
  (h.andIf (·.storeUpd hb)).andIf (·.put hK)

theorem Dev.scForward (h : Dev K bs ks s u) (hK : K F.SC_STAT_MODE.key := by simp [keysOf]) :
    Dev K bs ks s u.scForward :=
  h.andIf (·.put hK)

theorem Dev.chgWatch (h : Dev K bs ks s u) (old : State) (hK : K F.CHG_STAT_CHGEV.key := by simp [keysOf])
    (hk : 10 ∈ ks := by simp) : Dev K bs ks s (State.chgWatch old u) :=
  h.andIf fun h => h.orIf fun h => (h.put hK).raise hk

theorem Dev.testAgain (h : Dev K bs ks s u) (v : Nat) (hb : .store ∈ bs := by simp) : Dev K bs ks s (u.testAgain v) :=
  h.andIf (·.storeUpd hb)

theorem Dev.presenceBegin (h : Dev K bs ks s u) (v : Nat) (hK : K F.SC_STAT_MODE.key := by simp [keysOf])
    (hb : .store ∈ bs := by simp) : Dev K bs ks s (u.presenceBegin v) :=
  h.andIf fun h => (h.storeUpd (f := fun q => { q with presence := 1 }) hb).scForward hK

/-- The fields that the conditions of R214 move. -/
abbrev evalFields : List Fld := [F.CHG_STAT_FAULT, F.CHG_STAT_STATE, F.SC_STAT_MODE]

theorem Dev.chgEval (h : Dev K bs ks s u) (v : Nat) (hK : ∀ f ∈ evalFields, K f.key := by decide)
    (hb : .store ∈ bs := by simp) : Dev K bs ks s (u.chgEval v) := by
  unfold State.chgEval
  extract_lets s0 st s1
  have h0 : Dev K bs ks s s0 := h.orIf (·.put (hK _ (by simp)))
  have hstate : ∀ n, Dev K bs ks s (s0.put F.CHG_STAT_STATE n) := fun n => h0.put (hK _ (by simp))
  have h1 : Dev K bs ks s s1 := Dev.ite (((hstate _).testAgain v hb).ite h0) (hstate _)
  exact h1.scForward (hK _ (by simp))

theorem evalFields_store : ∀ f ∈ evalFields, keysIn [(0x4000E000, 0x40010000)] [] f.key := by decide

theorem vstorSeen_dev (s : State) (v : Nat) : Dev (keysOf [F.CHG_STAT_BAL]) [.store] [] s (s.vstorSeen v) :=
  Dev.refl.vstorSeen v

theorem scForward_dev (s : State) : Dev (keysOf [F.SC_STAT_MODE]) [] [] s s.scForward := Dev.refl.scForward

theorem chgWatch_dev (old s : State) : Dev (keysOf [F.CHG_STAT_CHGEV]) [] [10] s (State.chgWatch old s) :=
  Dev.refl.chgWatch old

theorem chgEval_dev (s : State) (v : Nat) : Dev (keysOf evalFields) [.store] [] s (s.chgEval v) := Dev.refl.chgEval v

theorem presenceBegin_dev (s : State) (v : Nat) : Dev (keysOf [F.SC_STAT_MODE]) [.store] [] s (s.presenceBegin v) :=
  Dev.refl.presenceBegin v

/-- A command that writes no field with this key leaves the field. -/
theorem Dev.on_eq (h : Dev K bs ks s u) {g : Fld} (hg : ¬K g.key) : u.on g = s.on g := State.on_of_get (h.keys g hg)

theorem Dev.store_eq (h : Dev K [] ks s u) : u.store = s.store := by
  obtain ⟨-, -, -, -, hstore, -⟩ := h.blocksSame
  exact hstore

/-! ## SC's mode -/

/-- SC runs forward in this state. -/
def State.chgDraws (s : State) : Prop :=
  (s.get F.CHG_STAT_STATE = 1 ∨ s.get F.CHG_STAT_STATE = 2 ∨ s.get F.CHG_STAT_STATE = 3 ∨ s.get F.CHG_STAT_STATE = 4 ∨
    s.get F.CHG_STAT_STATE = 6) ∧ s.store.presence = 0 ∧ s.on F.CHG_STAT_CELLOV = false

/-- Where nothing draws current, SC does not run forward. -/
theorem scForward_mode (h : ¬s.chgDraws) : (s.scMode ≤ 1 → s.scForward.scMode = 0) ∧ s.scForward.scMode ≠ 1 := by
  have hrun : ((s.get F.CHG_STAT_STATE == 1 || s.get F.CHG_STAT_STATE == 2 || s.get F.CHG_STAT_STATE == 3 ||
      s.get F.CHG_STAT_STATE == 4 || s.get F.CHG_STAT_STATE == 6) && s.store.presence == 0 &&
      !s.on F.CHG_STAT_CELLOV) = false := by
    rw [Bool.eq_false_iff]
    intro hr
    simp only [Bool.and_eq_true, Bool.or_eq_true, beq_iff_eq, Bool.not_eq_true'] at hr
    exact h ⟨by tauto, hr.1.2, hr.2⟩
  have hzero : s.scMode ≤ 1 → s.scForward.scMode = 0 := by
    intro hm
    unfold State.scForward
    rw [if_pos hm]
    dsimp only
    rw [hrun, State.scMode, State.get_put_self]
    rfl
  refine ⟨hzero, fun h1 => ?_⟩
  by_cases hm : s.scMode ≤ 1
  · rw [hzero hm] at h1
    cases h1
  · rw [State.scForward, if_neg hm] at h1
    omega

/-! ## The report of a change -/

/-- STATE that differs from before is reported (R222). -/
theorem chgWatch_reports {old x : State} (h : x.get F.CHG_STAT_STATE ≠ old.get F.CHG_STAT_STATE)
    (hev : x.on F.CHG_STAT_CHGEV = old.on F.CHG_STAT_CHGEV) :
    (State.chgWatch old x).on F.CHG_STAT_CHGEV = true ∧
      (old.on F.CHG_STAT_CHGEV = false → (State.chgWatch old x).core.raised.getLsbD 10 = true) := by
  unfold State.chgWatch State.flagRaise
  rw [if_pos (.inl h)]
  split
  next hon => exact ⟨hon, fun hoff => absurd (hev.symm.trans hon) (by simp [hoff])⟩
  next hoff => exact ⟨State.on_put_one (f := F.CHG_STAT_CHGEV), fun _ => State.raised_raise (by decide)⟩

/-! ## The conditions of R214 -/

/-- What the conditions leave where they fail: BLOCKED or OFF, nothing drawn, SC's and CHG's own state as it was. -/
theorem chgEval_blocked (v : Nat)
    (hperm : ∀ x : State, x.store = s.store → (∀ g : Fld, g.key ≠ F.CHG_STAT_FAULT.key → x.get g = s.get g) →
      x.pwr = s.pwr → x.chgPermitted = false) :
    (s.chgEval v).get F.CHG_STAT_STATE = (if s.on F.CHG_CTL_EN then 7 else 0) ∧ (s.chgEval v).store = s.store ∧
      (s.chgEval v).scMode ≠ 1 := by
  unfold State.chgEval
  extract_lets s0 st s1
  have hd0 : Dev (keysOf [F.CHG_STAT_FAULT]) [] [] s s0 := Dev.refl.orIf (·.put)
  have hst0 : s0.store = s.store := hd0.store_eq
  have hp0 : s0.chgPermitted = false :=
    hperm s0 hst0 (fun g hg => hd0.keys g (by simpa [keysOf] using hg)) (hd0.blocksSame.2.1)
  have hen0 : s0.on F.CHG_CTL_EN = s.on F.CHG_CTL_EN := hd0.on_eq (by decide)
  have h1 : s1 = s0.put F.CHG_STAT_STATE (if s.on F.CHG_CTL_EN then 7 else 0) := by
    unfold s1
    rw [hp0, hen0]
    rfl
  have hstate : s1.get F.CHG_STAT_STATE = if s.on F.CHG_CTL_EN then 7 else 0 := by
    rw [h1, State.get_put_self]
    split
    · rfl
    · rfl
  have hidle : ¬s1.chgDraws := by
    rintro ⟨hst, -, -⟩
    rw [hstate] at hst
    split at hst
    · omega
    · omega
  refine ⟨?_, ?_, (scForward_mode hidle).2⟩
  · rw [(scForward_dev s1).keys _ (by decide), hstate]
  · rw [(scForward_dev s1).store_eq, h1]
    exact hst0

/-- A charger without EN. -/
theorem chgEval_off (v : Nat) (hen : s.on F.CHG_CTL_EN = false) :
    (s.chgEval v).get F.CHG_STAT_STATE = 0 ∧ (s.chgEval v).store = s.store := by
  obtain ⟨hstate, hstore, -⟩ := chgEval_blocked (s := s) v fun x _ hx _ => by
    have henx : x.on F.CHG_CTL_EN = false := (State.on_of_get (hx _ (by decide))).trans hen
    simp [State.chgPermitted, henx]
  rw [hen] at hstate
  exact ⟨hstate, hstore⟩

/-- No latched fault comes of the conditions. -/
theorem chgEval_latched (v : Nat) (h : s.chgLatched = false) : (s.chgEval v).chgLatched = false := by
  unfold State.chgEval
  extract_lets s0 st s1
  have h0 : s0.chgLatched = false := by
    unfold s0
    rw [if_neg (by simp [h])]
    unfold State.chgLatched
    extract_lets f
    have hf : f = 4 ∨ f = 0 := by
      unfold f
      rw [State.get_put_self]
      split
      · exact .inl rfl
      · exact .inr rfl
    rcases hf with hf | hf
    · rw [hf]; rfl
    · rw [hf]; rfl
  have hd1 : Dev (keysOf [F.CHG_STAT_STATE]) [.store] [] s0 s1 := by
    refine Dev.ite (Dev.ite ?_ .refl) (Dev.refl.put)
    exact (Dev.refl.put).testAgain v
  have hd : s1.scForward.get F.CHG_STAT_FAULT = s0.get F.CHG_STAT_FAULT := by
    rw [(scForward_dev s1).keys _ (by decide), hd1.keys _ (by decide)]
  unfold State.chgLatched at h0 ⊢
  rw [hd]
  exact h0

/-- The samples of the inputs are not the conditions' to change, and a test that is not due does not begin. -/
theorem chgEval_store (s : State) (v : Nat) :
    (s.chgEval v).store.ntc0 = s.store.ntc0 ∧ (s.chgEval v).store.ntc1 = s.store.ntc1 ∧
      (s.store.testDue = false → (s.chgEval v).store = s.store) := by
  unfold State.chgEval
  extract_lets s0 st s1
  have h0 : s0.store = s.store := Dev.store_eq (K := keysOf [F.CHG_STAT_FAULT]) (ks := []) (Dev.refl.orIf (·.put))
  rw [(scForward_dev s1).store_eq]
  unfold s1
  split
  · split
    · unfold State.testAgain
      split
      next hdue =>
        have hd : s.store.testDue = true := h0 ▸ hdue.1
        refine ⟨?_, ?_, fun h => absurd hd (by simp [h])⟩
        · change s0.store.ntc0 = s.store.ntc0
          rw [h0]
        · change s0.store.ntc1 = s.store.ntc1
          rw [h0]
      next => exact ⟨congrArg StoreSt.ntc0 h0, congrArg StoreSt.ntc1 h0, fun _ => h0⟩
    · exact ⟨congrArg StoreSt.ntc0 h0, congrArg StoreSt.ntc1 h0, fun _ => h0⟩
  · exact ⟨congrArg StoreSt.ntc0 h0, congrArg StoreSt.ntc1 h0, fun _ => h0⟩

/-- VSTOR that is seen moves nothing but the hold after a cutoff and the bleeding cells. -/
theorem vstorSeen_store (s : State) (v : Nat) : ∃ c, (s.vstorSeen v).store = { s.store with cutHold := c } := by
  unfold State.vstorSeen
  extract_lets s1
  have h1 : ∃ c, s1.store = { s.store with cutHold := c } := by
    unfold s1
    split
    · exact ⟨_, rfl⟩
    · exact ⟨_, rfl⟩
  split
  · exact h1
  · exact h1

/-- A presence test that can begin, begins: SC pauses. -/
theorem presenceBegin_begins {v : Nat} (hlive : s.scLive = true) (hm : s.scMode ≤ 1) (hp : s.store.presence = 0)
    (hv : 1000 ≤ v) : (s.presenceBegin v).store.presence = 1 ∧ (s.presenceBegin v).scMode = 0 := by
  unfold State.presenceBegin
  rw [if_pos ⟨hlive, hm, hp, hv⟩]
  refine ⟨?_, (scForward_mode ?_).1 hm⟩
  · rw [(scForward_dev _).store_eq]
  · rintro ⟨-, h, -⟩
    cases h

/-! ## Phases -/

/-- STATE moves to another phase, with its report. -/
theorem chg_goes {old x : State} {code : Nat} (hd : StoreDev old x) (hev : x.on F.CHG_STAT_CHGEV = old.on F.CHG_STAT_CHGEV)
    (hx : x.get F.CHG_STAT_STATE = code) (hne : code ≠ old.get F.CHG_STAT_STATE) :
    (State.chgWatch old x).get F.CHG_STAT_STATE = code ∧ (State.chgWatch old x).on F.CHG_STAT_CHGEV = true ∧
      (old.on F.CHG_STAT_CHGEV = false → (State.chgWatch old x).core.raised.getLsbD 10 = true) ∧
      FrameIn [(0x4000E000, 0x40010000)] [] [.store] [10] old (State.chgWatch old x) := by
  obtain ⟨hon, hraised⟩ := chgWatch_reports (by rw [hx]; exact hne) hev
  exact ⟨by rw [(chgWatch_dev old x).keys _ (by decide), hx], hon, hraised, (hd.chgWatch old (by decide)).frameIn⟩

/-- The phase after VSTOR has crossed a threshold (R215). -/
def State.chgNext (s : State) (v : Nat) : Nat :=
  let st := s.get F.CHG_STAT_STATE
  let ph := s.chgPhase v
  if st = 0 ∨ st = 7 then ph
  else if (st = 1 ∨ st = 2 ∨ st = 3) ∧ st < ph then ph
  else if st = 5 ∧ v + 100 < s.vregMv then min ph 3
  else st

theorem chgPhase_le (s : State) (v : Nat) : s.chgPhase v ≤ 4 := by
  unfold State.chgPhase
  split
  · decide
  · split
    · decide
    · split
      · decide
      · decide

theorem vshort_le_vpre (s : State) : s.vshortMv ≤ s.vpreMv := by
  unfold State.vshortMv State.vpreMv
  split
  · decide
  · decide
  · exact le_rfl

theorem phaseChange_goes {v code : Nat} (hperm : s.chgPermitted = true) (hp : s.store.presence = 0)
    (hnext : s.chgNext v = code) (hcode : code < 8) (hne : code ≠ s.get F.CHG_STAT_STATE) :
    Gives (.chgPhaseChange v) s fun u => u.get F.CHG_STAT_STATE = code ∧ u.on F.CHG_STAT_CHGEV = true ∧
      (s.on F.CHG_STAT_CHGEV = false → u.core.raised.getLsbD 10 = true) ∧
      FrameIn [(0x4000E000, 0x40010000)] [] [.store] [10] s u := by
  have heq : s.chgPhaseChange v =
      State.chgWatch s (((s.vstorSeen v).put F.CHG_STAT_STATE (s.chgNext v)).scForward) := if_pos ⟨hperm, hp⟩
  have hx : exec (.chgPhaseChange v) s = .next (s.chgPhaseChange v) := rfl
  rw [hnext] at heq
  refine ⟨_, hx, ?_⟩
  rw [heq]
  have hseen : StoreDev s (s.vstorSeen v) := Dev.refl.vstorSeen v (by decide)
  generalize hy : (s.vstorSeen v).put F.CHG_STAT_STATE code = y
  have hdy : StoreDev s y := hy ▸ hseen.put (by decide)
  refine chg_goes (hdy.scForward (by decide)) ?_ ?_ hne
  · rw [(scForward_dev y).on_eq (by decide), ← hy, State.on_put_ne (by decide), (vstorSeen_dev s v).on_eq (by decide)]
  · rw [(scForward_dev y).keys _ (by decide), ← hy, State.get_put_lt hcode]

/-- A latched fault of a phase timer (R216). -/
theorem phaseTimeout_goes {v fault : Nat} (hperm : s.chgPermitted = true)
    (heq : s.chgPhaseTimeout v =
      State.chgWatch s (((s.put F.CHG_STAT_FAULT fault).put F.CHG_STAT_STATE 7).scForward))
    (hfault : fault < 8) (hne : s.get F.CHG_STAT_STATE ≠ 7) :
    Gives (.chgPhaseTimeout v) s fun u => (u.get F.CHG_STAT_STATE = 7 ∧ u.on F.CHG_STAT_CHGEV = true ∧
      (s.on F.CHG_STAT_CHGEV = false → u.core.raised.getLsbD 10 = true) ∧
      FrameIn [(0x4000E000, 0x40010000)] [] [.store] [10] s u) ∧ u.get F.CHG_STAT_FAULT = fault ∧ u.scMode = 0 := by
  have hx : exec (.chgPhaseTimeout v) s = .next (s.chgPhaseTimeout v) := rfl
  have hmode : s.scMode ≤ 1 := by
    simp only [State.chgPermitted, Bool.and_eq_true, decide_eq_true_eq] at hperm
    exact hperm.1.1.1.1.1.1.2
  refine ⟨_, hx, ?_⟩
  rw [heq]
  generalize hy : (s.put F.CHG_STAT_FAULT fault).put F.CHG_STAT_STATE 7 = y
  have hdy : StoreDev s y := hy ▸ (Dev.refl.put (by decide)).put (by decide)
  have hstate : y.get F.CHG_STAT_STATE = 7 := by
    rw [← hy, State.get_put_self]
    rfl
  have hymode : y.scMode ≤ 1 := by
    rw [← hy, State.scMode, State.get_put_ne _ _ _ _ (by decide), State.get_put_ne _ _ _ _ (by decide)]
    exact hmode
  have hidle : ¬y.chgDraws := by
    rintro ⟨h, -, -⟩
    rw [hstate] at h
    omega
  refine ⟨chg_goes (hdy.scForward (by decide)) ?_ ?_ hne.symm, ?_, ?_⟩
  · rw [(scForward_dev y).on_eq (by decide), ← hy, State.on_put_ne (by decide), State.on_put_ne (by decide)]
  · rw [(scForward_dev y).keys _ (by decide), hstate]
  · rw [(chgWatch_dev _ _).keys _ (by decide), (scForward_dev y).keys _ (by decide), ← hy,
      State.get_put_ne _ _ _ _ (by decide), State.get_put_lt hfault]
  · rw [State.scMode, (chgWatch_dev _ _).keys _ (by decide)]
    exact (scForward_mode hidle).1 hymode

theorem terminate_goes (hperm : s.chgPermitted = true) (hp : s.store.presence = 0) (hst : s.get F.CHG_STAT_STATE = 4) :
    Gives .chgTerminate s fun u => u.get F.CHG_STAT_STATE = (if s.get F.CHG_CTL_PROF = 2 then 6 else 5) ∧
      u.on F.CHG_STAT_CHGEV = true ∧ (s.on F.CHG_STAT_CHGEV = false → u.core.raised.getLsbD 10 = true) ∧
      FrameIn [(0x4000E000, 0x40010000)] [] [.store] [10] s u := by
  have hx : exec .chgTerminate s = .next s.chgTerminate := rfl
  have heq : s.chgTerminate = State.chgWatch s
      ((s.put F.CHG_STAT_STATE (if s.get F.CHG_CTL_PROF = 2 then 6 else 5)).scForward) := if_pos ⟨hperm, hp, hst⟩
  refine ⟨_, hx, ?_⟩
  rw [heq]
  generalize hn : (if s.get F.CHG_CTL_PROF = 2 then 6 else 5) = n
  have hn8 : n = 6 ∨ n = 5 := by
    rw [← hn]
    split
    · exact .inl rfl
    · exact .inr rfl
  have hdy : StoreDev s (s.put F.CHG_STAT_STATE n) := Dev.refl.put (by decide)
  refine chg_goes (hdy.scForward (by decide)) ?_ ?_ (by omega)
  · rw [(scForward_dev _).on_eq (by decide), State.on_put_ne (by decide)]
  · rw [(scForward_dev _).keys _ (by decide), State.get_put_lt (by rcases hn8 with rfl | rfl <;> decide)]

/-! ## A store to CHG.CTL -/

theorem chgCtl_fields : fieldsAt F.CHG_CTL_EN.addr = [⟨0, 1, .rw, 0, 0, .any, 0x0FC, 0⟩, ⟨1, 2, .lk, 0, 0, .range 0 2, 0xfc, 0⟩,
    ⟨3, 1, .rw, 0, 1, .any, 0x0FC, 0⟩, ⟨4, 1, .rw, 0, 0, .any, 0x0FC, 0⟩, ⟨5, 1, .rw, 0, 0, .any, 0x0FC, 0⟩,
    ⟨8, 1, .wo, 0, 0, .any, 0x0FC, 0⟩] := by simp [fieldsAt, chgFields, F.CHG_CTL_EN]

/-- The fields of CHG.CTL. -/
abbrev chgCtlFields : List Fld :=
  [F.CHG_CTL_EN, F.CHG_CTL_PROF, F.CHG_CTL_TB0EN, F.CHG_CTL_TB1EN, F.CHG_CTL_BALEN, ⟨0x4000F000, 8, 1⟩]

/-- The plain part of a ring-0 store to CHG.CTL. -/
theorem chgCtl_plain (s : State) (v : Word) :
    Dev (keysOf chgCtlFields) [] [] s (s.plainWrite F.CHG_CTL_EN.addr 0 v) ∧
      (s.plainWrite F.CHG_CTL_EN.addr 0 v).on F.CHG_CTL_EN = bitOf v 0 ∧
      (s.on F.CHG_LOCK_LOCK = false → bitsOf v 1 2 ≤ 2 →
        (s.plainWrite F.CHG_CTL_EN.addr 0 v).get F.CHG_CTL_PROF = bitsOf v 1 2) := by
  have hget := (State.get_plainWrite (s := s) (a := F.CHG_CTL_EN.addr) (ring := 0) (v := v)).1
  rw [chgCtl_fields] at hget
  simp only [List.forall_mem_cons, List.not_mem_nil, false_imp_iff, implies_true, and_true, Field.next] at hget
  obtain ⟨hen, hprof, -⟩ := hget
  refine ⟨Dev.refl.plainWrite fun f hf => ?_, ?_, fun hlock hle => ?_⟩
  · rw [chgCtl_fields] at hf
    revert f
    decide
  · exact (congrArg (· != 0) hen).trans (by simpa [Legal.ok, Field.part] using part_bit v 0)
  · have hl : s.locked F.CHG_CTL_EN.addr ⟨1, 2, .lk, 0, 0, .range 0 2, 0xfc, 0⟩ = false := hlock
    refine hprof.trans ?_
    simp only [hl, Legal.ok, Field.part, lt_irrefl, if_false, Bool.false_eq_true, Bool.and_eq_true]
    split
    next => exact Nat.mod_mod _ _
    next h => exact absurd ⟨decide_eq_true (Nat.zero_le _), decide_eq_true hle⟩ h

/-- What a ring-0 store to CHG.CTL leaves before the charger's conditions are looked at. -/
def State.chgStored (s : State) (v : Word) (w : Nat) : State :=
  let en := s.on F.CHG_CTL_EN
  let prof := s.get F.CHG_CTL_PROF
  let s1 := s.plainWrite F.CHG_CTL_EN.addr 0 v
  let s2 := if en ∧ s1.get F.CHG_CTL_PROF ≠ prof then (s1.put F.CHG_CTL_PROF prof).put F.CHG_STAT_CFGERR 1 else s1
  let s2b := if s2.on F.CHG_CTL_BALEN && s2.get F.CHG_CTL_PROF == 2 then s2 else s2.put F.CHG_STAT_BAL 0
  (if bitOf v 8 ∧ s2b.chgLatched then s2b.put F.CHG_STAT_FAULT 0 else s2b).vstorSeen w

/-- The conditions after a store to CHG.CTL: a charger that is switched on is tested first (R218). -/
def State.chgJudged (s x : State) (w : Nat) : State :=
  if !s.on F.CHG_CTL_EN && x.on F.CHG_CTL_EN then
    if 1000 ≤ w ∧ x.scMode ≤ 1 then x.presenceBegin w else x.chgEval w
  else if x.store.presence = 0 ∨ x.on F.CHG_CTL_EN = false then x.chgEval w
  else x

theorem chgCtlWrite_eq (s : State) (v : Word) (w : Nat) :
    s.chgCtlWrite 0 v w = State.chgWatch s (s.chgJudged (s.chgStored v w) w) := by
  unfold State.chgCtlWrite
  rw [if_neg (by simp)]
  rfl

/-- The fields of a store to CHG.CTL before the conditions. -/
abbrev chgStoredFields : List Fld := chgCtlFields ++ [F.CHG_STAT_CFGERR, F.CHG_STAT_BAL, F.CHG_STAT_FAULT]

theorem chgStored_dev (s : State) (v : Word) (w : Nat) :
    Dev (keysOf chgStoredFields) [.store] [] s (s.chgStored v w) := by
  unfold State.chgStored
  extract_lets en prof s1 s2 s2b
  have h1 : Dev (keysOf chgStoredFields) [.store] [] s s1 := Dev.refl.plainWrite fun f hf => by
    rw [chgCtl_fields] at hf
    revert f
    decide
  have h2 : Dev (keysOf chgStoredFields) [.store] [] s s2 :=
    h1.andIf fun h => (h.put (by decide)).put (by decide)
  have h2b : Dev (keysOf chgStoredFields) [.store] [] s s2b := h2.orIf (·.put (by decide))
  exact (h2b.andIf (·.put (by decide))).vstorSeen w (by decide)

theorem chgStored_en (s : State) (v : Word) (w : Nat) : (s.chgStored v w).on F.CHG_CTL_EN = bitOf v 0 := by
  obtain ⟨-, hen, -⟩ := chgCtl_plain s v
  unfold State.chgStored
  extract_lets en prof s1 s2 s2b
  have h : Dev (keysOf [F.CHG_CTL_PROF, F.CHG_STAT_CFGERR, F.CHG_STAT_BAL, F.CHG_STAT_FAULT]) [.store] [] s1
      ((if bitOf v 8 ∧ s2b.chgLatched then s2b.put F.CHG_STAT_FAULT 0 else s2b).vstorSeen w) := by
    have h2 : Dev (keysOf [F.CHG_CTL_PROF, F.CHG_STAT_CFGERR, F.CHG_STAT_BAL, F.CHG_STAT_FAULT]) [.store] [] s1 s2 :=
      Dev.refl.andIf fun h => (h.put).put
    exact ((h2.orIf (·.put)).andIf (·.put)).vstorSeen w
  rw [h.on_eq (by decide)]
  exact hen

/-- PROF keeps its value while EN is 1, and CFGERR says so (R222). -/
theorem chgStored_prof {v : Word} (w : Nat) (hle : bitsOf v 1 2 ≤ 2) (hlock : s.on F.CHG_LOCK_LOCK = false)
    (hen : s.on F.CHG_CTL_EN = true) (hne : s.get F.CHG_CTL_PROF ≠ bitsOf v 1 2) :
    (s.chgStored v w).get F.CHG_CTL_PROF = s.get F.CHG_CTL_PROF % 4 ∧ (s.chgStored v w).on F.CHG_STAT_CFGERR = true := by
  obtain ⟨-, -, hprof⟩ := chgCtl_plain s v
  unfold State.chgStored
  extract_lets en prof s1 s2 s2b
  have h2 : s2 = (s1.put F.CHG_CTL_PROF prof).put F.CHG_STAT_CFGERR 1 := if_pos ⟨hen, by
    rw [hprof hlock hle]
    exact hne.symm⟩
  have h : Dev (keysOf [F.CHG_STAT_BAL, F.CHG_STAT_FAULT]) [.store] [] s2
      ((if bitOf v 8 ∧ s2b.chgLatched then s2b.put F.CHG_STAT_FAULT 0 else s2b).vstorSeen w) :=
    ((Dev.refl.orIf (·.put)).andIf (·.put)).vstorSeen w
  rw [h.keys _ (by decide), h.on_eq (by decide), h2]
  constructor
  · rw [State.get_put_ne _ _ _ _ (by decide), State.get_put_self]
    rfl
  · exact State.on_put_one

/-- CLR clears a latched fault (R216). -/
theorem chgStored_clr (s : State) {v : Word} (w : Nat) (h8 : bitOf v 8 = true) : (s.chgStored v w).chgLatched = false := by
  unfold State.chgStored
  extract_lets en prof s1 s2 s2b
  have hseen : ∀ x : State, (x.vstorSeen w).chgLatched = x.chgLatched := fun x => by
    unfold State.chgLatched
    rw [(vstorSeen_dev x w).keys _ (by decide)]
  rw [hseen]
  split
  · unfold State.chgLatched
    rw [State.get_put_self]
    rfl
  next h => exact Bool.eq_false_iff.2 fun h' => h ⟨h8, h'⟩

theorem chgStored_store (s : State) (v : Word) (w : Nat) :
    ∃ c, (s.chgStored v w).store = { s.store with cutHold := c } := by
  unfold State.chgStored
  extract_lets en prof s1 s2 s2b
  have h : ∀ x : State, x.store = s.store → ∃ c, (x.vstorSeen w).store = { s.store with cutHold := c } := fun x hx => by
    obtain ⟨c, hc⟩ := vstorSeen_store x w
    exact ⟨c, hx ▸ hc⟩
  have h1 : Dev (fun _ => True) [] [] s s1 := Dev.refl.plainWrite fun _ _ => trivial
  have h2 : Dev (fun _ => True) [] [] s s2 := h1.andIf fun h => (h.put trivial).put trivial
  have h2b : Dev (fun _ => True) [] [] s s2b := h2.orIf (·.put trivial)
  exact h _ (h2b.andIf (·.put trivial)).store_eq

theorem chgJudged_dev (s x : State) (w : Nat) : Dev (keysOf evalFields) [.store] [] x (s.chgJudged x w) := by
  unfold State.chgJudged
  have heval : Dev (keysOf evalFields) [.store] [] x (x.chgEval w) := chgEval_dev x w
  exact Dev.ite ((Dev.refl.presenceBegin w).ite heval) (heval.ite .refl)

section

variable {v : Word} {w : Nat}

theorem chgCtl_dev (s : State) (v : Word) (w : Nat) :
    FrameIn [(0x4000E000, 0x40010000)] [] [.store] [10] s (s.chgCtlWrite 0 v w) := by
  rw [chgCtlWrite_eq]
  have h1 : StoreDev s (s.chgStored v w) :=
    (chgStored_dev s v w).weaken (fun k hk => by revert k; decide) (by simp)
  have h2 : StoreDev (s.chgStored v w) (s.chgJudged (s.chgStored v w) w) :=
    (chgJudged_dev s _ w).weaken (fun k hk => by revert k; decide) (by simp)
  exact ((h1.trans h2).chgWatch s (by decide)).frameIn

/-- A field that neither the judgement nor the report writes. -/
theorem chgCtl_get {g : Fld} (hg : ¬keysOf (F.CHG_STAT_CHGEV :: evalFields) g.key) :
    (s.chgCtlWrite 0 v w).get g = (s.chgStored v w).get g := by
  rw [chgCtlWrite_eq, (chgWatch_dev _ _).keys _ fun h => hg ?_, (chgJudged_dev _ _ _).keys _ fun h => hg ?_]
  · exact List.mem_cons_of_mem _ h
  · simp only [keysOf, List.map_cons, List.map_nil, List.mem_cons, List.not_mem_nil, or_false] at h ⊢
    exact .inl h

/-- Setting EN starts the presence test (R218). -/
theorem chgCtl_on (hlive : s.scLive = true) (hv : bitOf v 0 = true) (hen : s.on F.CHG_CTL_EN = false)
    (hm : s.scMode ≤ 1) (hw : 1000 ≤ w) (hp : s.store.presence = 0) :
    (s.chgCtlWrite 0 v w).on F.CHG_CTL_EN = true ∧ (s.chgCtlWrite 0 v w).store.presence = 1 ∧
      (s.chgCtlWrite 0 v w).scMode = 0 := by
  have hd := chgStored_dev s v w
  have hmx : (s.chgStored v w).scMode ≤ 1 := by
    rw [State.scMode, hd.keys _ (by decide)]
    exact hm
  have hlivex : (s.chgStored v w).scLive = true := by
    have hpwr : (s.chgStored v w).pwr = s.pwr := hd.blocks.1 (by simp)
    have hpg : (s.chgStored v w).domPg 15 = s.domPg 15 := congrArg (·.testBit 15) (hd.keys _ (by decide))
    rw [State.scLive, State.powered_of_pwr hpwr, hpg]
    exact hlive
  obtain ⟨c, hc⟩ := chgStored_store s v w
  have hpx : (s.chgStored v w).store.presence = 0 := by rw [hc]; exact hp
  obtain ⟨hb1, hb2⟩ := presenceBegin_begins hlivex hmx hpx hw
  have heq : s.chgJudged (s.chgStored v w) w = (s.chgStored v w).presenceBegin w := by
    unfold State.chgJudged
    rw [chgStored_en, hv, hen]
    exact (if_pos rfl).trans (if_pos ⟨hw, hmx⟩)
  refine ⟨?_, ?_, ?_⟩
  · rw [State.on, chgCtl_get (by decide)]
    exact (chgStored_en s v w).trans hv
  · rw [chgCtlWrite_eq, (chgWatch_dev _ _).store_eq, heq, hb1]
  · rw [chgCtlWrite_eq, State.scMode, (chgWatch_dev _ _).keys _ (by decide), heq]
    exact hb2

/-- Clearing EN stops the charger. -/
theorem chgCtl_off (hv : bitOf v 0 = false) :
    (s.chgCtlWrite 0 v w).on F.CHG_CTL_EN = false ∧ (s.chgCtlWrite 0 v w).get F.CHG_STAT_STATE = 0 ∧
      (s.chgCtlWrite 0 v w).store.presence = s.store.presence := by
  have hen : (s.chgStored v w).on F.CHG_CTL_EN = false := (chgStored_en s v w).trans hv
  have heq : s.chgJudged (s.chgStored v w) w = (s.chgStored v w).chgEval w := by
    unfold State.chgJudged
    rw [hen, Bool.and_false]
    exact (if_neg (by simp)).trans (if_pos (.inr rfl))
  obtain ⟨hstate, hstore⟩ := chgEval_off w hen
  obtain ⟨c, hc⟩ := chgStored_store s v w
  refine ⟨?_, ?_, ?_⟩
  · rw [State.on, chgCtl_get (by decide)]
    exact hen
  · rw [chgCtlWrite_eq, (chgWatch_dev _ _).keys _ (by decide), heq, hstate]
  · rw [chgCtlWrite_eq, (chgWatch_dev _ _).store_eq, heq, hstore, hc]

/-- CLR leaves no latched fault. -/
theorem chgCtl_clr (h8 : bitOf v 8 = true) : (s.chgCtlWrite 0 v w).chgLatched = false := by
  have hx := chgStored_clr s w h8
  have hj : (s.chgJudged (s.chgStored v w) w).chgLatched = false := by
    unfold State.chgJudged
    split
    · split
      · unfold State.chgLatched at hx ⊢
        rw [(presenceBegin_dev _ _).keys _ (by decide)]
        exact hx
      · exact chgEval_latched w hx
    · split
      · exact chgEval_latched w hx
      · exact hx
  rw [chgCtlWrite_eq]
  unfold State.chgLatched at hj ⊢
  rw [(chgWatch_dev _ _).keys _ (by decide)]
  exact hj

end

/-! ## Samples of the inputs -/

/-- The zone changes with the third sample in a new one (R217). -/
theorem ntcStep_zone (x : NtcSt) (z : Nat) :
    (State.ntcStep x z).zone = if z ≠ x.zone ∧ x.cand = z ∧ 2 ≤ x.count then z else x.zone := by
  unfold State.ntcStep
  by_cases hz : z = x.zone
  · rw [if_pos hz, if_neg fun h => h.1 hz]
  · rw [if_neg hz]
    by_cases hc : z = x.cand
    · simp only [if_pos hc]
      by_cases h2 : 3 ≤ x.count + 1
      · rw [if_pos h2, if_pos ⟨hz, hc.symm, by omega⟩]
      · rw [if_neg h2, if_neg fun h => h2 (by omega)]
    · simp only [if_neg hc]
      rw [if_neg (by decide), if_neg fun h => hc h.2.1.symm]

/-- The samples of the enabled inputs, before the charger's conditions are looked at. -/
def State.ntcStored (s : State) (m0 m1 : Byte) : State :=
  let n0 := if s.on F.CHG_CTL_TB0EN then ntcStep s.store.ntc0 (s.zoneOf m0) else s.store.ntc0
  let n1 := if s.on F.CHG_CTL_TB1EN then ntcStep s.store.ntc1 (s.zoneOf m1) else s.store.ntc1
  let s1 := if s.on F.CHG_CTL_TB0EN then s.put F.CHG_TB_M0 m0.toNat else s
  let s2 := if s.on F.CHG_CTL_TB1EN then s1.put F.CHG_TB_M1 m1.toNat else s1
  { s2 with store := { s2.store with ntc0 := n0, ntc1 := n1 } }

/-- The judgement after the samples. -/
def State.ntcJudged (s x : State) (opened : Bool) (w : Nat) : State :=
  let s4 := ((x.put F.CHG_STAT_ZONE x.zoneField).tickFree).vstorSeen w
  let s5 := if s4.store.presence = 0 then s4.chgEval w else s4
  State.chgWatch s (if opened then s5.presenceBegin w else s5)

theorem ntcSample_eq {m0 m1 : Byte} {w : Nat} (hlive : s.scLive = true) :
    ∃ opened, s.ntcSample m0 m1 w = s.ntcJudged (s.ntcStored m0 m1) opened w := by
  unfold State.ntcSample
  rw [if_pos hlive]
  exact ⟨_, rfl⟩

/-- The fields that the judgement after a sample may write. -/
abbrev ntcJudgedFields : List Fld := [F.CHG_STAT_ZONE, F.CHG_STAT_BAL, F.CHG_STAT_CHGEV] ++ evalFields

theorem ntcJudged_dev (s x : State) (opened : Bool) (w : Nat) :
    Dev (keysOf ntcJudgedFields) [.store] [10] x (s.ntcJudged x opened w) := by
  unfold State.ntcJudged
  extract_lets s4 s5
  have h4 : Dev (keysOf ntcJudgedFields) [.store] [10] x s4 :=
    ((Dev.refl.put (by decide)).tickFree).vstorSeen w (by decide)
  have h5 : Dev (keysOf ntcJudgedFields) [.store] [10] x s5 := h4.andIf fun h => h.chgEval w (by decide)
  exact (h5.andIf fun h => h.presenceBegin w (by decide)).chgWatch s (by decide)

/-- The states of the inputs. -/
def State.ntcs (s : State) : NtcSt × NtcSt := (s.store.ntc0, s.store.ntc1)

theorem ntcJudged_ntcs (s x : State) (opened : Bool) (w : Nat) : (s.ntcJudged x opened w).ntcs = x.ntcs := by
  unfold State.ntcJudged
  extract_lets s4 s5
  have h4 : s4.ntcs = x.ntcs := by
    obtain ⟨c, hc⟩ := vstorSeen_store ((x.put F.CHG_STAT_ZONE x.zoneField).tickFree) w
    unfold State.ntcs
    rw [hc]
    rfl
  have h5 : s5.ntcs = x.ntcs := by
    unfold s5
    split
    · obtain ⟨h0, h1, -⟩ := chgEval_store s4 w
      unfold State.ntcs at h4 ⊢
      rw [h0, h1, h4]
    · exact h4
  rw [State.ntcs, (chgWatch_dev _ _).store_eq]
  split
  · rw [← h5]
    unfold State.presenceBegin
    split
    · rw [(scForward_dev _).store_eq]
      rfl
    · rfl
  · exact h5

theorem ntcStored_dev (s : State) (m0 m1 : Byte) :
    Dev (keysOf [F.CHG_TB_M0, F.CHG_TB_M1]) [.store] [] s (s.ntcStored m0 m1) := by
  unfold State.ntcStored
  extract_lets n0 n1 s1 s2
  have h2 : Dev (keysOf [F.CHG_TB_M0, F.CHG_TB_M1]) [.store] [] s s2 :=
    (Dev.refl.andIf (·.put)).andIf (·.put)
  exact h2.storeUpd (f := fun q => { q with ntc0 := n0, ntc1 := n1 })

/-- A sample of one enabled input is stored; the other input is left alone. -/
theorem ntcStored_get (s : State) (m0 m1 : Byte) :
    (s.ntcStored m0 m1).get F.CHG_TB_M0 = (if s.on F.CHG_CTL_TB0EN then m0.toNat else s.get F.CHG_TB_M0) ∧
      (s.ntcStored m0 m1).get F.CHG_TB_M1 = (if s.on F.CHG_CTL_TB1EN then m1.toNat else s.get F.CHG_TB_M1) := by
  have h0 : m0.toNat < 2 ^ F.CHG_TB_M0.width := m0.isLt
  have h1 : m1.toNat < 2 ^ F.CHG_TB_M1.width := m1.isLt
  unfold State.ntcStored
  extract_lets n0 n1 s1 s2
  have hs1 : s1.get F.CHG_TB_M0 = (if s.on F.CHG_CTL_TB0EN then m0.toNat else s.get F.CHG_TB_M0) ∧
      s1.get F.CHG_TB_M1 = s.get F.CHG_TB_M1 := by
    unfold s1
    split
    · exact ⟨State.get_put_lt h0, State.get_put_ne _ _ _ _ (by decide)⟩
    · exact ⟨rfl, rfl⟩
  have hs2 : s2.get F.CHG_TB_M0 = s1.get F.CHG_TB_M0 ∧
      s2.get F.CHG_TB_M1 = (if s.on F.CHG_CTL_TB1EN then m1.toNat else s1.get F.CHG_TB_M1) := by
    unfold s2
    split
    · exact ⟨State.get_put_ne _ _ _ _ (by decide), State.get_put_lt h1⟩
    · exact ⟨rfl, rfl⟩
  exact ⟨hs2.1.trans hs1.1, by rw [← hs1.2]; exact hs2.2⟩

/-- The statement of O50 about samples. -/
theorem ntcSample_gives (m0 m1 : Byte) (w : Nat) (hlive : s.scLive = true) :
    Gives (.ntcSample m0 m1 w) s fun u => FrameIn [(0x4000E000, 0x40010000)] [] [.store] [10] s u ∧
      u.get F.CHG_TB_M0 = (if s.on F.CHG_CTL_TB0EN then m0.toNat else s.get F.CHG_TB_M0) ∧
      u.get F.CHG_TB_M1 = (if s.on F.CHG_CTL_TB1EN then m1.toNat else s.get F.CHG_TB_M1) ∧
      u.store.ntc0 = (if s.on F.CHG_CTL_TB0EN then State.ntcStep s.store.ntc0 (s.zoneOf m0) else s.store.ntc0) ∧
      u.store.ntc1 = (if s.on F.CHG_CTL_TB1EN then State.ntcStep s.store.ntc1 (s.zoneOf m1) else s.store.ntc1) := by
  have hx : exec (.ntcSample m0 m1 w) s = .next (s.ntcSample m0 m1 w) := rfl
  obtain ⟨opened, heq⟩ := ntcSample_eq (m0 := m0) (m1 := m1) (w := w) hlive
  obtain ⟨h0, h1⟩ := ntcStored_get s m0 m1
  have hj := ntcJudged_dev s (s.ntcStored m0 m1) opened w
  have hs1 : StoreDev s (s.ntcStored m0 m1) :=
    (ntcStored_dev s m0 m1).weaken (fun k hk => by revert k; decide) (by simp)
  have hs2 : StoreDev (s.ntcStored m0 m1) (s.ntcJudged (s.ntcStored m0 m1) opened w) :=
    hj.weaken (fun k hk => by revert k; decide) (by simp)
  have hntcs := ntcJudged_ntcs s (s.ntcStored m0 m1) opened w
  refine ⟨_, hx, ?_⟩
  rw [heq]
  exact ⟨(hs1.trans hs2).frameIn, (hj.keys _ (by decide)).trans h0, (hj.keys _ (by decide)).trans h1,
    congrArg Prod.fst hntcs, congrArg Prod.snd hntcs⟩

/-! ## The presence test -/

theorem presenceTest_due {v : Nat} (hlive : s.scLive = true)
    (hdue : s.get F.CHG_STAT_STATE = 5 ∨ s.get F.CHG_STAT_STATE = 6 ∨ s.on F.CHG_STAT_ABSENT = true)
    (hm : s.scMode ≤ 1) (hp : s.store.presence = 0) (hv : 1000 ≤ v) :
    Gives (.presenceTest v) s fun u => u.store.presence = 1 ∧ u.scMode = 0 ∧ Frame [F.SC_STAT_MODE] [.store] [] s u := by
  have hx : exec (.presenceTest v) s = .next (s.presencePeriodic v) := rfl
  have heq : s.presencePeriodic v = (s.vstorSeen v).presenceBegin v := by
    unfold State.presencePeriodic
    rw [if_pos hdue, if_pos hlive]
  have hseen : Dev (keysOf [F.SC_STAT_MODE]) [.store] [] s (s.vstorSeen v) := by
    unfold State.vstorSeen
    rw [if_neg (by omega)]
    exact Dev.refl.andIf (·.storeUpd)
  obtain ⟨c, hc⟩ := vstorSeen_store s v
  have hd := vstorSeen_dev s v
  have hmx : (s.vstorSeen v).scMode ≤ 1 := by
    rw [State.scMode, hd.keys _ (by decide)]
    exact hm
  have hlivex : (s.vstorSeen v).scLive = true := by
    have hpwr : (s.vstorSeen v).pwr = s.pwr := hd.blocks.1 (by simp)
    have hpg : (s.vstorSeen v).domPg 15 = s.domPg 15 := congrArg (·.testBit 15) (hd.keys _ (by decide))
    rw [State.scLive, State.powered_of_pwr hpwr, hpg]
    exact hlive
  obtain ⟨h1, h2⟩ := presenceBegin_begins hlivex hmx (by rw [hc]; exact hp) hv
  refine ⟨_, hx, ?_⟩
  rw [heq]
  exact ⟨h1, h2, (hseen.presenceBegin v).frame⟩

/-- A phase of the test passes to the next. -/
theorem presence_next {n : Nat} (d v : Nat) (h : s.presencePhaseEnd d v = s.storeUpd (fun q => { q with presence := n })) :
    Gives (.presencePhaseEnd d v) s fun u =>
      u.store = { s.store with presence := n } ∧ Frame [] [.store] [] s u := by
  have hx : exec (.presencePhaseEnd d v) s = .next (s.presencePhaseEnd d v) := rfl
  refine ⟨_, hx, ?_⟩
  rw [h]
  exact ⟨rfl, (Dev.refl.storeUpd : Dev (keysOf []) [.store] [] s _).frame⟩

/-- The judgement of the store (R218). -/
theorem presenceJudge_judges (s : State) (absent : Bool) (v : Nat) (hdue : s.store.testDue = false) :
    (s.presenceJudge absent v).store.presence = 0 ∧ (s.presenceJudge absent v).on F.CHG_STAT_ABSENT = absent ∧
      (absent = true → s.on F.CHG_CTL_EN = true → (s.presenceJudge absent v).get F.CHG_STAT_STATE = 7 ∧
        (s.presenceJudge absent v).scMode ≠ 1) ∧
      FrameIn [(0x4000E000, 0x40010000)] [] [.store] [10] s (s.presenceJudge absent v) := by
  unfold State.presenceJudge
  extract_lets was src s1 s2 s3
  have h1 : StoreDev s s1 := Dev.refl.storeUpd (f := fun q => { q with presence := 0 })
  have h3 : StoreDev s s3 := ((h1.putB (by decide)).andIf (·.put (by decide)))
  have hd3 : Dev (keysOf [F.CHG_STAT_STATE]) [] [] s2 s3 := Dev.refl.andIf (·.put)
  have hstore3 : s3.store = { s.store with presence := 0 } := hd3.store_eq
  have habs3 : s3.on F.CHG_STAT_ABSENT = absent := by
    rw [hd3.on_eq (by decide)]
    exact State.on_putB
  have hstore : (s3.chgEval v).store = { s.store with presence := 0 } := by
    rw [(chgEval_store s3 v).2.2 (by rw [hstore3]; exact hdue), hstore3]
  refine ⟨?_, ?_, fun hab hen => ?_, ((h3.chgEval v evalFields_store).chgWatch s (by decide)).frameIn⟩
  · rw [(chgWatch_dev _ _).store_eq, hstore]
  · rw [(chgWatch_dev _ _).on_eq (by decide), (chgEval_dev _ _).on_eq (by decide), habs3]
  · have hen3 : s3.on F.CHG_CTL_EN = true := by
      rw [hd3.on_eq (by decide)]
      exact (State.on_putB_ne (by decide)).trans hen
    obtain ⟨hstate, -, hmode⟩ := chgEval_blocked (s := s3) v fun x _ hx _ => by
      have hab3 : x.on F.CHG_STAT_ABSENT = true := (State.on_of_get (hx _ (by decide))).trans (habs3.trans hab)
      simp [State.chgPermitted, hab3]
    rw [hen3] at hstate
    exact ⟨by rw [(chgWatch_dev _ _).keys _ (by decide), hstate]; rfl,
      by rw [State.scMode, (chgWatch_dev _ _).keys _ (by decide)]; exact hmode⟩

/-! ## Balance -/

theorem balancing_iff (s : State) (bot top : Nat) : s.balancing bot top = true ↔
    s.get F.CHG_CTL_PROF = 2 ∧ s.on F.CHG_CTL_BALEN = true ∧ s.scMode ≤ 1 ∧ 1000 ≤ bot + top := by
  simp [State.balancing, and_assoc]

/-- The end of a judgement of the cells. -/
theorem cells_dev (s : State) (ov : Bool) (bal : Nat) :
    Frame [F.CHG_STAT_BAL, F.CHG_STAT_CELLOV, F.SC_STAT_MODE] [] [] s
        (((s.putB F.CHG_STAT_CELLOV ov).put F.CHG_STAT_BAL bal).scForward) ∧
      (((s.putB F.CHG_STAT_CELLOV ov).put F.CHG_STAT_BAL bal).scForward).get F.CHG_STAT_BAL = bal % 4 ∧
      (((s.putB F.CHG_STAT_CELLOV ov).put F.CHG_STAT_BAL bal).scForward).on F.CHG_STAT_CELLOV = ov ∧
      (ov = true → s.scMode ≤ 1 → (((s.putB F.CHG_STAT_CELLOV ov).put F.CHG_STAT_BAL bal).scForward).scMode = 0) := by
  have hd : Dev (keysOf [F.CHG_STAT_BAL, F.CHG_STAT_CELLOV, F.SC_STAT_MODE]) [] [] s
      (((s.putB F.CHG_STAT_CELLOV ov).put F.CHG_STAT_BAL bal).scForward) := ((Dev.refl.putB).put).scForward
  have hov : ((s.putB F.CHG_STAT_CELLOV ov).put F.CHG_STAT_BAL bal).on F.CHG_STAT_CELLOV = ov := by
    rw [State.on_put_ne (by decide), State.on_putB]
  refine ⟨hd.frame, ?_, ?_, fun h1 hm => ?_⟩
  · rw [(scForward_dev _).keys _ (by decide), State.get_put_self]
    rfl
  · rw [(scForward_dev _).on_eq (by decide), hov]
  · refine (scForward_mode ?_).1 ?_
    · rintro ⟨-, -, h⟩
      rw [hov, h1] at h
      cases h
    · rw [State.scMode, State.get_put_ne _ _ _ _ (by decide), State.putB, State.get_put_ne _ _ _ _ (by decide)]
      exact hm

/-- A cell above VCELLMAX, or CELLOV that is not over yet. -/
def State.cellsHeld (s : State) (bot top : Nat) : Prop :=
  s.vcellMaxMv < bot ∨ s.vcellMaxMv < top ∨
    (s.on F.CHG_STAT_CELLOV = true ∧ ¬(bot + 50 < s.vcellMaxMv ∧ top + 50 < s.vcellMaxMv))

/-- A cell bleeds after the comparison. -/
def State.cellBleeds (s : State) (held : Prop) (was : Bool) (cell other : Nat) : Prop :=
  s.vcellMaxMv < cell ∨ other + 20 < cell ∨ (was = true ∧ (held ∨ other + 5 ≤ cell))

theorem bleeds_iff (s : State) (was high : Bool) (cell other : Nat) :
    s.bleeds was high cell other = true ↔ s.cellBleeds (high = true) was cell other := by
  simp [State.bleeds, State.cellBleeds, or_assoc]

/-- The two bits of BAL. -/
theorem balBits (top bot : Bool) :
    (((if top then 1 else 0) + (if bot then 2 else 0)) % 4).testBit 0 = top ∧
      (((if top then 1 else 0) + (if bot then 2 else 0)) % 4).testBit 1 = bot := by decide +revert

/-- The cells are judged under the conditions of R220. -/
theorem cellsJudge_judges {bot top : Nat} (hb : s.balancing bot top = true) :
    (((s.cellsJudge bot top).get F.CHG_STAT_BAL).testBit 0 = true ↔
        s.cellBleeds (s.cellsHeld bot top) (s.bit F.CHG_STAT_BAL 0) top bot) ∧
      (((s.cellsJudge bot top).get F.CHG_STAT_BAL).testBit 1 = true ↔
        s.cellBleeds (s.cellsHeld bot top) (s.bit F.CHG_STAT_BAL 1) bot top) ∧
      ((s.cellsJudge bot top).on F.CHG_STAT_CELLOV = true ↔ s.cellsHeld bot top) ∧
      (s.cellsHeld bot top → (s.cellsJudge bot top).scMode = 0) ∧
      Frame [F.CHG_STAT_BAL, F.CHG_STAT_CELLOV, F.SC_STAT_MODE] [] [] s (s.cellsJudge bot top) := by
  have hm : s.scMode ≤ 1 := ((balancing_iff s bot top).1 hb).2.2.1
  unfold State.cellsJudge
  extract_lets low high t b
  rw [if_pos hb]
  have hhigh : high = true ↔ s.cellsHeld bot top := by
    simp only [high, low, State.cellsHeld, Bool.or_eq_true, Bool.and_eq_true, Bool.not_eq_true', decide_eq_true_eq,
      Bool.and_eq_false_iff, decide_eq_false_iff_not, or_assoc, not_and_or]
  obtain ⟨hframe, hbal, hov, hmode⟩ := cells_dev s high ((if t then 1 else 0) + (if b then 2 else 0))
  obtain ⟨hbit0, hbit1⟩ := balBits t b
  refine ⟨?_, ?_, ?_, fun h => hmode (hhigh.2 h) hm, hframe⟩
  · rw [hbal, hbit0, bleeds_iff]
    exact iff_of_eq (congrArg (s.cellBleeds · _ _ _) (propext hhigh))
  · rw [hbal, hbit1, bleeds_iff]
    exact iff_of_eq (congrArg (s.cellBleeds · _ _ _) (propext hhigh))
  · rw [hov, hhigh]

/-- Outside those conditions no cell bleeds. -/
theorem cellsJudge_idle {bot top : Nat} (hb : s.balancing bot top = false) :
    (s.cellsJudge bot top).get F.CHG_STAT_BAL = 0 ∧
      ((s.cellsJudge bot top).on F.CHG_STAT_CELLOV = true ↔
        s.on F.CHG_STAT_CELLOV = true ∧ ¬(bot + 50 < s.vcellMaxMv ∧ top + 50 < s.vcellMaxMv)) ∧
      Frame [F.CHG_STAT_BAL, F.CHG_STAT_CELLOV, F.SC_STAT_MODE] [] [] s (s.cellsJudge bot top) := by
  unfold State.cellsJudge
  extract_lets low high t b
  rw [if_neg (ne_true_of_eq_false hb)]
  obtain ⟨hframe, hbal, hov, -⟩ := cells_dev s (s.on F.CHG_STAT_CELLOV && !low) 0
  refine ⟨hbal, ?_, hframe⟩
  rw [hov]
  simp [low, not_and_or, -not_and]

/-! ## VBAK -/

theorem vbakSource_gives (s : State) (coin shown v : Nat) :
    let gives := if 3500 ≤ v then shown else if 2000 ≤ v then v - 200 else 0
    (3500 ≤ v → 3201 ≤ shown ∧ shown ≤ 3399) → Gives (.vbakSourceChange coin ⟨shown, v⟩) s fun u =>
      u.store.vbakCoin = (if gives < coin then true else if coin < gives then false else s.store.vbakCoin) ∧
      Frame [] [.store] [] s u := by
  intro gives hshown
  have hx : exec (.vbakSourceChange coin ⟨shown, v⟩) s = .next (s.vbakSource coin shown v) := rfl
  have hlaw : State.ldobakLaw shown v = gives := by
    unfold State.ldobakLaw
    refine ite_congr rfl (fun h => ?_) fun _ => rfl
    have := hshown h
    omega
  refine ⟨_, hx, ?_⟩
  have hstore : ∀ b, Frame [] [.store] [] s (s.storeUpd (fun q => { q with vbakCoin := b })) := fun b =>
    (Dev.refl.storeUpd : Dev (keysOf []) [.store] [] s _).frame
  unfold State.vbakSource
  dsimp only
  rw [hlaw]
  split
  · exact ⟨rfl, hstore true⟩
  · split
    · exact ⟨rfl, hstore false⟩
    · exact ⟨rfl, (Dev.refl : Dev (keysOf []) [.store] [] s s).frame⟩

/-! ## The statement -/

/-- The phase that a threshold leads to. -/
theorem chgNext_eq {v code : Nat} (s : State) (hst : s.get F.CHG_STAT_STATE = code) :
    (code = 1 → s.vpreMv ≤ v → v < s.vregMv → s.chgNext v = 3) ∧
      (code = 1 → s.vshortMv ≤ v → v < s.vpreMv → s.chgNext v = 2) ∧
      (code = 2 → s.vpreMv ≤ v → v < s.vregMv → s.chgNext v = 3) ∧
      (code = 3 → s.vpreMv ≤ v → s.vregMv ≤ v → s.chgNext v = 4) ∧
      (code = 5 → s.vpreMv ≤ v → v + 100 < s.vregMv → s.chgNext v = 3) := by
  have hle := vshort_le_vpre s
  unfold State.chgNext State.chgPhase
  rw [hst]
  refine ⟨?_, ?_, ?_, ?_, ?_⟩
  · rintro rfl h1 h2
    simp [show ¬v < s.vshortMv by omega, show ¬v < s.vpreMv by omega, h2]
  · rintro rfl h1 h2
    simp [show ¬v < s.vshortMv by omega, h2]
  · rintro rfl h1 h2
    simp [show ¬v < s.vshortMv by omega, show ¬v < s.vpreMv by omega, h2]
  · rintro rfl h1 h2
    simp [show ¬v < s.vshortMv by omega, show ¬v < s.vpreMv by omega, show ¬v < s.vregMv by omega]
  · rintro rfl h1 h2
    simp [show ¬v < s.vshortMv by omega, show ¬v < s.vpreMv by omega, show v < s.vregMv by omega, h2]

/-- The fault that a phase timer latches. -/
theorem chgPhaseTimeout_eq (s : State) (v : Nat) (hperm : s.chgPermitted = true) (hp : s.store.presence = 0) :
    let ends := fun fault => s.chgPhaseTimeout v =
      State.chgWatch s (((s.put F.CHG_STAT_FAULT fault).put F.CHG_STAT_STATE 7).scForward)
    (s.get F.CHG_STAT_STATE = 1 → v < s.vshortMv → ends 1) ∧ (s.get F.CHG_STAT_STATE = 2 → ends 2) ∧
      (s.get F.CHG_STAT_STATE = 3 ∨ s.get F.CHG_STAT_STATE = 4 → s.get F.CHG_CTL_PROF ≤ 1 →
        s.get F.CHG_SET_TFAST ≠ 0 → ends 3) := by
  intro ends
  unfold ends State.chgPhaseTimeout
  refine ⟨fun h hv => ?_, fun h => ?_, fun h hprof hfast => ?_⟩
  · simp [h, hv, hperm, hp]
  · simp [h, hperm, hp]
  · rcases h with h | h
    · simp [h, hprof, hfast, hperm, hp]
    · simp [h, hprof, hfast, hperm, hp]

/-- A store to CHG.CTL that takes effect, and the same store as CHG_CLR. -/
theorem Gives.of_chgCtl {v : Word} {w : Nat} {P : State → Prop} (hlive : s.scLive = true) (h : P (s.chgCtlWrite 0 v w)) :
    Gives (.chgCtlWrite 0 v w) s P ∧ Gives (.chgClr 0 v w) s P := by
  have hx : exec (.chgCtlWrite 0 v w) s = .next (if s.scLive then s.chgCtlWrite 0 v w else s) := rfl
  have hx' : exec (.chgClr 0 v w) s = .next (if s.scLive then s.chgCtlWrite 0 v w else s) := rfl
  rw [if_pos hlive] at hx hx'
  exact ⟨⟨_, hx, h⟩, ⟨_, hx', h⟩⟩

theorem chgCtl_rings {ring : Ring} (v : Word) (w : Nat) (h : ring ≠ 0) :
    Gives (.chgCtlWrite ring v w) s (fun u => u = s) ∧ Gives (.chgClr ring v w) s (fun u => u = s) := by
  have heq : (if s.scLive then s.chgCtlWrite ring v w else s) = s := by
    have hr : ring.val ≠ 0 := fun e => h (Fin.ext e)
    rw [State.chgCtlWrite, if_pos hr, ite_self]
  exact ⟨⟨_, rfl, heq⟩, ⟨_, rfl, heq⟩⟩

/-- The statement of O50 about the end of a phase of the presence test. -/
theorem presencePhase_gives (d v : Nat) (hlive : s.scLive = true) :
    (s.store.presence = 1 → Gives (.presencePhaseEnd d v) s (fun u =>
        u.store = { s.store with presence := 2 } ∧ Frame [] [.store] [] s u)) ∧
      (s.store.presence = 2 → d ≤ 300 → Gives (.presencePhaseEnd d v) s (fun u =>
        u.store = { s.store with presence := 3 } ∧ Frame [] [.store] [] s u)) ∧
      (s.store.presence = 3 ∨ (s.store.presence = 2 ∧ 300 < d) → s.store.testDue = false →
        Gives (.presencePhaseEnd d v) s (fun u => u.store.presence = 0 ∧
          u.on F.CHG_STAT_ABSENT = decide (300 < d) ∧
          (300 < d → s.on F.CHG_CTL_EN = true → u.get F.CHG_STAT_STATE = 7 ∧ u.scMode ≠ 1) ∧
          FrameIn [(0x4000E000, 0x40010000)] [] [.store] [10] s u)) := by
  have hx : exec (.presencePhaseEnd d v) s = .next (s.presencePhaseEnd d v) := rfl
  have hend : s.presencePhaseEnd d v = (match s.store.presence with
      | 1 => s.storeUpd (fun q => { q with presence := 2 })
      | 2 => if 300 < d then s.presenceJudge true v else s.storeUpd (fun q => { q with presence := 3 })
      | 3 => s.presenceJudge (decide (300 < d)) v
      | _ => s) := if_pos hlive
  refine ⟨fun hp => presence_next d v ?_, fun hp hd => presence_next d v ?_, fun hp hdue => ⟨_, hx, ?_⟩⟩
  · rw [hend, hp]
    rfl
  · rw [hend, hp]
    exact if_neg (by omega)
  · have heq : s.presencePhaseEnd d v = s.presenceJudge (decide (300 < d)) v := by
      rw [hend]
      rcases hp with hp | ⟨hp, hd⟩
      · rw [hp]
        rfl
      · rw [hp]
        exact (if_pos hd).trans (by rw [decide_eq_true hd])
    obtain ⟨h0, habs, hst, hframe⟩ := presenceJudge_judges s (decide (300 < d)) v hdue
    rw [heq]
    exact ⟨h0, habs, fun h => hst (decide_eq_true h), hframe⟩

/-- Settles O50. -/
theorem chargerStates : Obligations.ChargerStates := by
  unfold Obligations.ChargerStates
  intro s inStore st goes
  refine ⟨fun hlive => ⟨fun ring v w h => chgCtl_rings v w h, fun v w hv hen hm hw hp => ?_,
    fun v w hv hle hlock hen hne => ?_, fun v w hv => ?_, fun v w h8 => ?_, fun v hperm hp => ?_, fun m0 m1 w => ?_,
    fun v => ?_, fun d v => presencePhase_gives d v hlive, fun bot top => ?_⟩,
    fun coin shown v => vbakSource_gives s coin shown v⟩
  · obtain ⟨h1, h2, h3⟩ := chgCtl_on (v := v) (w := w) hlive hv hen hm hw hp
    exact (Gives.of_chgCtl hlive ⟨h1, h2, h3, chgCtl_dev s v w⟩).1
  · obtain ⟨hprof, herr⟩ := chgStored_prof w hle hlock hen hne
    refine (Gives.of_chgCtl hlive ⟨(chgCtl_get (by decide)).trans hprof, ?_, chgCtl_dev s v w⟩).1
    exact (State.on_of_get (chgCtl_get (by decide))).trans herr
  · obtain ⟨h1, h2, h3⟩ := chgCtl_off (s := s) (v := v) (w := w) hv
    exact (Gives.of_chgCtl hlive ⟨h1, h2, h3, chgCtl_dev s v w⟩).1
  · exact (Gives.of_chgCtl hlive ⟨chgCtl_clr h8, chgCtl_dev s v w⟩).2
  · obtain ⟨n1, n2, n3, n4, n5⟩ := chgNext_eq (v := v) s rfl
    obtain ⟨f1, f2, f3⟩ := chgPhaseTimeout_eq s v hperm hp
    have hgo : ∀ code n, st = code → s.chgNext v = n → n < 8 → n ≠ code → Gives (.chgPhaseChange v) s (goes n) :=
      fun code n hst hnext hn hne => phaseChange_goes hperm hp hnext hn fun e => hne (e.trans hst)
    have hst7 : ∀ code, st = code → code ≠ 7 → s.get F.CHG_STAT_STATE ≠ 7 := fun code h hne e => hne (h.symm.trans e)
    refine ⟨fun h h1 h2 => hgo 1 3 h (n1 h h1 h2) (by decide) (by decide),
      fun h h1 h2 => hgo 1 2 h (n2 h h1 h2) (by decide) (by decide),
      fun h h1 h2 => hgo 2 3 h (n3 h h1 h2) (by decide) (by decide),
      fun h h1 h2 => hgo 3 4 h (n4 h h1 h2) (by decide) (by decide),
      fun h h1 h2 => hgo 5 3 h (n5 h h1 h2) (by decide) (by decide),
      fun h hv => phaseTimeout_goes hperm (f1 h hv) (by decide) (hst7 1 h (by decide)),
      fun h => phaseTimeout_goes hperm (f2 h) (by decide) (hst7 2 h (by decide)),
      fun h hprof hfast => phaseTimeout_goes hperm (f3 h hprof hfast) (by decide) ?_,
      fun h => terminate_goes hperm hp h⟩
    rcases h with h | h
    · exact hst7 3 h (by decide)
    · exact hst7 4 h (by decide)
  · refine (ntcSample_gives m0 m1 w hlive).imp fun u ⟨hframe, h0, h1, hn0, hn1⟩ => ?_
    refine ⟨hframe, fun h => ?_, fun h => ?_, fun h => ?_, fun h => ?_⟩
    · rw [if_pos h] at h0 hn0
      exact ⟨h0, by rw [hn0, ntcStep_zone]⟩
    · rw [if_pos h] at h1 hn1
      exact ⟨h1, by rw [hn1, ntcStep_zone]⟩
    · rw [if_neg (ne_true_of_eq_false h)] at h0 hn0
      exact ⟨h0, hn0⟩
    · rw [if_neg (ne_true_of_eq_false h)] at h1 hn1
      exact ⟨h1, hn1⟩
  · intro due
    exact ⟨fun hdue hm hp hv => presenceTest_due hlive hdue hm hp hv, fun hdue => ⟨_, rfl, if_neg hdue⟩⟩
  · intro balances low held bleeds judged
    have hb : s.balancing bot top = true ↔ balances := balancing_iff s bot top
    refine ⟨fun h => ?_, fun h => ?_⟩
    · have hj := cellsJudge_judges (hb.2 h)
      exact ⟨⟨s.cellsJudge bot top, congrArg Host.Outcome.next (if_pos ⟨hlive, hb.2 h⟩), hj⟩,
        ⟨s.cellsJudge bot top, congrArg Host.Outcome.next (if_pos hlive), hj⟩⟩
    · have hno : s.balancing bot top = false := Bool.eq_false_iff.2 fun h' => h (hb.1 h')
      exact ⟨⟨s, congrArg Host.Outcome.next (if_neg fun h' => h (hb.1 h'.2)), rfl⟩,
        ⟨s.cellsJudge bot top, congrArg Host.Outcome.next (if_pos hlive), cellsJudge_idle hno⟩⟩

end Sys2Proof.Machine
end

section
/-!
SUPPORT. The limits of a switching channel (R186 to R195): latches, overload stops, over-voltage, the loss and return of
VSYS. A latch on one phase of a gang latches both, so `pairKeys` lets the mate's EN bit change too.
-/

set_option Elab.async false

namespace Sys2Proof.Machine

variable {K : Nat → Prop} {bs : List Block} {ks : List Nat} {s u : State}

/-- The fields of SW and SEQ but the EN bits of channels other than `n` and its mate. -/
abbrev pairKeys (n : Fin 6) (mate : Option (Fin 6)) (k : Nat) : Prop :=
  (0x40008000 ≤ k / 32 ∧ k / 32 < 0x4000E000 ∨ 0x40010000 ≤ k / 32 ∧ k / 32 < 0x40011000) ∧
    ∀ m : Fin 6, m ≠ n → mate ≠ some m → k ≠ (F.SW_CTL_EN m).key

/-- A frame with more blocks. -/
theorem Dev.moreBlocks {cs : List Block} (h : Dev K bs ks s u) (hb : ∀ b ∈ bs, b ∈ cs) : Dev K cs ks s u := by
  obtain ⟨hkeys, ⟨h1, h2, h3, h4, h5, h6, h7, h8, h9, h10, h11, h12⟩, hcore, hmem, hpend⟩ := h
  exact ⟨hkeys, ⟨fun n => h1 (n ∘ hb _), fun n => h2 (n ∘ hb _), fun n => h3 (n ∘ hb _), fun n => h4 (n ∘ hb _),
    fun n => h5 (n ∘ hb _), fun n => h6 (n ∘ hb _), fun n => h7 (n ∘ hb _), fun n => h8 (n ∘ hb _),
    fun n => h9 (n ∘ hb _), fun n => h10 (n ∘ hb _), fun n => h11 (n ∘ hb _), fun n => h12 (n ∘ hb _)⟩,
    hcore, hmem, hpend⟩

/-- The frame of a limit's event on channel `n`. -/
abbrev PairDev (n : Fin 6) (mate : Option (Fin 6)) (s u : State) : Prop :=
  Dev (pairKeys n mate) [.sw, .seq] [1, 8, 9] s u

theorem SwDev.pair {n : Fin 6} (h : SwDev n s u) (mate : Option (Fin 6)) : PairDev n mate s u :=
  h.weaken (fun _ hk => ⟨hk.1, fun m hm _ => hk.2 m hm⟩) (by simp)

/-- What is done to the mate of `n`. -/
theorem SwDev.mate {n m : Fin 6} (h : SwDev m s u) : PairDev n (some m) s u :=
  h.weaken (fun _ hk => ⟨hk.1, fun j _ hj => hk.2 j fun e => hj (e ▸ rfl)⟩) (by simp)

theorem PairDev.inRails {n : Fin 6} (h : PairDev n (s.gangMate n) s u) :
    FrameIn [(0x40008000, 0x4000E000), (0x40010000, 0x40011000)] [] [.sw, .seq] [1, 8, 9] s u ∧
      ∀ m : Fin 6, m ≠ n → s.gangMate n ≠ some m → u.on (F.SW_CTL_EN m) = s.on (F.SW_CTL_EN m) := by
  refine ⟨(h.weaken (L := keysIn [(0x40008000, 0x4000E000), (0x40010000, 0x40011000)] []) (fun k hk => .inr ?_)
    (fun _ h => h)).frameIn, fun m hm hmate => h.on_eq fun hk => hk.2 m hm hmate rfl⟩
  rcases hk.1 with h | h
  · exact ⟨(0x40008000, 0x4000E000), by simp, h⟩
  · exact ⟨(0x40010000, 0x40011000), by simp, h⟩

/-! ## Latches -/

/-- A channel that is latched with a cause. -/
structure SwLatched (n : Fin 6) (cause : Nat) (u : State) : Prop where
  cause : u.get (F.SW_STAT_CAUSE n) = cause
  en : u.on (F.SW_CTL_EN n) = false
  run : u.on (F.SW_STAT_RUN n) = false
  pg : u.pg (n.val + 1) = false

/-- The fields that a latch of channel `m` writes. -/
abbrev latchFields (m : Fin 6) : List Fld := gateFields m ++ [F.SW_CTL_EN m, F.SW_STAT_CAUSE m, F.SEQ_PG_PG]

theorem Dev.swLatchOne (h : Dev K bs ks s u) {m : Fin 6} (cause : Nat) (hK : ∀ f ∈ latchFields m, K f.key)
    (hsw : .sw ∈ bs := by simp) (hseq : .seq ∈ bs := by simp) (h8 : 8 ∈ ks := by simp) (h9 : 9 ∈ ks := by simp) :
    Dev K bs ks s (u.swLatchOne m cause) := by
  have hg : Dev K bs ks s (u.swGatesOff m) := h.swGatesOff (fun f hf => hK f (List.mem_append_left _ hf)) hsw h9
  exact (((hg.put (hK _ (by simp))).put (hK _ (by simp))).swUpd hsw).railDown (by omega) (hK _ (by simp)) h8 hseq

theorem latchFields_sw (n : Fin 6) : ∀ f ∈ latchFields n, swKeys n f.key := by decide +revert

theorem latchKeys_ne (n : Fin 6) :
    (F.SW_STAT_CAUSE n).key ≠ (F.SW_CTL_EN n).key ∧ (F.SW_STAT_CAUSE n).key ≠ (F.SW_STAT_RUN n).key ∧
      (F.SW_CTL_EN n).key ≠ (F.SW_STAT_RUN n).key ∧
      ∀ f ∈ [F.SW_STAT_CAUSE n, F.SW_CTL_EN n, F.SW_STAT_RUN n], f.key ∉ [F.SEQ_PG_PG].map Fld.key := by
  decide +revert

theorem swLatchOne_latched (s : State) (n : Fin 6) {cause : Nat} (hc : cause < 8) :
    SwLatched n cause (s.swLatchOne n cause) := by
  unfold State.swLatchOne
  extract_lets s1 s2
  obtain ⟨hce, hcr, her, hpg⟩ := latchKeys_ne n
  have hdown : Dev (keysOf [F.SEQ_PG_PG]) [.seq] [8] s2 (s2.railDown (n.val + 1)) := Dev.refl.railDown (by omega)
  have hcause : s2.get (F.SW_STAT_CAUSE n) = cause := by
    rw [State.get_swUpd]
    exact State.get_put_lt (f := F.SW_STAT_CAUSE n) hc
  have hen : s2.on (F.SW_CTL_EN n) = false := by
    rw [State.on_swUpd, State.on_put_ne hce, State.on_put_zero]
  have hrun : s2.on (F.SW_STAT_RUN n) = false := by
    rw [State.on_swUpd, State.on_put_ne hcr, State.on_put_ne her]
    exact (swGatesOff_rest s n).1
  exact ⟨(hdown.keys _ (hpg _ (by simp))).trans hcause, (hdown.on_eq (hpg _ (by simp))).trans hen,
    (hdown.on_eq (hpg _ (by simp))).trans hrun, State.pg_railDown s2 (by omega)⟩

/-- Power-good that is gone stays gone when another channel is latched. -/
theorem pg_railDown_ne (s : State) {c c' : Nat} (hc : c' < 16) (h : s.pg c = false) : (s.railDown c').pg c = false := by
  have h1 : (s.pgPut c' false).pg c = false := State.pg_pgFall s (by omega) (.inr h)
  have h2 : (s.pgSet c' false).pg c = false := by
    unfold State.pgSet
    extract_lets s1
    split
    · exact State.pg_pgFall s1 (by omega) (.inr h1)
    · exact h1
  exact h2

theorem pgGate_ne (m : Fin 6) : F.SEQ_PG_PG.key ∉ (gateFields m ++ [F.SW_CTL_EN m, F.SW_STAT_CAUSE m]).map Fld.key := by
  decide +revert

theorem latchOther_ne (n m : Fin 6) (h : n ≠ m) : ∀ f ∈ [F.SW_STAT_CAUSE n, F.SW_CTL_EN n, F.SW_STAT_RUN n],
    f.key ∉ (latchFields m).map Fld.key := by decide +revert

/-- A latched channel stays so when its mate is latched. -/
theorem SwLatched.other {n m : Fin 6} {cause : Nat} (h : SwLatched n cause s) (hne : n ≠ m) (cause' : Nat) :
    SwLatched n cause (s.swLatchOne m cause') := by
  have hd : Dev (keysOf (latchFields m)) [.sw, .seq] [8, 9] s (s.swLatchOne m cause') :=
    Dev.refl.swLatchOne cause' fun _ hf => List.mem_map_of_mem hf
  have hk := latchOther_ne n m hne
  obtain ⟨hcause, hen, hrun, hpg⟩ := h
  refine ⟨(hd.keys _ (hk _ (by simp))).trans hcause, (hd.on_eq (hk _ (by simp))).trans hen,
    (hd.on_eq (hk _ (by simp))).trans hrun, ?_⟩
  unfold State.swLatchOne
  extract_lets s1 s2
  refine pg_railDown_ne s2 (by omega) ?_
  have hd2 : Dev (keysOf (gateFields m ++ [F.SW_CTL_EN m, F.SW_STAT_CAUSE m])) [.sw] [9] s s2 :=
    (((Dev.refl.swGatesOff fun _ hf => List.mem_map_of_mem (List.mem_append_left _ hf)).put).put).swUpd
  rw [State.pg, State.bit, hd2.keys _ (pgGate_ne m)]
  exact hpg

/-- A latch of channel `n`: both channels of its gang are latched, with E9. -/
theorem swLatch_latched (s : State) (n : Fin 6) {cause : Nat} (hc : cause < 8) :
    SwLatched n cause (s.swLatch n cause) ∧ (s.swLatch n cause).core.raised.getLsbD 9 = true ∧
      (∀ m, s.gangMate n = some m → (s.swLatch n cause).get (F.SW_STAT_CAUSE m) = cause ∧
        (s.swLatch n cause).on (F.SW_CTL_EN m) = false) ∧ PairDev n (s.gangMate n) s (s.swLatch n cause) := by
  have hone := swLatchOne_latched s n hc
  have hdev : SwDev n s (s.swLatchOne n cause) := Dev.refl.swLatchOne cause (latchFields_sw n)
  unfold State.swLatch
  extract_lets s1 s2
  have h2 : SwLatched n cause s2 ∧ (∀ m, s.gangMate n = some m → SwLatched m cause s2) ∧ PairDev n (s.gangMate n) s s2 := by
    unfold s2
    split
    next m hm =>
      rw [hm]
      refine ⟨hone.other (gangMate_ne hm) cause, fun j hj => ?_, (hdev.pair _).trans ?_⟩
      · cases hj
        exact swLatchOne_latched s1 m hc
      · exact SwDev.mate (Dev.refl.swLatchOne cause (latchFields_sw m))
    next hnone =>
      rw [hnone]
      exact ⟨hone, fun m hm => (by cases hm), hdev.pair _⟩
  obtain ⟨hn, hmate, hd⟩ := h2
  exact ⟨⟨hn.cause, hn.en, hn.run, hn.pg⟩, State.raised_raise (by decide),
    fun m hm => ⟨(hmate m hm).cause, (hmate m hm).en⟩, hd.raise⟩

/-! ## Fast trips -/

/-- A fast trip as it is reported: the first sets FTRIP with E1, later ones count, and the loop yields (R187, R191). -/
def State.tripSeen (s : State) (n : Fin 6) : State :=
  (if s.on (F.SW_STAT_FTRIP n) then s.bump (F.SW_CNT_FTRIPCNT n)
    else (s.put (F.SW_STAT_FTRIP n) 1).raise 1).swYieldBegin n 0

/-- The fields of a fast trip. -/
abbrev tripFields (n : Fin 6) : List Fld := [F.SW_STAT_FTRIP n, F.SW_CNT_FTRIPCNT n, F.SW_STAT_YIELD n]

theorem Dev.swYieldBegin (h : Dev K bs ks s u) {n : Fin 6} (len : Nat) (hK : K (F.SW_STAT_YIELD n).key := by simp [keysOf])
    (hb : .sw ∈ bs := by simp) : Dev K bs ks s (u.swYieldBegin n len) :=
  h.orIf fun h => (h.put hK).swUpd hb

theorem tripSeen_dev (s : State) (n : Fin 6) : Dev (keysOf (tripFields n)) [.sw] [1] s (s.tripSeen n) :=
  ((Dev.refl.bump).ite ((Dev.refl.put).raise)).swYieldBegin 0

theorem tripKeys_ne (n : Fin 6) : (F.SW_STAT_YIELD n).key ≠ (F.SW_CNT_FTRIPCNT n).key ∧
    (F.SW_STAT_YIELD n).key ≠ (F.SW_STAT_FTRIP n).key ∧ (F.SW_STAT_FTRIP n).key ≠ (F.SW_CNT_FTRIPCNT n).key := by
  decide +revert

/-- A yield has begun: YIELD is 1, and nothing else of the registers or of the channels' trips changes. -/
theorem swYieldBegin_yields (s : State) (n : Fin 6) (len : Nat) :
    (s.swYieldBegin n len).on (F.SW_STAT_YIELD n) = true ∧ (s.swYieldBegin n len).core = s.core ∧
      (∀ g : Fld, (F.SW_STAT_YIELD n).key ≠ g.key → (s.swYieldBegin n len).get g = s.get g) ∧
      (s.swYieldBegin n len).sw[n].ssTrips = s.sw[n].ssTrips ∧
      ∀ m : Fin 6, m ≠ n → (s.swYieldBegin n len).sw[m] = s.sw[m] := by
  unfold State.swYieldBegin
  split
  next hon => exact ⟨hon, rfl, fun _ _ => rfl, rfl, fun _ _ => rfl⟩
  next hoff =>
    refine ⟨?_, rfl, fun g hg => State.get_put_ne _ _ _ _ hg, ?_, fun m hm => ?_⟩
    · rw [State.on_swUpd, State.on_put_one]
    · simp
    · have hv : n.val ≠ m.val := fun e => hm (Fin.ext e.symm)
      simp [hv]

/-- The report of a trip. -/
theorem tripSeen_reports (s : State) (n : Fin 6) :
    (if s.on (F.SW_STAT_FTRIP n) then
        (s.tripSeen n).get (F.SW_CNT_FTRIPCNT n) = min (s.get (F.SW_CNT_FTRIPCNT n) + 1) 65535
      else (s.tripSeen n).on (F.SW_STAT_FTRIP n) = true ∧ (s.tripSeen n).core.raised.getLsbD 1 = true ∧
        (s.tripSeen n).get (F.SW_CNT_FTRIPCNT n) = s.get (F.SW_CNT_FTRIPCNT n)) ∧
      (s.tripSeen n).on (F.SW_STAT_YIELD n) = true ∧ (s.tripSeen n).sw[n].ssTrips = s.sw[n].ssTrips ∧
      ∀ m : Fin 6, m ≠ n → (s.tripSeen n).sw[m] = s.sw[m] := by
  obtain ⟨hyc, hyf, hfc⟩ := tripKeys_ne n
  unfold State.tripSeen
  split
  next hon =>
    obtain ⟨hy, -, hget, hn, hm⟩ := swYieldBegin_yields (s.bump (F.SW_CNT_FTRIPCNT n)) n 0
    refine ⟨?_, hy, hn, hm⟩
    rw [hget _ hyc, State.bump, State.get_put_self]
    have hw : (F.SW_CNT_FTRIPCNT n).width = 16 := rfl
    rw [hw]
    omega
  next hoff =>
    obtain ⟨hy, hcore, hget, hn, hm⟩ := swYieldBegin_yields ((s.put (F.SW_STAT_FTRIP n) 1).raise 1) n 0
    refine ⟨⟨?_, ?_, ?_⟩, hy, hn, hm⟩
    · rw [State.on_of_get (hget _ hyf), State.on_raise, State.on_put_one]
    · rw [hcore]
      exact State.raised_raise (by decide)
    · rw [hget _ hyc, State.get_raise, State.get_put_ne _ _ _ _ hfc]

/-- The gang of a channel is in its registers. -/
theorem State.gangMate_eq (h0 : u.on (F.SW_CTL_GANG 0) = s.on (F.SW_CTL_GANG 0))
    (h2 : u.on (F.SW_CTL_GANG 2) = s.on (F.SW_CTL_GANG 2)) (n : Fin 6) : u.gangMate n = s.gangMate n := by
  unfold State.gangMate
  rw [h0, h2]

theorem tripGang_ne (n : Fin 6) : (F.SW_CTL_GANG 0).key ∉ (tripFields n).map Fld.key ∧
    (F.SW_CTL_GANG 2).key ∉ (tripFields n).map Fld.key := by decide +revert

theorem tripFields_sw (n : Fin 6) : ∀ k, keysOf (tripFields n) k → swKeys n k := by
  intro k hk
  have h : ∀ n : Fin 6, ∀ k ∈ (tripFields n).map Fld.key, swKeys n k := by decide
  exact h n k hk

/-- A fast trip that does not latch. -/
theorem fastTrip_gives {n : Fin 6} (hlive : s.swLive n = true) (hrun : s.on (F.SW_STAT_RUN n) = true)
    (h : s.swInSs n = false ∨ s.sw[n].ssTrips < 3) : Gives (.fastLimitTrip n) s fun u =>
      (if s.on (F.SW_STAT_FTRIP n) then
        u.get (F.SW_CNT_FTRIPCNT n) = min (s.get (F.SW_CNT_FTRIPCNT n) + 1) 65535
       else u.on (F.SW_STAT_FTRIP n) = true ∧ u.core.raised.getLsbD 1 = true ∧
        u.get (F.SW_CNT_FTRIPCNT n) = s.get (F.SW_CNT_FTRIPCNT n)) ∧ u.on (F.SW_STAT_YIELD n) = true ∧
      (s.swInSs n = true → u.sw[n].ssTrips = s.sw[n].ssTrips + 1) ∧ (∀ m : Fin 6, m ≠ n → u.sw[m] = s.sw[m]) ∧
      Frame [F.SW_STAT_FTRIP n, F.SW_CNT_FTRIPCNT n, F.SW_STAT_YIELD n] [.sw] [1] s u := by
  have hx : exec (.fastLimitTrip n) s = .next (s.fastTrip n) := rfl
  obtain ⟨hrep, hy, hn, hm⟩ := tripSeen_reports s n
  have hd := tripSeen_dev s n
  have heq : ∃ f : SwSt → SwSt, s.fastTrip n = (s.tripSeen n).swUpd n f ∧
      (s.swInSs n = true → ∀ x, (f x).ssTrips = s.sw[n].ssTrips + 1) := by
    unfold State.fastTrip
    rw [if_pos ⟨hlive, hrun⟩]
    dsimp only
    by_cases hss : s.swInSs n = true
    · rw [if_pos hss, if_neg (by have := h.resolve_left (by simp [hss]); omega)]
      exact ⟨_, rfl, fun _ _ => rfl⟩
    · rw [if_neg hss]
      exact ⟨_, rfl, fun h => absurd h hss⟩
  obtain ⟨f, heq, hf⟩ := heq
  refine ⟨_, hx, ?_⟩
  rw [heq]
  refine ⟨hrep, hy, fun hss => ?_, fun m hne => ?_, hd.swUpd.frame⟩
  · simpa using hf hss _
  · have hv : n.val ≠ m.val := fun e => hne (Fin.ext e.symm)
    simp only [State.swUpd_sw, Fin.getElem_fin, Vector.getElem_set, hv, if_false]
    exact hm m hne

/-- A channel that is latched, as the statement of O46 puts it. -/
theorem SwLatched.gives {n : Fin 6} {cause : Nat} {x : State} (hc : cause < 8) (hx : PairDev n (s.gangMate n) s x)
    (hg : x.gangMate n = s.gangMate n) : SwLatched n cause (x.swLatch n cause) ∧
      (x.swLatch n cause).core.raised.getLsbD 9 = true ∧
      (∀ m, s.gangMate n = some m → (x.swLatch n cause).get (F.SW_STAT_CAUSE m) = cause ∧
        (x.swLatch n cause).on (F.SW_CTL_EN m) = false) ∧ PairDev n (s.gangMate n) s (x.swLatch n cause) := by
  obtain ⟨hl, hraised, hmate, hd⟩ := swLatch_latched x n hc
  rw [hg] at hmate hd
  exact ⟨hl, hraised, hmate, hx.trans hd⟩

/-- The fourth trip of a soft-start latches. -/
theorem fastTrip_latches {n : Fin 6} (hlive : s.swLive n = true) (hrun : s.on (F.SW_STAT_RUN n) = true)
    (hss : s.swInSs n = true) (h3 : 3 ≤ s.sw[n].ssTrips) : ∃ x, s.fastTrip n = x.swLatch n 1 ∧
      PairDev n (s.gangMate n) s x ∧ x.gangMate n = s.gangMate n := by
  have hd := tripSeen_dev s n
  obtain ⟨hg0, hg2⟩ := tripGang_ne n
  refine ⟨(s.tripSeen n).swUpd n (fun x => { x with ssTrips := s.sw[n].ssTrips + 1, tripped := true }), ?_, ?_, ?_⟩
  · unfold State.fastTrip
    rw [if_pos ⟨hlive, hrun⟩]
    dsimp only
    rw [if_pos hss, if_pos (by omega)]
    rfl
  · have hdev : Dev (keysOf (tripFields n)) [.sw, .seq] [1] s (s.tripSeen n) := hd.moreBlocks (by simp)
    refine Dev.swUpd (hdev.weaken (fun k hk => ?_) (by simp))
    obtain ⟨hr, hen⟩ := tripFields_sw n k hk
    exact ⟨hr, fun m hm _ => hen m hm⟩
  · exact State.gangMate_eq (hd.on_eq hg0) (hd.on_eq hg2) n

/-! ## Overload, over-voltage, VSYS -/

theorem slowKeys_ne (n : Fin 6) : swKeys n (F.SW_STAT_SLOW n).key ∧ (F.SW_STAT_SLOW n).key ≠ (F.SW_CTL_GANG 0).key ∧
    (F.SW_STAT_SLOW n).key ≠ (F.SW_CTL_GANG 2).key ∧ (F.SW_STAT_SLOW n).key ≠ (F.SW_CTL_EN n).key := by decide +revert

/-- A channel that stops without a latch: the gates go off, power-good falls, EN and CAUSE stay. -/
structure SwHalted (n : Fin 6) (s u : State) : Prop where
  run : u.on (F.SW_STAT_RUN n) = false
  pg : u.pg (n.val + 1) = false
  en : u.get (F.SW_CTL_EN n) = s.get (F.SW_CTL_EN n)
  cause : u.get (F.SW_STAT_CAUSE n) = s.get (F.SW_STAT_CAUSE n)
  slow : u.get (F.SW_STAT_SLOW n) = s.get (F.SW_STAT_SLOW n)

theorem Dev.pgSet (h : Dev K bs ks s u) {c : Nat} (hc : c < 16) (hK : K F.SEQ_PG_PG.key := by simp [keysOf])
    (hk : 8 ∈ ks := by simp) : Dev K bs ks s (u.pgSet c false) :=
  (h.pgFall (by omega) hK hk).andIf fun h => h.pgFall (c := c + 1) (by omega) hK hk

/-- Power-good of channel `n` falls and its comparators are blanked, the rise order apart. -/
def State.swQuiet (s : State) (n : Fin 6) : State := (s.pgSet (n.val + 1) false).supBlank (n.val + 1)

theorem Dev.swQuiet (h : Dev K bs ks s u) (n : Fin 6) (hK : K F.SEQ_PG_PG.key := by simp [keysOf])
    (hk : 8 ∈ ks := by simp) (hb : .seq ∈ bs := by simp) : Dev K bs ks s (u.swQuiet n) := by
  unfold State.swQuiet State.supBlank
  exact (h.pgSet (c := n.val + 1) (by omega) hK hk).seqUpd hb

theorem swQuiet_dev (s : State) (n : Fin 6) : Dev (keysOf [F.SEQ_PG_PG]) [.seq] [8] s (s.swQuiet n) :=
  Dev.refl.swQuiet n

theorem swQuiet_pg (s : State) (n : Fin 6) : (s.swQuiet n).pg (n.val + 1) = false := by
  have h1 : (s.pgPut (n.val + 1) false).pg (n.val + 1) = false := State.pg_pgFall s (by omega) (.inl rfl)
  have h2 : (s.pgSet (n.val + 1) false).pg (n.val + 1) = false := by
    unfold State.pgSet
    extract_lets s1
    split
    · exact State.pg_pgFall s1 (by omega) (.inr h1)
    · exact h1
  exact h2

theorem swQuiet_sw (s : State) (n : Fin 6) : (s.swQuiet n).sw = s.sw := by
  obtain ⟨-, -, hsw, -⟩ := (swQuiet_dev s n).blocks
  exact hsw (by simp)

theorem keptKeys_ne (n m : Fin 6) : ∀ f ∈ [F.SW_CTL_EN n, F.SW_STAT_CAUSE n, F.SW_STAT_SLOW n],
    f.key ∉ (gateFields m).map Fld.key ∧ f.key ∉ [F.SEQ_PG_PG].map Fld.key := by decide +revert

theorem runKey_ne (n : Fin 6) : (F.SW_STAT_RUN n).key ∉ [F.SEQ_PG_PG].map Fld.key := by decide +revert

/-- The gates of a channel that go off leave what it waits for. -/
theorem swGatesOff_waits (s : State) (n m : Fin 6) : (s.swGatesOff m).sw[n].restart = s.sw[n].restart ∧
    (s.swGatesOff m).sw[n].vsysStop = s.sw[n].vsysStop := by
  have hlock : (s.swLocked m false).sw = s.sw := by
    have h : Dev (fun _ => True) [] [9] s (s.swLocked m false) :=
      Dev.refl.orIf fun h => ((h.putB trivial).bump trivial).andIf (·.raise)
    obtain ⟨-, -, -, hsw, -⟩ := h.blocksSame
    exact hsw
  unfold State.swGatesOff
  extract_lets s1 s2
  have h2 : s2.sw = s.sw := hlock
  by_cases h : m = n
  · subst h
    simp [h2]
  · have hv : m.val ≠ n.val := fun e => h (Fin.ext e)
    simp [hv, h2]

/-- A channel that stops keeps EN and CAUSE, and what it waits for. -/
theorem swStop_keeps (s : State) (n : Fin 6) :
    (∀ f ∈ [F.SW_CTL_EN n, F.SW_STAT_CAUSE n, F.SW_STAT_SLOW n], (s.swStop n).get f = s.get f) ∧
      (s.swStop n).sw[n].restart = s.sw[n].restart ∧ (s.swStop n).sw[n].vsysStop = s.sw[n].vsysStop := by
  unfold State.swStop
  extract_lets s1
  obtain ⟨hr, hv⟩ := swGatesOff_waits s n n
  have hkeep : ∀ (x : State) (m : Fin 6), ∀ f ∈ [F.SW_CTL_EN n, F.SW_STAT_CAUSE n, F.SW_STAT_SLOW n],
      (x.swGatesOff m).get f = x.get f := fun x m f hf => (swGatesOff_dev x m).keys f (keptKeys_ne n m f hf).1
  split
  next hl =>
    obtain ⟨hr', hv'⟩ := swGatesOff_waits s1 n ⟨n.val + 1, hl.2⟩
    exact ⟨fun f hf => (hkeep _ _ f hf).trans (hkeep s n f hf), hr'.trans hr, hv'.trans hv⟩
  next => exact ⟨hkeep s n, hr, hv⟩

/-- The stop of a channel, once its gates are off. -/
theorem SwHalted.of_quiet {n : Fin 6} {x : State} (hrun : x.on (F.SW_STAT_RUN n) = false)
    (hkeep : ∀ f ∈ [F.SW_CTL_EN n, F.SW_STAT_CAUSE n, F.SW_STAT_SLOW n], x.get f = s.get f) :
    SwHalted n s (x.swQuiet n) := by
  have hd := swQuiet_dev x n
  have hne := keptKeys_ne n n
  exact ⟨(hd.on_eq (runKey_ne n)).trans hrun, swQuiet_pg x n,
    (hd.keys _ (hne _ (by simp)).2).trans (hkeep _ (by simp)),
    (hd.keys _ (hne _ (by simp)).2).trans (hkeep _ (by simp)),
    (hd.keys _ (hne _ (by simp)).2).trans (hkeep _ (by simp))⟩

/-- The slow limit with a restart to come (R193). -/
theorem slowLimit_waits {n : Fin 6} (hlive : s.swLive n = true) (hrun : s.on (F.SW_STAT_RUN n) = true)
    (hdone : s.on (F.SW_STAT_SSDONE n) = true) (hf : s.follower n = false) (hact : s.on (F.SW_LIM_SLACT n) = true)
    (hretry : s.get (F.SW_STAT_RETRIES n) < s.get (F.SW_LIM_RETRY n)) :
    (s.slowLimit n).on (F.SW_STAT_SLOW n) = true ∧ (s.slowLimit n).sw[n].restart = true ∧
      SwHalted n (s.put (F.SW_STAT_SLOW n) 1) (s.slowLimit n) ∧ (s.slowLimit n).core.raised.getLsbD 9 = true ∧
      PairDev n (s.gangMate n) s (s.slowLimit n) := by
  obtain ⟨hk, -, -, -⟩ := slowKeys_ne n
  have heq : s.slowLimit n = ((((s.put (F.SW_STAT_SLOW n) 1).swStop n).raise 9).swUpd n
      (fun x => { x with restart := true })).swQuiet n := by
    unfold State.slowLimit
    rw [if_pos ⟨hlive, hrun, hdone, hf⟩]
    exact if_pos ⟨hact, hretry⟩
  rw [heq]
  generalize hy : (((s.put (F.SW_STAT_SLOW n) 1).swStop n).raise 9).swUpd n (fun x => { x with restart := true }) = y
  have hput : SwDev n s (s.put (F.SW_STAT_SLOW n) 1) := Dev.refl.put hk
  have hyd : SwDev n s y := hy ▸ (hput.trans (Dev.refl.swStop)).raise.swUpd
  obtain ⟨hkeep, -, -⟩ := swStop_keeps (s.put (F.SW_STAT_SLOW n) 1) n
  have hyrun : y.on (F.SW_STAT_RUN n) = false := by
    rw [← hy, State.on_swUpd, State.on_raise]
    exact (swStop_rest _ n).1
  have hykeep : ∀ f ∈ [F.SW_CTL_EN n, F.SW_STAT_CAUSE n, F.SW_STAT_SLOW n],
      y.get f = (s.put (F.SW_STAT_SLOW n) 1).get f := fun f hf => by
    rw [← hy, State.get_swUpd, State.get_raise, hkeep f hf]
  have hyraised : y.core.raised.getLsbD 9 = true := by
    rw [← hy, State.swUpd_core]
    exact State.raised_raise (by decide)
  have hyrestart : y.sw[n].restart = true := by
    rw [← hy]
    simp
  have hhalt := SwHalted.of_quiet hyrun hykeep
  have hq := swQuiet_dev y n
  have hslow : (y.swQuiet n).on (F.SW_STAT_SLOW n) = true := by
    rw [State.on, hhalt.slow]
    exact State.on_put_one
  refine ⟨hslow, ?_, hhalt, ?_, ?_⟩
  · rw [swQuiet_sw]
    exact hyrestart
  · rw [hq.core.2 9 (by decide)]
    exact hyraised
  · exact SwDev.pair (hyd.trans (Dev.refl.swQuiet n (pg_swKeys n))) _

/-- The slow limit that latches. -/
theorem slowLimit_latches {n : Fin 6} (hlive : s.swLive n = true) (hrun : s.on (F.SW_STAT_RUN n) = true)
    (hdone : s.on (F.SW_STAT_SSDONE n) = true) (hf : s.follower n = false)
    (h : s.on (F.SW_LIM_SLACT n) = false ∨ s.get (F.SW_LIM_RETRY n) ≤ s.get (F.SW_STAT_RETRIES n)) :
    s.slowLimit n = (s.put (F.SW_STAT_SLOW n) 1).swLatch n 2 ∧
      PairDev n (s.gangMate n) s (s.put (F.SW_STAT_SLOW n) 1) ∧
      (s.put (F.SW_STAT_SLOW n) 1).gangMate n = s.gangMate n := by
  obtain ⟨hk, h0, h2, -⟩ := slowKeys_ne n
  refine ⟨?_, SwDev.pair (Dev.refl.put hk) _, State.gangMate_eq (State.on_put_ne h0) (State.on_put_ne h2) n⟩
  unfold State.slowLimit
  rw [if_pos ⟨hlive, hrun, hdone, hf⟩]
  refine if_neg fun ⟨hact, hlt⟩ => ?_
  rcases h with h | h
  · rw [h] at hact
    cases hact
  · omega

theorem slowLatch_ne (n m : Fin 6) : (F.SW_STAT_SLOW n).key ∉ (latchFields m).map Fld.key := by decide +revert

/-- SLOW stays through a latch. -/
theorem swLatch_slow (s : State) (n : Fin 6) (cause : Nat) :
    (s.swLatch n cause).on (F.SW_STAT_SLOW n) = s.on (F.SW_STAT_SLOW n) := by
  have hone : ∀ (x : State) (m : Fin 6), (x.swLatchOne m cause).on (F.SW_STAT_SLOW n) = x.on (F.SW_STAT_SLOW n) :=
    fun x m => Dev.on_eq (K := keysOf (latchFields m)) (bs := [.sw, .seq]) (ks := [8, 9])
      (Dev.refl.swLatchOne cause fun _ hf => List.mem_map_of_mem hf) (slowLatch_ne n m)
  unfold State.swLatch
  extract_lets s1 s2
  rw [State.on_raise]
  unfold s2
  split
  · rw [hone, hone]
  · exact hone s n

/-- A soft-start that begins again, as the statement of O46 puts it. -/
theorem SwBegun.restarts {n : Fin 6} {x : State} (fb : Nat) (hx : SwDev n s x)
    (ht : x.get (F.SW_REF_TARGET n) = s.get (F.SW_REF_TARGET n)) :
    (x.softStartBegin n fb).on (F.SW_STAT_RUN n) = true ∧ (x.softStartBegin n fb).on (F.SW_REF_MOVING n) = true ∧
      (x.softStartBegin n fb).get (F.SW_REF_NOW n) = min fb (s.get (F.SW_REF_TARGET n)) % 2048 ∧
      (x.softStartBegin n fb).sw[n].ss = true ∧ (x.softStartBegin n fb).sw[n].restart = false ∧
      (x.softStartBegin n fb).sw[n].vsysStop = false ∧ (x.softStartBegin n fb).on (F.SW_STAT_SSDONE n) = false ∧
      PairDev n (s.gangMate n) s (x.softStartBegin n fb) := by
  obtain ⟨hrun, hmoving, href, hdone, -, hss, hrestart, hvsys⟩ := softStartBegin_begun x n fb
  exact ⟨hrun, hmoving, ht ▸ href, hss, hrestart, hvsys, hdone, SwDev.pair (hx.trans (Dev.refl.softStartBegin fb)) _⟩

theorem retriesKeys_ne (n : Fin 6) : swKeys n (F.SW_STAT_RETRIES n).key ∧
    (F.SW_STAT_RETRIES n).key ≠ (F.SW_REF_TARGET n).key := by decide +revert

/-- The fields that a start of channel `n` never writes. -/
theorem retriesStart_ne (n m : Fin 6) : (F.SW_STAT_RETRIES n).key ∉ (startFields m).map Fld.key ∧
    ∀ f ∈ [F.SW_REF_NOW n, F.SW_REF_MOVING n, F.SW_STAT_SSDONE n, F.SW_STAT_RUN n], f.key ≠ (F.SW_STAT_RETRIES n).key := by
  decide +revert

theorem softStartBegin_retries (s : State) (n : Fin 6) (fb : Nat) :
    (s.softStartBegin n fb).get (F.SW_STAT_RETRIES n) = s.get (F.SW_STAT_RETRIES n) := by
  have hne := (retriesStart_ne n n).2
  unfold State.softStartBegin
  extract_lets s1 s2 s3
  have h1 : s1.get (F.SW_STAT_RETRIES n) = s.get (F.SW_STAT_RETRIES n) := by
    rw [State.get_put_ne _ _ _ _ (hne _ (by simp)), State.get_put_ne _ _ _ _ (hne _ (by simp)),
      State.get_put_ne _ _ _ _ (hne _ (by simp)), State.get_put_ne _ _ _ _ (hne _ (by simp))]
  have h3 : s3.get (F.SW_STAT_RETRIES n) = s1.get (F.SW_STAT_RETRIES n) := by
    unfold s3
    split
    next m hm =>
      have hd : Dev (keysOf (startFields m)) [] [9] s2 ((s2.swCalAbort m).put (F.SW_STAT_RUN m) 1) :=
        (Dev.refl.swCalAbort fun _ hf => List.mem_map_of_mem hf).put
      exact hd.keys _ (retriesStart_ne n m).1
    next => rfl
  exact h3.trans h1

/-! ## The statement's clauses -/

theorem trimsat_gives {n : Fin 6} (hlive : s.swLive n = true) (h : 4096 ≤ s.sw[n].satRun) :
    Gives (.trimsat n) s fun u => u.on (F.SW_STAT_TRIMSAT n) = true ∧ u.sw[n].satRun = 0 ∧
      Frame [F.SW_STAT_TRIMSAT n] [.sw] [] s u := by
  have hx : exec (.trimsat n) s = .next (s.trimSat n) := rfl
  have heq : s.trimSat n = (s.put (F.SW_STAT_TRIMSAT n) 1).swUpd n (fun x => { x with satRun := 0 }) :=
    if_pos ⟨hlive, h⟩
  refine ⟨_, hx, ?_⟩
  rw [heq]
  refine ⟨?_, ?_, (Dev.swUpd (Dev.refl.put)).frame⟩
  · rw [State.on_swUpd, State.on_put_one]
  · simp

theorem ovp_gives {n : Fin 6} (hlive : s.swLive n = true) :
    (s.on (F.SW_STAT_RUN n) = true → s.swFalling n = false → s.sw[n].ovpHold = false → s.follower n = false →
      Gives (.ovpEnter n) s (fun u => u.on (F.SW_STAT_OVP n) = true ∧ u.sw[n].ovpHold = true ∧
        Frame [F.SW_STAT_OVP n] [.sw] [] s u)) ∧
    (s.sw[n].ovpHold = true → Gives (.ovpExit n) s (fun u => u.sw[n].ovpHold = false ∧ Frame [] [.sw] [] s u)) := by
  refine ⟨fun hrun hfall hhold hf => ?_, fun hhold => ?_⟩
  · have hx : exec (.ovpEnter n) s = .next (s.ovpEnter n) := rfl
    have heq : s.ovpEnter n = (s.put (F.SW_STAT_OVP n) 1).swUpd n (fun x => { x with ovpHold := true }) :=
      if_pos ⟨hlive, hrun, hfall, hhold, hf⟩
    refine ⟨_, hx, ?_⟩
    rw [heq]
    refine ⟨?_, ?_, (Dev.swUpd (Dev.refl.put)).frame⟩
    · rw [State.on_swUpd, State.on_put_one]
    · simp
  · have hx : exec (.ovpExit n) s = .next (s.ovpExit n) := rfl
    have heq : s.ovpExit n = s.swUpd n (fun x => { x with ovpHold := false }) := if_pos ⟨hlive, hhold⟩
    refine ⟨_, hx, ?_⟩
    rw [heq]
    exact ⟨by simp, (Dev.swUpd Dev.refl : Dev (keysOf []) [.sw] [] s _).frame⟩

/-- VSYS below its level stops a channel without a latch (R195). -/
theorem swVsysStop_gives {n : Fin 6} (hlive : s.swLive n = true)
    (h : s.on (F.SW_STAT_RUN n) = true ∨ s.sw[n].restart = true) (hf : s.follower n = false) :
    Gives (.swVsysStop n) s fun u => u.on (F.SW_STAT_RUN n) = false ∧ u.sw[n].vsysStop = true ∧
      u.sw[n].restart = s.sw[n].restart ∧ u.get (F.SW_CTL_EN n) = s.get (F.SW_CTL_EN n) ∧
      u.get (F.SW_STAT_CAUSE n) = s.get (F.SW_STAT_CAUSE n) ∧ u.pg (n.val + 1) = false ∧
      PairDev n (s.gangMate n) s u := by
  have hx : exec (.swVsysStop n) s = .next (s.swVsysStop n) := rfl
  have heq : s.swVsysStop n = ((s.swStop n).swUpd n (fun x => { x with vsysStop := true })).swQuiet n :=
    if_pos ⟨hlive, h, hf⟩
  obtain ⟨hkeep, hrestart, -⟩ := swStop_keeps s n
  have hyd : SwDev n s ((s.swStop n).swUpd n (fun x => { x with vsysStop := true })) := Dev.swUpd (Dev.refl.swStop)
  have hyrun : ((s.swStop n).swUpd n (fun x => { x with vsysStop := true })).on (F.SW_STAT_RUN n) = false := by
    rw [State.on_swUpd]
    exact (swStop_rest s n).1
  obtain ⟨hrun, hpg, hen, hcause, -⟩ := SwHalted.of_quiet (s := s) hyrun hkeep
  refine ⟨_, hx, ?_⟩
  rw [heq]
  refine ⟨hrun, ?_, ?_, hen, hcause, hpg, SwDev.pair (hyd.trans (Dev.refl.swQuiet n (pg_swKeys n))) _⟩
  · rw [swQuiet_sw]
    simp
  · rw [swQuiet_sw, ← hrestart]
    simp

end Sys2Proof.Machine
end

section
/-!
SUPPORT. One switching cycle of a channel (R181 to R190, R193, R197, R200), stage by stage: each stage writes a few
fields of its channel and leaves the state of every other channel. Then O46.
-/

set_option Elab.async false

namespace Sys2Proof.Machine

variable {K : Nat → Prop} {bs : List Block} {ks : List Nat} {s u v : State} {n : Fin 6}

/-! ## Stages -/

/-- What a stage of a cycle of channel `n` may do: write fields and lines, and the state of that channel alone. -/
structure Stage (n : Fin 6) (fs : List Fld) (ks : List Nat) (s u : State) : Prop where
  dev : Dev (keysOf fs) [.sw] ks s u
  others : ∀ m : Fin 6, m ≠ n → u.sw[m] = s.sw[m]

theorem Stage.trans {fs : List Fld} (h : Stage n fs ks s u) (h' : Stage n fs ks u v) : Stage n fs ks s v :=
  ⟨h.dev.trans h'.dev, fun m hm => (h'.others m hm).trans (h.others m hm)⟩

theorem Stage.weaken {fs gs : List Fld} {js : List Nat} (h : Stage n fs ks s u) (hf : ∀ f ∈ fs, f ∈ gs)
    (hk : ∀ k ∈ ks, k ∈ js) : Stage n gs js s u := by
  refine ⟨h.dev.weaken (fun k hk => ?_) hk, h.others⟩
  obtain ⟨f, hmem, rfl⟩ := List.mem_map.1 hk
  exact List.mem_map_of_mem (hf f hmem)

theorem swUpd_own (s : State) (n : Fin 6) (f : SwSt → SwSt) : (s.swUpd n f).sw[n] = f s.sw[n] := by simp

theorem swUpd_other (s : State) {m : Fin 6} (h : m ≠ n) (f : SwSt → SwSt) : (s.swUpd n f).sw[m] = s.sw[m] := by
  have hv : n.val ≠ m.val := fun e => h (Fin.ext e.symm)
  simp [hv]

/-- A change of the channel's own state. -/
theorem Stage.swUpd {fs : List Fld} (h : Stage n fs ks s u) (f : SwSt → SwSt) : Stage n fs ks s (u.swUpd n f) :=
  ⟨h.dev.swUpd, fun m hm => (swUpd_other u hm f).trans (h.others m hm)⟩

theorem Stage.refl {fs : List Fld} : Stage n fs ks s s := ⟨Dev.refl, fun _ _ => rfl⟩

/-- A change outside the channels' states. -/
theorem Stage.of_sw {fs : List Fld} (h : Dev (keysOf fs) [.sw] ks s u) (hsw : u.sw = s.sw) : Stage n fs ks s u :=
  ⟨h, fun m _ => by rw [hsw]⟩

/-- The phase, its way back and the run toward the lock stay. -/
structure SamePhase (n : Fin 6) (s u : State) : Prop where
  phase : u.sw[n].phase = s.sw[n].phase
  relock : u.sw[n].relock = s.sw[n].relock
  lockRun : u.sw[n].lockRun = s.sw[n].lockRun

theorem SamePhase.trans (h : SamePhase n s u) (h' : SamePhase n u v) : SamePhase n s v :=
  ⟨h'.phase.trans h.phase, h'.relock.trans h.relock, h'.lockRun.trans h.lockRun⟩

theorem SamePhase.of_sw (h : u.sw = s.sw) : SamePhase n s u := by
  constructor <;> rw [h]

theorem samePhase_swUpd (s : State) (n : Fin 6) {f : SwSt → SwSt} (h : (f s.sw[n]).phase = s.sw[n].phase := by rfl)
    (h' : (f s.sw[n]).relock = s.sw[n].relock := by rfl) (h'' : (f s.sw[n]).lockRun = s.sw[n].lockRun := by rfl) :
    SamePhase n s (s.swUpd n f) := by
  constructor <;> rw [swUpd_own] <;> assumption

/-! ## The head of a cycle: trips, skipping, the yield -/

/-- What makes a cycle the first of a yield (R187). -/
abbrev yieldTrigger (o : SwObs) : Prop := 4 * o.period < 3 * o.refPeriod ∨ o.offAtMin = true

/-- The state after the trip run, the skipping and the yield of a cycle. -/
def State.cycleHead (s : State) (n : Fin 6) (o : SwObs) : State := ((s.swTripRun n).swSkip n o).swYield n o

theorem swYield_stage (s : State) (n : Fin 6) (o : SwObs) :
    Stage n [F.SW_STAT_YIELD n] [] s (s.swYield n o) ∧ SamePhase n s (s.swYield n o) ∧
      (s.swYield n o).sw[n].skipping = s.sw[n].skipping := by
  unfold State.swYield
  split
  next hy =>
    extract_lets near quiet len s1
    have h1 : Stage n [F.SW_STAT_YIELD n] [] s s1 := Stage.refl.swUpd _
    have hp : SamePhase n s s1 := samePhase_swUpd s n
    have hs : s1.sw[n].skipping = s.sw[n].skipping := by
      unfold s1
      rw [swUpd_own]
    split
    · exact ⟨⟨h1.dev.put, h1.others⟩, hp.trans (SamePhase.of_sw rfl), hs⟩
    · exact ⟨h1, hp, hs⟩
  next hy =>
    split
    next ht =>
      unfold State.swYieldBegin
      rw [if_neg hy]
      refine ⟨Stage.swUpd ⟨Dev.refl.put, fun _ _ => rfl⟩ _, ?_, ?_⟩
      · exact SamePhase.trans (u := s.put (F.SW_STAT_YIELD n) 1) (.of_sw rfl) (by exact samePhase_swUpd _ n)
      · rw [swUpd_own]
        rfl
    next => exact ⟨Stage.refl, SamePhase.of_sw rfl, rfl⟩

/-- A cycle that did not yield yields with a trigger, and only then. -/
theorem swYield_begins {o : SwObs} (h : s.on (F.SW_STAT_YIELD n) = false) :
    (yieldTrigger o → (s.swYield n o).on (F.SW_STAT_YIELD n) = true) ∧ (¬yieldTrigger o → s.swYield n o = s) := by
  have hy : ¬s.on (F.SW_STAT_YIELD n) = true := by simp [h]
  unfold State.swYield
  rw [if_neg hy]
  refine ⟨fun ht => ?_, fun ht => if_neg ht⟩
  rw [if_pos ht]
  exact (swYieldBegin_yields s n 1).1

/-- The first two steps of a cycle. -/
theorem swSkip_stage (s : State) (n : Fin 6) (o : SwObs) :
    Stage n [] [] s ((s.swTripRun n).swSkip n o) ∧ SamePhase n s ((s.swTripRun n).swSkip n o) ∧
      (s.swDiode n = false → ((s.swTripRun n).swSkip n o).sw[n].skipping = false) := by
  unfold State.swTripRun State.swSkip
  extract_lets run skip
  refine ⟨(Stage.refl.swUpd _).swUpd _, (samePhase_swUpd s n).trans (samePhase_swUpd _ n), fun hd => ?_⟩
  rw [swUpd_own]
  have hd' : (s.swUpd n (fun x => { x with ssTrips := if x.tripped then x.ssTrips else 0, tripped := false })).swDiode n
      = s.swDiode n := rfl
  unfold skip
  rw [hd', hd]
  rfl

/-- What the head of a cycle leaves. -/
structure CycleHead (n : Fin 6) (o : SwObs) (s u : State) : Prop where
  stage : Stage n [F.SW_STAT_YIELD n] [] s u
  same : SamePhase n s u
  skipping : s.swDiode n = false → u.sw[n].skipping = false
  yields : s.on (F.SW_STAT_YIELD n) = false → yieldTrigger o → u.on (F.SW_STAT_YIELD n) = true
  quiet : s.on (F.SW_STAT_YIELD n) = false → ¬yieldTrigger o → u.on (F.SW_STAT_YIELD n) = false

theorem cycleHead_head (s : State) (n : Fin 6) (o : SwObs) : CycleHead n o s (s.cycleHead n o) := by
  obtain ⟨hst, hsame, hskip⟩ := swSkip_stage s n o
  unfold State.cycleHead
  generalize (s.swTripRun n).swSkip n o = x at hst hsame hskip ⊢
  obtain ⟨hst', hsame', hskip'⟩ := swYield_stage x n o
  have hy : x.on (F.SW_STAT_YIELD n) = s.on (F.SW_STAT_YIELD n) := hst.dev.on_eq (by simp)
  refine ⟨(hst.weaken (by simp) (by simp)).trans hst', hsame.trans hsame', fun hd => hskip'.trans (hskip hd),
    fun h => (swYield_begins (hy.trans h)).1, fun h ht => ?_⟩
  rw [(swYield_begins (hy.trans h)).2 ht, hy, h]

/-! ## The lock -/

theorem lockKeys_ne (n : Fin 6) : (F.SW_STAT_LOCKED n).key ≠ (F.SW_CNT_UNLOCKCNT n).key ∧
    (F.SW_CNT_UNLOCKCNT n).key ≠ (F.SW_STAT_LOCKED n).key ∧ (F.SW_STAT_LOCKED n).key ≠ (F.SW_CTL_LOCKEV n).key ∧
    (F.SW_CNT_UNLOCKCNT n).key ≠ (F.SW_CTL_LOCKEV n).key := by decide +revert

/-- LOCKED as it is set, and the loss of a lock: it counts, and raises E9 with LOCKEV (R186). -/
theorem swLocked_sets (s : State) (n : Fin 6) (b : Bool) :
    Stage n [F.SW_STAT_LOCKED n, F.SW_CNT_UNLOCKCNT n] [9] s (s.swLocked n b) ∧ (s.swLocked n b).sw = s.sw ∧
      (s.swLocked n b).on (F.SW_STAT_LOCKED n) = b ∧
      (b = false → s.on (F.SW_STAT_LOCKED n) = true →
        (s.swLocked n b).get (F.SW_CNT_UNLOCKCNT n) = min (s.get (F.SW_CNT_UNLOCKCNT n) + 1) 65535 ∧
        (s.on (F.SW_CTL_LOCKEV n) = true → (s.swLocked n b).core.raised.getLsbD 9 = true)) := by
  obtain ⟨hlc, hcl, hle, hce⟩ := lockKeys_ne n
  unfold State.swLocked
  split
  next h => exact ⟨Stage.refl, rfl, h, fun hb hon => by rw [hb, hon] at h; cases h⟩
  next h =>
    extract_lets s1 s2
    have h1 : Dev (keysOf [F.SW_STAT_LOCKED n, F.SW_CNT_UNLOCKCNT n]) [.sw] [9] s s1 := Dev.refl.putB
    have h2 : Dev (keysOf [F.SW_STAT_LOCKED n, F.SW_CNT_UNLOCKCNT n]) [.sw] [9] s s2 := h1.orIf (·.bump)
    have hsw : s2.sw = s.sw := by
      unfold s2
      split <;> rfl
    have hon : s2.on (F.SW_STAT_LOCKED n) = b := by
      unfold s2
      split
      · exact State.on_putB
      · rw [State.bump, State.on_put_ne hcl]
        exact State.on_putB
    have hev : s2.on (F.SW_CTL_LOCKEV n) = s.on (F.SW_CTL_LOCKEV n) := h2.on_eq (by simp [hle, hce])
    have hcnt : b = false → s2.get (F.SW_CNT_UNLOCKCNT n) = min (s.get (F.SW_CNT_UNLOCKCNT n) + 1) 65535 := by
      rintro rfl
      have hs2 : s2 = s1.bump (F.SW_CNT_UNLOCKCNT n) := if_neg (by simp)
      have hs1 : s1.get (F.SW_CNT_UNLOCKCNT n) = s.get (F.SW_CNT_UNLOCKCNT n) := State.get_put_ne _ _ _ _ hlc
      have hw : (F.SW_CNT_UNLOCKCNT n).width = 16 := rfl
      rw [hs2, State.bump, State.get_put_self, hs1, hw]
      omega
    split
    next hl =>
      exact ⟨Stage.of_sw h2.raise hsw, hsw, hon, fun hb _ => ⟨hcnt hb, fun _ => State.raised_raise (by decide)⟩⟩
    next hl => exact ⟨Stage.of_sw h2 hsw, hsw, hon, fun hb _ => ⟨hcnt hb, fun he => absurd (hev.trans he) hl⟩⟩

/-- What the lock stage of a cycle leaves. -/
structure LockStep (n : Fin 6) (o : SwObs) (idle : Bool) (s u : State) : Prop where
  stage : Stage n [F.SW_STAT_LOCKED n, F.SW_CNT_UNLOCKCNT n] [9] s u
  phase : u.sw[n].phase = s.sw[n].phase
  relock : u.sw[n].relock = s.sw[n].relock
  skipping : u.sw[n].skipping = s.sw[n].skipping
  below : o.onTimeBelow40ns = true → u.on (F.SW_STAT_LOCKED n) = false
  locks : o.onTimeBelow40ns = false → s.sw[n].skipping = false → s.sw[n].relock = none →
    o.phaseErr.natAbs ≤ 5625 → o.period = o.refPeriod → 15 ≤ s.sw[n].lockRun → u.on (F.SW_STAT_LOCKED n) = true
  unlocks : o.onTimeBelow40ns = false → s.sw[n].skipping = false → s.sw[n].relock = none → 11250 < o.phaseErr.natAbs →
    u.on (F.SW_STAT_LOCKED n) = false ∧ (s.on (F.SW_STAT_LOCKED n) = true →
      u.get (F.SW_CNT_UNLOCKCNT n) = min (s.get (F.SW_CNT_UNLOCKCNT n) + 1) 65535 ∧
      (s.on (F.SW_CTL_LOCKEV n) = true → u.core.raised.getLsbD 9 = true))

theorem swLockStep_step (s : State) (n : Fin 6) (o : SwObs) (idle : Bool) : LockStep n o idle s (s.swLockStep n o idle) := by
  unfold State.swLockStep
  split
  next h =>
    obtain ⟨hst, hsw, hon, -⟩ := swLocked_sets s n false
    have hno : o.onTimeBelow40ns = false → s.sw[n].skipping = false → False := fun hb hs => by
      rcases h with h | h
      · rw [hb] at h
        cases h
      · exact absurd (hs.symm.trans h) (by decide)
    refine ⟨hst.swUpd _, ?_, ?_, ?_, fun _ => hon, fun hb hs => (hno hb hs).elim, fun hb hs => (hno hb hs).elim⟩
    · rw [swUpd_own, hsw]
    · rw [swUpd_own, hsw]
    · rw [swUpd_own, hsw]
  next h =>
    extract_lets e run s1
    have hbelow : o.onTimeBelow40ns ≠ true := fun hb => h (.inl hb)
    have h1 : Stage n [F.SW_STAT_LOCKED n, F.SW_CNT_UNLOCKCNT n] [9] s s1 := Stage.refl.swUpd _
    have he : s.sw[n].relock = none → e = o.phaseErr := fun hr => by
      unfold e State.swErr
      rw [hr]
    have hper : s.sw[n].relock = none → s.swOnPeriod n o idle = (o.period == o.refPeriod) := fun hr => by
      unfold State.swOnPeriod
      rw [hr]
    have hown : s1.sw[n] = { s.sw[n] with lockRun := run } := swUpd_own s n _
    have hlocked : ∀ b, Stage n [F.SW_STAT_LOCKED n, F.SW_CNT_UNLOCKCNT n] [9] s (s1.swLocked n b) ∧
        (s1.swLocked n b).sw[n] = { s.sw[n] with lockRun := run } := fun b => by
      obtain ⟨hst, hsw, -⟩ := swLocked_sets s1 n b
      exact ⟨h1.trans hst, by rw [hsw, hown]⟩
    split
    next h16 =>
      obtain ⟨hst, ho⟩ := hlocked true
      obtain ⟨-, -, hon, -⟩ := swLocked_sets s1 n true
      refine ⟨hst, by rw [ho], by rw [ho], by rw [ho], fun hb => absurd hb hbelow, fun _ _ _ _ _ _ => hon,
        fun _ _ hr hgt => ?_⟩
      have hrun : run = 0 := if_neg (by
        rw [he hr, Bool.and_eq_true, decide_eq_true_iff]
        omega)
      omega
    next h16 =>
      have hnot : s.sw[n].relock = none → o.phaseErr.natAbs ≤ 5625 → o.period = o.refPeriod → 15 ≤ s.sw[n].lockRun →
          False := fun hr hle hp h15 => by
        have hrun : run = s.sw[n].lockRun + 1 := if_pos (by simp [he hr, hper hr, hle, hp])
        omega
      split
      next hgt =>
        obtain ⟨hst, ho⟩ := hlocked false
        obtain ⟨-, -, hon, hloss⟩ := swLocked_sets s1 n false
        exact ⟨hst, by rw [ho], by rw [ho], by rw [ho], fun hb => absurd hb hbelow,
          fun _ _ hr hle hp h15 => (hnot hr hle hp h15).elim, fun _ _ _ _ => ⟨hon, hloss rfl⟩⟩
      next hle' =>
        exact ⟨h1, by rw [hown], by rw [hown], by rw [hown], fun hb => absurd hb hbelow,
          fun _ _ hr hle hp h15 => (hnot hr hle hp h15).elim, fun _ _ hr hgt => absurd (he hr ▸ hgt) hle'⟩

/-! ## The phase -/

theorem swPhaseStep_stage (s : State) (n : Fin 6) (o : SwObs) (idle : Bool) :
    Stage n [] [] s (s.swPhaseStep n o idle) ∧ (s.swPhaseStep n o idle).sw[n].phase = s.swErr n o idle := by
  unfold State.swPhaseStep
  extract_lets e back
  refine ⟨Stage.refl.swUpd _, ?_⟩
  rw [swUpd_own]

theorem natAbs_relockErr (prev seen : Int) (base k : Nat) :
    (relockErr prev base k seen).natAbs = relockSize prev.natAbs base k seen.natAbs := by
  unfold relockErr
  split <;> omega

/-- R188: on the way back the phase error shrinks by at most 5.625° in a cycle and by as much in four. -/
theorem relockSize_bounds (prev base k seen : Nat) : prev ≤ relockSize prev base k seen + 5625 ∧
    relockSize prev base k seen ≤ prev ∧ (3 ≤ k → relockSize prev base k seen ≤ max (base - 5625) (prev - 5625)) := by
  unfold relockSize
  split <;> omega

/-! ## PTRIM -/

theorem signedOf_fieldOfInt {t : Int} (h : -256 ≤ t) (h' : t ≤ 256) : fieldOfInt t 10 < 2 ^ 10 ∧
    signedOf (fieldOfInt t 10) 10 = t := by
  unfold signedOf fieldOfInt
  split <;> omega

/-- A field that a trim moves: by at most `4`, within ±256. -/
theorem moveTrim_bounds (s : State) (n : Fin 6) (h : -256 ≤ signedOf (s.get (F.SW_TRIM_PTRIM n)) 10)
    (h' : signedOf (s.get (F.SW_TRIM_PTRIM n)) 10 ≤ 256) :
    (signedOf ((s.moveTrim (F.SW_TRIM_PTRIM n) 4 256).get (F.SW_TRIM_PTRIM n)) 10 -
        signedOf (s.get (F.SW_TRIM_PTRIM n)) 10).natAbs ≤ 4 ∧
      (signedOf ((s.moveTrim (F.SW_TRIM_PTRIM n) 4 256).get (F.SW_TRIM_PTRIM n)) 10).natAbs ≤ 256 := by
  unfold State.moveTrim
  extract_lets t
  have ht : t = signedOf (s.get (F.SW_TRIM_PTRIM n)) 10 + s.freeMove 4 := rfl
  have hm : -4 ≤ s.freeMove 4 ∧ s.freeMove 4 ≤ 4 := by
    unfold State.freeMove
    omega
  have hw : (F.SW_TRIM_PTRIM n).width = 10 := rfl
  obtain ⟨hlt, hval⟩ := signedOf_fieldOfInt (t := max (-256) (min 256 t)) (by omega) (by omega)
  have hget : ((s.put (F.SW_TRIM_PTRIM n) (fieldOfInt (max (-256) (min 256 t)) 10)).tickFree).get (F.SW_TRIM_PTRIM n) =
      fieldOfInt (max (-256) (min 256 t)) 10 := by
    rw [State.get_tickFree]
    exact State.get_put_lt (f := F.SW_TRIM_PTRIM n) hlt
  rw [hw, show (-((256 : Nat) : Int)) = -256 from rfl, show ((256 : Nat) : Int) = 256 from rfl, hget, hval]
  omega

theorem swTrimStep_stage (s : State) (n : Fin 6) (idle : Bool) :
    Stage n [F.SW_TRIM_PTRIM n] [] s (s.swTrimStep n idle) ∧
      (s.swTrimStep n idle).sw[n].phase = s.sw[n].phase ∧
      (s.swTrimStep n idle).get (F.SW_TRIM_PTRIM n) =
        (if idle then s else s.moveTrim (F.SW_TRIM_PTRIM n) 4 256).get (F.SW_TRIM_PTRIM n) := by
  unfold State.swTrimStep
  extract_lets s1
  have h1 : Stage n [F.SW_TRIM_PTRIM n] [] s s1 := Stage.of_sw (Dev.refl.ite (Dev.refl.put).tickFree) (by
    unfold s1
    split <;> rfl)
  have hsw : s1.sw[n] = s.sw[n] := by
    unfold s1
    split <;> rfl
  refine ⟨h1.swUpd _, ?_, State.get_swUpd ..⟩
  rw [swUpd_own, hsw]

/-! ## The tail of a cycle: balance, re-add, the clean period, the pulse -/

/-- What the stages after PTRIM do. -/
def State.cycleTail (s : State) (n : Fin 6) (o : SwObs) : State :=
  (((s.swBalanceStep n).swReaddStep n).swCleanStep n o).swPulseStep n o

theorem swBalanceStep_stage (s : State) (n : Fin 6) : Stage n [F.SW_TRIM_BTRIM 0] [] s (s.swBalanceStep n) ∧
    (s.swBalanceStep n).sw = s.sw := by
  unfold State.swBalanceStep
  split
  · split
    · exact ⟨Stage.of_sw Dev.refl.put rfl, rfl⟩
    · exact ⟨Stage.of_sw (Dev.refl.put).tickFree rfl, rfl⟩
  · exact ⟨Stage.refl, rfl⟩

theorem swReaddStep_stage (s : State) (n : Fin 6) : Stage n [] [] s (s.swReaddStep n) ∧
    (s.swReaddStep n).sw[n].phase = s.sw[n].phase := by
  unfold State.swReaddStep
  split
  next h =>
    obtain ⟨rfl, -⟩ := h
    exact ⟨Stage.refl.swUpd _, by rw [swUpd_own]⟩
  next => exact ⟨Stage.refl, rfl⟩

theorem swCleanStep_stage (s : State) (n : Fin 6) (o : SwObs) :
    Stage n [F.SW_STAT_RETRIES n] [] s (s.swCleanStep n o) ∧
    (s.swCleanStep n o).sw[n].phase = s.sw[n].phase := by
  unfold State.swCleanStep
  split
  next h =>
    extract_lets run s1
    have h1 : Stage n [F.SW_STAT_RETRIES n] [] s s1 := Stage.refl.swUpd _
    have hp : s1.sw[n].phase = s.sw[n].phase := by
      unfold s1
      rw [swUpd_own]
    split
    · exact ⟨⟨(h1.dev.put).tickFree, h1.others⟩, hp⟩
    · exact ⟨⟨h1.dev.tickFree, h1.others⟩, hp⟩
  next => exact ⟨Stage.refl, rfl⟩

theorem cycleTail_stage (s : State) (n : Fin 6) (o : SwObs) :
    Stage n [F.SW_STAT_RETRIES n, F.SW_TRIM_BTRIM 0] [] s (s.cycleTail n o) ∧
      (s.cycleTail n o).sw[n].phase = s.sw[n].phase := by
  obtain ⟨hb, hbsw⟩ := swBalanceStep_stage s n
  obtain ⟨hr, hrp⟩ := swReaddStep_stage (s.swBalanceStep n) n
  obtain ⟨hc, hcp⟩ := swCleanStep_stage ((s.swBalanceStep n).swReaddStep n) n o
  unfold State.cycleTail State.swPulseStep
  refine ⟨(((hb.weaken (by simp) (by simp)).trans (hr.weaken (by simp) (by simp))).trans
    (hc.weaken (by simp) (by simp))).swUpd _, ?_⟩
  rw [swUpd_own, hcp, hrp, hbsw]

/-! ## The whole cycle -/

/-- The fields of a cycle of channel `n`. -/
abbrev cycleFields (n : Fin 6) : List Fld := [F.SW_STAT_LOCKED n, F.SW_STAT_YIELD n, F.SW_STAT_RETRIES n,
  F.SW_TRIM_PTRIM n, F.SW_TRIM_BTRIM 0, F.SW_CNT_UNLOCKCNT n]

theorem cycleKeys_ne (n : Fin 6) :
    (F.SW_STAT_LOCKED n).key ∉ [F.SW_STAT_YIELD n].map Fld.key ∧
    (F.SW_CNT_UNLOCKCNT n).key ∉ [F.SW_STAT_YIELD n].map Fld.key ∧
    (F.SW_CTL_LOCKEV n).key ∉ [F.SW_STAT_YIELD n].map Fld.key ∧
    (F.SW_TRIM_PTRIM n).key ∉ [F.SW_STAT_YIELD n].map Fld.key ∧
    (F.SW_TRIM_PTRIM n).key ∉ [F.SW_STAT_LOCKED n, F.SW_CNT_UNLOCKCNT n].map Fld.key ∧
    (F.SW_STAT_YIELD n).key ∉ [F.SW_STAT_LOCKED n, F.SW_CNT_UNLOCKCNT n].map Fld.key ∧
    (∀ f ∈ [F.SW_STAT_LOCKED n, F.SW_CNT_UNLOCKCNT n, F.SW_STAT_YIELD n],
      f.key ∉ [F.SW_TRIM_PTRIM n].map Fld.key) ∧
    ∀ f ∈ [F.SW_STAT_LOCKED n, F.SW_CNT_UNLOCKCNT n, F.SW_STAT_YIELD n, F.SW_TRIM_PTRIM n],
      f.key ∉ [F.SW_STAT_RETRIES n, F.SW_TRIM_BTRIM 0].map Fld.key := by decide +revert

/-- What a cycle of channel `n` does, in the words of O46. -/
structure Cycled (n : Fin 6) (o : SwObs) (s u : State) : Prop where
  locks : o.onTimeBelow40ns = false → s.swDiode n = false → s.sw[n].relock = none → o.phaseErr.natAbs ≤ 5625 →
    o.period = o.refPeriod → 15 ≤ s.sw[n].lockRun → u.on (F.SW_STAT_LOCKED n) = true
  unlocks : o.onTimeBelow40ns = false → s.swDiode n = false → s.sw[n].relock = none → 11250 < o.phaseErr.natAbs →
    u.on (F.SW_STAT_LOCKED n) = false ∧ (s.on (F.SW_STAT_LOCKED n) = true →
      u.get (F.SW_CNT_UNLOCKCNT n) = min (s.get (F.SW_CNT_UNLOCKCNT n) + 1) 65535 ∧
      (s.on (F.SW_CTL_LOCKEV n) = true → u.core.raised.getLsbD 9 = true))
  below : o.onTimeBelow40ns = true → u.on (F.SW_STAT_LOCKED n) = false
  yields : s.on (F.SW_STAT_YIELD n) = false → yieldTrigger o → u.on (F.SW_STAT_YIELD n) = true
  frozen : s.on (F.SW_STAT_YIELD n) = true ∨ yieldTrigger o ∨ o.onTimeBelow40ns = true →
    u.get (F.SW_TRIM_PTRIM n) = s.get (F.SW_TRIM_PTRIM n)
  moves : -256 ≤ signedOf (s.get (F.SW_TRIM_PTRIM n)) 10 → signedOf (s.get (F.SW_TRIM_PTRIM n)) 10 ≤ 256 →
    (signedOf (u.get (F.SW_TRIM_PTRIM n)) 10 - signedOf (s.get (F.SW_TRIM_PTRIM n)) 10).natAbs ≤ 4 ∧
      (signedOf (u.get (F.SW_TRIM_PTRIM n)) 10).natAbs ≤ 256
  back : ∀ b k, s.sw[n].relock = some (b, k) → s.on (F.SW_STAT_YIELD n) = false → ¬yieldTrigger o →
    o.onTimeBelow40ns = false → s.swDiode n = false → s.atTrimLimit n = false →
    s.sw[n].phase.natAbs ≤ u.sw[n].phase.natAbs + 5625 ∧ u.sw[n].phase.natAbs ≤ s.sw[n].phase.natAbs ∧
      (3 ≤ k → u.sw[n].phase.natAbs ≤ max (b - 5625) (s.sw[n].phase.natAbs - 5625))
  others : ∀ m : Fin 6, m ≠ n → s.gangMate n ≠ some m → u.sw[m] = s.sw[m]
  dev : Dev (keysOf (cycleFields n)) [.sw] [9] s u

/-- The loop stands still in a cycle that yields or runs at the minimum on-time. -/
theorem cycleIdle {o : SwObs} {a : State} (h : CycleHead n o s a)
    (hy : s.on (F.SW_STAT_YIELD n) = true ∨ yieldTrigger o ∨ o.onTimeBelow40ns = true) :
    (s.on (F.SW_STAT_YIELD n) || a.phaseIdle n o) = true := by
  unfold State.phaseIdle
  cases hs : s.on (F.SW_STAT_YIELD n) with
  | true => rfl
  | false =>
    rcases hy with hy | hy | hy
    · rw [hs] at hy
      cases hy
    · rw [h.yields hs hy]
      rfl
    · rw [hy]
      simp

/-- It works in any other cycle without diode emulation. -/
theorem cycleWorks {o : SwObs} {a : State} (h : CycleHead n o s a) (hs : s.on (F.SW_STAT_YIELD n) = false)
    (ht : ¬yieldTrigger o) (hb : o.onTimeBelow40ns = false) (hd : s.swDiode n = false) :
    (s.on (F.SW_STAT_YIELD n) || a.phaseIdle n o) = false := by
  rw [State.phaseIdle, hs, h.quiet hs ht, h.skipping hd, hb]
  rfl

theorem cycleWork_cycled (s : State) (n : Fin 6) (o : SwObs) : Cycled n o s (s.swCycleWork n o) := by
  obtain ⟨hly, hcy, hey, hpy, hpl, hyl, htrim, htail⟩ := cycleKeys_ne n
  have hhead := cycleHead_head s n o
  have hwork : s.swCycleWork n o =
      ((((s.cycleHead n o).swLockStep n o (s.on (F.SW_STAT_YIELD n) || (s.cycleHead n o).phaseIdle n o)).swPhaseStep n o
        (s.on (F.SW_STAT_YIELD n) || (s.cycleHead n o).phaseIdle n o)).swTrimStep n
        (s.on (F.SW_STAT_YIELD n) || (s.cycleHead n o).phaseIdle n o)).cycleTail n o := rfl
  rw [hwork]
  have hidle := cycleIdle hhead
  have hworks := cycleWorks hhead
  generalize s.cycleHead n o = a at hhead hidle hworks ⊢
  generalize (s.on (F.SW_STAT_YIELD n) || a.phaseIdle n o) = idle at hidle hworks ⊢
  have hlock := swLockStep_step a n o idle
  generalize a.swLockStep n o idle = b at hlock ⊢
  obtain ⟨hphase, herr⟩ := swPhaseStep_stage b n o idle
  generalize b.swPhaseStep n o idle = c at hphase herr ⊢
  obtain ⟨hmove, hdphase, hptrim⟩ := swTrimStep_stage c n idle
  have hbounds := moveTrim_bounds c n
  generalize c.swTrimStep n idle = d at hmove hdphase hptrim ⊢
  obtain ⟨hrest, hephase⟩ := cycleTail_stage d n o
  generalize d.cycleTail n o = e at hrest hephase ⊢
  have hafter : ∀ f ∈ [F.SW_STAT_LOCKED n, F.SW_CNT_UNLOCKCNT n, F.SW_STAT_YIELD n], e.get f = b.get f := fun f hf => by
    rw [hrest.dev.keys f (htail f (by simp at hf; simp; tauto)), hmove.dev.keys f (htrim f hf), hphase.dev.keys f (by simp)]
  have hbp : b.get (F.SW_TRIM_PTRIM n) = s.get (F.SW_TRIM_PTRIM n) :=
    (hlock.stage.dev.keys _ hpl).trans (hhead.stage.dev.keys _ hpy)
  have hcp : c.get (F.SW_TRIM_PTRIM n) = s.get (F.SW_TRIM_PTRIM n) := (hphase.dev.keys _ (by simp)).trans hbp
  have hep : e.get (F.SW_TRIM_PTRIM n) = d.get (F.SW_TRIM_PTRIM n) := hrest.dev.keys _ (htail _ (by simp))
  have hcore : e.core = b.core := hrest.dev.coreSame.trans (hmove.dev.coreSame.trans hphase.dev.coreSame)
  have hstage : Stage n (cycleFields n) [9] s e :=
    ((((hhead.stage.weaken (by simp) (by simp)).trans (hlock.stage.weaken (by simp) (by simp))).trans
      (hphase.weaken (by simp) (by simp))).trans (hmove.weaken (by simp) (by simp))).trans
      (hrest.weaken (by simp) (by simp))
  have hrel : a.sw[n].relock = s.sw[n].relock := hhead.same.relock
  refine ⟨fun hb hd hr hle hp h15 => ?_, fun hb hd hr hgt => ?_, fun hb => ?_, fun hs ht => ?_, fun hy => ?_,
    fun hlo hhi => ?_, fun base k hr hs ht hb hd hlim => ?_, fun m hm _ => hstage.others m hm, hstage.dev⟩
  · rw [State.on_of_get (hafter _ (by simp))]
    exact hlock.locks hb (hhead.skipping hd) (hrel.trans hr) hle hp (hhead.same.lockRun ▸ h15)
  · obtain ⟨hoff, hloss⟩ := hlock.unlocks hb (hhead.skipping hd) (hrel.trans hr) hgt
    refine ⟨(State.on_of_get (hafter _ (by simp))).trans hoff, fun hon => ?_⟩
    obtain ⟨hcnt, hev⟩ := hloss ((hhead.stage.dev.on_eq hly).trans hon)
    rw [hafter _ (by simp), hcore, ← hhead.stage.dev.keys _ hcy]
    exact ⟨hcnt, fun he => hev ((hhead.stage.dev.on_eq hey).trans he)⟩
  · rw [State.on_of_get (hafter _ (by simp))]
    exact hlock.below hb
  · rw [State.on_of_get (hafter _ (by simp)), hlock.stage.dev.on_eq hyl]
    exact hhead.yields hs ht
  · rw [hep, hptrim, if_pos (hidle hy), hcp]
  · rw [hcp] at hbounds
    obtain ⟨hfour, hlim⟩ := hbounds hlo hhi
    rw [hep, hptrim]
    split
    · rw [hcp]
      omega
    · exact ⟨hfour, hlim⟩
  · have hlim' : b.atTrimLimit n = false := by
      unfold State.atTrimLimit at hlim ⊢
      rw [hbp]
      exact hlim
    have hsize : e.sw[n].phase.natAbs = relockSize s.sw[n].phase.natAbs base k o.phaseErr.natAbs := by
      rw [hephase, hdphase, herr, State.swErr, hlock.relock, hrel, hr, hworks hs ht hb hd, hlim', hlock.phase,
        hhead.same.phase]
      exact natAbs_relockErr _ _ _ _
    rw [hsize]
    exact relockSize_bounds _ _ _ _

theorem gangCycle_ne (n : Fin 6) : (F.SW_CTL_GANG 0).key ∉ (cycleFields n).map Fld.key ∧
    (F.SW_CTL_GANG 2).key ∉ (cycleFields n).map Fld.key := by decide +revert

/-- The turn passes: whose cycle comes next is all that changes. -/
theorem Cycled.passTurn {o : SwObs} (h : Cycled n o s u) : Cycled n o s (u.swPassTurn n) := by
  have hgang : u.gangMate n = s.gangMate n := State.gangMate_eq (h.dev.on_eq (gangCycle_ne n).1)
    (h.dev.on_eq (gangCycle_ne n).2) n
  have hpass : ∀ (m : Fin 6) (f : SwSt → SwSt), (m = n ∨ s.gangMate n = some m) → (∀ x, (f x).phase = x.phase) →
      Cycled n o s (u.swUpd m f) := fun m f hm hf => by
    obtain ⟨hlocks, hunlocks, hbelow, hyields, hfrozen, hmoves, hback, hothers, hdev⟩ := h
    have hphase : (u.swUpd m f).sw[n].phase = u.sw[n].phase := by
      by_cases e : n = m
      · subst e
        rw [swUpd_own, hf]
      · rw [swUpd_other u e]
    refine ⟨hlocks, hunlocks, hbelow, hyields, hfrozen, hmoves, ?_, fun j hj hmate => ?_, hdev.swUpd⟩
    · rw [hphase]
      exact hback
    · have hne : j ≠ m := by
        rintro rfl
        rcases hm with hm | hm
        · exact hj hm
        · exact hmate hm
      rw [swUpd_other u hne]
      exact hothers j hj hmate
  unfold State.swPassTurn
  split
  next m hm =>
    split
    · exact hpass m _ (.inr (hgang.symm.trans hm)) fun _ => rfl
    · exact hpass n _ (.inl rfl) fun _ => rfl
  next => exact h

/-! ## O46 -/

theorem swCycle_gives {o : SwObs} (hlive : s.swLive n = true) (hrun : s.on (F.SW_STAT_RUN n) = true)
    (hovp : s.ovpHeld n = false) (hturn : s.swTurn n = true) : Gives (.swCycle n o) s (Cycled n o s) := by
  have hx : exec (.swCycle n o) s = .next (s.swCycle n o) := rfl
  have heq : s.swCycle n o = (s.swCycleWork n o).swPassTurn n := if_pos ⟨hlive, hrun, hovp, hturn⟩
  exact ⟨_, hx, heq ▸ (cycleWork_cycled s n o).passTurn⟩

/-- A channel that starts again from the voltage present. -/
abbrev Restarts (n : Fin 6) (fb : Nat) (s u : State) : Prop :=
  u.on (F.SW_STAT_RUN n) = true ∧ u.on (F.SW_REF_MOVING n) = true ∧
    u.get (F.SW_REF_NOW n) = min fb (s.get (F.SW_REF_TARGET n)) % 2048 ∧ u.sw[n].ss = true ∧
    u.sw[n].restart = false ∧ u.sw[n].vsysStop = false ∧ u.on (F.SW_STAT_SSDONE n) = false ∧
    PairDev n (s.gangMate n) s u

theorem slowRestart_gives {fb : Nat} (hlive : s.swLive n = true) (hr : s.sw[n].restart = true)
    (hen : s.on (F.SW_CTL_EN n) = true) (hv : s.sw[n].vsysStop = false) : Gives (.slowLimitRestart n fb) s fun u =>
      Restarts n fb s u ∧ u.get (F.SW_STAT_RETRIES n) = (s.get (F.SW_STAT_RETRIES n) + 1) % 8 := by
  obtain ⟨hk, hne⟩ := retriesKeys_ne n
  have hx : exec (.slowLimitRestart n fb) s = .next (s.slowRestart n fb) := rfl
  have heq : s.slowRestart n fb =
      (s.put (F.SW_STAT_RETRIES n) (s.get (F.SW_STAT_RETRIES n) + 1)).softStartBegin n fb := by
    unfold State.slowRestart
    rw [if_pos ⟨hlive, hr, hen⟩]
    exact if_neg (by rw [hv]; decide)
  have hput : SwDev n s (s.put (F.SW_STAT_RETRIES n) (s.get (F.SW_STAT_RETRIES n) + 1)) := Dev.refl.put hk
  refine ⟨_, hx, ?_⟩
  rw [heq]
  refine ⟨SwBegun.restarts fb hput (State.get_put_ne _ _ _ _ hne), ?_⟩
  rw [softStartBegin_retries, State.get_put_self]
  rfl

theorem swVsysResume_gives {fb : Nat} (hlive : s.swLive n = true) (hv : s.sw[n].vsysStop = true)
    (hen : s.on (F.SW_CTL_EN n) = true) :
    (s.sw[n].restart = false → Gives (.swVsysResume n fb) s (Restarts n fb s)) ∧
    (s.sw[n].restart = true → Gives (.swVsysResume n fb) s fun u => u.sw[n].vsysStop = false ∧
      u.sw[n].restart = true ∧ Frame [] [.sw] [] s u) := by
  have hx : exec (.swVsysResume n fb) s = .next (s.swVsysResume n fb) := rfl
  have heq : s.swVsysResume n fb =
      if s.sw[n].restart then s.swUpd n (fun x => { x with vsysStop := false }) else s.softStartBegin n fb :=
    if_pos ⟨hlive, hv, hen⟩
  refine ⟨fun hr => ⟨_, hx, ?_⟩, fun hr => ⟨_, hx, ?_⟩⟩
  · rw [heq, hr]
    exact SwBegun.restarts fb Dev.refl rfl
  · have hown : (s.swUpd n fun x => { x with vsysStop := false }).sw[n] = { s.sw[n] with vsysStop := false } :=
      swUpd_own s n _
    rw [heq, if_pos hr]
    exact ⟨by rw [hown], by rw [hown]; exact hr, (Dev.swUpd Dev.refl : Dev (keysOf []) [.sw] [] s _).frame⟩

/-- Settles O46: each stage of a cycle writes its few fields, and each limit stops, latches or restarts its channel. -/
theorem switchingCyclesAndLimits : Obligations.SwitchingCyclesAndLimits := by
  unfold Obligations.SwitchingCyclesAndLimits
  intro s n hlive running inRails latched restarts t0
  have hlatched : ∀ {cause : Nat} {x : State}, cause < 8 → PairDev n (s.gangMate n) s x → x.gangMate n = s.gangMate n →
      latched cause (x.swLatch n cause) := fun hc hx hg => by
    obtain ⟨⟨hcause, hen, hrun, hpg⟩, hraised, hmate, hd⟩ := SwLatched.gives hc hx hg
    exact ⟨hcause, hen, hrun, hpg, hraised, hmate, hd.inRails⟩
  have hrestarts : ∀ {fb : Nat} {u : State}, Restarts n fb s u → restarts fb u := fun h => by
    obtain ⟨hrun, hmoving, hnow, hss, hr, hv, hdone, hd⟩ := h
    exact ⟨hrun, hmoving, hnow, hss, hr, hv, hdone, hd.inRails⟩
  obtain ⟨hovpIn, hovpOut⟩ := ovp_gives hlive
  refine ⟨fun o hrun hovp hturn => ?_, trimsat_gives hlive, fun hrun h => fastTrip_gives hlive hrun h,
    fun hrun hss h3 => ?_, fun hrun hdone hf => ?_, fun fb hr hen hv => ?_, hovpIn, hovpOut, fun h hf => ?_,
    fun fb hv hen => ?_⟩
  · refine (swCycle_gives (o := o) hlive hrun hovp hturn).imp fun u h => ?_
    exact ⟨fun hb _ hd hr => ⟨h.locks hb hd hr, h.unlocks hb hd hr⟩, h.below, h.yields, h.frozen,
      fun hlo hhi _ => h.moves hlo hhi, fun b k hr hs ht hb _ hd hlim => h.back b k hr hs ht hb hd hlim, h.others,
      h.dev.frame⟩
  · obtain ⟨x, heq, hx, hg⟩ := fastTrip_latches hlive hrun hss h3
    have hexec : exec (.fastLimitTrip n) s = .next (s.fastTrip n) := rfl
    exact ⟨_, hexec, heq ▸ hlatched (by decide) hx hg⟩
  · have hexec : exec (.slowLimit n) s = .next (s.slowLimit n) := rfl
    refine ⟨_, hexec, ?_⟩
    by_cases h : s.on (F.SW_LIM_SLACT n) = true ∧ s.get (F.SW_STAT_RETRIES n) < s.get (F.SW_LIM_RETRY n)
    · obtain ⟨hact, hlt⟩ := h
      obtain ⟨hslow, hrestart, ⟨hstop, hpg, hen, -, -⟩, hraised, hd⟩ := slowLimit_waits hlive hrun hdone hf hact hlt
      have hen' := (State.on_of_get hen).trans (State.on_put_ne (slowKeys_ne n).2.2.2)
      refine ⟨hslow, fun _ _ => ⟨hrestart, hen', hstop, hpg, hraised, hd.inRails⟩, fun hno => ?_⟩
      rcases hno with hno | hno
      · rw [hno] at hact
        cases hact
      · omega
    · have hno : s.on (F.SW_LIM_SLACT n) = false ∨ s.get (F.SW_LIM_RETRY n) ≤ s.get (F.SW_STAT_RETRIES n) := by
        cases hact : s.on (F.SW_LIM_SLACT n) with
        | false => exact .inl rfl
        | true => exact .inr (Nat.le_of_not_lt fun hlt => h ⟨hact, hlt⟩)
      obtain ⟨heq, hx, hg⟩ := slowLimit_latches hlive hrun hdone hf hno
      rw [heq]
      refine ⟨?_, fun hact hlt => absurd ⟨hact, hlt⟩ h, fun _ => hlatched (by decide) hx hg⟩
      rw [swLatch_slow]
      exact State.on_put_one
  · exact (slowRestart_gives hlive hr hen hv).imp fun u h => ⟨hrestarts h.1, h.2⟩
  · refine (swVsysStop_gives hlive h hf).imp fun u h => ?_
    obtain ⟨hrun, hstop, hrestart, hen, hcause, hpg, hd⟩ := h
    exact ⟨hrun, hstop, hrestart, hen, hcause, hpg, PairDev.inRails hd⟩
  · obtain ⟨hgo, hwait⟩ := swVsysResume_gives (fb := fb) hlive hv hen
    exact ⟨fun hr => (hgo hr).imp fun u h => hrestarts h, hwait⟩

end Sys2Proof.Machine
end

section
/-!
SUPPORT. The ROM kernel's commands (R84, R284, R292, R294): how a command ends, then each command but RAILSET.
-/

set_option Elab.async false

namespace Sys2Proof.Machine

variable {K : Nat → Prop} {bs : List Block} {ks : List Nat} {s u y : State} {x : Presented}

/-! ## How a command ends -/

/-- The command is over with a result code and data, in the words of O57: in the response slot, or with a later command
committed in CSEQ and CRES alone. -/
abbrev KernelEnds (s : State) (x : Presented) (rc : Nat) (data : List Byte) (u : State) : Prop :=
  u.host.kernel = none ∧
    u.win x.win = (if (s.win x.win).queue.tail = [] then { s.win x.win with
        queue := [], cseq := x.cmd.seq, cres := rc, done := true,
        slot := some ⟨x.cmd.code, x.cmd.seq, rc, if x.cmd.quiet then [] else data⟩ }
      else { s.win x.win with queue := (s.win x.win).queue.tail, cseq := x.cmd.seq, cres := rc }) ∧
    (∀ v : Fin 4, v ≠ x.win → u.win v = s.win v) ∧ u.host.svc = s.host.svc

/-- A command that only answers. -/
abbrev KernelPlain (s : State) (x : Presented) (rc : Nat) (data : List Byte) (u : State) : Prop :=
  KernelEnds s x rc data u ∧ Frame [] [.host] [] s u

theorem Dev.portComplete (h : Dev K bs ks s u) {p : ExecPort} {rc : Nat} {data : List Byte} (hb : .host ∈ bs := by simp) :
    Dev K bs ks s (u.portComplete p rc data) := by
  unfold State.portComplete
  split
  · exact (h.setPresented hb).winUpd hb
  · exact h

/-- A command's end is written in HOST alone. -/
theorem portComplete_eq (y : State) (p : ExecPort) (rc : Nat) (data : List Byte) :
    y.portComplete p rc data = { y with host := (y.portComplete p rc data).host } := by
  unfold State.portComplete
  split
  · cases p <;> rfl
  · rfl

theorem win_winUpd (y : State) (w : Fin 4) (f : Win → Win) : (y.winUpd w f).win w = f (y.win w) :=
  Vector.getElem_set_self _

theorem win_winUpd_ne (y : State) {w v : Fin 4} (h : v ≠ w) (f : Win → Win) : (y.winUpd w f).win v = y.win v :=
  Vector.getElem_set_ne w.isLt v.isLt fun e => h (Fin.ext e.symm)

section

variable (y : State) (p : ExecPort) (rc : Nat) (data : List Byte)

@[simp] theorem State.get_portComplete (f : Fld) : (y.portComplete p rc data).get f = y.get f := by
  rw [portComplete_eq]
  rfl

@[simp] theorem State.on_portComplete (f : Fld) : (y.portComplete p rc data).on f = y.on f := by
  rw [portComplete_eq]
  rfl

@[simp] theorem State.core_portComplete : (y.portComplete p rc data).core = y.core := by
  rw [portComplete_eq]

@[simp] theorem State.mem_portComplete : (y.portComplete p rc data).mem = y.mem := by
  rw [portComplete_eq]

@[simp] theorem State.port_portComplete : (y.portComplete p rc data).port = y.port := by
  rw [portComplete_eq]

@[simp] theorem State.regs_portComplete : (y.portComplete p rc data).regs = y.regs := by
  rw [portComplete_eq]

end

/-- The end of a command, whatever it did outside HOST. -/
theorem portComplete_ends (hk : s.host.kernel = some x) (hq : (s.win x.win).queue.head? = some x.cmd) (hy : y.host = s.host)
    {rc : Nat} (hrc : rc < 16) (data : List Byte) : KernelEnds s x rc data (y.portComplete .kernel rc data) := by
  have hp : y.presented .kernel = some x := by
    rw [← hk, ← hy]
    rfl
  have hqueue : (s.win x.win).queue = x.cmd :: (s.win x.win).queue.tail := (List.cons_head?_tail hq).symm
  have hz : ∀ v, (y.setPresented .kernel none).win v = s.win v := fun v =>
    (show _ = y.host.wins[v] from rfl).trans (by rw [hy]; rfl)
  have heq : y.portComplete .kernel rc data = (y.setPresented .kernel none).winComplete x.win rc data := by
    unfold State.portComplete
    rw [hp]
  rw [heq]
  refine ⟨rfl, ?_, fun v hv => (win_winUpd_ne _ hv _).trans (hz v), (show _ = y.host.svc from rfl).trans (by rw [hy])⟩
  rw [State.winComplete, win_winUpd, hz, Nat.mod_eq_of_lt hrc]
  generalize s.win x.win = W at hqueue ⊢
  generalize W.queue.tail = q at hqueue ⊢
  rw [hqueue]
  by_cases h : q = []
  · subst h
    rfl
  · dsimp only
    rw [if_neg h, if_neg h]

section

variable {c : Byte} {ring : Nat} {ok : Fin 4 → Bool} {len : Nat} {work : State → Fin 4 → List Byte → KRes}

theorem kernelCmd_other (hk : s.host.kernel = some x) (hc : x.cmd.code ≠ c) : s.kernelCmd c ring ok len work = s := by
  unfold State.kernelCmd
  rw [hk]
  exact if_neg fun h => hc h.1

theorem kernelCmd_perm (hk : s.host.kernel = some x) (hr : s.kernelRuns = true) (hc : x.cmd.code = c)
    (h : ring < s.winRing x.win ∨ ok x.win = false) :
    s.kernelCmd c ring ok len work = s.portComplete .kernel 3 [] := by
  unfold State.kernelCmd
  rw [hk]
  dsimp only
  rw [if_pos ⟨hc, hr⟩, if_pos h]
  rfl

theorem allowed (h : ¬ring < s.winRing x.win) (hok : ok x.win = true) :
    ¬(ring < s.winRing x.win ∨ ok x.win = false) := by
  rw [hok]
  rintro (h' | h')
  · exact h h'
  · cases h'

theorem kernelCmd_len (hk : s.host.kernel = some x) (hr : s.kernelRuns = true) (hc : x.cmd.code = c)
    (h : ¬ring < s.winRing x.win) (hok : ok x.win = true) (hlen : x.cmd.payload.length ≠ len) :
    s.kernelCmd c ring ok len work = s.portComplete .kernel 4 [] := by
  unfold State.kernelCmd
  rw [hk]
  dsimp only
  rw [if_pos ⟨hc, hr⟩, if_neg (allowed h hok), if_pos hlen]
  rfl

theorem kernelCmd_work (hk : s.host.kernel = some x) (hr : s.kernelRuns = true) (hc : x.cmd.code = c)
    (h : ¬ring < s.winRing x.win) (hok : ok x.win = true) (hlen : x.cmd.payload.length = len) :
    s.kernelCmd c ring ok len work = (let r := work s x.win x.cmd.payload
      if r.reset then r.st.windowReset x.win else r.st.portComplete .kernel r.code r.data) := by
  unfold State.kernelCmd
  rw [hk]
  dsimp only
  rw [if_pos ⟨hc, hr⟩, if_neg (allowed h hok), if_neg (not_not_intro hlen)]

theorem not_ring_lt (s : State) (w : Fin 4) : ¬3 < s.winRing w := by
  unfold State.winRing
  split <;> omega

theorem not_ring2_lt {w : Fin 4} (h : s.on (F.HOST_WCFG_RING3 w) = false) : ¬2 < s.winRing w := by
  unfold State.winRing
  rw [h]
  decide

/-- What every command does with another code, without its right or ring, and with another length. -/
theorem kernel_refusals (hk : s.host.kernel = some x) (hr : s.kernelRuns = true)
    (hq : (s.win x.win).queue.head? = some x.cmd) {i : Instr} {deep right : Bool} (hring : ring = if deep then 3 else 2)
    (hok : ok x.win = right) (hx : exec i s = .next (s.kernelCmd c ring ok len work)) :
    (x.cmd.code ≠ c → Gives i s (fun u => u = s)) ∧
    (x.cmd.code = c → (s.on (F.HOST_WCFG_RING3 x.win) = true ∧ deep = false) ∨ right = false →
      Gives i s (KernelPlain s x 3 [])) ∧
    (x.cmd.code = c → s.on (F.HOST_WCFG_RING3 x.win) = false ∨ deep = true → right = true → x.cmd.payload.length ≠ len →
      Gives i s (KernelPlain s x 4 [])) := by
  have hplain : ∀ {rc : Nat}, rc < 16 → KernelPlain s x rc [] (s.portComplete .kernel rc []) := fun hrc =>
    ⟨portComplete_ends hk hq rfl hrc [], (Dev.portComplete Dev.refl).frame⟩
  refine ⟨fun hc => ⟨_, hx, kernelCmd_other hk hc⟩, fun hc h => ⟨_, hx, ?_⟩, fun hc h hright hlen => ⟨_, hx, ?_⟩⟩
  · have hperm : ring < s.winRing x.win ∨ ok x.win = false := by
      rcases h with ⟨h3, hdeep⟩ | h
      · left
        rw [hring, hdeep, State.winRing, h3]
        decide
      · exact .inr (hok.trans h)
    rw [kernelCmd_perm hk hr hc hperm]
    exact hplain (by decide)
  · have hnot : ¬ring < s.winRing x.win := by
      rw [hring]
      rcases h with h | h
      · cases deep
        · exact not_ring2_lt h
        · exact not_ring_lt s x.win
      · rw [h]
        exact not_ring_lt s x.win
    rw [kernelCmd_len hk hr hc hnot (hok.trans hright) hlen]
    exact hplain (by decide)

end

/-- A command that answers with a code and data, and leaves the device otherwise as `y`. -/
theorem kernel_answers (hk : s.host.kernel = some x) (hr : s.kernelRuns = true)
    (hq : (s.win x.win).queue.head? = some x.cmd) {i : Instr} {c : Byte} {ring : Nat} {ok : Fin 4 → Bool} {len : Nat}
    {work : State → Fin 4 → List Byte → KRes} (hx : exec i s = .next (s.kernelCmd c ring ok len work))
    (hc : x.cmd.code = c) (hring : ¬ring < s.winRing x.win) (hok : ok x.win = true) (hlen : x.cmd.payload.length = len)
    {rc : Nat} {data : List Byte} (hw : work s x.win x.cmd.payload = y.kres rc data) (hy : y.host = s.host) (hrc : rc < 16) :
    ∃ u, exec i s = .next u ∧ KernelEnds s x rc data u ∧ u = y.portComplete .kernel rc data := by
  refine ⟨_, hx, ?_⟩
  rw [kernelCmd_work hk hr hc hring hok hlen, hw]
  exact ⟨portComplete_ends hk hq hy hrc data, rfl⟩

/-- The same for a command that changes no register, block, memory or line. -/
theorem kernel_plain (hk : s.host.kernel = some x) (hr : s.kernelRuns = true)
    (hq : (s.win x.win).queue.head? = some x.cmd) {i : Instr} {c : Byte} {ring : Nat} {ok : Fin 4 → Bool} {len : Nat}
    {work : State → Fin 4 → List Byte → KRes} (hx : exec i s = .next (s.kernelCmd c ring ok len work))
    (hc : x.cmd.code = c) (hring : ¬ring < s.winRing x.win) (hok : ok x.win = true) (hlen : x.cmd.payload.length = len)
    {rc : Nat} {data : List Byte} (hw : work s x.win x.cmd.payload = s.kres rc data ∨
      work s x.win x.cmd.payload = s.tickFree.kres rc data) (hrc : rc < 16) : Gives i s (KernelPlain s x rc data) := by
  rcases hw with hw | hw
  · obtain ⟨u, hu, hends, rfl⟩ := kernel_answers hk hr hq hx hc hring hok hlen hw rfl hrc
    exact ⟨_, hu, hends, (Dev.portComplete Dev.refl).frame⟩
  · obtain ⟨u, hu, hends, rfl⟩ := kernel_answers hk hr hq hx hc hring hok hlen hw rfl hrc
    exact ⟨_, hu, hends, (Dev.portComplete (Dev.tickFree Dev.refl)).frame⟩

theorem bitsOf_and (v m : Word) (lo w : Nat) : bitsOf (v &&& m) lo w = bitsOf v lo w &&& bitsOf m lo w := by
  unfold bitsOf
  rw [BitVec.toNat_and, Nat.and_div_two_pow, Nat.and_mod_two_pow]

/-- A window sees WINRST and WIN only when they are its own. -/
theorem rstcauseFor_bits (s : State) (w : Fin 4) :
    bitsOf (s.rstcauseFor w) 5 3 = (if s.on F.SYS_RSTCAUSE_WINRST = true ∧ s.get F.SYS_RSTCAUSE_WIN = w.val then
        bitsOf (s.peek 0 0x40000004) 5 3 else 0) ∧
      bitsOf (s.rstcauseFor w) 0 5 = bitsOf (s.peek 0 0x40000004) 0 5 := by
  unfold State.rstcauseFor
  generalize s.peek 0 0x40000004 = v
  dsimp only
  split
  next h => exact ⟨rfl, rfl⟩
  next h =>
    rw [bitsOf_and, bitsOf_and, show bitsOf 0xFFFFFF1F 5 3 = 0 from rfl, show bitsOf 0xFFFFFF1F 0 5 = 2 ^ 5 - 1 from rfl,
      Nat.and_zero, Nat.and_two_pow_sub_one_eq_mod]
    exact ⟨rfl, Nat.mod_mod _ _⟩

section

variable (hk : s.host.kernel = some x) (hr : s.kernelRuns = true) (hq : (s.win x.win).queue.head? = some x.cmd)
include hk hr hq

/-! ## Refusals -/

/-- The commands as O57 lists them: code, length, whether ring 3 may use them, and their right. -/
theorem kernel_table (cmd : Instr) (c : Byte) (n : Nat) (deep right : Bool)
    (h : (cmd, c, n, deep, right) ∈
      [(Instr.getstat, (1 : Byte), 0, true, true), (.bootrep, 2, 0, true, true), (.otpread, 3, 1, true, true),
        (.sqread, 4, 0, true, true), (.reset, 5, 2, true, s.resetRight x.win), (.tickread, 6, 0, true, true),
        (.railget, 0x10, 1, true, true), (.railset Sense.quiet, 0x11, 4, true, true), (.epread, 0x20, 3, true, true),
        (.eppoll, 0x21, 2, true, true), (.logread, 0x30, 6, false, s.winRight x.win 2),
        (.verify true, 0x38, 1, false, true), (.install true, 0x39, 1, false, s.winRight x.win 1)])
    (hbusy : s.pwr.otpBusy = none) :
    (x.cmd.code ≠ c → Gives cmd s (fun u => u = s)) ∧
    (x.cmd.code = c → (s.on (F.HOST_WCFG_RING3 x.win) = true ∧ deep = false) ∨ right = false →
      Gives cmd s (KernelPlain s x 3 [])) ∧
    (x.cmd.code = c → s.on (F.HOST_WCFG_RING3 x.win) = false ∨ deep = true → right = true → x.cmd.payload.length ≠ n →
      Gives cmd s (KernelPlain s x 4 [])) := by
  simp only [List.mem_cons, Prod.mk.injEq, List.not_mem_nil, or_false] at h
  rcases h with ⟨rfl, rfl, rfl, rfl, rfl⟩ | ⟨rfl, rfl, rfl, rfl, rfl⟩ | ⟨rfl, rfl, rfl, rfl, rfl⟩ |
    ⟨rfl, rfl, rfl, rfl, rfl⟩ | ⟨rfl, rfl, rfl, rfl, rfl⟩ | ⟨rfl, rfl, rfl, rfl, rfl⟩ | ⟨rfl, rfl, rfl, rfl, rfl⟩ |
    ⟨rfl, rfl, rfl, rfl, rfl⟩ | ⟨rfl, rfl, rfl, rfl, rfl⟩ | ⟨rfl, rfl, rfl, rfl, rfl⟩ | ⟨rfl, rfl, rfl, rfl, rfl⟩ |
    ⟨rfl, rfl, rfl, rfl, rfl⟩ | ⟨rfl, rfl, rfl, rfl, rfl⟩
  case inr.inr.inl =>
    refine kernel_refusals hk hr hq (ok := State.anyRight) (work := fun s w p => s.otpreadWork w p) rfl rfl ?_
    exact congrArg Host.Outcome.next (if_neg (by rw [hbusy]; decide))
  all_goals exact kernel_refusals hk hr hq rfl rfl rfl

/-! ## Status commands -/

theorem getstat_gives (hc : x.cmd.code = 1) (hp : x.cmd.payload = []) :
    Gives .getstat s (KernelPlain s x 0 (s.getstatData x.win)) :=
  kernel_plain hk hr hq (i := .getstat) (work := fun s w _ => s.tickFree.kres rcOK (s.getstatData w)) rfl hc
    (not_ring_lt s _) rfl (by rw [hp]; rfl) (.inr rfl) (by decide)

theorem bootrep_gives (hc : x.cmd.code = 2) (hp : x.cmd.payload = []) :
    Gives .bootrep s (KernelPlain s x 0 s.bootrepData) :=
  kernel_plain hk hr hq (i := .bootrep) (work := fun s _ _ => s.tickFree.kres rcOK s.bootrepData) rfl hc
    (not_ring_lt s _) rfl (by rw [hp]; rfl) (.inr rfl) (by decide)

theorem sqread_gives (hc : x.cmd.code = 4) (hp : x.cmd.payload = []) :
    Gives .sqread s (KernelPlain s x 0 (s.sqreadData x.win)) :=
  kernel_plain hk hr hq (i := .sqread) (work := fun s w _ => s.kres rcOK (s.sqreadData w)) rfl hc
    (not_ring_lt s _) rfl (by rw [hp]; rfl) (.inl rfl) (by decide)

theorem tickread_gives (hc : x.cmd.code = 6) (hp : x.cmd.payload = []) :
    Gives .tickread s (KernelPlain s x 0 s.tickreadData) :=
  kernel_plain hk hr hq (i := .tickread) (work := fun s _ _ => s.kres rcOK s.tickreadData) rfl hc
    (not_ring_lt s _) rfl (by rw [hp]; rfl) (.inl rfl) (by decide)

omit hk hr hq in
/-- The row's number and data as OTPREAD leaves them. -/
theorem otpread_row (n ecc v : Nat) (b : Bool) : ((((s.put F.OTP_ROWADDR_ROW n).put F.OTP_ROWDATA_DATA v).put
    F.OTP_ROWSTAT_ECC ecc).putB F.OTP_ROWSTAT_BLANK b).get F.OTP_ROWADDR_ROW = n % 256 := by
  rw [State.putB, State.get_put_ne _ _ _ _ (by decide), State.get_put_ne _ _ _ _ (by decide),
    State.get_put_ne _ _ _ _ (by decide), State.get_put_self]
  rfl

omit hk hr hq in
theorem otpread_data (n ecc v : Nat) (b : Bool) : ((((s.put F.OTP_ROWADDR_ROW n).put F.OTP_ROWDATA_DATA v).put
    F.OTP_ROWSTAT_ECC ecc).putB F.OTP_ROWSTAT_BLANK b).get F.OTP_ROWDATA_DATA = v % 2 ^ 32 := by
  rw [State.putB, State.get_put_ne _ _ _ _ (by decide), State.get_put_ne _ _ _ _ (by decide), State.get_put_self]
  rfl

/-- OTPREAD leaves the row where a READ of it does. -/
theorem otpread_gives (r : Byte) (hc : x.cmd.code = 3) (hp : x.cmd.payload = [r]) (hbusy : s.pwr.otpBusy = none) :
    Gives .otpread s fun u =>
      KernelEnds s x 0 (le32 (s.otpRow r.toNat).toNat ++ [BitVec.ofNat 8 (s.otpStatus r.toNat)]) u ∧
        u.get F.OTP_ROWADDR_ROW = r.toNat ∧ u.get F.OTP_ROWDATA_DATA = (s.otpRow r.toNat).toNat ∧
        u.core.raised.getLsbD 27 = true ∧
        Frame [F.OTP_ROWADDR_ROW, F.OTP_ROWDATA_DATA, F.OTP_ROWSTAT_ECC, F.OTP_ROWSTAT_BLANK] [.host] [27] s u := by
  have hx : exec .otpread s = .next (s.kernelCmd 3 3 State.anyRight 1 fun s w p => s.otpreadWork w p) :=
    congrArg Host.Outcome.next (if_neg (by rw [hbusy]; decide))
  have hld : ldLe [r] 0 1 = r.toNat := by simp [ldLe]
  have hw : s.otpreadWork x.win x.cmd.payload = (((((s.put F.OTP_ROWADDR_ROW r.toNat).put F.OTP_ROWDATA_DATA
      (s.otpRow r.toNat).toNat).put F.OTP_ROWSTAT_ECC (s.otpStatus r.toNat)).putB F.OTP_ROWSTAT_BLANK
      (s.otpBlank r.toNat)).raise 27).kres 0
        (le32 (s.otpRow r.toNat).toNat ++ [BitVec.ofNat 8 (s.otpStatus r.toNat)]) := by
    unfold State.otpreadWork
    rw [hp, hld]
    rfl
  obtain ⟨u, hu, hends, rfl⟩ := kernel_answers hk hr hq hx hc (not_ring_lt s _) rfl (by rw [hp]; rfl)
    hw rfl (by decide)
  refine ⟨_, hu, hends, ?_, ?_, ?_, (Dev.portComplete (Dev.raise (Dev.putB (Dev.put (Dev.put (Dev.put
    Dev.refl)))))).frame⟩
  · rw [State.get_portComplete, State.get_raise, otpread_row]
    exact Nat.mod_eq_of_lt r.isLt
  · rw [State.get_portComplete, State.get_raise, otpread_data]
    exact Nat.mod_eq_of_lt (s.otpRow r.toNat).isLt
  · rw [State.core_portComplete]
    exact State.raised_raise (by decide)

/-! ## RESET -/

omit hk hr hq in
theorem lullBegun_cause (y : State) : ((((y.lullBegun 5 true).raise 28).measAbort 0).measAbort 1).get
    F.SEQ_LULLSTAT_CAUSE = 5 := by
  have h1 : (y.lullBegun 5 true).get F.SEQ_LULLSTAT_CAUSE = 5 := by
    unfold State.lullBegun
    rw [State.putB, State.get_put_ne _ _ _ _ (by decide), State.get_put_self]
    rfl
  have hd : Dev (keysOf (measFields 0 ++ measFields 1)) [.port] [14, 15] ((y.lullBegun 5 true).raise 28)
      ((((y.lullBegun 5 true).raise 28).measAbort 0).measAbort 1) :=
    Dev.measAbort (Dev.measAbort Dev.refl (fun f m => List.mem_map_of_mem (by simp [m])) (by simp) (by simp))
      (fun f m => List.mem_map_of_mem (by simp [m])) (by simp) (by simp)
  rw [hd.keys _ (by decide), State.get_raise, h1]

/-- The fields of a window's reset. -/
abbrev resetFields : List Fld := [F.SYS_RSTCAUSE_WINRST, F.SYS_RSTCAUSE_WIN, F.SEQ_LULLSTAT_RUN,
  F.SEQ_LULLSTAT_STEP, F.SEQ_LULLSTAT_CAUSE, F.SEQ_LULLSTAT_ENDSYS]

/-- The fields that the begin of a stop writes. -/
abbrev stopFields : List Fld := [F.SEQ_LULLSTAT_RUN, F.SEQ_LULLSTAT_STEP, F.SEQ_LULLSTAT_CAUSE, F.SEQ_LULLSTAT_ENDSYS] ++
  measFields 0 ++ measFields 1

omit hk hr hq in
theorem stopKeys_ne : ∀ f ∈ [F.SYS_RSTCAUSE_WINRST, F.SYS_RSTCAUSE_WIN], f.key ∉ stopFields.map Fld.key := by decide

omit hk hr hq in
theorem stopFields_in : ∀ k, keysOf stopFields k → keysIn [(0x40014000, 0x40016000)] resetFields k := by
  have h : ∀ k ∈ stopFields.map Fld.key, keysIn [(0x40014000, 0x40016000)] resetFields k := by decide
  exact h

/-- A window's reset: recorded, then LULL toward a SYSTEM reset, with the watchdog stopped. -/
structure ResetBegun (w : Fin 4) (y u : State) : Prop where
  winrst : u.on F.SYS_RSTCAUSE_WINRST = true
  win : u.get F.SYS_RSTCAUSE_WIN = w.val
  lull : u.inLull = true
  endSys : u.pwr.endSys = true
  cause : u.get F.SEQ_LULLSTAT_CAUSE = 5
  bak : u.bak = { y.bak with wdRun := false, wdCount := 0 }
  dev : Dev (keysIn [(0x40014000, 0x40016000)] resetFields) [.pwr, .bak, .port] [14, 15, 28] y u

omit hk hr hq in
theorem windowReset_begun (hstop : y.pwr.stop = .none) (hp : y.powered = true) (w : Fin 4) :
    ResetBegun w y (y.windowReset w) := by
  have hput : Dev (keysOf resetFields) [] [] y ((y.put F.SYS_RSTCAUSE_WINRST 1).put F.SYS_RSTCAUSE_WIN w.val) :=
    (Dev.refl.put).put
  have hrst : ((y.put F.SYS_RSTCAUSE_WINRST 1).put F.SYS_RSTCAUSE_WIN w.val).on F.SYS_RSTCAUSE_WINRST = true := by
    rw [State.on_put_ne (by decide)]
    exact State.on_put_one
  have hwin : ((y.put F.SYS_RSTCAUSE_WINRST 1).put F.SYS_RSTCAUSE_WIN w.val).get F.SYS_RSTCAUSE_WIN = w.val :=
    State.get_put_lt (f := F.SYS_RSTCAUSE_WIN) w.isLt
  unfold State.windowReset
  generalize (y.put F.SYS_RSTCAUSE_WINRST 1).put F.SYS_RSTCAUSE_WIN w.val = z at hput hrst hwin
  obtain ⟨hpwr, -, -, -, -, -, -, -, -, -, hbak, -⟩ := hput.blocks
  have hstop' : z.pwr.stop = .none := (congrArg PowerSt.stop (hpwr (by simp))).trans hstop
  have hp' : z.powered = true := (State.powered_of_pwr (hpwr (by simp))).trans hp
  have hwd : Dev (keysOf []) [.bak] [] z z.wdStop := Dev.refl.bakUpd
  have hzbak : z.wdStop.bak = { z.bak with wdRun := false, wdCount := 0 } := rfl
  rw [State.lullStart_reset hstop' hp']
  generalize z.wdStop = v at hwd hzbak
  have hu : Dev (keysOf stopFields) [.pwr, .port] [28, 14, 15] v
      ((((v.lullBegun 5 true).raise 28).measAbort 0).measAbort 1) :=
    Dev.refl.lullBegun (fun f m => List.mem_map_of_mem m) (by simp) (by simp)
  have hpow := State.lullBegun_pwr (s := v) 5 true
  have hcause := lullBegun_cause v
  generalize (((v.lullBegun 5 true).raise 28).measAbort 0).measAbort 1 = u at hu hpow hcause
  obtain ⟨-, -, -, -, -, -, -, -, -, -, hubak, -⟩ := hu.blocks
  have hkeys : ∀ f ∈ [F.SYS_RSTCAUSE_WINRST, F.SYS_RSTCAUSE_WIN], u.get f = z.get f := fun f hf => by
    rw [hu.keys _ (stopKeys_ne f hf), hwd.keys _ (by simp)]
  have hdev : Dev (keysIn [(0x40014000, 0x40016000)] resetFields) [.pwr, .bak, .port] [14, 15, 28] y u :=
    (((hput.weaken (fun _ h => .inl h) (by simp)).moreBlocks (by simp)).trans
      ((hwd.weaken (by simp) (by simp)).moreBlocks (by simp))).trans
      ((hu.weaken stopFields_in (by simp)).moreBlocks (by simp))
  exact ⟨(State.on_of_get (hkeys _ (by simp))).trans hrst, (hkeys _ (by simp)).trans hwin, by simp [State.inLull, hpow],
    by rw [hpow], hcause, by rw [hubak (by simp), hzbak, hbak (by simp)], hdev⟩

/-- A command that asks for a reset, in the words of O57. -/
abbrev KernelResets (s : State) (x : Presented) (u : State) : Prop :=
  u.host = s.host ∧ u.on F.SYS_RSTCAUSE_WINRST = true ∧ u.get F.SYS_RSTCAUSE_WIN = x.win.val ∧ u.inLull = true ∧
    u.pwr.endSys = true ∧ u.get F.SEQ_LULLSTAT_CAUSE = 5 ∧
    u.bak = { s.bak with wdRun := false, wdCount := 0 } ∧ ProgramsSame s u ∧ u.core.sb = s.core.sb

omit hk hr hq in
/-- Lines that are raised change nothing that a thread computes with. -/
theorem CoreBut.programs (h : CoreBut ks s u) :
    ProgramsSame s u ∧ u.core.sb = s.core.sb ∧ u.core.latch = s.core.latch := by
  have hthr := congrArg Core.threads h.1
  have hsb := congrArg Core.sb h.1
  have hlatch := congrArg Core.latch h.1
  have hone : ∀ t, u.thr t = s.thr t := fun t => congrArg (fun v : Vector Thread 16 => v[t]) hthr
  exact ⟨fun t => by rw [hone t]; exact ⟨rfl, rfl, rfl, rfl, rfl⟩, hsb, hlatch⟩

omit hk hr hq in
/-- The reset of a command that has only raised lines before. -/
theorem ResetBegun.resets (h : ResetBegun x.win y u) (hhost : y.host = s.host) (hbak : y.bak = s.bak)
    (hcore : CoreBut ks s y) : KernelResets s x u := by
  obtain ⟨hrst, hwin, hlull, hend, hcause, hubak, hdev⟩ := h
  obtain ⟨-, -, -, -, -, -, hh, -⟩ := hdev.blocks
  obtain ⟨hprog, hsb, -⟩ := CoreBut.programs hdev.core
  obtain ⟨hprog', hsb', -⟩ := CoreBut.programs hcore
  exact ⟨(hh (by simp)).trans hhost, hrst, hwin, hlull, hend, hcause, by rw [hubak, hbak], hprog'.trans hprog,
    hsb.trans hsb'⟩

omit hk hq in
theorem powered_of_runs : s.powered = true := by
  simp only [State.kernelRuns, State.hostLive, Bool.and_eq_true] at hr
  exact hr.1.1.1.1

theorem reset_gives (hc : x.cmd.code = 5) (hright : s.resetRight x.win = true) (hlen : x.cmd.payload.length = 2) :
    (x.cmd.payload ≠ [0x52, 0x53] → Gives .reset s (KernelPlain s x 4 [])) ∧
    (x.cmd.payload = [0x52, 0x53] → s.pwr.stop = .none → Gives .reset s (fun u => KernelResets s x u ∧ u.mem = s.mem ∧
      OnlyRanges s u [(0x40014000, 0x40016000)] resetFields ∧ BlocksBut [.pwr, .bak, .port] s u)) := by
  have hx : exec .reset s = .next (s.kernelCmd 5 3 (fun w => s.resetRight w) 2 fun s w p => s.resetWork w p) := rfl
  refine ⟨fun hp => kernel_plain hk hr hq hx hc (not_ring_lt s _) hright hlen (.inl (if_neg hp)) (by decide),
    fun hp hstop => ⟨_, hx, ?_⟩⟩
  have hw : s.resetWork x.win x.cmd.payload = ⟨s, 0, [], true⟩ := if_pos hp
  rw [kernelCmd_work hk hr hc (not_ring_lt s _) hright hlen, hw]
  have hreset := windowReset_begun hstop (powered_of_runs hr) x.win
  obtain ⟨hranges, hblocks, -, hmem, -⟩ := hreset.dev.frameIn
  exact ⟨hreset.resets (ks := []) rfl rfl ⟨rfl, fun _ _ => rfl⟩, hmem, hranges, hblocks⟩

/-! ## RAILGET -/

omit hk hr hq in
theorem ldLe_byte (b : Byte) : ldLe [b] 0 1 = b.toNat := by simp [ldLe]

omit hk hr hq in
/-- CAUSE and code of a channel that has power. -/
theorem rail_channel {n : Fin 6} (h : s.swLive n = true) :
    s.railCause (n.val + 1) = some (s.get (F.SW_STAT_CAUSE n)) ∧ s.railCode (n.val + 1) = some (s.get (F.SW_REF_NOW n)) := by
  have hin : 1 ≤ n.val + 1 ∧ n.val + 1 ≤ 6 := by omega
  have hlive : s.railLive (n.val + 1) = true := by
    rw [← h]
    unfold State.railLive State.swLive
    rw [if_pos hin, show 6 + (n.val + 1) = 7 + n.val by omega]
  refine ⟨?_, ?_⟩
  · unfold State.railCause
    rw [hlive, if_neg (by decide), if_pos hin]
    rfl
  · unfold State.railCode
    rw [hlive, if_neg (by omega), if_neg (by omega), if_neg (by decide), if_pos hin]
    rfl

omit hk hr hq in
theorem railLive_lin {c : Nat} (hp : s.powered = true) (h7 : 7 ≤ c) (h16 : c ≤ 16) : s.railLive c = true := by
  unfold State.railLive
  rw [hp, if_neg (by omega), if_neg (by omega)]
  rfl

omit hk hr hq in
theorem railCause_lin {c : Nat} (hp : s.powered = true) (h7 : 7 ≤ c) (h16 : c ≤ 16) :
    s.railCause c = some (s.get (State.linCAUSE (c - 7))) := by
  unfold State.railCause
  rw [railLive_lin hp h7 h16, if_neg (by decide), if_neg (by omega), if_pos ⟨h7, h16⟩]

omit hk hr hq in
theorem railCode_lin {c : Nat} (hp : s.powered = true) (h7 : 7 ≤ c) (h10 : c ≤ 10) :
    s.railCode c = some (s.get (F.SEQ_LDO_VSET (c - 7))) := by
  unfold State.railCode
  rw [railLive_lin hp h7 (by omega), if_neg (by omega), if_neg (by omega), if_neg (by decide), if_neg (by omega),
    if_pos ⟨h7, h10⟩]

omit hk hr hq in
/-- CAUSE and code of a port that has power. -/
theorem rail_port {p : Fin 2} (h : s.portLive p = true) :
    s.railCause (17 + p.val) = some (s.get (F.P_STAT_CAUSE p)) ∧ s.railCode (17 + p.val) = some (s.markCode p) := by
  have hp : 17 + p.val = 17 ∨ 17 + p.val = 18 := by omega
  have hlive : s.railLive (17 + p.val) = true := by
    rw [← h]
    unfold State.railLive State.portLive
    rw [if_neg (by omega), if_pos hp, show 17 + p.val - 12 = 5 + p.val by omega]
  have hidx : 17 + p.val - 17 = p.val := by omega
  unfold State.railCause State.railCode
  rw [hlive, if_neg (by decide), if_neg (by omega), if_neg (by omega), if_pos hp, if_neg (by omega), if_neg (by omega),
    if_neg (by decide), if_neg (by omega), if_neg (by omega), if_pos hp, hidx]
  exact ⟨rfl, rfl⟩

theorem railget_gives (b : Byte) (hc : x.cmd.code = 0x10) (hp : x.cmd.payload = [b]) :
    let c := b.toNat
    let known := 1 ≤ c ∧ c ≤ 20
    let allowed := 19 ≤ c ∨ s.winRail x.win c = true
    let flags := BitVec.ofNat 8 ((if s.railEn c then 1 else 0) + (if s.pg c then 2 else 0) +
      (if s.bit F.SEQ_UVF_UVF (c - 1) then 4 else 0) + (if s.bit F.SEQ_OVF_OVF (c - 1) then 8 else 0))
    (¬known → Gives .railget s (KernelPlain s x 4 [])) ∧ (known → ¬allowed → Gives .railget s (KernelPlain s x 3 [])) ∧
    (known → allowed → Gives .railget s (KernelPlain s x 0 ([flags,
      BitVec.ofNat 8 ((s.railCause c).getD (Config.freeAt s.free 0))] ++
        le16 ((s.railCode c).getD (Config.freeAt s.free 1))))) := by
  intro c known allowed flags
  have hx : exec .railget s = .next (s.kernelCmd 0x10 3 State.anyRight 1 fun s w p => s.railgetWork w p) := rfl
  have hlen : x.cmd.payload.length = 1 := by rw [hp]; rfl
  have hplain : ∀ {rc : Nat} {data : List Byte}, s.railgetWork x.win [b] = s.kres rc data ∨
      s.railgetWork x.win [b] = s.tickFree.kres rc data → rc < 16 → Gives .railget s (KernelPlain s x rc data) :=
    fun hw hrc => kernel_plain hk hr hq hx hc (not_ring_lt s _) rfl hlen (hp ▸ hw) hrc
  have hwork : s.railgetWork x.win [b] = (if c < 1 ∨ 20 < c then s.kres rcBADARG []
      else if c ≤ 18 ∧ s.winRail x.win c = false then s.kres rcPERM []
      else s.tickFree.kres rcOK ([flags, BitVec.ofNat 8 ((s.railCause c).getD (Config.freeAt s.free 0))] ++
        le16 ((s.railCode c).getD (Config.freeAt s.free 1)))) := by
    unfold State.railgetWork
    rw [ldLe_byte]
    rfl
  refine ⟨fun hno => hplain (.inl (hwork.trans (if_pos (by omega)))) (by decide), fun hyes hno => ?_, fun hyes hok => ?_⟩
  · have hperm : c ≤ 18 ∧ s.winRail x.win c = false := by
      refine ⟨by omega, ?_⟩
      cases hrail : s.winRail x.win c with
      | false => rfl
      | true => exact absurd (.inr hrail) hno
    exact hplain (.inl (hwork.trans ((if_neg (by omega)).trans (if_pos hperm)))) (by decide)
  · refine hplain (.inr (hwork.trans ((if_neg (by omega)).trans (if_neg fun ⟨h18, hrail⟩ => ?_)))) (by decide)
    rcases hok with hok | hok
    · omega
    · rw [hrail] at hok
      cases hok

end

end Sys2Proof.Machine
end

section
/-!
SUPPORT. The ROM kernel's commands on the device's memories: the endpoints, the log, the images (R84, R175, R176, R292).
-/

set_option Elab.async false

namespace Sys2Proof.Machine

section

variable {K : Nat → Prop} {bs : List Block} {ks : List Nat} {s u y : State} {x : Presented}

theorem ldLe_pair (a b : Byte) (t : List Byte) : ldLe (a :: b :: t) 0 2 = a.toNat + 256 * b.toNat := by simp [ldLe]

theorem ldLe_third (a b c : Byte) : ldLe [a, b, c] 2 1 = c.toNat := by simp [ldLe]

/-- LEN of a buffer's header. -/
theorem ldLe_bytes (s : State) (a : Nat) : ldLe (s.bytes a 2) 0 2 = (s.byte a).toNat + 256 * (s.byte (a + 1)).toNat := by
  simp [State.bytes, ldLe]

/-- The state that EPREAD leaves: with OPT bit 0 the buffer's NEW is cleared. -/
def State.epReadBack (s : State) (a : Nat) (opt : Byte) : State :=
  if opt.toNat % 2 = 1 then s.setByte (a + 3) (s.byte (a + 3) &&& 0xFE) else s

theorem epReadBack_only (s : State) (a : Nat) (opt : Byte) : (s.epReadBack a opt).host = s.host ∧
    (∀ b, b ≠ a + 3 → (s.epReadBack a opt).byte b = s.byte b) ∧
    ((s.epReadBack a opt).byte (a + 3) = if opt.getLsbD 0 then s.byte (a + 3) &&& 0xFE else s.byte (a + 3)) ∧
    OnlyFields s (s.epReadBack a opt) [] ∧ BlocksBut [.host] s (s.epReadBack a opt) ∧
    (s.epReadBack a opt).core = s.core := by
  have hbit : opt.getLsbD 0 = decide (opt.toNat % 2 = 1) := by simp [BitVec.getLsbD, Nat.testBit_zero]
  unfold State.epReadBack
  rw [hbit]
  split
  next h =>
    exact ⟨rfl, fun b hb => State.byte_setByte_ne s _ (Ne.symm hb), by simp [h], fun _ _ => rfl, by simp [BlocksBut], rfl⟩
  next h => exact ⟨rfl, fun _ _ => rfl, by simp [h], fun _ _ => rfl, by simp [BlocksBut], rfl⟩

variable (hk : s.host.kernel = some x) (hr : s.kernelRuns = true) (hq : (s.win x.win).queue.head? = some x.cmd)
include hk hr hq

/-! ## Endpoints -/

theorem epread_gives (i0 i1 opt : Byte) (hc : x.cmd.code = 0x20) (hp : x.cmd.payload = [i0, i1, opt]) :
    let i := i0.toNat + 256 * i1.toNat
    let a := s.entBuf i
    (512 ≤ i → Gives .epread s (KernelPlain s x 4 [])) ∧
    (i < 512 → s.winEp x.win i = false → Gives .epread s (KernelPlain s x 3 [])) ∧
    (i < 512 → s.winEp x.win i = true →
      (bufOk a (s.entBufsz i) = false → Gives .epread s (KernelPlain s x 0 (s.bytes (entAddr i) 32))) ∧
      (bufOk a (s.entBufsz i) = true → Gives .epread s (fun u =>
        KernelEnds s x 0 (s.bytes (entAddr i) 32 ++ s.bytes a 8 ++
          s.bytes (a + 8) (min ((s.byte a).toNat + 256 * (s.byte (a + 1)).toNat) (bufSize (s.entBufsz i) - 8))) u ∧
        (∀ b, b ≠ a + 3 → u.byte b = s.byte b) ∧
        (u.byte (a + 3) = if opt.getLsbD 0 then s.byte (a + 3) &&& 0xFE else s.byte (a + 3)) ∧
        OnlyFields s u [] ∧ BlocksBut [.host] s u ∧ u.core = s.core))) := by
  intro i a
  have hx : exec .epread s = .next (s.kernelCmd 0x20 3 State.anyRight 3 fun s w p => s.epreadWork w p) := rfl
  have hlen : x.cmd.payload.length = 3 := by rw [hp]; rfl
  have hplain : ∀ {rc : Nat} {data : List Byte}, s.epreadWork x.win x.cmd.payload = s.kres rc data → rc < 16 →
      Gives .epread s (KernelPlain s x rc data) :=
    fun hw hrc => kernel_plain hk hr hq hx hc (not_ring_lt s _) rfl hlen (.inl hw) hrc
  have hi : ldLe x.cmd.payload 0 2 = i := hp ▸ ldLe_pair i0 i1 _
  have hopt : ldLe x.cmd.payload 2 1 = opt.toNat := hp ▸ ldLe_third i0 i1 opt
  refine ⟨fun h => hplain ?_ (by decide), fun h hep => hplain ?_ (by decide), fun h hep => ⟨fun hbuf => hplain ?_ (by decide),
    fun hbuf => ?_⟩⟩
  · unfold State.epreadWork
    rw [hi]
    exact if_pos h
  · unfold State.epreadWork
    rw [hi]
    exact (if_neg (by omega)).trans (if_pos hep)
  · unfold State.epreadWork
    rw [hi]
    refine (if_neg (by omega)).trans ((if_neg (by rw [hep]; decide)).trans (if_neg ?_))
    rw [hbuf]
    decide
  · have hw : s.epreadWork x.win x.cmd.payload = (s.epReadBack a opt).kres 0 (s.bytes (entAddr i) 32 ++ s.bytes a 8 ++
        s.bytes (a + 8) (min ((s.byte a).toNat + 256 * (s.byte (a + 1)).toNat) (bufSize (s.entBufsz i) - 8))) := by
      unfold State.epreadWork
      rw [hi, hopt]
      refine (if_neg (by omega)).trans ((if_neg (by rw [hep]; decide)).trans ((if_pos hbuf).trans ?_))
      rw [ldLe_bytes]
      rfl
    obtain ⟨hhost, hbytes, hnew, hfields, hblocks, hcore⟩ := epReadBack_only s a opt
    obtain ⟨u, hu, hends, rfl⟩ := kernel_answers hk hr hq hx hc (not_ring_lt s _) rfl hlen hw hhost (by decide)
    refine ⟨_, hu, hends, fun b hb => ?_, ?_, fun f hf => ?_, ?_, ?_⟩
    · rw [State.byte_of_mem (State.mem_portComplete ..)]
      exact hbytes b hb
    · rw [State.byte_of_mem (State.mem_portComplete ..)]
      exact hnew
    · rw [State.get_portComplete]
      exact hfields f hf
    · exact hblocks.trans (Dev.portComplete (Dev.refl (K := keysOf []) (ks := []))).blocks
    · rw [State.core_portComplete]
      exact hcore

omit hk hr hq in
theorem eppollWork_eq (s : State) (w : Fin 4) {pay : List Byte} {i : Nat} {p : Fin 2} (hi : ldLe pay 0 2 = i)
    (hp : p = Fin.ofNat 2 (s.entPort i)) :
    s.eppollWork w pay = (if 512 ≤ i then s.kres rcBADARG []
      else if s.winEp w i = false then s.kres rcPERM []
      else if s.domPg (5 + p.val) = false then s.tickFree.kres rcDEVREF [BitVec.ofNat 8 (Config.freeAt s.free 2)]
      else if s.port[p].door.isSome then
        (s.putB (F.P_ENG_STAT_DOORBUSY p)
          (s.on (F.P_ENG_STAT_DOORBUSY p) || Config.freeAt s.free 3 % 2 == 1)).tickFree.kres rcDEVREF [1]
      else ((s.put (F.P_ENG_DOOR_PEND p) 1).portUpd p (fun x => { x with door := some i })).kres rcOK []) := by
  subst hi hp
  rfl

theorem eppoll_gives (i0 i1 : Byte) (hc : x.cmd.code = 0x21) (hp : x.cmd.payload = [i0, i1]) :
    let i := i0.toNat + 256 * i1.toNat
    let p : Fin 2 := Fin.ofNat 2 (s.entPort i)
    (512 ≤ i → Gives .eppoll s (KernelPlain s x 4 [])) ∧
    (i < 512 → s.winEp x.win i = false → Gives .eppoll s (KernelPlain s x 3 [])) ∧
    (i < 512 → s.winEp x.win i = true →
      (s.domPg (5 + p.val) = false → Gives .eppoll s (fun u => ∃ cause, KernelPlain s x 5 [cause] u)) ∧
      (s.domPg (5 + p.val) = true → s.port[p].door = none → Gives .eppoll s (fun u => KernelEnds s x 0 [] u ∧
        u.port[p].door = some i ∧ u.on (F.P_ENG_DOOR_PEND p) = true ∧
        Frame [F.P_ENG_DOOR_PEND p] [.port, .host] [] s u)) ∧
      (s.domPg (5 + p.val) = true → s.port[p].door ≠ none → Gives .eppoll s (fun u => KernelEnds s x 5 [1] u ∧
        Frame [F.P_ENG_STAT_DOORBUSY p] [.host] [] s u))) := by
  intro i p
  have hx : exec .eppoll s = .next (s.kernelCmd 0x21 3 State.anyRight 2 fun s w p => s.eppollWork w p) := rfl
  have hlen : x.cmd.payload.length = 2 := by rw [hp]; rfl
  have hi : ldLe x.cmd.payload 0 2 = i := hp ▸ ldLe_pair i0 i1 _
  have hplain : ∀ {rc : Nat} {data : List Byte}, s.eppollWork x.win x.cmd.payload = s.kres rc data ∨
      s.eppollWork x.win x.cmd.payload = s.tickFree.kres rc data → rc < 16 → Gives .eppoll s (KernelPlain s x rc data) :=
    fun hw hrc => kernel_plain hk hr hq hx hc (not_ring_lt s _) rfl hlen hw hrc
  have hwork := eppollWork_eq s x.win hi (p := p) rfl
  refine ⟨fun h => hplain (.inl (hwork.trans (if_pos h))) (by decide),
    fun h hep => hplain (.inl (hwork.trans ((if_neg (by omega)).trans (if_pos hep)))) (by decide), fun h hep => ?_⟩
  rw [if_neg (by omega), if_neg (by rw [hep]; decide)] at hwork
  refine ⟨fun hpg => ?_, fun hpg hdoor => ?_, fun hpg hdoor => ?_⟩
  · obtain ⟨u, hu, h⟩ := hplain (.inr (hwork.trans (if_pos hpg))) (by decide)
    exact ⟨u, hu, _, h⟩
  · rw [if_neg (by rw [hpg]; decide), if_neg (by rw [hdoor]; decide)] at hwork
    obtain ⟨u, hu, hends, rfl⟩ := kernel_answers hk hr hq hx hc (not_ring_lt s _) rfl hlen hwork rfl (by decide)
    refine ⟨_, hu, hends, ?_, ?_, (Dev.portComplete (Dev.portUpd (Dev.put Dev.refl))).frame⟩
    · rw [State.port_portComplete]
      simp
    · rw [State.on_portComplete, State.on_portUpd, State.on_put_one]
  · rw [if_neg (by rw [hpg]; decide), if_pos (Option.isSome_iff_ne_none.2 hdoor)] at hwork
    obtain ⟨u, hu, hends, rfl⟩ := kernel_answers hk hr hq hx hc (not_ring_lt s _) rfl hlen hwork rfl (by decide)
    exact ⟨_, hu, hends, (Dev.portComplete (Dev.tickFree (Dev.putB Dev.refl))).frame⟩

/-! ## The log -/

omit hk hr hq in
/-- What the walk of the log leaves in NVC.ECCSTAT and ECCADDR. -/
theorem logLoads_dev (s : State) : Dev (keysOf [F.NVC_ECCSTAT_CORRCNT, F.NVC_ECCSTAT_UNCORR, F.NVC_ECCSTAT_UNREL,
    F.NVC_ECCADDR_ADDR]) [.host] [] s s.logLoads ∧ (s.logSpots = false → s.logLoads = s) ∧ s.logLoads.tickFree.host = s.host := by
  unfold State.logLoads
  cases h : s.logSpots with
  | true =>
    refine ⟨?_, fun hno => (by cases hno), rfl⟩
    exact Dev.put (Dev.putB (Dev.putB (Dev.put Dev.refl)))
  | false => exact ⟨Dev.refl, fun _ => rfl, rfl⟩

theorem logread_gives (hc : x.cmd.code = 0x30) (h3 : s.on (F.HOST_WCFG_RING3 x.win) = false)
    (hright : s.winRight x.win 2 = true) (hlen : x.cmd.payload.length = 6) :
    let pay := x.cmd.payload
    let off := ldLe pay 4 2
    let logged := fun (rc : Nat) (data : List Byte) (u : State) => KernelEnds s x rc data u ∧
      Frame [F.NVC_ECCSTAT_CORRCNT, F.NVC_ECCSTAT_UNCORR, F.NVC_ECCSTAT_UNREL, F.NVC_ECCADDR_ADDR] [.host] [] s u ∧
      (s.logSpots = false → u.regs = s.regs)
    (s.nvcLive = false → Gives .logread s (fun u => ∃ cause, KernelPlain s x 5 [cause] u)) ∧
    (s.nvcLive = true →
      (∀ a len, s.logFind (ldLe pay 0 4) = some (a, len) →
        (off < len → Gives .logread s (logged 0 (s.bytes a 16 ++ s.bytes (a + 16 + off) (min 1000 (len - off))))) ∧
        (len ≤ off → Gives .logread s (logged 4 []))) ∧
      (s.logFind (ldLe pay 0 4) = none → Gives .logread s (logged 4 []))) := by
  intro pay off logged
  have hx : exec .logread s = .next (s.kernelCmd 0x30 2 (fun w => s.winRight w 2) 6 fun s w p => s.logreadWork w p) := rfl
  obtain ⟨hdev, hsame, hhost⟩ := logLoads_dev s
  have hlogged : ∀ {rc : Nat} {data : List Byte}, s.logreadWork x.win x.cmd.payload = s.logLoads.tickFree.kres rc data → rc < 16 →
      Gives .logread s (logged rc data) := fun {rc data} hw hrc => by
    obtain ⟨u, hu, hends, hend⟩ := kernel_answers hk hr hq hx hc (not_ring2_lt h3) hright hlen hw hhost hrc
    have hframe := (Dev.portComplete (p := .kernel) (rc := rc) (data := data) hdev.tickFree).frame
    refine ⟨u, hu, hends, hend ▸ hframe, fun hno => ?_⟩
    rw [hend, State.regs_portComplete, hsame hno]
    rfl
  refine ⟨fun hlive => ?_, fun hlive => ⟨fun a len hfind => ⟨fun hlt => hlogged ?_ (by decide),
    fun hle => hlogged ?_ (by decide)⟩, fun hfind => hlogged ?_ (by decide)⟩⟩
  · have hw : s.logreadWork x.win x.cmd.payload = s.tickFree.kres 5 [BitVec.ofNat 8 (Config.freeAt s.free 2)] := by
      unfold State.logreadWork
      exact if_pos hlive
    obtain ⟨u, hu, h⟩ := kernel_plain hk hr hq hx hc (not_ring2_lt h3) hright hlen (.inr hw) (by decide)
    exact ⟨u, hu, _, h⟩
  · unfold State.logreadWork
    rw [if_neg (by rw [hlive]; decide), hfind]
    exact if_neg (Nat.not_le.2 hlt)
  · unfold State.logreadWork
    rw [if_neg (by rw [hlive]; decide), hfind]
    exact if_pos hle
  · unfold State.logreadWork
    rw [if_neg (by rw [hlive]; decide), hfind]
    rfl

/-! ## The images -/

omit hk hr hq in
theorem bootQspi_dev (s : State) : Dev (keysIn [(0x40026000, 0x40027000)] []) [] [17] s s.bootQspi := by
  have hin : ∀ f ∈ [F.QSPI_CFG_CMD, F.QSPI_CFG_DIV, F.QSPI_CFG_DUMMY, F.QSPI_ADDR_ADDR, F.QSPI_DST_DST, F.QSPI_CTL_CNT,
      F.QSPI_STAT_DONE], keysIn [(0x40026000, 0x40027000)] [] f.key := by decide
  unfold State.bootQspi State.maybeRaise
  extract_lets q s1 s2
  have h1 : Dev (keysIn [(0x40026000, 0x40027000)] []) [] [17] s s1 :=
    ((Dev.refl.put (hin _ (by simp))).put (hin _ (by simp))).put (hin _ (by simp))
  have h2 : Dev (keysIn [(0x40026000, 0x40027000)] []) [] [17] s s2 :=
    ((h1.put (hin _ (by simp))).put (hin _ (by simp))).put (hin _ (by simp))
  exact (h2.put (hin _ (by simp))).orIf (·.raise)

omit hk hr hq in
theorem slotHdr_of_mem (h : u.mem = s.mem) (vio : Bool) (slot : Nat) : u.slotHdr vio slot = s.slotHdr vio slot := by
  have hext : ∀ n a, u.extBytes a n = s.extBytes a n := fun n => by
    induction n with
    | zero => exact fun _ => rfl
    | succ n ih =>
      intro a
      rw [State.extBytes, State.extBytes, State.extByte, State.extByte, h, ih]
  unfold State.slotHdr State.extView
  rw [hext]

omit hk hr hq in
theorem bytes_of_mem (h : u.mem = s.mem) (n a : Nat) : u.bytes a n = s.bytes a n := by
  induction n generalizing a with
  | zero => rfl
  | succ n ih => rw [State.bytes, State.bytes, State.byte_of_mem h, ih]

/-- What a look at an image's header leaves: QSPI's registers, and the copy of the header. -/
structure HdrRead (slot : Nat) (vio : Bool) (s u : State) : Prop where
  ranges : OnlyRanges s u [(0x40026000, 0x40027000)] []
  core : CoreBut [17] s u
  outside : ∀ b, b < State.scratchAddr slot ∨ State.scratchAddr slot + (s.slotHdr vio slot).length ≤ b →
    u.byte b = s.byte b
  inside : u.bytes (State.scratchAddr slot) (s.slotHdr vio slot).length = s.slotHdr vio slot
  blocks : BlocksBut [] s u

omit hk hr hq in
theorem hdrCopy_read (s : State) (vio : Bool) (slot : Nat) : HdrRead slot vio s (s.bootQspi.hdrCopy vio slot) := by
  have hd := bootQspi_dev s
  obtain ⟨hranges, hblocks, hcore, hmem, -⟩ := hd.frameIn
  have hhdr := slotHdr_of_mem hmem vio slot
  unfold State.hdrCopy
  rw [hhdr]
  generalize s.bootQspi = y at hranges hblocks hcore hmem
  have hrest := State.setBytes_eq (s := y) (State.scratchAddr slot) (s.slotHdr vio slot)
  have hout := State.byte_setBytes_out y (State.scratchAddr slot) (s.slotHdr vio slot)
  have hin := State.bytes_setBytes y (s.slotHdr vio slot) (State.scratchAddr slot)
  generalize y.setBytes (State.scratchAddr slot) (s.slotHdr vio slot) = z at hrest hout hin
  have hz : z.regs = y.regs ∧ z.core = y.core ∧ BlocksBut [] y z := by
    rw [hrest]
    exact ⟨rfl, rfl, by simp [BlocksBut]⟩
  obtain ⟨hregs, hzcore, hzblocks⟩ := hz
  refine ⟨fun f hf hr => (State.get_of_regs hregs f).trans (hranges f hf hr), ?_,
    fun b hb => (hout b hb).trans (State.byte_of_mem hmem b), hin, hblocks.trans hzblocks⟩
  unfold CoreBut
  rw [hzcore]
  exact hcore

/-- VERIFY, and INSTALL of an image that does not pass, in the words of O57. -/
abbrev KernelVerifies (s : State) (x : Presented) (n : Nat) (vio : Bool) (cmd : Instr) : Prop :=
  (1 < n → Gives cmd s (KernelPlain s x 4 [])) ∧
    (n ≤ 1 → s.qspiLive = false → Gives cmd s (fun u => ∃ cause, KernelPlain s x 5 [cause] u)) ∧
    (n ≤ 1 → s.qspiLive = true → Gives cmd s (fun u => KernelEnds s x 0 (s.verifyData vio n) u ∧
      (OnlyRanges s u [(0x40026000, 0x40027000)] [] ∧ CoreBut [17] s u ∧
        (let a := State.scratchAddr n
         let hdr := s.slotHdr vio n
         (∀ b, b < a ∨ a + hdr.length ≤ b → u.byte b = s.byte b) ∧ u.bytes a hdr.length = hdr)) ∧
      BlocksBut [.host] s u))

omit hr in
theorem verify_gives {i : Instr} {c : Byte} {ok : Fin 4 → Bool} {work : State → Fin 4 → List Byte → KRes} {slot : Byte}
    {vio : Bool} (hr : s.kernelRuns = true) (hx : exec i s = .next (s.kernelCmd c 2 ok 1 work)) (hc : x.cmd.code = c)
    (h3 : s.on (F.HOST_WCFG_RING3 x.win) = false) (hok : ok x.win = true) (hp : x.cmd.payload = [slot])
    (hw : work s x.win x.cmd.payload = s.verifyWork vio x.win x.cmd.payload) :
    KernelVerifies s x slot.toNat vio i := by
  have hlen : x.cmd.payload.length = 1 := by rw [hp]; rfl
  have hring := not_ring2_lt h3
  have hwork : work s x.win x.cmd.payload = (if 1 < slot.toNat then s.kres rcBADARG []
      else if s.qspiLive = false then s.tickFree.kres rcDEVREF [BitVec.ofNat 8 (Config.freeAt s.free 2)]
      else (s.bootQspi.hdrCopy vio slot.toNat).tickFree.kres rcOK (s.verifyData vio slot.toNat)) := by
    rw [hw, hp]
    unfold State.verifyWork
    rw [ldLe_byte]
  refine ⟨fun h => ?_, fun h hlive => ?_, fun h hlive => ?_⟩
  · exact kernel_plain hk hr hq hx hc hring hok hlen (.inl (hwork.trans (if_pos h))) (by decide)
  · obtain ⟨u, hu, h⟩ := kernel_plain hk hr hq hx hc hring hok hlen
      (.inr (hwork.trans ((if_neg (by omega)).trans (if_pos hlive)))) (by decide)
    exact ⟨u, hu, _, h⟩
  · rw [if_neg (by omega), if_neg (by rw [hlive]; decide)] at hwork
    obtain ⟨hranges, hcore, hout, hin, hblocks⟩ := hdrCopy_read s vio slot.toNat
    generalize s.bootQspi.hdrCopy vio slot.toNat = y at hwork hranges hcore hout hin hblocks
    obtain ⟨-, -, -, -, -, -, hhost, -⟩ := id hblocks
    obtain ⟨u, hu, hends, hend⟩ := kernel_answers hk hr hq hx hc hring hok hlen hwork (hhost (by simp)) (by decide)
    have hmem : u.mem = y.mem := by
      rw [hend, State.mem_portComplete]
      rfl
    refine ⟨u, hu, hends, ⟨fun f hf hr => ?_, ?_, fun b hb => (State.byte_of_mem hmem b).trans (hout b hb),
      (bytes_of_mem hmem _ _).trans hin⟩, ?_⟩
    · rw [hend, State.get_portComplete]
      exact hranges f hf hr
    · unfold CoreBut
      rw [hend, State.core_portComplete]
      exact hcore
    · rw [hend]
      exact hblocks.weaken.trans (Dev.portComplete (Dev.tickFree (Dev.refl (K := keysOf []) (ks := [])))).blocks

omit hq in
/-- INSTALL of an image that passes: the boot word names the slot, and the reset begins. -/
theorem install_gives {slot : Byte} {vio : Bool} (hc : x.cmd.code = 0x39)
    (h3 : s.on (F.HOST_WCFG_RING3 x.win) = false) (hright : s.winRight x.win 1 = true) (hp : x.cmd.payload = [slot])
    (hpass : slot.toNat ≤ 1 ∧ s.qspiLive = true ∧ hdrMagic (s.slotHdr vio slot.toNat) = true ∧
      s.slotCode vio slot.toNat = 0) (hstop : s.pwr.stop = .none) :
    Gives (.install vio) s fun u => KernelResets s x u ∧ u.word 0x40024180 = BitVec.ofNat 32 (slot.toNat + 1) := by
  have hx : exec (.install vio) s =
    .next (s.kernelCmd 0x39 2 (fun w => s.winRight w 1) 1 fun s w p => s.installWork vio w p) := rfl
  have hlen : x.cmd.payload.length = 1 := by rw [hp]; rfl
  have hw : s.installWork vio x.win x.cmd.payload = ⟨(s.bootQspi.hdrCopy vio slot.toNat).setWord 0x40024180
      (BitVec.ofNat 32 (slot.toNat + 1)), 0, [], true⟩ := by
    rw [hp]
    unfold State.installWork
    rw [ldLe_byte]
    exact if_pos hpass
  refine ⟨_, hx, ?_⟩
  rw [kernelCmd_work hk hr hc (not_ring2_lt h3) hright hlen, hw]
  obtain ⟨-, hcore, -, -, hblocks⟩ := hdrCopy_read s vio slot.toNat
  generalize s.bootQspi.hdrCopy vio slot.toNat = y at hcore hblocks
  obtain ⟨hpwr, -, -, -, -, -, hhost, -, -, -, hbak, -⟩ := hblocks
  have hword := State.word_setWord_self y 0x40024180 (BitVec.ofNat 32 (slot.toNat + 1))
  have hz : (y.setWord 0x40024180 (BitVec.ofNat 32 (slot.toNat + 1))).host = y.host ∧
      (y.setWord 0x40024180 (BitVec.ofNat 32 (slot.toNat + 1))).pwr = y.pwr ∧
      (y.setWord 0x40024180 (BitVec.ofNat 32 (slot.toNat + 1))).bak = y.bak ∧
      (y.setWord 0x40024180 (BitVec.ofNat 32 (slot.toNat + 1))).core = y.core := ⟨rfl, rfl, rfl, rfl⟩
  generalize y.setWord 0x40024180 (BitVec.ofNat 32 (slot.toNat + 1)) = z at hword hz
  obtain ⟨hzhost, hzpwr, hzbak, hzcore⟩ := hz
  have hzpwr' : z.pwr = s.pwr := hzpwr.trans (hpwr (by simp))
  have hreset := windowReset_begun (y := z) ((congrArg PowerSt.stop hzpwr').trans hstop)
    ((State.powered_of_pwr hzpwr').trans (powered_of_runs hr)) x.win
  refine ⟨hreset.resets (ks := [17]) (hzhost.trans (hhost (by simp))) (hzbak.trans (hbak (by simp))) ?_,
    (State.word_of_mem hreset.dev.mem _).trans hword⟩
  unfold CoreBut
  rw [hzcore]
  exact hcore

/-- INSTALL of another image answers as VERIFY does. -/
theorem install_verifies {slot : Byte} {vio : Bool} (hc : x.cmd.code = 0x39)
    (h3 : s.on (F.HOST_WCFG_RING3 x.win) = false) (hright : s.winRight x.win 1 = true) (hp : x.cmd.payload = [slot])
    (hpass : ¬(slot.toNat ≤ 1 ∧ s.qspiLive = true ∧ hdrMagic (s.slotHdr vio slot.toNat) = true ∧
      s.slotCode vio slot.toNat = 0)) : KernelVerifies s x slot.toNat vio (.install vio) := by
  have hx : exec (.install vio) s =
    .next (s.kernelCmd 0x39 2 (fun w => s.winRight w 1) 1 fun s w p => s.installWork vio w p) := rfl
  refine verify_gives hk hq hr hx hc h3 hright hp ?_
  show s.installWork vio x.win x.cmd.payload = _
  rw [hp]
  unfold State.installWork
  rw [ldLe_byte]
  exact if_neg hpass

end

end Sys2Proof.Machine
end

section
/-!
SUPPORT. RAILSET on the rails: channels, LDOs and load switches, ports. A port that goes off breaks off its engine's
exchange, which writes the endpoint's buffer and entry, so these frames bind the memories only where no exchange ran.
-/

set_option Elab.async false

namespace Sys2Proof.Machine

variable {Q : Prop} {K : Nat → Prop} {ks : List Nat} {s u v : State} {p : Fin 2}

/-! ## Frames of operations that may break off an exchange -/

/-- The frame of rail operations. `Q` says that no exchange ran; without it the memories are free. -/
structure Breaks (Q : Prop) (K : Nat → Prop) (s u : State) : Prop where
  keys : ∀ g : Fld, ¬K g.key → u.get g = s.get g
  blocks : BlocksBut [.sw, .seq, .port] s u
  programs : ProgramsSame s u
  sb : u.core.sb = s.core.sb
  latch : u.core.latch = s.core.latch
  pending : u.pending = s.pending
  quiet : Q → (∀ p : Fin 2, u.port[p].exch = none) ∧ u.mem = s.mem

namespace Breaks

theorem refl (hQ : Q → ∀ p : Fin 2, s.port[p].exch = none) : Breaks Q K s s :=
  ⟨fun _ _ => rfl, by simp [BlocksBut], fun _ => ⟨rfl, rfl, rfl, rfl, rfl⟩, rfl, rfl, rfl, fun q => ⟨hQ q, rfl⟩⟩

theorem trans (h : Breaks Q K s u) (h' : Breaks Q K u v) : Breaks Q K s v :=
  ⟨fun g hg => (h'.keys g hg).trans (h.keys g hg), h.blocks.trans h'.blocks, h.programs.trans h'.programs,
    h'.sb.trans h.sb, h'.latch.trans h.latch, h'.pending.trans h.pending,
    fun q => ⟨(h'.quiet q).1, (h'.quiet q).2.trans (h.quiet q).2⟩⟩

theorem weaken {L : Nat → Prop} (h : Breaks Q K s u) (hK : ∀ k, K k → L k) : Breaks Q L s u :=
  ⟨fun g hg => h.keys g fun hk => hg (hK _ hk), h.blocks, h.programs, h.sb, h.latch, h.pending, h.quiet⟩

/-- Operations that leave the engines' exchanges. -/
theorem of_dev (h : Breaks Q K s u) {bs : List Block} (hd : Dev K bs ks u v) (hport : v.port = u.port)
    (hb : ∀ b ∈ bs, b ∈ [Block.sw, .seq, .port] := by simp) : Breaks Q K s v := by
  obtain ⟨hprog, hsb, hlatch⟩ := CoreBut.programs hd.core
  refine h.trans ⟨hd.keys, (hd.moreBlocks hb).blocks, hprog, hsb, hlatch, hd.pending, fun q => ⟨?_, hd.mem⟩⟩
  rw [hport]
  exact (h.quiet q).1

theorem put (h : Breaks Q K s u) {f : Fld} {n : Nat} (hf : K f.key) : Breaks Q K s (u.put f n) :=
  h.of_dev (bs := []) (ks := []) (Dev.refl.put hf) rfl

theorem putB (h : Breaks Q K s u) {f : Fld} {b : Bool} (hf : K f.key) : Breaks Q K s (u.putB f b) := h.put hf

theorem bump (h : Breaks Q K s u) {f : Fld} (hf : K f.key) : Breaks Q K s (u.bump f) := h.put hf

theorem raise (h : Breaks Q K s u) (k : Nat) : Breaks Q K s (u.raise k) :=
  h.of_dev (bs := []) (ks := [k]) Dev.refl.raise rfl

theorem seqUpd (h : Breaks Q K s u) (f : SeqSt → SeqSt) : Breaks Q K s (u.seqUpd f) :=
  h.of_dev (bs := [.seq]) (ks := []) Dev.refl.seqUpd rfl

theorem tickFree (h : Breaks Q K s u) : Breaks Q K s u.tickFree := h.of_dev (bs := []) (ks := []) Dev.refl.tickFree rfl

theorem orIf (h : Breaks Q K s u) {c : Prop} [Decidable c] (hv : Breaks Q K s u → Breaks Q K s v) :
    Breaks Q K s (if c then u else v) := by
  split
  · exact h
  · exact hv h

theorem ite {c : Prop} [Decidable c] (hu : Breaks Q K s u) (hv : Breaks Q K s v) :
    Breaks Q K s (if c then u else v) := hu.orIf fun _ => hv

theorem andIf (h : Breaks Q K s u) {c : Prop} [Decidable c] (hv : Breaks Q K s u → Breaks Q K s v) :
    Breaks Q K s (if c then v else u) := by
  split
  · exact hv h
  · exact h

/-- A change of a port's own state that starts no exchange. -/
theorem portUpd (h : Breaks Q K s u) (p : Fin 2) {f : PortSt → PortSt} (hf : ∀ x, x.exch = none → (f x).exch = none := by exact fun _ hx => hx) :
    Breaks Q K s (u.portUpd p f) := by
  obtain ⟨hkeys, hblocks, hprog, hsb, hlatch, hpend, hquiet⟩ := h
  have hb : BlocksBut [.sw, .seq, .port] u (u.portUpd p f) := by simp [BlocksBut]
  refine ⟨hkeys, hblocks.trans hb, hprog, hsb, hlatch, hpend, fun q => ⟨fun j => ?_, (hquiet q).2⟩⟩
  have hj := (hquiet q).1 j
  rw [State.portUpd_port]
  by_cases e : p = j
  · subst e
    simpa using hf _ hj
  · have hv : p.val ≠ j.val := fun h => e (Fin.ext h)
    simpa [hv] using hj

/-- FENCE.P waits for the engine's frame no longer. -/
theorem frameOver (h : Breaks Q K s u) (p : Fin 2) : Breaks Q K s (u.frameOver p) := by
  unfold State.frameOver
  have h1 : Breaks Q K s (u.coreUpd fun c => { c with fenceP := c.fenceP.set p false }) :=
    ⟨h.keys, h.blocks.trans (by simp [BlocksBut]), h.programs, h.sb, h.latch, h.pending, h.quiet⟩
  generalize (u.coreUpd fun c => { c with fenceP := c.fenceP.set p false }) = w at h1
  exact ⟨h1.keys, h1.blocks.trans (by simp [BlocksBut, State.retryStalls, State.mapThr]),
    h1.programs.trans (ProgramsSame.retryStalls w), h1.sb, h1.latch, h1.pending, h1.quiet⟩

/-- Bytes are written where an exchange ran. -/
theorem setByte (h : Breaks Q K s u) (hQ : ¬Q) (a : Nat) (b : Byte) : Breaks Q K s (u.setByte a b) :=
  ⟨h.keys, h.blocks.trans (by simp [BlocksBut]), h.programs, h.sb, h.latch, h.pending, fun q => (hQ q).elim⟩

theorem setBytes (h : Breaks Q K s u) (hQ : ¬Q) (a : Nat) (l : List Byte) : Breaks Q K s (u.setBytes a l) := by
  induction l generalizing u a with
  | nil => exact h
  | cons b t ih => exact ih (h.setByte hQ a b) (a + 1)

end Breaks

/-! ## The end of an exchange -/

/-- The fields that an engine's stop writes. -/
abbrev breakFields (p : Fin 2) : List Fld :=
  [F.P_STAT_TXHOLD p, F.P_ENG_CNT_EXCH p, F.P_ENG_CNT_ERRS p, F.P_ENG_STAT_CQOVF p, F.P_ENG_CTL_RUN p,
    F.P_ENG_CUR_ACTIVE p]

namespace Breaks

theorem cqAppend (h : Breaks Q K s u) (hK : ∀ f ∈ breakFields p, K f.key) (e : CqEntry) :
    Breaks Q K s (u.cqAppend p e) := by
  unfold State.cqAppend
  split
  · exact (h.portUpd p).raise _
  · exact h.put (hK _ (by simp))

theorem exchOver (h : Breaks Q K s u) (hK : ∀ f ∈ breakFields p, K f.key) : Breaks Q K s (u.exchOver p) := by
  unfold State.exchOver
  extract_lets s1 s2
  have h1 : Breaks Q K s s1 := h.portUpd p fun _ _ => rfl
  have h2 : Breaks Q K s s2 := h1.andIf fun h => (h.put (hK _ (by simp))).portUpd p
  exact (h2.put (hK _ (by simp))).frameOver p

theorem exchCount (h : Breaks Q K s u) (hK : ∀ f ∈ breakFields p, K f.key) (status : Nat) :
    Breaks Q K s (u.exchCount p status) := by
  unfold State.exchCount
  extract_lets s1
  have h1 : Breaks Q K s s1 := h.bump (hK _ (by simp))
  exact h1.andIf fun h => h.bump (hK _ (by simp))

theorem bufWrite (h : Breaks Q K s u) (hQ : ¬Q) (a : Nat) (st : Stored) (keepLen : Bool) (status : Nat) :
    Breaks Q K s (u.bufWrite a st keepLen status) := by
  unfold State.bufWrite
  extract_lets s1 s2
  have h1 : Breaks Q K s s1 := h.orIf fun h => (h.setBytes hQ _ _).setBytes hQ _ _
  have h2 : Breaks Q K s s2 := (h1.setByte hQ _ _).setBytes hQ _ _
  exact h2.setByte hQ _ _

theorem exchEnd (h : Breaks Q K s u) (hQ : ¬Q) (hK : ∀ f ∈ breakFields p, K f.key) (x : Exch) (status : Nat) (st : Stored) :
    Breaks Q K s (u.exchEnd p x status st) := by
  unfold State.exchEnd
  extract_lets ok s1 s2 s3
  have h1 : Breaks Q K s s1 := h.bufWrite hQ _ _ _ _
  have h2 : Breaks Q K s s2 := h1.setBytes hQ _ _
  have h3 : Breaks Q K s s3 := (h2.andIf (·.cqAppend hK _)).raise _
  exact (h3.exchCount hK _).exchOver hK

theorem answerOver (h : Breaks Q K s u) (hK : ∀ f ∈ breakFields p, K f.key) : Breaks Q K s (u.answerOver p) := by
  unfold State.answerOver
  exact h.andIf fun h => ((h.put (hK (F.P_STAT_TXHOLD p) (by simp))).portUpd p).frameOver p

/-- An engine that stops breaks off its exchange, if one runs, and its answer. -/
theorem engStop (h : Breaks Q K s u) (hK : ∀ f ∈ breakFields p, K f.key) : Breaks Q K s (u.engStop p) := by
  unfold State.engStop State.engAbort
  extract_lets s1
  have h1 : Breaks Q K s s1 := by
    unfold s1
    split
    next x hx =>
      have hQ : ¬Q := fun q => by
        rw [(h.quiet q).1 p] at hx
        cases hx
      exact h.exchEnd hQ hK x _ _
    next => exact h
  exact (h1.answerOver hK).portUpd p

end Breaks

/-! ## A port that goes off -/

/-- The fields that the loss of a port's power-good writes. -/
abbrev downFields (p : Fin 2) : List Fld := breakFields p ++ [F.SEQ_PG_PG, F.P_STAT_PG p]

/-- The fields that a port's way off writes, EN apart. -/
abbrev openFields (p : Fin 2) : List Fld :=
  downFields p ++ measFields p ++ [F.P_MEAS_MEASOK p, F.P_STAT_ON p, F.P_STAT_RAMPING p]

namespace Breaks

theorem engStop_of_rail (y : State) (p : Fin 2) :
    (if 17 + p.val = 17 then y.engStop 0 else if 17 + p.val = 18 then y.engStop 1 else y) = y.engStop p := by
  obtain rfl | rfl : p = 0 ∨ p = 1 := by omega
  · rfl
  · rfl

theorem railDownPort (h : Breaks Q K s u) (hK : ∀ f ∈ downFields p, K f.key) : Breaks Q K s (u.railDown (17 + p.val)) := by
  have hbreak : ∀ f ∈ breakFields p, K f.key := fun f hf => hK f (List.mem_append_left _ hf)
  have hclr : Breaks Q K s (u.clrBit F.SEQ_PG_PG (17 + p.val - 1)) := h.andIf (·.put (hK _ (by simp)))
  have hput : Breaks Q K s (u.pgPut (17 + p.val) false) := by
    have hidx : 17 + p.val - 17 = p.val := by omega
    unfold State.pgPut
    refine h.orIf fun _ => ?_
    have hport : 17 + p.val = 17 ∨ 17 + p.val = 18 := by omega
    simp only [Bool.false_eq_true, if_false]
    rw [if_pos hport, hidx]
    have h3 : Breaks Q K s (((u.clrBit F.SEQ_PG_PG (17 + p.val - 1)).putB (F.P_STAT_PG p) false).raise 8) :=
      (hclr.putB (hK _ (by simp))).raise 8
    rw [engStop_of_rail]
    exact h3.engStop hbreak
  have hset : Breaks Q K s (u.pgSet (17 + p.val) false) := by
    unfold State.pgSet
    extract_lets s1
    have hno : u.leads (17 + p.val - 1) = false := by
      simp [State.leads]
      omega
    rw [hno]
    exact hput
  unfold State.railDown State.riseDrop State.supBlank
  exact (hset.seqUpd _).seqUpd _

theorem measAbort (h : Breaks Q K s u) (hK : ∀ f ∈ measFields p, K f.key) : Breaks Q K s (u.measAbort p) := by
  unfold State.measAbort State.portEvent State.flagRaise
  refine h.andIf fun h => ?_
  refine portUpd ?_ p
  have h1 : Breaks Q K s (((u.put (F.P_MEAS_BUSY p) 0).put (F.P_MEAS_RESULT p) 7).put (F.P_MEAS_DONE p) 1) :=
    ((h.put (hK _ (by simp [measFields]))).put (hK _ (by simp [measFields]))).put (hK _ (by simp [measFields]))
  exact h1.orIf fun h => (h.put (hK _ (by simp [measFields]))).raise _

/-- The line opens. -/
theorem portOpen (hen : Breaks Q K s (u.put (F.P_CTL_EN p) 0)) (hK : ∀ f ∈ openFields p, K f.key) : Breaks Q K s (u.portOpen p) := by
  unfold State.portOpen
  extract_lets s1 s2
  have h1 : Breaks Q K s s1 := (((hen.put (hK (F.P_MEAS_MEASOK p) (by simp))).put (hK (F.P_STAT_ON p) (by simp))).put
    (hK (F.P_STAT_RAMPING p) (by simp))).put (hK (F.P_STAT_TXHOLD p) (by simp))
  have h2 : Breaks Q K s s2 := h1.portUpd p
  have hdown : ∀ f ∈ downFields p, K f.key := fun f hf => hK f (List.mem_append_left _ (List.mem_append_left _ hf))
  exact (h2.railDownPort hdown).engStop fun f hf => hdown f (List.mem_append_left _ hf)

end Breaks

theorem enKey_ne (p : Fin 2) : (F.P_CTL_EN p).key ∉ (openFields p).map Fld.key ∧
    (F.P_LINE_MARK p).key ∉ (F.P_CTL_EN p :: openFields p).map Fld.key := by decide +revert

/-- A port that goes off is off. -/
theorem portOff_off (s : State) (p : Fin 2) (hQ : Q → ∀ p : Fin 2, s.port[p].exch = none) :
    (s.portOff p).on (F.P_CTL_EN p) = false ∧ Breaks Q (keysOf (F.P_CTL_EN p :: openFields p)) s (s.portOff p) := by
  have hmeas : Breaks Q (keysOf (F.P_CTL_EN p :: openFields p)) s (s.measAbort p) :=
    (Breaks.refl hQ).measAbort fun f hf => List.mem_map_of_mem (by simp [hf])
  refine ⟨?_, (hmeas.put (by simp)).portOpen fun f hf => List.mem_map_of_mem (List.mem_cons_of_mem _ hf)⟩
  unfold State.portOff
  generalize s.measAbort p = y
  have hopen : Breaks False (keysOf (openFields p)) (y.put (F.P_CTL_EN p) 0) (y.portOpen p) :=
    (Breaks.refl False.elim).portOpen fun f hf => List.mem_map_of_mem hf
  rw [State.on_of_get (hopen.keys _ (enKey_ne p).1)]
  exact State.on_put_zero

/-! ## Channels -/

/-- The fields that setv of channel `n` writes. -/
abbrev setvFields (n : Fin 6) : List Fld :=
  [F.SW_REF_TARGET n, F.SW_REF_NOW n, F.SW_REF_MOVING n, F.SW_STAT_GANGIGN n]

theorem swSetv_dev (s : State) (n : Fin 6) (code : Nat) :
    Dev (keysOf (setvFields n)) [.sw, .seq] [8, 9] s (s.swSetv n code) := by
  have hfall : ∀ {y : State}, Dev (keysOf (setvFields n)) [.sw, .seq] [8, 9] s y →
      Dev (keysOf (setvFields n)) [.sw, .seq] [8, 9] s (y.swFallTo n code) := fun h => by
    unfold State.swFallTo State.swFall
    exact h.andIf fun h => (h.swUpd).seqUpd
  unfold State.swSetv
  refine Dev.ite (Dev.refl.put) ?_
  have h1 : Dev (keysOf (setvFields n)) [.sw, .seq] [8, 9] s (s.put (F.SW_REF_TARGET n) code) := Dev.refl.put
  exact (hfall h1).ite (h1.ite ((((hfall h1).put).put).swUpd))

theorem setvKeys_ne (n : Fin 6) : (F.SW_CTL_EN n).key ∉ (setvFields n).map Fld.key ∧
    (F.SW_CTL_GANG 0).key ∉ (setvFields n).map Fld.key ∧ (F.SW_CTL_GANG 2).key ∉ (setvFields n).map Fld.key := by
  decide +revert

theorem swSetv_follower (s : State) (n : Fin 6) (code k : Nat) : (s.swSetv n code).follower k = s.follower k := by
  obtain ⟨-, h0, h2⟩ := setvKeys_ne n
  have hd := swSetv_dev s n code
  unfold State.follower
  rw [hd.on_eq h0, hd.on_eq h2]

/-- What a switch-off never writes. -/
theorem targetKeys_ne (n m : Fin 6) : (F.SW_REF_TARGET n).key ∉ (gateFields m).map Fld.key ∧
    (F.SW_REF_TARGET n).key ∉ [F.SEQ_PG_PG].map Fld.key ∧ (F.SW_CTL_EN n).key ≠ (F.SW_REF_TARGET n).key ∧
    (F.SW_CTL_DISCH n).key ≠ (F.SW_REF_TARGET n).key := by decide +revert

theorem swDisable_target (s : State) (n : Fin 6) (dis : Bool) :
    (s.swDisable n dis).get (F.SW_REF_TARGET n) = s.get (F.SW_REF_TARGET n) := by
  obtain ⟨-, hpg, hen, hdis⟩ := targetKeys_ne n n
  have hgates : ∀ (y : State) (m : Fin 6), (y.swGatesOff m).get (F.SW_REF_TARGET n) = y.get (F.SW_REF_TARGET n) :=
    fun y m => (swGatesOff_dev y m).keys _ (targetKeys_ne n m).1
  have hstop : (s.swStop n).get (F.SW_REF_TARGET n) = s.get (F.SW_REF_TARGET n) := by
    unfold State.swStop
    extract_lets s1
    split
    · rw [hgates, hgates]
    · exact hgates s n
  unfold State.swDisable
  extract_lets s1 s2
  have hdown : Dev (keysOf [F.SEQ_PG_PG]) [.seq] [8] s2 (s2.railDown (n.val + 1)) := Dev.refl.railDown (by omega)
  have h1 : s1.get (F.SW_REF_TARGET n) = s.get (F.SW_REF_TARGET n) :=
    (State.get_put_ne _ _ _ _ hdis).trans ((State.get_put_ne _ _ _ _ hen).trans hstop)
  rw [hdown.keys _ hpg, State.get_swUpd, h1]

theorem ignKey_sw (n : Fin 6) : swKeys n (F.SW_STAT_GANGIGN n).key := by decide +revert

/-- A rail operation that is not on, on a channel. -/
theorem Dev.swRailOff (s : State) (n : Fin 6) {op : Nat} (fb : Nat) (hop : op ≠ 1) : SwDev n s (s.swRail n op fb) := by
  unfold State.swRail
  split
  · split
    next h =>
      subst h
      exact Dev.refl.sw2Shed op
    next => exact Dev.refl.put (ignKey_sw n)
  · exact Dev.refl.swDisable _

/-- The fields of the rails and of the framers that the ports' engines use. -/
abbrev railKeys (k : Nat) : Prop :=
  keysIn [(0x40008000, 0x4000E000), (0x40010000, 0x40011000), (0x40014000, 0x40016000), (0x4001F000, 0x40021000)] [] k

theorem swKeys_rail (n : Fin 6) (k : Nat) (h : swKeys n k) : railKeys k := by
  rcases h.1 with h | h
  · exact .inr ⟨(0x40008000, 0x4000E000), by simp, h⟩
  · exact .inr ⟨(0x40010000, 0x40011000), by simp, h⟩

/-- A rail operation leaves the device so: no exchange runs that did not, and the frame of O57 holds. -/
abbrev RailFrame (s u : State) : Prop := Breaks (∀ p : Fin 2, s.port[p].exch = none) railKeys s u

theorem RailFrame.refl : RailFrame s s := Breaks.refl id

theorem SwDev.rail {n : Fin 6} (h : SwDev n s u) : RailFrame s u := by
  have hport : u.port = s.port := by
    obtain ⟨-, -, -, -, -, hport, -⟩ := h.blocks
    exact hport (by simp)
  exact RailFrame.refl.of_dev (h.weaken (swKeys_rail n) fun _ h => h) hport

/-- What RAILSET with an operation other than on leaves of a rail, in the words of O57. -/
structure RailSetDone (s : State) (c op v : Nat) (u : State) : Prop where
  frame : RailFrame s u
  off : op = 0 ∨ op = 2 → s.follower (c - 1) = false → u.railEn c = false
  same : op = 3 → u.railEn c = s.railEn c
  channel : v ≠ 0xFFFF → ∀ n : Fin 6, c = n.val + 1 → s.follower n = false → u.get (F.SW_REF_TARGET n) = v
  ldo : v ≠ 0xFFFF → 7 ≤ c → c ≤ 10 → u.get (F.SEQ_LDO_VSET (c - 7)) = v
  mark : v ≠ 0xFFFF → ∀ p : Fin 2, c = 17 + p.val → u.get (F.P_LINE_MARK p) = min v s.markCap

/-- setv and then rail, as RAILSET gives them. -/
def State.railSetv (s : State) (c v : Nat) : State := if v = 0xFFFF then s else s.applySetv c v

def State.railSet (s : State) (c op v : Nat) (e : Sense) : State :=
  if op = 3 then s.railSetv c v else (s.railSetv c v).applyRail c op e

theorem railEn_channel (u : State) (n : Fin 6) : u.railEn (n.val + 1) = u.on (F.SW_CTL_EN n) := by
  unfold State.railEn
  rw [if_pos (by omega)]
  rfl

theorem railSet_channel (s : State) (n : Fin 6) {op v : Nat} (e : Sense) (h1 : op ≠ 1) (hv : v = 0xFFFF ∨ v ≤ 1250) :
    RailSetDone s (n.val + 1) op v (s.railSet (n.val + 1) op v e) := by
  have hset : SwDev n s (s.railSetv (n.val + 1) v) ∧
      (s.railSetv (n.val + 1) v).on (F.SW_CTL_EN n) = s.on (F.SW_CTL_EN n) ∧
      (∀ k, (s.railSetv (n.val + 1) v).follower k = s.follower k) ∧
      (v ≠ 0xFFFF → s.follower n = false → (s.railSetv (n.val + 1) v).get (F.SW_REF_TARGET n) = v) := by
    unfold State.railSetv
    by_cases h : v = 0xFFFF
    · rw [if_pos h]
      exact ⟨Dev.refl, rfl, fun _ => rfl, fun hne => absurd h hne⟩
    · rw [if_neg h, applySetv_channel]
      exact ⟨Dev.refl.swSetv v, (swSetv_dev s n v).on_eq (setvKeys_ne n).1, swSetv_follower s n v,
        fun _ hf => (swSetv_set s n hf (hv.resolve_left h)).target⟩
  obtain ⟨hdev, hen, hfol, htarget⟩ := hset
  unfold State.railSet
  generalize s.railSetv (n.val + 1) v = y at hdev hen hfol htarget
  have hn : ∀ {m : Fin 6}, n.val + 1 = m.val + 1 → m = n := fun h => Fin.ext (by omega)
  by_cases h3 : op = 3
  · rw [if_pos h3]
    refine ⟨SwDev.rail hdev, fun h => by omega, fun _ => ?_, fun hne m hm hf => ?_, fun _ h7 => by omega, fun _ p hp => by omega⟩
    · rw [railEn_channel, railEn_channel]
      exact hen
    · obtain rfl := hn hm
      exact htarget hne hf
  · rw [if_neg h3, applyRail_channel]
    refine ⟨SwDev.rail (hdev.trans (Dev.swRailOff y n _ h1)), fun _ hf => ?_, fun h => absurd h h3, fun hne m hm hf => ?_,
      fun _ h7 => by omega, fun _ p hp => by omega⟩
    · have hoff : y.swRail n op e.fbCode = y.swDisable n (op == 2) := by
        unfold State.swRail
        rw [if_neg (by rw [hfol]; simpa using hf), if_neg h1]
      rw [railEn_channel, hoff]
      exact (swDisable_off y n _).en
    · obtain rfl := hn hm
      have hoff : y.swRail m op e.fbCode = y.swDisable m (op == 2) := by
        unfold State.swRail
        rw [if_neg (by rw [hfol, hf]; decide), if_neg h1]
      rw [hoff, swDisable_target]
      exact htarget hne hf

/-! ## LDOs and load switches -/

/-- The fields of an LDO or load switch that its start and its way off write, EN apart. -/
abbrev linRest (k : Nat) : List Fld :=
  [State.linRAMP k, State.linDISCH k, State.linCAUSE k, F.SEQ_PG_PG, F.SEQ_STAT_REFUSED]

theorem linKeys_ne (k : Fin 10) : (State.linEN k).key ∉ (linRest k).map Fld.key := by decide +revert

theorem vsetKeys_ne (k : Fin 4) : (F.SEQ_LDO_VSET k).key ∉ (State.linEN k :: linRest k).map Fld.key ∧
    (State.linEN k).key ∉ [F.SEQ_LDO_VSET k].map Fld.key := by decide +revert

theorem linKeys_rail (k : Fin 10) : ∀ j, keysOf (State.linEN k :: linRest k) j → railKeys j := by
  have h : ∀ k : Fin 10, ∀ j ∈ (State.linEN k :: linRest k).map Fld.key, railKeys j := by decide
  exact h k

theorem vset_rail (k : Fin 4) : railKeys (F.SEQ_LDO_VSET k).key := by decide +revert

/-- Power-good of a rail that is neither channel nor port falls. -/
theorem Dev.railDownLin {bs : List Block} {c : Nat} (h : Dev K bs ks s u) (h7 : 7 ≤ c) (h16 : c ≤ 16)
    (hK : K F.SEQ_PG_PG.key := by simp [keysOf]) (hk : 8 ∈ ks := by simp) (hb : .seq ∈ bs := by simp) :
    Dev K bs ks s (u.railDown c) := by
  have hno : u.leads (c - 1) = false := by
    simp [State.leads]
    omega
  have hset : Dev K bs ks s (u.pgSet c false) := by
    unfold State.pgSet
    extract_lets s1
    rw [hno]
    exact h.pgFall (by omega) hK hk
  unfold State.railDown State.riseDrop State.supBlank
  exact (hset.seqUpd hb).seqUpd hb

theorem linOff_off (s : State) (k : Fin 10) (dis : Bool) : (s.linOff k dis).on (State.linEN k) = false ∧
    Dev (keysOf (State.linEN k :: linRest k)) [.seq] [8] s (s.linOff k dis) := by
  have hrest : Dev (keysOf (linRest k)) [.seq] [8] (s.put (State.linEN k) 0) (s.linOff k dis) := by
    unfold State.linOff State.linDis
    exact Dev.railDownLin (((Dev.refl.put).putB).seqUpd) (by omega) (by omega)
  refine ⟨(hrest.on_eq (linKeys_ne k)).trans State.on_put_zero, ?_⟩
  have hput : Dev (keysOf (State.linEN k :: linRest k)) [.seq] [8] s (s.put (State.linEN k) 0) := Dev.refl.put
  exact hput.trans (hrest.weaken (fun _ h => List.mem_cons_of_mem _ h) fun _ h => h)

theorem railEn_lin (u : State) (k : Fin 10) : u.railEn (7 + k.val) = u.on (State.linEN k) := by
  unfold State.railEn
  rw [if_neg (by omega), if_pos (by omega), show 7 + k.val - 7 = k.val by omega]

theorem applyRail_lin (s : State) (k : Fin 10) (op : Nat) (e : Sense) : s.applyRail (7 + k.val) op e = s.linRail k op := by
  have hsw : State.swOfRail (7 + k.val) = none := by decide +revert
  have hport : State.portOfRail (7 + k.val) = none := by decide +revert
  unfold State.applyRail
  rw [hsw, hport]
  dsimp only
  rw [if_pos (by omega), show 7 + k.val - 7 = k.val by omega]

theorem applySetv_ldo (s : State) (k : Fin 4) (code : Nat) :
    s.applySetv (7 + k.val) code = s.put (F.SEQ_LDO_VSET k) code := by
  have hsw : State.swOfRail (7 + k.val) = none := by decide +revert
  have hport : State.portOfRail (7 + k.val) = none := by decide +revert
  unfold State.applySetv
  rw [hsw, hport]
  dsimp only
  rw [if_pos (by omega), show 7 + k.val - 7 = k.val by omega]

theorem RailFrame.lin {k : Fin 10} (h : RailFrame s u) (hd : Dev (keysOf (State.linEN k :: linRest k)) [.seq] ks u v) :
    RailFrame s v := by
  obtain ⟨-, -, -, -, -, hport, -⟩ := hd.blocks
  exact h.of_dev (hd.weaken (linKeys_rail k) fun _ h => h) (hport (by simp))

theorem railSet_lin (s : State) (k : Fin 10) {op v : Nat} (e : Sense) (h1 : op ≠ 1)
    (hv : v = 0xFFFF ∨ k.val < 4 ∧ v ≤ 50) : RailSetDone s (7 + k.val) op v (s.railSet (7 + k.val) op v e) := by
  have hset : RailFrame s (s.railSetv (7 + k.val) v) ∧
      (s.railSetv (7 + k.val) v).on (State.linEN k) = s.on (State.linEN k) ∧
      (v ≠ 0xFFFF → k.val < 4 ∧ (s.railSetv (7 + k.val) v).get (F.SEQ_LDO_VSET k) = v) := by
    unfold State.railSetv
    by_cases h : v = 0xFFFF
    · rw [if_pos h]
      exact ⟨RailFrame.refl, rfl, fun hne => absurd h hne⟩
    · obtain ⟨hk, hle⟩ := hv.resolve_left h
      obtain ⟨-, hne⟩ := vsetKeys_ne ⟨k.val, hk⟩
      rw [if_neg h, applySetv_ldo s ⟨k.val, hk⟩]
      have hlt : v < 2 ^ 6 := by omega
      refine ⟨RailFrame.refl.put (vset_rail ⟨k.val, hk⟩), State.on_put_ne fun heq => hne (by simp [heq]),
        fun _ => ⟨hk, State.get_put_lt (f := F.SEQ_LDO_VSET k) hlt⟩⟩
  obtain ⟨hframe, hen, hvset⟩ := hset
  unfold State.railSet
  generalize s.railSetv (7 + k.val) v = y at hframe hen hvset
  by_cases h3 : op = 3
  · rw [if_pos h3]
    refine ⟨hframe, fun h => by omega, fun _ => ?_, fun hne n hn => by omega, fun hne _ _ => ?_, fun _ p hp => by omega⟩
    · rw [railEn_lin, railEn_lin]
      exact hen
    · rw [show 7 + k.val - 7 = k.val by omega]
      exact (hvset hne).2
  · rw [if_neg h3, applyRail_lin]
    have hoff : y.linRail k op = y.linOff k (op == 2) := if_neg h1
    obtain ⟨hoffEn, hdev⟩ := linOff_off y k (op == 2)
    rw [hoff]
    refine ⟨RailFrame.lin hframe hdev, fun _ _ => (railEn_lin _ k).trans hoffEn, fun h => absurd h h3, fun hne n hn => by omega,
      fun hne _ _ => ?_, fun _ p hp => by omega⟩
    · obtain ⟨hk, hval⟩ := hvset hne
      rw [show 7 + k.val - 7 = k.val by omega, hdev.keys _ (vsetKeys_ne ⟨k.val, hk⟩).1]
      exact hval

/-! ## on, of a rail that is no port -/

/-- A rail that refuses to come on. -/
structure RailRefused (s : State) (c : Nat) (u : State) : Prop where
  frame : RailFrame s u
  en : u.railEn c = false
  refused : u.on F.SEQ_STAT_REFUSED = true

/-- A rail that comes on. -/
structure RailOn (s : State) (c : Nat) (u : State) : Prop where
  frame : RailFrame s u
  en : u.railEn c = true

theorem refusedKey_ne (k : Fin 10) : F.SEQ_STAT_REFUSED.key ≠ (State.linEN k).key := by decide +revert

theorem refusedKey_sw (n : Fin 6) : swKeys n F.SEQ_STAT_REFUSED.key ∧
    F.SEQ_STAT_REFUSED.key ≠ (F.SW_CTL_EN n).key := by decide +revert

theorem onChannel_refused {n : Fin 6} {fb : Nat} (hf : s.follower n = false) (hen : s.railEn (n.val + 1) = false)
    (hstop : s.stopping = true) : RailRefused s (n.val + 1) (s.swRail n 1 fb) := by
  obtain ⟨hk, hne⟩ := refusedKey_sw n
  have heq : s.swRail n 1 fb = s.seqRefuse := by
    unfold State.swRail
    rw [if_neg (by rw [hf]; decide), if_pos rfl, if_pos hstop]
  rw [heq]
  rw [railEn_channel] at hen
  refine ⟨SwDev.rail (Dev.refl.put hk), ?_, State.on_put_one⟩
  rw [railEn_channel]
  exact (State.on_put_ne hne).trans hen

theorem onChannel_on {n : Fin 6} {fb : Nat} (hf : s.follower n = false) (hen : s.railEn (n.val + 1) = false)
    (hstop : s.stopping = false) (hcut : s.cutActive = false) : RailOn s (n.val + 1) (s.swRail n 1 fb) := by
  rw [railEn_channel] at hen
  obtain ⟨hdev, hstart⟩ := swRail_on s n fb hf hen hstop hcut
  exact ⟨SwDev.rail hdev, (railEn_channel _ n).trans hstart.en⟩

theorem onLin_refused {k : Fin 10} (hen : s.railEn (7 + k.val) = false) (hstop : s.stopping = true) :
    RailRefused s (7 + k.val) (s.linRail k 1) := by
  have heq : s.linRail k 1 = s.seqRefuse := by
    unfold State.linRail State.linOn
    rw [if_pos rfl, if_pos hstop, if_pos hstop]
  rw [heq]
  rw [railEn_lin] at hen
  refine ⟨RailFrame.lin (k := k) (ks := []) RailFrame.refl (Dev.refl.put), ?_, State.on_put_one⟩
  rw [railEn_lin]
  exact (State.on_put_ne (refusedKey_ne k)).trans hen

/-- The state in which a start finds an LDO or load switch: its discharge path open. -/
theorem linRail_on (hstop : s.stopping = false) (k : Fin 10) :
    s.linRail k 1 = (s.put (State.linDISCH k) 0).linOn k ∧ (s.put (State.linDISCH k) 0).stopping = false := by
  refine ⟨?_, hstop⟩
  unfold State.linRail
  rw [if_pos rfl, if_neg (by rw [hstop]; decide)]

theorem linEn_width (k : Fin 10) : 0 < (State.linEN k).width := by decide +revert

theorem dischKeys_ne (k : Fin 10) : (State.linDISCH k).key ≠ F.SYS_DOMSTAT_PG.key ∧
    (State.linDISCH k).key ≠ (State.linEN k).key ∧ (State.linDISCH k).key ≠ F.THERM_SUSP_S.key ∧
    F.THERM_SUSP_S.key ∉ (State.linEN k :: linRest k).map Fld.key ∧
    (∀ f ∈ [State.linRAMP k, State.linCAUSE k], f.key ≠ (State.linEN k).key) := by decide +revert

theorem onLdo_refused {k : Fin 10} (hk : k.val < 4) (hstop : s.stopping = false) (hpg : s.domPg 13 = false) :
    RailRefused s (7 + k.val) (s.linRail k 1) := by
  obtain ⟨hdom, -, -, -, hcause⟩ := dischKeys_ne k
  obtain ⟨heq, hstop'⟩ := linRail_on hstop k
  have hpg' : (s.put (State.linDISCH k) 0).domPg 13 = false := by
    rw [← hpg]
    unfold State.domPg State.bit
    rw [State.get_put_ne _ _ _ _ hdom]
  have hframe : RailFrame s (s.put (State.linDISCH k) 0) :=
    RailFrame.lin (k := k) (ks := []) RailFrame.refl (Dev.refl.put)
  rw [heq]
  generalize s.put (State.linDISCH k) 0 = y at hstop' hpg' hframe
  have hon : y.linOn k = ((y.put (State.linEN k) 0).put (State.linCAUSE k) 2).seqRefuse := by
    unfold State.linOn
    rw [if_neg (by rw [hstop']; decide), if_pos ⟨hk, hpg'⟩]
  rw [hon]
  refine ⟨RailFrame.lin (k := k) (ks := []) hframe (((Dev.refl.put).put).put), ?_, State.on_put_one⟩
  rw [railEn_lin]
  exact (State.on_put_ne (refusedKey_ne k)).trans ((State.on_put_ne (hcause _ (by simp))).trans State.on_put_zero)

theorem onLin_on {k : Fin 10} (hen : s.railEn (7 + k.val) = false) (hstop : s.stopping = false)
    (hcut : s.cutActive = false) (hpg : k.val < 4 → s.domPg 13 = true) : RailOn s (7 + k.val) (s.linRail k 1) := by
  obtain ⟨hdom, hden, hdsusp, hsusp, hrest⟩ := dischKeys_ne k
  obtain ⟨heq, hstop'⟩ := linRail_on hstop k
  have hpg' : k.val < 4 → (s.put (State.linDISCH k) 0).domPg 13 = true := fun hk => by
    rw [← hpg hk]
    unfold State.domPg State.bit
    rw [State.get_put_ne _ _ _ _ hdom]
  have hframe : RailFrame s (s.put (State.linDISCH k) 0) :=
    RailFrame.lin (k := k) (ks := []) RailFrame.refl (Dev.refl.put)
  have hen' : (s.put (State.linDISCH k) 0).on (State.linEN k) = false := by
    rw [State.on_put_ne hden]
    exact (railEn_lin s k).symm.trans hen
  have hcut' : (s.put (State.linDISCH k) 0).cutActive = false := by
    rw [← hcut]
    unfold State.cutActive
    rw [State.get_put_ne _ _ _ _ hdsusp]
    rfl
  rw [heq]
  generalize s.put (State.linDISCH k) 0 = y at hstop' hpg' hframe hen' hcut'
  unfold State.linOn
  rw [if_neg (by rw [hstop']; decide), if_neg fun h => by rw [hpg' h.1] at h; exact absurd h.2 (by decide)]
  extract_lets s0 s1
  have hd0 : Dev (keysOf (State.linEN k :: linRest k)) [.seq] [] y s0 := Dev.refl.seqUpd
  have hd : Dev (keysOf (State.linEN k :: linRest k)) [.seq] [] y s1 := (((hd0.put).put).put).seqUpd
  have hcut1 : s1.cutActive = false := by
    rw [← hcut']
    unfold State.cutActive
    rw [hd.keys _ hsusp]
    rfl
  have hen1 : s1.on (State.linEN k) = true :=
    (State.on_put_ne (hrest _ (by simp))).trans ((State.on_put_ne (hrest _ (by simp))).trans (State.on_put_one (linEn_width k)))
  rw [if_neg (ne_true_of_eq_false hen'), if_neg (ne_true_of_eq_false hcut1)]
  exact ⟨RailFrame.lin hframe hd, (railEn_lin _ k).trans hen1⟩

/-! ## Ports -/

theorem railEn_port (u : State) (p : Fin 2) : u.railEn (17 + p.val) = u.on (F.P_CTL_EN p) := by
  unfold State.railEn
  rw [if_neg (by omega), if_neg (by omega), if_pos (by omega), show 17 + p.val - 17 = p.val by omega]

theorem portOfRail_port (p : Fin 2) : State.swOfRail (17 + p.val) = none ∧ State.portOfRail (17 + p.val) = some p := by
  decide +revert

theorem applySetv_port (s : State) (p : Fin 2) (code : Nat) : s.applySetv (17 + p.val) code = s.portSetv p code := by
  obtain ⟨hsw, hport⟩ := portOfRail_port p
  unfold State.applySetv
  rw [hsw, hport]

theorem applyRail_port (s : State) (p : Fin 2) (op : Nat) (e : Sense) : s.applyRail (17 + p.val) op e =
    if op = 1 then s.portEnable p e.lineBelow12V else s.portOff p := by
  obtain ⟨hsw, hport⟩ := portOfRail_port p
  unfold State.applyRail
  rw [hsw, hport]

theorem portKeys_rail (p : Fin 2) : ∀ k, keysOf (F.P_CTL_EN p :: openFields p) k → railKeys k := by
  have h : ∀ p : Fin 2, ∀ k ∈ (F.P_CTL_EN p :: openFields p).map Fld.key, railKeys k := by decide
  exact h p

theorem markKeys (p : Fin 2) : railKeys (F.P_LINE_MARK p).key ∧ railKeys (F.P_MEAS_MEASOK p).key ∧
    (F.P_LINE_MARK p).key ≠ (F.P_CTL_EN p).key ∧ (F.P_MEAS_MEASOK p).key ≠ (F.P_CTL_EN p).key := by decide +revert

/-- setv of a port's mark. -/
theorem portSetv_mark (s : State) (p : Fin 2) (v : Nat) : RailFrame s (s.portSetv p v) ∧
    (s.portSetv p v).on (F.P_CTL_EN p) = s.on (F.P_CTL_EN p) ∧
    (s.portSetv p v).get (F.P_LINE_MARK p) = min v s.markCap := by
  obtain ⟨hmark, hok, hme, hoe⟩ := markKeys p
  have hcap : s.markCap ≤ 180 := Nat.sub_le _ _
  unfold State.portSetv State.setMark
  extract_lets c s1
  have h1 : RailFrame s s1 ∧ s1.on (F.P_CTL_EN p) = s.on (F.P_CTL_EN p) := by
    unfold s1
    split
    · exact ⟨RailFrame.refl.put hok, State.on_put_ne hoe⟩
    · exact ⟨RailFrame.refl, rfl⟩
  refine ⟨(h1.1.put hmark).portUpd p, ?_, ?_⟩
  · rw [State.on_portUpd, State.on_put_ne hme]
    exact h1.2
  · rw [State.get_portUpd]
    exact State.get_put_lt (f := F.P_LINE_MARK p) (show c < 2 ^ 8 by omega)

theorem railSet_port (s : State) (p : Fin 2) {op v : Nat} (e : Sense) (h1 : op ≠ 1) :
    RailSetDone s (17 + p.val) op v (s.railSet (17 + p.val) op v e) := by
  have hset : RailFrame s (s.railSetv (17 + p.val) v) ∧
      (s.railSetv (17 + p.val) v).on (F.P_CTL_EN p) = s.on (F.P_CTL_EN p) ∧
      (v ≠ 0xFFFF → (s.railSetv (17 + p.val) v).get (F.P_LINE_MARK p) = min v s.markCap) := by
    unfold State.railSetv
    by_cases h : v = 0xFFFF
    · rw [if_pos h]
      exact ⟨RailFrame.refl, rfl, fun hne => absurd h hne⟩
    · rw [if_neg h, applySetv_port]
      obtain ⟨hframe, hen, hmark⟩ := portSetv_mark s p v
      exact ⟨hframe, hen, fun _ => hmark⟩
  obtain ⟨hframe, hen, hmark⟩ := hset
  have hp : ∀ {j : Fin 2}, 17 + p.val = 17 + j.val → j = p := fun h => Fin.ext (by omega)
  unfold State.railSet
  generalize s.railSetv (17 + p.val) v = y at hframe hen hmark
  by_cases h3 : op = 3
  · rw [if_pos h3]
    refine ⟨hframe, fun h => by omega, fun _ => ?_, fun _ n hn => by omega, fun _ _ h10 => by omega, fun hne j hj => ?_⟩
    · rw [railEn_port, railEn_port]
      exact hen
    · obtain rfl := hp hj
      exact hmark hne
  · rw [if_neg h3, applyRail_port, if_neg h1]
    obtain ⟨hoff, hbreaks⟩ := portOff_off y p fun q => (hframe.quiet q).1
    refine ⟨hframe.trans (hbreaks.weaken (portKeys_rail p)), fun _ _ => (railEn_port _ p).trans hoff,
      fun h => absurd h h3, fun _ n hn => by omega, fun _ _ h10 => by omega, fun hne j hj => ?_⟩
    obtain rfl := hp hj
    rw [hbreaks.keys _ (enKey_ne j).2]
    exact hmark hne

/-- A port that is refused. -/
structure PortRefused (s : State) (p : Fin 2) (u : State) : Prop where
  frame : RailFrame s u
  en : u.on (F.P_CTL_EN p) = false
  refused : u.on (F.P_STAT_REFUSED p) = true

theorem PortRefused.tickFree (h : PortRefused s p u) : PortRefused s p u.tickFree := ⟨h.frame.tickFree, h.en, h.refused⟩

theorem refuseKeys (p : Fin 2) :
    (∀ f ∈ [F.P_STAT_REFUSED p, F.P_STAT_REFCAUSE p, F.P_CNT_REFUSECNT p, F.P_STAT_STATEV p, F.SEQ_STAT_REFUSED],
      railKeys f.key ∧ f.key ≠ (F.P_CTL_EN p).key) ∧
    (∀ f ∈ [F.P_STAT_REFCAUSE p, F.P_CNT_REFUSECNT p, F.P_STAT_STATEV p], f.key ≠ (F.P_STAT_REFUSED p).key) := by
  decide +revert

theorem portRefuse_refused {y : State} (h : RailFrame s y) (hen : y.on (F.P_CTL_EN p) = false) (cause : Nat) :
    PortRefused s p (y.portRefuse p cause) := by
  obtain ⟨hkeys, hne⟩ := refuseKeys p
  unfold State.portRefuse State.portEvent State.flagRaise
  have h1 : RailFrame s (((y.put (F.P_STAT_REFUSED p) 1).put (F.P_STAT_REFCAUSE p) cause).bump (F.P_CNT_REFUSECNT p)) :=
    ((h.put (hkeys _ (by simp)).1).put (hkeys _ (by simp)).1).bump (hkeys _ (by simp)).1
  have hen1 : (((y.put (F.P_STAT_REFUSED p) 1).put (F.P_STAT_REFCAUSE p) cause).bump (F.P_CNT_REFUSECNT p)).on
      (F.P_CTL_EN p) = false :=
    (State.on_put_ne (hkeys _ (by simp)).2).trans ((State.on_put_ne (hkeys _ (by simp)).2).trans
      ((State.on_put_ne (hkeys _ (by simp)).2).trans hen))
  have href1 : (((y.put (F.P_STAT_REFUSED p) 1).put (F.P_STAT_REFCAUSE p) cause).bump (F.P_CNT_REFUSECNT p)).on
      (F.P_STAT_REFUSED p) = true :=
    (State.on_put_ne (hne _ (by simp))).trans ((State.on_put_ne (hne _ (by simp))).trans State.on_put_one)
  generalize ((y.put (F.P_STAT_REFUSED p) 1).put (F.P_STAT_REFCAUSE p) cause).bump (F.P_CNT_REFUSECNT p) = z at h1 hen1 href1
  split
  · exact ⟨h1, hen1, href1⟩
  · refine ⟨(h1.put (hkeys _ (by simp)).1).raise _, ?_, ?_⟩
    · rw [State.on_raise, State.on_put_ne (hkeys _ (by simp)).2]
      exact hen1
    · rw [State.on_raise, State.on_put_ne (hne _ (by simp))]
      exact href1

theorem onPort_refused {low : Bool} (hen : s.on (F.P_CTL_EN p) = false)
    (hfit : ¬(s.portFails p low = [] ∧ s.modeForbidden p (s.get (F.P_CTL_MODE p)) = false)) :
    PortRefused s p (s.portEnable p low) := by
  obtain ⟨hkeys, -⟩ := refuseKeys p
  unfold State.portEnable
  rw [if_neg (ne_true_of_eq_false hen)]
  extract_lets s0
  have h0 : RailFrame s s0 ∧ s0.on (F.P_CTL_EN p) = false := by
    unfold s0
    split
    · exact ⟨RailFrame.refl.put (hkeys _ (by simp)).1, (State.on_put_ne (hkeys F.SEQ_STAT_REFUSED (by simp)).2).trans hen⟩
    · exact ⟨RailFrame.refl, hen⟩
  obtain ⟨hframe, hen0⟩ := h0
  split
  · exact portRefuse_refused hframe hen0 3
  next hmode =>
    split
    next hnil => exact absurd ⟨hnil, by simpa using hmode⟩ hfit
    · exact portRefuse_refused hframe hen0 _
    · exact (portRefuse_refused hframe hen0 _).tickFree

/-- The fields that the start of a port writes. -/
abbrev onFields (p : Fin 2) : List Fld :=
  [F.P_CTL_EN p, F.P_STAT_ON p, F.P_STAT_RAMPING p, F.U_CFG_DBITS (3 + p.val), F.U_CFG_PAR (3 + p.val),
    F.U_CFG_PRESC (3 + p.val), F.U_DIV_DIVI (3 + p.val), F.U_DIV_DIVF (3 + p.val)]

theorem onFields_rail (p : Fin 2) : ∀ f ∈ onFields p, railKeys f.key := by decide +revert

theorem onKeys_ne (p : Fin 2) : (∀ f ∈ [F.P_IBASE_IBASE p, F.P_RX_ULMAX p, F.THERM_SUSP_S], f.key ∉ (onFields p).map Fld.key) ∧
    (∀ f ∈ [F.P_STAT_ON p, F.P_STAT_RAMPING p, F.U_CFG_DBITS (3 + p.val), F.U_CFG_PAR (3 + p.val),
      F.U_CFG_PRESC (3 + p.val), F.U_DIV_DIVI (3 + p.val), F.U_DIV_DIVF (3 + p.val)], f.key ≠ (F.P_CTL_EN p).key) := by
  decide +revert

/-- A value below the midpoint rounds down. -/
theorem roundNearest_le (y : State) {num m : Nat} (h : num < 150 * m + 75) : y.roundNearest num 150 ≤ m := by
  unfold State.roundNearest
  dsimp only
  split
  · omega
  · split
    · omega
    · omega

/-- The framer's rate. -/
theorem Breaks.engineRate (h : Breaks Q K s u) (hK : ∀ f ∈ onFields p, K f.key) (code : Nat) :
    Breaks Q K s (u.engineRate p code) := by
  unfold State.engineRate
  extract_lets w d s1 s2
  have h1 : Breaks Q K s s1 := h.portUpd p
  refine h1.andIf fun h => ?_
  have h2 : Breaks Q K s s2 := ((h.put (hK (F.U_CFG_DBITS (3 + p.val)) (by simp))).put
    (hK (F.U_CFG_PAR (3 + p.val)) (by simp))).putB (hK (F.U_CFG_PRESC (3 + p.val)) (by simp))
  exact (h2.put (hK (F.U_DIV_DIVI (3 + p.val)) (by simp))).put (hK (F.U_DIV_DIVF (3 + p.val)) (by simp))

theorem engineRate_keeps (y : State) (p : Fin 2) (code : Nat) :
    (y.engineRate p code).on (F.P_CTL_EN p) = y.on (F.P_CTL_EN p) ∧ (y.engineRate p code).seq = y.seq := by
  obtain ⟨-, hne⟩ := onKeys_ne p
  unfold State.engineRate
  extract_lets w d s1 s2
  split
  · refine ⟨?_, rfl⟩
    exact (State.on_put_ne (hne (F.U_DIV_DIVF (3 + p.val)) (by simp))).trans
      ((State.on_put_ne (hne (F.U_DIV_DIVI (3 + p.val)) (by simp))).trans
        ((State.on_put_ne (hne (F.U_CFG_PRESC (3 + p.val)) (by simp))).trans
          ((State.on_put_ne (hne (F.U_CFG_PAR (3 + p.val)) (by simp))).trans
            (State.on_put_ne (hne (F.U_CFG_DBITS (3 + p.val)) (by simp))))))
  · exact ⟨rfl, rfl⟩

/-- The port as its start finds it on: EN, ON and the ramp, before the rate of a target's framer. -/
def State.portRise (s : State) (p : Fin 2) : State :=
  ((((s.put (F.P_CTL_EN p) 1).put (F.P_STAT_ON p) 1).put (F.P_STAT_RAMPING p) 1).portUpd p (fun x => { x with
    txWait := true, lineGone := false, ignoring := s.isTarget p, junk := false })).supBlank (17 + p.val)

/-- The port that has come on, before it is checked. -/
def State.portUp (s : State) (p : Fin 2) : State :=
  if s.isTarget p then (s.portRise p).engineRate p (s.get (F.P_TSET_TBAUD p)) else s.portRise p

theorem portOn_eq (s : State) (p : Fin 2) :
    s.portOn p = if (s.portUp p).cutActive then (s.portUp p).portOffFor p 4 else (s.portUp p).checkUl p := rfl

/-- What the start of a port has done before its checks. -/
structure PortRaised (s : State) (p : Fin 2) (u : State) : Prop where
  frame : Breaks (∀ p : Fin 2, s.port[p].exch = none) (keysOf (onFields p)) s u
  en : u.on (F.P_CTL_EN p) = true
  cutNow : u.seq.cutNow = s.seq.cutNow

theorem portRise_raised (s : State) (p : Fin 2) : PortRaised s p (s.portRise p) := by
  obtain ⟨-, hne⟩ := onKeys_ne p
  have hin : ∀ f ∈ onFields p, keysOf (onFields p) f.key := fun f hf => List.mem_map_of_mem hf
  have h1 : Breaks (∀ p : Fin 2, s.port[p].exch = none) (keysOf (onFields p)) s
      (((s.put (F.P_CTL_EN p) 1).put (F.P_STAT_ON p) 1).put (F.P_STAT_RAMPING p) 1) :=
    (((Breaks.refl id).put (hin _ (by simp))).put (hin _ (by simp))).put (hin _ (by simp))
  have hen : (((s.put (F.P_CTL_EN p) 1).put (F.P_STAT_ON p) 1).put (F.P_STAT_RAMPING p) 1).on (F.P_CTL_EN p) = true :=
    (State.on_put_ne (hne _ (by simp))).trans ((State.on_put_ne (hne _ (by simp))).trans State.on_put_one)
  have hcut : (((s.put (F.P_CTL_EN p) 1).put (F.P_STAT_ON p) 1).put (F.P_STAT_RAMPING p) 1).seq.cutNow = s.seq.cutNow :=
    rfl
  unfold State.portRise
  generalize ((s.put (F.P_CTL_EN p) 1).put (F.P_STAT_ON p) 1).put (F.P_STAT_RAMPING p) 1 = y at h1 hen hcut
  exact ⟨(h1.portUpd p).seqUpd _, hen, hcut⟩

theorem portUp_raised (s : State) (p : Fin 2) : PortRaised s p (s.portUp p) := by
  obtain ⟨hframe, hen, hcut⟩ := portRise_raised s p
  unfold State.portUp
  generalize s.portRise p = y at hframe hen hcut
  split
  · obtain ⟨hon, hseq⟩ := engineRate_keeps y p (s.get (F.P_TSET_TBAUD p))
    exact ⟨hframe.engineRate (fun f hf => List.mem_map_of_mem hf) _, hon.trans hen, (congrArg SeqSt.cutNow hseq).trans hcut⟩
  · exact ⟨hframe, hen, hcut⟩

/-- A port whose unit loads are within its limit stays as it is. -/
theorem checkUl_within (y : State) (p : Fin 2) (h : y.get (F.P_IBASE_IBASE p) < 150 * y.get (F.P_RX_ULMAX p) + 75) :
    y.checkUl p = y.tickFree :=
  if_neg (Nat.not_lt.2 (roundNearest_le y h))

theorem onPort_on {low : Bool} (hen : s.on (F.P_CTL_EN p) = false)
    (hfit : s.portFails p low = [] ∧ s.modeForbidden p (s.get (F.P_CTL_MODE p)) = false) (hcut : s.cutActive = false)
    (hul : s.get (F.P_IBASE_IBASE p) < 150 * s.get (F.P_RX_ULMAX p) + 75) :
    RailFrame s (s.portEnable p low) ∧ (s.portEnable p low).on (F.P_CTL_EN p) = true := by
  obtain ⟨hkeep, -⟩ := onKeys_ne p
  obtain ⟨hnil, hmode⟩ := hfit
  have heq : s.portEnable p low = s.portOn p := by
    unfold State.portEnable
    rw [if_neg (ne_true_of_eq_false hen)]
    dsimp only
    rw [if_neg (ne_true_of_eq_false hmode), hnil]
  obtain ⟨hdev, hon, hcutNow⟩ := portUp_raised s p
  rw [heq, portOn_eq]
  generalize s.portUp p = y at hdev hon hcutNow
  have hcut' : y.cutActive = false := by
    rw [← hcut]
    unfold State.cutActive
    rw [hcutNow, hdev.keys _ (hkeep _ (by simp))]
  have hul' : y.get (F.P_IBASE_IBASE p) < 150 * y.get (F.P_RX_ULMAX p) + 75 := by
    rw [hdev.keys _ (hkeep _ (by simp)), hdev.keys _ (hkeep _ (by simp))]
    exact hul
  rw [if_neg (ne_true_of_eq_false hcut'), checkUl_within y p hul']
  have hframe : RailFrame s y := hdev.weaken fun k hk => by
    obtain ⟨f, hf, rfl⟩ := List.mem_map.1 hk
    exact onFields_rail p f hf
  exact ⟨hframe.tickFree, hon⟩

end Sys2Proof.Machine
end

section
/-!
SUPPORT. RAILSET as a whole, and O57.
-/

set_option Elab.async false

namespace Sys2Proof.Machine

section

variable {s u y : State} {x : Presented}

/-! ## The frame of RAILSET -/

theorem onlyRanges_of_keysIn {rs : List (Nat × Nat)} {fs : List Fld}
    (h : ∀ g : Fld, ¬keysIn rs fs g.key → u.get g = s.get g) : OnlyRanges s u rs fs := by
  refine fun g hg hr => h g fun hk => ?_
  rcases hk with hk | ⟨r, hmem, hlo, hhi⟩
  · exact hg hk
  · rcases hr r hmem with h' | h'
    · omega
    · omega

theorem BlocksBut.more {bs cs : List Block} (h : BlocksBut bs s u) (hb : ∀ b ∈ bs, b ∈ cs) : BlocksBut cs s u := by
  obtain ⟨h1, h2, h3, h4, h5, h6, h7, h8, h9, h10, h11, h12⟩ := h
  exact ⟨fun n => h1 (n ∘ hb _), fun n => h2 (n ∘ hb _), fun n => h3 (n ∘ hb _), fun n => h4 (n ∘ hb _),
    fun n => h5 (n ∘ hb _), fun n => h6 (n ∘ hb _), fun n => h7 (n ∘ hb _), fun n => h8 (n ∘ hb _),
    fun n => h9 (n ∘ hb _), fun n => h10 (n ∘ hb _), fun n => h11 (n ∘ hb _), fun n => h12 (n ∘ hb _)⟩

/-- The frame of RAILSET in the words of O57. -/
abbrev KernelRails (s u : State) : Prop :=
  u.core.latch = s.core.latch ∧
    OnlyRanges s u [(0x40008000, 0x4000E000), (0x40010000, 0x40011000), (0x40014000, 0x40016000),
      (0x4001F000, 0x40021000)] [] ∧
    BlocksBut [.sw, .seq, .port, .host] s u ∧ ProgramsSame s u ∧ u.core.sb = s.core.sb ∧ u.pending = s.pending ∧
    ((∀ p : Fin 2, s.port[p].exch = none) → u.mem = s.mem)

theorem RailFrame.kernel (h : RailFrame s y) (rc : Nat) (data : List Byte) :
    KernelRails s (y.portComplete .kernel rc data) := by
  obtain ⟨hkeys, hblocks, hprog, hsb, hlatch, hpend, hquiet⟩ := h
  have hend := (Dev.portComplete (p := .kernel) (rc := rc) (data := data) (Dev.refl (K := keysOf []) (bs := [.host]) (ks := []) (s := y)))
  obtain ⟨hprog', hsb', hlatch'⟩ := CoreBut.programs hend.core
  exact ⟨hlatch'.trans hlatch, onlyRanges_of_keysIn fun g hg => (State.get_portComplete ..).trans (hkeys g hg),
    (hblocks.more (by simp)).trans (hend.blocks.more (by simp)), hprog.trans hprog', hsb'.trans hsb,
    hend.pending.trans hpend, fun q => hend.mem.trans (hquiet q).2⟩

theorem RailFrame.host (h : RailFrame s y) : y.host = s.host := by
  obtain ⟨-, -, -, -, -, -, hhost, -⟩ := h.blocks
  exact hhost (by simp)

theorem railEn_portComplete (y : State) (p : ExecPort) (rc : Nat) (data : List Byte) (c : Nat) :
    (y.portComplete p rc data).railEn c = y.railEn c := by
  rw [portComplete_eq]
  rfl

/-! ## The work of RAILSET -/

/-- The codes that setv takes of a rail (R132). -/
theorem setvMax_any {c v : Nat} (h1 : 1 ≤ c) (h18 : c ≤ 18) : (setvMax c).any (fun m => decide (v ≤ m)) = true ↔
    (c ≤ 10 ∨ 17 ≤ c) ∧ v ≤ (if c ≤ 6 then 1250 else if c ≤ 10 then 50 else 180) := by
  unfold setvMax
  by_cases h6 : c ≤ 6
  · simp [h1, h6]
    omega
  · by_cases h10 : c ≤ 10
    · have h7 : 7 ≤ c := by omega
      simp [h6, h10, h7]
    · by_cases h17 : c = 17 ∨ c = 18
      · simp [h6, h10, h17]
        omega
      · simp [h6, h10, h17]
        omega

theorem railsetWork_eq (s : State) (e : Sense) (w : Fin 4) {pay : List Byte} {c op v : Nat} (hc : ldLe pay 0 1 = c)
    (hop : ldLe pay 1 1 = op) (hv : ldLe pay 2 2 = v) : s.railsetWork e w pay =
      if c < 1 ∨ 18 < c ∨ 3 < op then s.kres rcBADARG []
      else if s.winRail w c = false then s.kres rcPERM []
      else if (v ≠ 0xFFFF && !((setvMax c).any (fun m => decide (v ≤ m)))) = true then s.kres rcBADARG []
      else if s.railLive c = false then s.tickFree.kres rcDEVREF [BitVec.ofNat 8 (Config.freeAt s.free 2)]
      else match (if op = 1 then (s.railSetv c v).railRefusal (s.railSet c op v e) e c else none) with
        | some cause => (s.railSet c op v e).tickFree.kres rcDEVREF [BitVec.ofNat 8 cause]
        | none => (s.railSet c op v e).kres rcOK [0] := by
  subst hc hop hv
  rfl

/-- The four bytes of RAILSET. -/
theorem railset_args (b op lo hi : Byte) : ldLe [b, op, lo, hi] 0 1 = b.toNat ∧ ldLe [b, op, lo, hi] 1 1 = op.toNat ∧
    ldLe [b, op, lo, hi] 2 2 = lo.toNat + 256 * hi.toNat := by
  simp [ldLe]

theorem portOfRail_none {c : Nat} (h : c ≤ 16) : State.portOfRail c = none := by
  unfold State.portOfRail
  exact dif_neg (by omega)

/-- Where an enable of a rail that is no port is refused. -/
theorem railRefusal_refused {c : Nat} (hc : c ≤ 16) (e : Sense) (y : State)
    (h : (s.stopping = true ∧ s.railEn c = false ∧ s.follower (c - 1) = false) ∨ (7 ≤ c ∧ c ≤ 10 ∧ s.domPg 13 = false)) :
    ∃ cause, s.railRefusal y e c = some cause := by
  unfold State.railRefusal
  rw [portOfRail_none hc]
  dsimp only
  split
  · exact ⟨_, rfl⟩
  next hno =>
    split
    · exact ⟨_, rfl⟩
    next hno' =>
      rcases h with h | h
      · exact absurd h hno
      · exact absurd h hno'

theorem railRefusal_none {c : Nat} (hc : c ≤ 16) (e : Sense) (y : State) (hstop : s.stopping = false)
    (hpg : 7 ≤ c → c ≤ 10 → s.domPg 13 = true) : s.railRefusal y e c = none := by
  unfold State.railRefusal
  rw [portOfRail_none hc]
  dsimp only
  rw [if_neg (by rw [hstop]; simp), if_neg fun h => by rw [hpg h.1 h.2.1] at h; exact absurd h.2.2 (by decide)]

/-- The ports' refusals. -/
theorem railRefusal_port (s y : State) (p : Fin 2) (e : Sense) : s.railRefusal y e (17 + p.val) =
    if y.on (F.P_CTL_EN p) = true ∨
      ((s.portFails p e.lineBelow12V).isEmpty && !s.modeForbidden p (s.get (F.P_CTL_MODE p))) = true
    then none else some (y.get (F.P_STAT_REFCAUSE p)) := by
  unfold State.railRefusal
  rw [(portOfRail_port p).2]

theorem portFit_iff (s : State) (p : Fin 2) (low : Bool) :
    ((s.portFails p low).isEmpty && !s.modeForbidden p (s.get (F.P_CTL_MODE p))) = true ↔
      s.portFails p low = [] ∧ s.modeForbidden p (s.get (F.P_CTL_MODE p)) = false := by
  simp

/-! ## RAILSET with the rail present -/

/-- on, of a rail that has its code. -/
theorem railSet_on (s : State) (c : Nat) (e : Sense) : s.railSetv c 0xFFFF = s ∧ s.railSet c 1 0xFFFF e = s.applyRail c 1 e :=
  ⟨if_pos rfl, (if_neg (by decide)).trans (by rw [State.railSetv, if_pos rfl])⟩

/-- A rail number is a channel, an LDO or load switch, or a port. -/
theorem rail_cases {c : Nat} (h1 : 1 ≤ c) (h18 : c ≤ 18) : (∃ n : Fin 6, c = n.val + 1) ∨ (∃ k : Fin 10, c = 7 + k.val) ∨
    ∃ p : Fin 2, c = 17 + p.val := by
  by_cases h6 : c ≤ 6
  · exact .inl ⟨⟨c - 1, by omega⟩, by simp; omega⟩
  · by_cases h16 : c ≤ 16
    · exact .inr (.inl ⟨⟨c - 7, by omega⟩, by simp; omega⟩)
    · exact .inr (.inr ⟨⟨c - 17, by omega⟩, by simp; omega⟩)

/-- RAILSET with another operation than on. -/
theorem railSet_done {c op v : Nat} (e : Sense) (h1 : 1 ≤ c) (h18 : c ≤ 18) (hop : op ≠ 1)
    (hv : v = 0xFFFF ∨ (c ≤ 10 ∨ 17 ≤ c) ∧ v ≤ (if c ≤ 6 then 1250 else if c ≤ 10 then 50 else 180)) :
    RailSetDone s c op v (s.railSet c op v e) := by
  obtain ⟨n, rfl⟩ | ⟨k, rfl⟩ | ⟨p, rfl⟩ := rail_cases h1 h18
  · rw [if_pos (by omega)] at hv
    exact railSet_channel s n e hop (hv.imp id And.right)
  · rw [if_neg (by omega)] at hv
    refine railSet_lin s k e hop (hv.imp id fun ⟨hc, hle⟩ => ?_)
    rw [if_pos (by omega)] at hle
    exact ⟨by omega, hle⟩
  · exact railSet_port s p e hop

/-- on, of a rail that is no port, during a stop or without the LDOs' supply. -/
theorem railSet_refused {c : Nat} (e : Sense) (h1 : 1 ≤ c) (h16 : c ≤ 16) (hen : s.railEn c = false)
    (hf : s.follower (c - 1) = false) (h : s.stopping = true ∨ (7 ≤ c ∧ c ≤ 10 ∧ s.domPg 13 = false)) :
    RailRefused s c (s.applyRail c 1 e) := by
  obtain ⟨n, rfl⟩ | ⟨k, rfl⟩ | ⟨p, rfl⟩ := rail_cases h1 (by omega)
  · rw [applyRail_channel]
    exact onChannel_refused hf hen (h.resolve_right (by omega))
  · rw [applyRail_lin]
    cases hstop : s.stopping with
    | true => exact onLin_refused hen hstop
    | false =>
      obtain ⟨-, h10, hpg⟩ := h.resolve_left (by rw [hstop]; decide)
      exact onLdo_refused (by omega) hstop hpg
  · omega

/-- on, of a rail that is no port and may come on. -/
theorem railSet_comesOn {c : Nat} (e : Sense) (h1 : 1 ≤ c) (h16 : c ≤ 16) (hen : s.railEn c = false)
    (hf : s.follower (c - 1) = false) (hstop : s.stopping = false) (hcut : s.cutActive = false)
    (hpg : 7 ≤ c → c ≤ 10 → s.domPg 13 = true) : RailOn s c (s.applyRail c 1 e) := by
  obtain ⟨n, rfl⟩ | ⟨k, rfl⟩ | ⟨p, rfl⟩ := rail_cases h1 (by omega)
  · rw [applyRail_channel]
    exact onChannel_on hf hen hstop hcut
  · rw [applyRail_lin]
    exact onLin_on hen hstop hcut fun hk => hpg (by omega) (by omega)
  · omega

/-! ## RAILSET as a command -/

section

variable (hk : s.host.kernel = some x) (hr : s.kernelRuns = true) (hq : (s.win x.win).queue.head? = some x.cmd)
include hk hr hq

/-- RAILSET that answers, with what it did. -/
theorem railset_ends {e : Sense} (hc : x.cmd.code = 0x11) (hlen : x.cmd.payload.length = 4) {rc : Nat} {data : List Byte}
    (hw : s.railsetWork e x.win x.cmd.payload = y.kres rc data) (hy : RailFrame s y) (hrc : rc < 16) :
    ∃ u, exec (.railset e) s = .next u ∧ KernelEnds s x rc data u ∧ u = y.portComplete .kernel rc data := by
  have hx : exec (.railset e) s = .next (s.kernelCmd 0x11 3 State.anyRight 4 fun s w p => s.railsetWork e w p) := rfl
  exact kernel_answers hk hr hq hx hc (not_ring_lt s _) rfl hlen hw (RailFrame.host hy) hrc

/-- RAILSET that only answers. -/
theorem railset_plain {e : Sense} (hc : x.cmd.code = 0x11) (hlen : x.cmd.payload.length = 4) {rc : Nat} {data : List Byte}
    (hw : s.railsetWork e x.win x.cmd.payload = s.kres rc data ∨
      s.railsetWork e x.win x.cmd.payload = s.tickFree.kres rc data) (hrc : rc < 16) :
    Gives (.railset e) s (KernelPlain s x rc data) := by
  have hx : exec (.railset e) s = .next (s.kernelCmd 0x11 3 State.anyRight 4 fun s w p => s.railsetWork e w p) := rfl
  exact kernel_plain hk hr hq hx hc (not_ring_lt s _) rfl hlen hw hrc

/-- RAILSET that refuses an enable. -/
theorem railset_refuses {e : Sense} (hc : x.cmd.code = 0x11) (hlen : x.cmd.payload.length = 4) {cause : Nat}
    (hw : s.railsetWork e x.win x.cmd.payload = y.tickFree.kres 5 [BitVec.ofNat 8 cause]) (hy : RailFrame s y) :
    Gives (.railset e) s fun u => KernelEnds s x 5 [BitVec.ofNat 8 cause] u ∧ (∀ c, u.railEn c = y.railEn c) ∧
      (∀ f, u.get f = y.get f) ∧ KernelRails s u := by
  obtain ⟨u, hu, hends, rfl⟩ := railset_ends hk hr hq hc hlen hw hy.tickFree (by decide)
  exact ⟨_, hu, hends, fun c => (railEn_portComplete ..).trans rfl, fun f => State.get_portComplete .., RailFrame.kernel hy.tickFree _ _⟩

/-- RAILSET that is done. -/
theorem railset_does {e : Sense} (hc : x.cmd.code = 0x11) (hlen : x.cmd.payload.length = 4)
    (hw : s.railsetWork e x.win x.cmd.payload = y.kres 0 [0]) (hy : RailFrame s y) :
    Gives (.railset e) s fun u => KernelEnds s x 0 [0] u ∧ (∀ c, u.railEn c = y.railEn c) ∧
      (∀ f, u.get f = y.get f) ∧ KernelRails s u := by
  obtain ⟨u, hu, hends, rfl⟩ := railset_ends hk hr hq hc hlen hw hy (by decide)
  exact ⟨_, hu, hends, fun c => railEn_portComplete .., fun f => State.get_portComplete .., RailFrame.kernel hy _ _⟩

theorem railset_gives (b op lo hi : Byte) (e : Sense) (hc : x.cmd.code = 0x11) (hp : x.cmd.payload = [b, op, lo, hi]) :
    let c := b.toNat
    let v := lo.toNat + 256 * hi.toNat
    let known := 1 ≤ c ∧ c ≤ 18 ∧ op.toNat ≤ 3
    let top := if c ≤ 6 then 1250 else if c ≤ 10 then 50 else 180
    let codeOk := v = 0xFFFF ∨ ((c ≤ 10 ∨ 17 ≤ c) ∧ v ≤ top)
    (¬known → Gives (.railset e) s (KernelPlain s x 4 [])) ∧
    (known → s.winRail x.win c = false → Gives (.railset e) s (KernelPlain s x 3 [])) ∧
    (known → s.winRail x.win c = true → ¬codeOk → Gives (.railset e) s (KernelPlain s x 4 [])) ∧
    (known → s.winRail x.win c = true → codeOk → s.railLive c = false →
      Gives (.railset e) s (fun u => ∃ cause, KernelPlain s x 5 [cause] u)) ∧
    (known → s.winRail x.win c = true → codeOk → s.railLive c = true →
      (op ≠ 1 → Gives (.railset e) s (fun u => KernelEnds s x 0 [0] u ∧ KernelRails s u ∧
        (op.toNat = 0 ∨ op.toNat = 2 → s.follower (c - 1) = false → u.railEn c = false) ∧
        (op = 3 → u.railEn c = s.railEn c) ∧
        (v ≠ 0xFFFF → (∀ n : Fin 6, c = n.val + 1 → s.follower n = false → u.get (F.SW_REF_TARGET n) = v) ∧
          (7 ≤ c → c ≤ 10 → u.get (F.SEQ_LDO_VSET (c - 7)) = v) ∧
          (∀ p : Fin 2, c = 17 + p.val → u.get (F.P_LINE_MARK p) = min v s.markCap)))) ∧
      (op = 1 → s.railEn c = false → s.follower (c - 1) = false → v = 0xFFFF →
        (s.stopping = true → c ≤ 16 → Gives (.railset e) s (fun u => (∃ cause, KernelEnds s x 5 [cause] u) ∧
          u.railEn c = false ∧ u.on F.SEQ_STAT_REFUSED = true ∧ KernelRails s u)) ∧
        (7 ≤ c → c ≤ 10 → s.domPg 13 = false → Gives (.railset e) s (fun u => (∃ cause, KernelEnds s x 5 [cause] u) ∧
          u.railEn c = false ∧ u.on F.SEQ_STAT_REFUSED = true ∧ KernelRails s u)) ∧
        (c ≤ 16 → s.stopping = false → s.cutActive = false → (7 ≤ c → c ≤ 10 → s.domPg 13 = true) →
          Gives (.railset e) s (fun u => KernelEnds s x 0 [0] u ∧ u.railEn c = true ∧ KernelRails s u)) ∧
        (∀ p : Fin 2, c = 17 + p.val →
          let fit := s.portFails p e.lineBelow12V = [] ∧ s.modeForbidden p (s.get (F.P_CTL_MODE p)) = false
          (¬fit → Gives (.railset e) s (fun u => KernelEnds s x 5 [BitVec.ofNat 8 (u.get (F.P_STAT_REFCAUSE p))] u ∧
            u.railEn c = false ∧ u.on (F.P_STAT_REFUSED p) = true ∧ KernelRails s u)) ∧
          (fit → s.cutActive = false → s.get (F.P_IBASE_IBASE p) < 150 * s.get (F.P_RX_ULMAX p) + 75 →
            Gives (.railset e) s (fun u => KernelEnds s x 0 [0] u ∧ u.railEn c = true ∧ KernelRails s u))))) := by
  intro c v known top codeOk
  obtain ⟨hc0, hc1, hc2⟩ := railset_args b op lo hi
  have hlen : x.cmd.payload.length = 4 := by rw [hp]; rfl
  have hwork := railsetWork_eq s e x.win (pay := x.cmd.payload) (c := c) (op := op.toNat) (v := v)
    (hp ▸ hc0) (hp ▸ hc1) (hp ▸ hc2)
  have hany : known → ((v ≠ 0xFFFF && !((setvMax c).any (fun m => decide (v ≤ m)))) = true ↔ ¬codeOk) := fun hkn => by
    have h := setvMax_any (v := v) hkn.1 hkn.2.1
    cases ha : (setvMax c).any (fun m => decide (v ≤ m)) with
    | true =>
      have hle := h.1 ha
      simp only [Bool.not_true, Bool.and_false, Bool.false_eq_true, false_iff, not_not]
      exact .inr hle
    | false =>
      have hle : ¬((c ≤ 10 ∨ 17 ≤ c) ∧ v ≤ top) := fun hle => by
        rw [h.2 hle] at ha
        cases ha
      simp only [Bool.not_false, Bool.and_true, decide_eq_true_eq]
      exact ⟨fun hne hok => hok.elim hne hle, fun hno he => hno (.inl he)⟩
  refine ⟨fun hno => ?_, fun hkn hrail => ?_, fun hkn hrail hno => ?_, fun hkn hrail hok hlive => ?_,
    fun hkn hrail hok hlive => ?_⟩
  · exact railset_plain hk hr hq hc hlen (.inl (hwork.trans (if_pos (by omega)))) (by decide)
  · exact railset_plain hk hr hq hc hlen (.inl (hwork.trans ((if_neg (by omega)).trans (if_pos hrail)))) (by decide)
  · rw [if_neg (by omega), if_neg (ne_false_of_eq_true hrail), if_pos ((hany hkn).2 hno)] at hwork
    exact railset_plain hk hr hq hc hlen (.inl hwork) (by decide)
  · rw [if_neg (by omega), if_neg (ne_false_of_eq_true hrail), if_neg fun h => (hany hkn).1 h hok, if_pos hlive] at hwork
    obtain ⟨u, hu, h⟩ := railset_plain hk hr hq hc hlen (.inr hwork) (by decide)
    exact ⟨u, hu, _, h⟩
  · rw [if_neg (by omega), if_neg (ne_false_of_eq_true hrail), if_neg fun h => (hany hkn).1 h hok,
      if_neg (ne_false_of_eq_true hlive)] at hwork
    refine ⟨fun hop => ?_, fun hop hen hf hv => ?_⟩
    · have hop' : op.toNat ≠ 1 := fun h => hop (BitVec.eq_of_toNat_eq h)
      obtain ⟨hframe, hoff, hsame, hchannel, hldo, hmark⟩ := railSet_done (s := s) e hkn.1 hkn.2.1 hop' hok
      rw [if_neg hop'] at hwork
      refine (railset_does hk hr hq hc hlen hwork hframe).imp fun u hu => ?_
      obtain ⟨hends, hen, hget, hrails⟩ := hu
      refine ⟨hends, hrails, fun h hf => (hen c).trans (hoff h hf), fun h => (hen c).trans (hsame (congrArg BitVec.toNat h)),
        fun hne => ⟨fun n hn hf => (hget _).trans (hchannel hne n hn hf), fun h7 h10 => (hget _).trans (hldo hne h7 h10),
          fun p hcp => (hget _).trans (hmark hne p hcp)⟩⟩
    · obtain ⟨hset, happly⟩ := railSet_on s c e
      rw [show op.toNat = 1 from congrArg BitVec.toNat hop, hv, hset, happly, if_pos rfl] at hwork
      have hrefused : c ≤ 16 → s.stopping = true ∨ (7 ≤ c ∧ c ≤ 10 ∧ s.domPg 13 = false) →
          Gives (.railset e) s (fun u => (∃ cause, KernelEnds s x 5 [cause] u) ∧
            u.railEn c = false ∧ u.on F.SEQ_STAT_REFUSED = true ∧ KernelRails s u) := fun h16 h => by
        obtain ⟨cause, hcause⟩ := railRefusal_refused h16 e (s.applyRail c 1 e) (h.imp (fun h => ⟨h, hen, hf⟩) id)
        obtain ⟨hframe, hoff, href⟩ := railSet_refused e hkn.1 h16 hen hf h
        rw [hcause] at hwork
        refine (railset_refuses hk hr hq hc hlen hwork hframe).imp fun u hu => ?_
        obtain ⟨hends, heq, hget, hrails⟩ := hu
        exact ⟨⟨_, hends⟩, (heq c).trans hoff, (State.on_of_get (hget _)).trans href, hrails⟩
      refine ⟨fun hstop h16 => hrefused h16 (.inl hstop), fun h7 h10 hpg => hrefused (by omega) (.inr ⟨h7, h10, hpg⟩),
        fun h16 hstop hcut hpg => ?_, fun p hcp => ⟨fun hfit => ?_, fun hfit hcut hul => ?_⟩⟩
      · obtain ⟨hframe, hon⟩ := railSet_comesOn e hkn.1 h16 hen hf hstop hcut hpg
        rw [railRefusal_none h16 e _ hstop hpg] at hwork
        refine (railset_does hk hr hq hc hlen hwork hframe).imp fun u hu => ?_
        obtain ⟨hends, heq, -, hrails⟩ := hu
        exact ⟨hends, (heq c).trans hon, hrails⟩
      · rw [hcp] at hwork hen ⊢
        rw [railEn_port] at hen
        obtain ⟨hframe, hoff, href⟩ := onPort_refused hen hfit
        rw [applyRail_port, if_pos rfl, railRefusal_port, if_neg fun h => h.elim (ne_true_of_eq_false hoff)
          fun h => hfit ((portFit_iff s p _).1 h)] at hwork
        refine (railset_refuses hk hr hq hc hlen hwork hframe).imp fun u hu => ?_
        obtain ⟨hends, heq, hget, hrails⟩ := hu
        rw [hget]
        exact ⟨hends, (heq _).trans ((railEn_port _ p).trans hoff), (State.on_of_get (hget _)).trans href, hrails⟩
      · rw [hcp] at hwork hen ⊢
        rw [railEn_port] at hen
        obtain ⟨hframe, hon⟩ := onPort_on (low := e.lineBelow12V) hen hfit hcut hul
        rw [applyRail_port, if_pos rfl, railRefusal_port, if_pos (.inl hon)] at hwork
        refine (railset_does hk hr hq hc hlen hwork hframe).imp fun u hu => ?_
        obtain ⟨hends, heq, -, hrails⟩ := hu
        exact ⟨hends, (heq _).trans ((railEn_port _ p).trans hon), hrails⟩

end

end

/-- The bytes of a word are those of its number. -/
theorem le32_mod (n : Nat) : le32 (n % 2 ^ 32) = le32 n := by
  have h : ∀ k ≤ 24, BitVec.ofNat 8 (n % 2 ^ 32 / 2 ^ k) = BitVec.ofNat 8 (n / 2 ^ k) := fun k hk => by
    apply BitVec.eq_of_toNat_eq
    rw [BitVec.toNat_ofNat, BitVec.toNat_ofNat]
    rw [← Nat.mod_mul_right_div_self, ← Nat.mod_mul_right_div_self, Nat.mod_mod_of_dvd]
    rw [show 2 ^ k * 2 ^ 8 = 2 ^ (k + 8) from (pow_add 2 k 8).symm]
    exact Nat.pow_dvd_pow 2 (by omega)
  have h0 := h 0 (by decide)
  rw [pow_zero, Nat.div_one, Nat.div_one] at h0
  rw [le32, le32, h0, h 8 (by decide), h 16 (by decide), h 24 (by decide)]

theorem tickreadData_eq (s : State) : s.tickreadData =
    (List.range 6).map (fun i => s.bak.tick.extractLsb' (8 * i) 8) ++ le32 (s.get F.BAK_EPOCH_S) := by
  rw [← le32_mod (s.get F.BAK_EPOCH_S)]
  rfl

/-- Settles O57: every command ends in its window, and each one's effect is a lemma of its own. -/
theorem kernelCommands : Obligations.KernelCommands := by
  unfold Obligations.KernelCommands
  intro s x hk hr w pay code hq rest ring3 ends plain fails resets
  refine ⟨fun cmd c n deep right h hbusy => kernel_table hk hr hq cmd c n deep right h hbusy, ?_,
    bootrep_gives hk hr hq, fun r hc hp => ⟨fun hbusy => ?_, fun hbusy => otpread_gives hk hr hq r hc hp hbusy⟩,
    sqread_gives hk hr hq, reset_gives hk hr hq,
    fun hc hp => tickreadData_eq s ▸ tickread_gives hk hr hq hc hp, fun b hc hp => ?_,
    fun b op lo hi e hc hp => railset_gives hk hr hq b op lo hi e hc hp, epread_gives hk hr hq, eppoll_gives hk hr hq,
    fun hc h3 hright hlen => logread_gives hk hr hq hc h3 hright hlen, fun slot vio hp h3 => ?_⟩
  · obtain ⟨hhigh, hlow⟩ := rstcauseFor_bits s w
    exact ⟨hhigh, hlow, getstat_gives hk hr hq⟩
  · exact ⟨_, congrArg Host.Outcome.next (if_pos hbusy), rfl⟩
  · obtain ⟨hbad, hperm, hgives⟩ := railget_gives hk hr hq b hc hp
    have hp := powered_of_runs hr
    refine ⟨hbad, hperm, fun hknown hok => (hgives hknown hok).imp fun u hu =>
      ⟨_, _, hu, fun n hn hlive => ?_, fun h7 h16 => ?_, fun h7 h10 => ?_, fun p hn hlive => ?_, fun h19 => ?_,
        fun h20 => ?_⟩⟩
    · rw [hn, (rail_channel hlive).1, (rail_channel hlive).2]
      exact ⟨rfl, rfl⟩
    · rw [railCause_lin hp h7 h16]
      rfl
    · rw [railCode_lin hp h7 h10]
      rfl
    · rw [hn, (rail_port hlive).1, (rail_port hlive).2]
      exact ⟨rfl, rfl⟩
    · rw [h19]
      rfl
    · rw [h20]
      rfl
  · refine ⟨fun hc => verify_gives hk hq hr (ok := State.anyRight)
      (work := fun s w p => s.verifyWork vio w p) rfl hc h3 rfl hp rfl, fun hc hright =>
      ⟨fun hno => install_verifies hk hr hq hc h3 hright hp hno, fun hpass hstop =>
        install_gives hk hr hc h3 hright hp hpass hstop⟩⟩

end Sys2Proof.Machine
end

section
/-!
SUPPORT. The engine as target (R274): the judgement of whole frames, what a target does with each, and O55.
-/

set_option Elab.async false

namespace Sys2Proof.Machine

/-! ## Frames as they are judged (R262, R263) -/

section

variable {form : RxForm} {c a : Byte} {t : List RxChar}

/-- Characters without an error or a gap. -/
abbrev plainChars (bs : List Byte) : List RxChar := bs.map fun b => ⟨b, false, false⟩

theorem judge_short (c a : Byte) (t : List RxChar) :
    judge (plainChars (shortFrame c a) ++ t) = ⟨0, .short, [c, a], 2, true, t⟩ := by
  simp [plainChars, shortFrame, judge, judgeBody, judgeStop, rxFault, ckSum, BitVec.add_comm]

/-- The bytes of a frame from C on are taken one by one. -/
theorem judgeBody_plain (form : RxForm) (l : List Byte) (t : List RxChar) (acc : List Byte) :
    judgeBody form (plainChars l ++ t) l.length acc = judgeBody form t 0 (l.reverse ++ acc) := by
  induction l generalizing acc with
  | nil => rfl
  | cons b l ih =>
    have h := ih (b :: acc)
    rw [List.reverse_cons, List.append_assoc]
    exact h

theorem ckSum_cons (b : Byte) (l : List Byte) : ckSum (b :: l) = b + ckSum l := by
  have h : ∀ (l : List Byte) (x : Byte), l.foldl (· + ·) x = x + ckSum l := fun l => by
    induction l with
    | nil => intro x; simp [ckSum]
    | cons b l ih =>
      intro x
      have hb : ckSum (b :: l) = l.foldl (· + ·) ((0 : Byte) + b) := rfl
      rw [List.foldl_cons, ih, hb, ih, BitVec.add_assoc]
      simp
  have hb : ckSum (b :: l) = l.foldl (· + ·) ((0 : Byte) + b) := rfl
  rw [hb, h]
  simp

theorem ckSum_append (l m : List Byte) : ckSum (l ++ m) = ckSum l + ckSum m := by
  induction l with
  | nil => simp [ckSum]
  | cons b l ih => rw [List.cons_append, ckSum_cons, ckSum_cons, ih, BitVec.add_assoc]

/-- The checksum does not depend on the order. -/
theorem ckSum_reverse (l : List Byte) : ckSum l.reverse = ckSum l := by
  induction l with
  | nil => rfl
  | cons b l ih => rw [List.reverse_cons, ckSum_append, ckSum_cons, ckSum_cons, ih, BitVec.add_comm]; simp [ckSum]

theorem judge_long {body : List Byte} (h3 : 3 ≤ body.length) (h255 : body.length ≤ 255) :
    judge (plainChars (longFrame body)) = ⟨0, .long, body, body.length, true, []⟩ := by
  have hl : (BitVec.ofNat 8 body.length).toNat = body.length := by
    rw [BitVec.toNat_ofNat]
    omega
  have hbody := judgeBody_plain .long body (plainChars [ckSum body, 0x16]) []
  have hstop : judgeBody .long (plainChars [ckSum body, 0x16]) 0 (body.reverse ++ []) =
      ⟨0, .long, body, body.length, true, []⟩ := by
    simp [plainChars, judgeBody, judgeStop, rxFault, ckSum_reverse]
  have hframe : plainChars (longFrame body) = plainChars [0x68, BitVec.ofNat 8 body.length, BitVec.ofNat 8 body.length,
      0x68] ++ (plainChars body ++ plainChars [ckSum body, 0x16]) := by
    simp [plainChars, longFrame]
  have hhead : judge (plainChars [0x68, BitVec.ofNat 8 body.length, BitVec.ofNat 8 body.length, 0x68] ++
      (plainChars body ++ plainChars [ckSum body, 0x16])) =
      judgeBody .long (plainChars body ++ plainChars [ckSum body, 0x16]) (BitVec.ofNat 8 body.length).toNat [] := by
    have hn : ¬(BitVec.ofNat 8 body.length).toNat < 3 := by omega
    simp [plainChars, judge, judgeLong, rxFault, -BitVec.toNat_ofNat, hn]
  rw [hframe, hhead, hl, hbody, hstop]

/-! ## What a judgement leaves (R263) -/

theorem rxRest_length (c : RxChar) (t : List RxChar) : (rxRest c t).length ≤ t.length + 1 := by
  unfold rxRest
  split
  · exact le_rfl
  · exact Nat.le_succ _

theorem judgeStop_rest (form : RxForm) (body : List Byte) (cs : List RxChar) :
    (judgeStop form body cs).rest.length ≤ cs.length := by
  cases cs with
  | nil => exact le_rfl
  | cons c t =>
    rw [judgeStop]
    split
    · exact rxRest_length c t
    · exact Nat.le_succ _

theorem judgeBody_rest (form : RxForm) (cs : List RxChar) (need : Nat) (acc : List Byte) :
    (judgeBody form cs need acc).rest.length ≤ cs.length := by
  induction cs generalizing need acc with
  | nil => exact le_rfl
  | cons c t ih =>
    unfold judgeBody
    split
    · exact rxRest_length c t
    · split
      · exact (ih _ _).trans (Nat.le_succ _)
      · split
        · exact Nat.le_succ _
        · exact (judgeStop_rest form _ t).trans (Nat.le_succ _)

theorem judgeLong_rest (cs : List RxChar) (seen : List Byte) : (judgeLong cs seen).rest.length ≤ cs.length := by
  induction cs generalizing seen with
  | nil => exact le_rfl
  | cons c t ih =>
    have herr : t.length ≤ (c :: t).length := Nat.le_succ _
    unfold judgeLong
    split
    · exact rxRest_length c t
    · split
      · split
        · exact herr
        · exact (ih _).trans herr
      · split
        · exact herr
        · exact (ih _).trans herr
      · split
        · exact herr
        · exact (judgeBody_rest _ t _ _).trans herr

/-- A judgement takes at least the first character. -/
theorem judge_rest (c : RxChar) (t : List RxChar) : (judge (c :: t)).rest.length ≤ t.length := by
  rw [judge]
  split
  · exact le_rfl
  · split
    · exact le_rfl
    · split
      · exact judgeBody_rest _ t _ _
      · split
        · exact judgeLong_rest t _
        · exact le_rfl

theorem afterGap_length (cs : List RxChar) : (afterGap cs).length ≤ cs.length := List.length_dropWhile_le _ _

theorem afterGap_cons {d : RxChar} (h : d.gapBefore = true) (ds : List RxChar) : afterGap (d :: ds) = d :: ds := by
  simp [afterGap, h]

theorem beforeGap_cons {d : RxChar} (h : d.gapBefore = true) (ds : List RxChar) : beforeGap (d :: ds) = [] := by
  simp [beforeGap, h]

end

/-! ## Telegram after telegram -/

section

variable {s : State} {p : Fin 2} {cs : List RxChar}

/-- A target's work on one judged telegram. -/
def State.tgtJudged (s : State) (p : Fin 2) (j : Judged) : State :=
  if j.code = 0 then s.tgtAct p j else s.tgtResult p 0x54

theorem tgtFrames_nil (n : Nat) : s.tgtFrames p n [] = s := by
  cases n <;> rfl

theorem tgtFrames_cons (n : Nat) (c : RxChar) (t : List RxChar) : s.tgtFrames p (n + 1) (c :: t) =
    ((s.afterRx p (judge (c :: t))).tgtJudged p (judge (c :: t))).tgtFrames p n (afterGap (judge (c :: t)).rest) := rfl

/-- As much fuel as there are characters is enough. -/
theorem tgtFrames_fuel {n m : Nat} (hn : cs.length ≤ n) (hm : cs.length ≤ m) :
    s.tgtFrames p n cs = s.tgtFrames p m cs := by
  induction n generalizing s cs m with
  | zero =>
    rw [List.eq_nil_of_length_eq_zero (Nat.le_zero.mp hn), tgtFrames_nil, tgtFrames_nil]
  | succ n ih =>
    cases cs with
    | nil => rw [tgtFrames_nil, tgtFrames_nil]
    | cons c t =>
      have hrest := (afterGap_length (judge (c :: t)).rest).trans (judge_rest c t)
      rw [List.length_cons] at hn hm
      cases m with
      | zero => omega
      | succ m =>
        rw [tgtFrames_cons, tgtFrames_cons]
        exact ih (by omega) (by omega)

end

/-! ## The frame of a target's work -/

/-- The fields that any telegram may touch. -/
abbrev tgtFields (p : Fin 2) : List Fld := [F.P_ENG_JUNK_JUNK p, F.P_ENG_STAT_CQOVF p]

/-- The frame of a target's work: as `Dev` for its own port and line, with every memory free. -/
structure TgtWork (p : Fin 2) (K : Nat → Prop) (s u : State) : Prop where
  keys : ∀ g : Fld, ¬K g.key → u.get g = s.get g
  blocks : BlocksBut [.port] s u
  others : ∀ q : Fin 2, q ≠ p → u.port[q] = s.port[q]
  core : CoreBut [12 + p.val] s u
  pending : u.pending = s.pending

section

variable {s x u : State} {p : Fin 2} {K : Nat → Prop}

theorem portUpd_own (f : PortSt → PortSt) : (s.portUpd p f).port[p] = f s.port[p] := by
  simp

theorem portUpd_other {q : Fin 2} (h : q ≠ p) (f : PortSt → PortSt) : (s.portUpd p f).port[q] = s.port[q] := by
  have hv : p.val ≠ q.val := fun e => h (Fin.ext e.symm)
  simp [hv]

namespace TgtWork

theorem of_dev (h : TgtWork p K s x) (hd : Dev K [.port] [12 + p.val] x u)
    (ho : ∀ q : Fin 2, q ≠ p → u.port[q] = x.port[q] := by exact fun _ _ => rfl) : TgtWork p K s u := by
  have hs : Dev (fun _ => True) [.port] [12 + p.val] s { x with mem := s.mem } :=
    ⟨fun _ hg => (hg trivial).elim, h.blocks, h.core, rfl, h.pending⟩
  have hu : Dev (fun _ => True) [.port] [12 + p.val] { x with mem := s.mem } { u with mem := s.mem } :=
    ⟨fun _ hg => (hg trivial).elim, hd.blocks, hd.core, rfl, hd.pending⟩
  have hall := hs.trans hu
  exact ⟨fun g hg => (hd.keys g hg).trans (h.keys g hg), hall.blocks, fun q hq => (ho q hq).trans (h.others q hq),
    hall.core, hall.pending⟩

theorem refl : TgtWork p K s s :=
  ⟨fun _ _ => rfl, by simp [BlocksBut], fun _ _ => rfl, ⟨rfl, fun _ _ => rfl⟩, rfl⟩

theorem put (h : TgtWork p K s x) {f : Fld} {n : Nat} (hf : K f.key := by simp [keysOf]) : TgtWork p K s (x.put f n) :=
  h.of_dev (Dev.refl.put hf)

theorem portUpd (h : TgtWork p K s x) {f : PortSt → PortSt} : TgtWork p K s (x.portUpd p f) :=
  h.of_dev Dev.refl.portUpd fun _ hq => portUpd_other hq f

theorem raise (h : TgtWork p K s x) : TgtWork p K s (x.raise (12 + p.val)) := h.of_dev Dev.refl.raise

theorem tickFree (h : TgtWork p K s x) : TgtWork p K s x.tickFree := h.of_dev Dev.refl.tickFree

/-- Bytes are written. -/
theorem setBytes (h : TgtWork p K s x) (a : Nat) (l : List Byte) : TgtWork p K s (x.setBytes a l) := by
  rw [State.setBytes_eq]
  exact ⟨h.keys, h.blocks, h.others, h.core, h.pending⟩

theorem weaken {L : Nat → Prop} (h : TgtWork p K s x) (hKL : ∀ k, K k → L k) : TgtWork p L s x :=
  ⟨fun g hg => h.keys g fun hk => hg (hKL _ hk), h.blocks, h.others, h.core, h.pending⟩

end TgtWork

/-! ## The state in which a telegram is worked on -/

/-- `x` is `s` but for what the port remembers of the line and for the count of discarded characters. -/
structure Heard (p : Fin 2) (s x : State) : Prop where
  work : TgtWork p (keysOf (tgtFields p)) s x
  regs : ∀ g : Fld, g.key ≠ (F.P_ENG_JUNK_JUNK p).key → x.get g = s.get g
  cq : x.port[p].cq = s.port[p].cq
  answer : x.port[p].answer = s.port[p].answer
  core : x.core = s.core
  mem : x.mem = s.mem
  free : x.free = s.free

theorem heard_afterRx (j : Judged) : Heard p s (s.afterRx p j) := by
  unfold State.afterRx
  refine ⟨(TgtWork.refl.put (by simp)).portUpd, fun g hg => ?_, ?_, ?_, rfl, rfl, rfl⟩
  · rw [State.get_portUpd]
    exact State.get_put_ne _ _ _ _ (Ne.symm hg)
  · rw [portUpd_own]
    rfl
  · rw [portUpd_own]
    rfl

theorem heard_quiet : Heard p s (s.portUpd p fun x => { x with ignoring := false, junk := false }) := by
  refine ⟨TgtWork.refl.portUpd, fun g _ => rfl, ?_, ?_, rfl, rfl, rfl⟩
  · rw [portUpd_own]
  · rw [portUpd_own]

/-- An engine that runs as a target and waits for no idle period. -/
abbrev Hears (s : State) (p : Fin 2) : Prop :=
  (s.engLive p = true ∧ s.isTarget p = true) ∧ s.port[p].ignoring = false ∧ s.port[p].junk = false

theorem targetFrame_hears (h : Hears s p) (c : RxChar) (t : List RxChar) : s.targetFrame p (c :: t) =
    ((s.afterRx p (judge (c :: t))).tgtJudged p (judge (c :: t))).tgtFrames p t.length
      (afterGap (judge (c :: t)).rest) := by
  obtain ⟨hlive, hign, hjunk⟩ := h
  have hh : s.hear p (c :: t) = (s, c :: t) := by
    rw [State.hear, if_neg (by rw [hign]; exact Bool.false_ne_true), if_neg (by rw [hjunk]; exact Bool.false_ne_true)]
  rw [State.targetFrame, if_pos hlive, hh]
  rfl

theorem targetFrame_judged {cs : List RxChar} {j : Judged} (h : Hears s p) (hcs : cs ≠ []) (hj : judge cs = j) :
    s.targetFrame p cs = ((s.afterRx p j).tgtJudged p j).tgtFrames p (cs.length - 1) (afterGap j.rest) := by
  subst hj
  obtain ⟨c, t, rfl⟩ := List.exists_cons_of_ne_nil hcs
  exact targetFrame_hears h c t

/-- One telegram, with nothing behind it. -/
theorem gives_target {cs : List RxChar} {j : Judged} {P : State → Prop} (h : Hears s p) (hcs : cs ≠ [])
    (hj : judge cs = j) (hrest : afterGap j.rest = []) (hP : ∀ x, Heard p s x → P (x.tgtJudged p j)) :
    Gives (.targetFrame p cs) s P := by
  refine ⟨_, congrArg Host.Outcome.next (targetFrame_judged h hcs hj), ?_⟩
  rw [hrest, tgtFrames_nil]
  exact hP _ (heard_afterRx _)

end

/-! ## What a target does, step by step -/

section

variable {s x u : State} {p : Fin 2} {K : Nat → Prop}

/-- A result enters a queue that was `q`, or is dropped with CQOVF (R273). -/
abbrev Reports (p : Fin 2) (q : List CqEntry) (code : Nat) (u : State) : Prop :=
  (q.length < 16 → (∃ i, i < 512 ∧ u.port[p].cq = q ++ [⟨i, true, code⟩]) ∧
    u.core.raised.getLsbD (12 + p.val) = true) ∧
  (16 ≤ q.length → u.port[p].cq = q ∧ u.on (F.P_ENG_STAT_CQOVF p) = true)

theorem cqAppend_own (e : CqEntry) :
    ((x.portUpd p fun y => { y with cq := y.cq ++ [e] }).port[p]) = { x.port[p] with cq := x.port[p].cq ++ [e] } :=
  portUpd_own _

theorem tgtResult_reports (code : Nat) : Reports p x.port[p].cq code (x.tgtResult p code) := by
  unfold State.tgtResult State.cqAppend
  split
  · next hlt =>
    refine ⟨fun _ => ⟨⟨x.fresh % 512, Nat.mod_lt _ (by decide), ?_⟩, ?_⟩, fun hge => absurd hlt (by omega)⟩
    · exact congrArg PortSt.cq (cqAppend_own _)
    · exact State.raised_raise (by omega)
  · next hge => exact ⟨fun hlt => absurd hlt hge, fun _ => ⟨rfl, State.on_put_one⟩⟩

theorem tgtResult_answer (code : Nat) : (x.tgtResult p code).port[p].answer = x.port[p].answer := by
  unfold State.tgtResult State.cqAppend
  split
  · exact (congrArg PortSt.answer (cqAppend_own _)).trans rfl
  · rfl

theorem tgtResult_mem (code : Nat) : (x.tgtResult p code).mem = x.mem := by
  unfold State.tgtResult State.cqAppend
  split
  · rfl
  · rfl

theorem TgtWork.tgtResult (h : TgtWork p K s x) (hK : K (F.P_ENG_STAT_CQOVF p).key) (code : Nat) :
    TgtWork p K s (x.tgtResult p code) := by
  unfold State.tgtResult State.cqAppend
  split
  · exact h.portUpd.raise.tickFree
  · exact (h.put hK).tickFree

theorem answer_own (a : Option (List Byte × Nat)) :
    ((x.portUpd p fun y => { y with answer := a }).port[p]) = { x.port[p] with answer := a } :=
  portUpd_own _

theorem tgtAnswer_answer (bs : List Byte) (code : Nat) : (x.tgtAnswer p bs code).port[p].answer =
    if x.stopping then x.port[p].answer else some (bs, code) := by
  unfold State.tgtAnswer
  split
  · rfl
  · exact congrArg PortSt.answer (answer_own _)

theorem tgtAnswer_cq (bs : List Byte) (code : Nat) : (x.tgtAnswer p bs code).port[p].cq = x.port[p].cq := by
  unfold State.tgtAnswer
  split
  · rfl
  · exact (congrArg PortSt.cq (answer_own _)).trans rfl

/-- An answer is kept beside the registers, the memories, CORE and the power state. -/
theorem tgtAnswer_eq (bs : List Byte) (code : Nat) :
    x.tgtAnswer p bs code = { x with port := (x.tgtAnswer p bs code).port } := by
  unfold State.tgtAnswer
  split
  · rfl
  · rfl

theorem tgtAnswer_mem (bs : List Byte) (code : Nat) : (x.tgtAnswer p bs code).mem = x.mem := by
  rw [tgtAnswer_eq]

theorem tgtAnswer_core (bs : List Byte) (code : Nat) : (x.tgtAnswer p bs code).core = x.core := by
  rw [tgtAnswer_eq]

theorem tgtAnswer_get (bs : List Byte) (code : Nat) (f : Fld) : (x.tgtAnswer p bs code).get f = x.get f := by
  rw [tgtAnswer_eq]
  rfl

theorem TgtWork.tgtAnswer (h : TgtWork p K s x) (bs : List Byte) (code : Nat) :
    TgtWork p K s (x.tgtAnswer p bs code) := by
  unfold State.tgtAnswer
  split
  · exact h
  · exact h.portUpd

theorem stopping_of_blocks (h : TgtWork p K s x) : x.stopping = s.stopping := by
  have hp : x.pwr = s.pwr := h.blocks.1 (by simp)
  rw [State.stopping, hp]
  rfl

end

/-! ## What a target acts on -/

section

variable {s x u : State} {p : Fin 2}

/-- The addresses a target takes as its own. -/
abbrev Mine (s : State) (p : Fin 2) (a : Byte) : Prop :=
  a.toNat = s.get (F.P_TSET_TADDR p) ∨ a = 0xFE ∨ (a = 0xFD ∧ s.on (F.P_TSEL_SELECTED p) = true)

theorem tgtMine (a : Byte) : (decide (a.toNat = x.get (F.P_TSET_TADDR p)) || a.toNat == 254 ||
    (a.toNat == 253 && x.on (F.P_TSEL_SELECTED p))) = decide (Mine x p a) := by
  have h254 : a.toNat = 254 ↔ a = 0xFE := BitVec.toNat_inj (y := 0xFE)
  have h253 : a.toNat = 253 ↔ a = 0xFD := BitVec.toNat_inj (y := 0xFD)
  rw [Bool.eq_iff_iff]
  simp only [Bool.or_eq_true, Bool.and_eq_true, decide_eq_true_eq, beq_iff_eq, h254, h253, or_assoc]

/-- The fields that decide what a target does are none that hearing touches. -/
theorem tgtKeys_ne (p : Fin 2) : ∀ f ∈ [F.P_TSET_TADDR p, F.P_TSEL_SELECTED p, F.P_TRSP_BUF p, F.P_TRSP_SIZE p,
    F.P_TRCV_BUF p, F.P_TRCV_SIZE p], f.key ≠ (F.P_ENG_JUNK_JUNK p).key := by
  decide +revert

theorem engineKeys_ne {k : Nat} (p : Fin 2) (_hk : k < 4) : ∀ f ∈ [F.PROT_ENGA_CTL k, F.PROT_ENGA_BASE k,
    F.PROT_ENGB_LAST k], f.key ≠ (F.P_ENG_JUNK_JUNK p).key := by
  simp only [Fld.key, F.P_ENG_JUNK_JUNK, F.PROT_ENGA_CTL, F.PROT_ENGA_BASE, F.PROT_ENGB_LAST, List.mem_cons,
    List.not_mem_nil, or_false, forall_eq_or_imp, forall_eq]
  omega

namespace Heard

theorem mine (h : Heard p s x) (a : Byte) : Mine x p a ↔ Mine s p a := by
  have h1 := h.regs (F.P_TSET_TADDR p) (tgtKeys_ne p _ (by simp))
  have h2 := State.on_of_get (h.regs (F.P_TSEL_SELECTED p) (tgtKeys_ne p _ (by simp)))
  rw [Mine, Mine, h1, h2]

theorem trsp (h : Heard p s x) : x.trsp p = s.trsp p := by
  rw [State.trsp, h.regs (F.P_TRSP_BUF p) (tgtKeys_ne p _ (by simp)),
    h.regs (F.P_TRSP_SIZE p) (tgtKeys_ne p _ (by simp))]
  rfl

theorem trcv (h : Heard p s x) : x.trcv p = s.trcv p := by
  rw [State.trcv, h.regs (F.P_TRCV_BUF p) (tgtKeys_ne p _ (by simp)),
    h.regs (F.P_TRCV_SIZE p) (tgtKeys_ne p _ (by simp))]
  rfl

theorem covers (h : Heard p s x) {k : Nat} (hk : k < 4) (a : Nat) (r w : Bool) :
    x.engCovers k a r w = s.engCovers k a r w := by
  rw [State.engCovers, h.regs _ (engineKeys_ne p hk (F.PROT_ENGA_CTL k) (by simp)),
    h.regs _ (engineKeys_ne p hk (F.PROT_ENGA_BASE k) (by simp)),
    h.regs _ (engineKeys_ne p hk (F.PROT_ENGB_LAST k) (by simp))]
  rfl

theorem allows (h : Heard p s x) (a n : Nat) (r w : Bool) : x.engAllows p a n r w = s.engAllows p a n r w := by
  simp only [State.engAllows, h.covers (k := 2 * p.val) (by omega), h.covers (k := 2 * p.val + 1) (by omega)]

theorem trspFrame (h : Heard p s x) : x.trspFrame p = s.trspFrame p := by
  simp only [State.trspFrame, h.trsp, State.byte_of_mem h.mem, bytes_of_mem h.mem, h.free]

theorem stopping (h : Heard p s x) : x.stopping = s.stopping := stopping_of_blocks h.work

end Heard

/-! ## Short frames (R274) -/

/-- A short frame, judged. -/
abbrev shortJudged (c a : Byte) : Judged := ⟨0, .short, [c, a], 2, true, []⟩

theorem tgtAct_short (c a : Byte) : x.tgtAct p (shortJudged c a) =
    if ¬Mine x p a ∧ a ≠ 0xFF then x
    else if c = 0x40 then
      (if Mine x p a then (if a = 0xFD then x.put (F.P_TSEL_SELECTED p) 0 else x).tgtAnswer p [0xE5] 0
      else (if a = 0xFD then x.put (F.P_TSEL_SELECTED p) 0 else x))
    else if c = 0x5A ∨ c = 0x7A then (if Mine x p a then x.tgtAnswer p [0xE5] 0 else x)
    else if c = 0x5B ∨ c = 0x7B then x.tgtUd2 p (decide (Mine x p a))
    else x := by
  have h255 : a.toNat = 255 ↔ a = 0xFF := BitVec.toNat_inj (y := 0xFF)
  have h253 : a.toNat = 253 ↔ a = 0xFD := BitVec.toNat_inj (y := 0xFD)
  unfold State.tgtAct
  simp only [List.getD_cons_zero, List.getD_cons_succ, tgtMine, ne_eq, h255, h253, decide_eq_false_iff_not,
    decide_eq_true_eq, if_true]

/-! ## What the statement says of a target's work -/

abbrev Answers (s : State) (p : Fin 2) (bs : List Byte) (code : Nat) (u : State) : Prop :=
  u.port[p].answer = (if s.stopping then s.port[p].answer else some (bs, code))

abbrev TgtQuiet (s : State) (p : Fin 2) (u : State) : Prop :=
  u.port[p].cq = s.port[p].cq ∧ u.core = s.core ∧ u.mem = s.mem

abbrev InTarget (s : State) (p : Fin 2) (fs : List Fld) (u : State) : Prop :=
  OnlyFields s u (fs ++ tgtFields p) ∧ BlocksBut [.port] s u ∧ (∀ q : Fin 2, q ≠ p → u.port[q] = s.port[q]) ∧
    CoreBut [12 + p.val] s u ∧ u.pending = s.pending

theorem TgtWork.inTarget {fs : List Fld} (h : TgtWork p (keysOf (fs ++ tgtFields p)) s u) : InTarget s p fs u :=
  ⟨fun g hg => h.keys g hg, h.blocks, h.others, h.core, h.pending⟩

namespace Heard

theorem workMore (h : Heard p s x) (fs : List Fld) : TgtWork p (keysOf (fs ++ tgtFields p)) s x :=
  h.work.weaken fun k hk => by
    rw [keysOf, List.map_append]
    exact List.mem_append_right _ hk

/-- A telegram that the target ignores. -/
theorem ignored (h : Heard p s x) : x.port[p].answer = s.port[p].answer ∧ TgtQuiet s p x ∧ InTarget s p [] x :=
  ⟨h.answer, ⟨h.cq, h.core, h.mem⟩, (h.workMore []).inTarget⟩

theorem answers (h : Heard p s x) (bs : List Byte) (code : Nat) : Answers s p bs code (x.tgtAnswer p bs code) := by
  rw [Answers, tgtAnswer_answer, h.stopping, h.answer]

theorem answersQuiet (h : Heard p s x) (bs : List Byte) (code : Nat) : TgtQuiet s p (x.tgtAnswer p bs code) :=
  ⟨(tgtAnswer_cq _ _).trans h.cq, (tgtAnswer_core _ _).trans h.core, (tgtAnswer_mem _ _).trans h.mem⟩

theorem reports (h : Heard p s x) (code : Nat) : Reports p s.port[p].cq code (x.tgtResult p code) :=
  h.cq ▸ tgtResult_reports code

/-- A telegram of which only a result is reported. -/
theorem onlyReported (h : Heard p s x) (code : Nat) : Reports p s.port[p].cq code (x.tgtResult p code) ∧
    (x.tgtResult p code).port[p].answer = s.port[p].answer ∧ (x.tgtResult p code).mem = s.mem ∧
    InTarget s p [] (x.tgtResult p code) :=
  ⟨h.reports code, (tgtResult_answer code).trans h.answer, (tgtResult_mem code).trans h.mem,
    ((h.workMore []).tgtResult (by simp [keysOf]) code).inTarget⟩

/-- A telegram whose buffer lies outside the engine regions. -/
theorem refused (h : Heard p s x) : (x.put (F.P_ENG_STAT_REGION p) 1).port[p].answer = s.port[p].answer ∧
    TgtQuiet s p (x.put (F.P_ENG_STAT_REGION p) 1) ∧
    (x.put (F.P_ENG_STAT_REGION p) 1).on (F.P_ENG_STAT_REGION p) = true ∧
    InTarget s p [F.P_ENG_STAT_REGION p] (x.put (F.P_ENG_STAT_REGION p) 1) :=
  ⟨h.answer, ⟨h.cq, h.core, h.mem⟩, State.on_put_one, ((h.workMore _).put (by simp [keysOf])).inTarget⟩

/-- SND_NKE to the target itself. -/
theorem nke (h : Heard p s x) {a : Byte} (hm : Mine s p a) : 
    Answers s p [0xE5] 0 (x.tgtAct p (shortJudged 0x40 a)) ∧ TgtQuiet s p (x.tgtAct p (shortJudged 0x40 a)) ∧
    (a = 0xFD → (x.tgtAct p (shortJudged 0x40 a)).on (F.P_TSEL_SELECTED p) = false) ∧
    (a ≠ 0xFD → (x.tgtAct p (shortJudged 0x40 a)).get (F.P_TSEL_SELECTED p) = s.get (F.P_TSEL_SELECTED p)) ∧
    InTarget s p [F.P_TSEL_SELECTED p] (x.tgtAct p (shortJudged 0x40 a)) := by
  have hmx : Mine x p a := (h.mine a).mpr hm
  rw [tgtAct_short, if_neg fun hn => hn.1 hmx, if_pos rfl, if_pos hmx]
  by_cases ha : a = 0xFD
  · rw [if_pos ha]
    refine ⟨?_, ⟨(tgtAnswer_cq _ _).trans h.cq, (tgtAnswer_core _ _).trans h.core, (tgtAnswer_mem _ _).trans h.mem⟩,
      fun _ => ?_, fun hn => absurd ha hn, (((h.workMore _).put (by simp [keysOf])).tgtAnswer _ _).inTarget⟩
    · have hstop : (x.put (F.P_TSEL_SELECTED p) 0).stopping = s.stopping := h.stopping
      rw [Answers, tgtAnswer_answer, hstop, ← h.answer]
      rfl
    · rw [State.on_of_get (tgtAnswer_get _ _ _)]
      exact State.on_put_zero
  · rw [if_neg ha]
    exact ⟨h.answers _ _, h.answersQuiet _ _, fun hn => absurd hn ha,
      fun _ => (tgtAnswer_get _ _ _).trans (h.regs _ (tgtKeys_ne p _ (by simp))),
        ((h.workMore _).tgtAnswer _ _).inTarget⟩

/-- A request to the target itself that E5h answers. -/
theorem acked (h : Heard p s x) {c a : Byte} (hc : c = 0x5A ∨ c = 0x7A) (hm : Mine s p a) :
    Answers s p [0xE5] 0 (x.tgtAct p (shortJudged c a)) ∧ TgtQuiet s p (x.tgtAct p (shortJudged c a)) ∧
    InTarget s p [] (x.tgtAct p (shortJudged c a)) := by
  have hmx : Mine x p a := (h.mine a).mpr hm
  have h40 : c ≠ 0x40 := by
    rcases hc with rfl | rfl
    · decide
    · decide
  rw [tgtAct_short, if_neg fun hn => hn.1 hmx, if_neg h40, if_pos hc, if_pos hmx]
  exact ⟨h.answers _ _, h.answersQuiet _ _, ((h.workMore _).tgtAnswer _ _).inTarget⟩

/-- A short frame to another address, or with another C. -/
theorem notForIt (h : Heard p s x) {c a : Byte}
    (hn : (¬Mine s p a ∧ a ≠ 0xFF) ∨ (c ≠ 0x40 ∧ c ≠ 0x5A ∧ c ≠ 0x7A ∧ c ≠ 0x5B ∧ c ≠ 0x7B)) :
    x.tgtAct p (shortJudged c a) = x := by
  simp only [tgtAct_short, h.mine]
  rcases hn with hn | ⟨h40, h5a, h7a, h5b, h7b⟩
  · rw [if_pos hn]
  · rw [if_neg h40, if_neg (not_or.mpr ⟨h5a, h7a⟩), if_neg (not_or.mpr ⟨h5b, h7b⟩), ite_self]

/-- REQ_UD2. -/
theorem ud2 (h : Heard p s x) {c a : Byte} (hc : c = 0x5B ∨ c = 0x7B) (hm : Mine s p a ∨ a = 0xFF) :
    x.tgtAct p (shortJudged c a) = x.tgtUd2 p (decide (Mine s p a)) := by
  have hn : ¬(¬Mine s p a ∧ a ≠ 0xFF) := fun hn => hm.elim hn.1 hn.2
  have hne : c ≠ 0x40 ∧ ¬(c = 0x5A ∨ c = 0x7A) := by
    rcases hc with rfl | rfl
    · decide
    · decide
  simp only [tgtAct_short, h.mine]
  rw [if_neg hn, if_neg hne.1, if_neg hne.2, if_pos hc]

/-- REQ_UD2 of a target whose buffer can be used and is new. -/
theorem ud2New (h : Heard p s x) (hfit : bufOk (s.trsp p).1 (s.trsp p).2 = true)
    (hreg : s.engAllows p (s.trsp p).1 (bufSize (s.trsp p).2) true false = true)
    (hnew : (s.byte ((s.trsp p).1 + 3)).getLsbD 0 = true) (m : Bool) :
    x.tgtUd2 p m = if m then (x.tgtAnswer p (s.trspFrame p) 0x52).tickFree else x := by
  unfold State.tgtUd2
  rw [h.trsp, ← h.trspFrame]
  simp only [h.allows, State.byte_of_mem h.mem, hfit, hreg, hnew, Bool.true_eq_false, if_false, if_true]

/-- REQ_UD2 of a target whose buffer can be used and is not new. -/
theorem ud2Old (h : Heard p s x) (hfit : bufOk (s.trsp p).1 (s.trsp p).2 = true)
    (hreg : s.engAllows p (s.trsp p).1 (bufSize (s.trsp p).2) true false = true)
    (hnew : (s.byte ((s.trsp p).1 + 3)).getLsbD 0 = false) (m : Bool) : x.tgtUd2 p m = x.tgtResult p 0x53 := by
  unfold State.tgtUd2
  rw [h.trsp]
  simp only [h.allows, State.byte_of_mem h.mem, hfit, hreg, hnew, Bool.true_eq_false, Bool.false_eq_true, if_false]

/-- REQ_UD2 of a target whose buffer lies outside the engine regions. -/
theorem ud2Refused (h : Heard p s x) (hfit : bufOk (s.trsp p).1 (s.trsp p).2 = true)
    (hreg : ¬s.engAllows p (s.trsp p).1 (bufSize (s.trsp p).2) true false = true) (m : Bool) :
    x.tgtUd2 p m = x.put (F.P_ENG_STAT_REGION p) 1 := by
  unfold State.tgtUd2
  rw [h.trsp]
  simp [h.allows, hfit, hreg]

end Heard

/-- A short frame that one target hears. -/
theorem gives_short {P : State → Prop} (h : Hears s p) (c a : Byte)
    (hP : ∀ x, Heard p s x → P (x.tgtAct p (shortJudged c a))) :
    Gives (.targetFrame p (plainChars (shortFrame c a))) s P := by
  have hj : judge (plainChars (shortFrame c a)) = shortJudged c a :=
    (congrArg judge (List.append_nil _).symm).trans (judge_short c a [])
  exact gives_target h (List.cons_ne_nil _ _) hj rfl hP

end

/-! ## A frame that is stored (R264, R268) -/

section

variable {s x u : State} {p : Fin 2} {K : Nat → Prop} {a code : Nat} {st : Stored}

theorem bytes_congr {n : Nat} (h : ∀ b, a ≤ b → b < a + n → u.byte b = s.byte b) : u.bytes a n = s.bytes a n := by
  induction n generalizing a with
  | zero => rfl
  | succ n ih => rw [State.bytes, State.bytes, h a le_rfl (by omega), ih fun b hlo hhi => h b (by omega) (by omega)]

/-- Beside its header of eight bytes a buffer holds the data. -/
theorem byte_bufWrite {b : Nat} (hb : b < a ∨ a + 8 ≤ b) :
    (x.bufWrite a st false code).byte b = (x.setBytes (a + 8) st.bytes).byte b := by
  rw [State.bufWrite, State.byte_setByte_ne _ _ (by omega), State.byte_setBytes_out _ _ _ _ (by simp [le32]; omega),
    State.byte_setByte_ne _ _ (by omega), if_neg Bool.false_ne_true,
    State.byte_setBytes_out _ _ _ _ (by simp [le16]; omega)]

theorem byte_bufWrite_flags : (x.bufWrite a st false code).byte (a + 3) =
    BitVec.ofNat 8 (1 + (if st.trunc then 2 else 0) + (if st.short then 4 else 0)) :=
  State.byte_setByte_self _ _ _

theorem bytes_bufWrite : (x.bufWrite a st false code).bytes (a + 8) st.bytes.length = st.bytes :=
  (bytes_congr fun _ hlo _ => byte_bufWrite (Or.inr hlo)).trans (State.bytes_setBytes _ _ _)

theorem TgtWork.bufWrite (h : TgtWork p K s x) (keep : Bool) : TgtWork p K s (x.bufWrite a st keep code) := by
  unfold State.bufWrite
  extract_lets s1 s2
  have h1 : TgtWork p K s s1 := by
    cases keep
    · exact (h.setBytes _ _).setBytes _ _
    · exact h
  have h2 : TgtWork p K s s2 := (h1.setBytes (a + 2) [_]).setBytes _ _
  exact h2.setBytes (a + 3) [_]

/-- Of the way from `s` to `u` only memory may have changed. -/
def MemOnly (s u : State) : Prop := u = { s with mem := u.mem }

theorem MemOnly.setBytes (h : MemOnly s x) (b : Nat) (l : List Byte) : MemOnly s (x.setBytes b l) := by
  have hx : MemOnly x (x.setBytes b l) := by
    rw [State.setBytes_eq]
    rfl
  exact hx.trans (congrArg (fun y : State => { y with mem := (x.setBytes b l).mem }) h)

theorem memOnly_bufWrite : MemOnly x (x.bufWrite a st false code) := by
  unfold State.bufWrite
  extract_lets s1 s2
  have h0 : MemOnly x x := rfl
  have h1 : MemOnly x s1 := (h0.setBytes _ _).setBytes _ _
  have h2 : MemOnly x s2 := (h1.setBytes (a + 2) [_]).setBytes _ _
  exact h2.setBytes (a + 3) [_]

/-- The buffer at `a`, of `n` bytes, holds a frame (R264). -/
abbrev BufHolds (s : State) (a n : Nat) (body : List Byte) (u : State) : Prop :=
  u.bytes (a + 8) (min (n - 8) body.length) = body.take (n - 8) ∧ (u.byte (a + 3)).getLsbD 0 = true ∧
    (u.byte (a + 3)).getLsbD 1 = decide (n - 8 < body.length) ∧ ∀ b, b < a ∨ a + n ≤ b → u.byte b = s.byte b

theorem bufHolds_of_mem {n : Nat} {body : List Byte} (h : BufHolds s a n body x) (hm : u.mem = x.mem) :
    BufHolds s a n body u := by
  obtain ⟨hdata, hnew, htrunc, hout⟩ := h
  rw [BufHolds, bytes_of_mem hm, State.byte_of_mem hm]
  exact ⟨hdata, hnew, htrunc, fun b hb => (State.byte_of_mem hm b).trans (hout b hb)⟩

theorem bufHolds_bufWrite {n : Nat} {body : List Byte} (hn : 8 ≤ n) :
    BufHolds x a n body (x.bufWrite a ⟨body.take (n - 8), decide (n - 8 < body.length), false⟩ false code) := by
  have hlen : (body.take (n - 8)).length ≤ n - 8 := List.length_take_le _ _
  refine ⟨?_, ?_, ?_, fun b hb => (byte_bufWrite (by omega)).trans
    (State.byte_setBytes_out _ _ _ _ (by dsimp only; omega))⟩
  · rw [← List.length_take]
    exact bytes_bufWrite
  · rw [byte_bufWrite_flags]
    by_cases h : n - 8 < body.length
    · simp [h]
    · simp [h]
  · rw [byte_bufWrite_flags]
    by_cases h : n - 8 < body.length
    · simp [h]
    · simp [h]

/-! ## Long frames (R274) -/

/-- A long frame, judged. -/
abbrev longJudged (body : List Byte) : Judged := ⟨0, .long, body, body.length, true, []⟩

theorem tgtAct_long {c : Byte} (hc : c = 0x53 ∨ c = 0x73) (b ci : Byte) (rest : List Byte) :
    x.tgtAct p (longJudged (c :: b :: ci :: rest)) =
    if ci = 0x52 ∨ ci = 0x56 then
      (if b = 0xFD then x.tgtStoreOr p (c :: b :: ci :: rest) 0x51 (fun y => y.put (F.P_TSEL_DECIDE p) 1) else x)
    else if Mine x p b then x.tgtStoreOr p (c :: b :: ci :: rest) 0x50 (fun y => y.tgtAnswer p [0xE5] 0)
    else if b = 0xFF then x.tgtStoreOr p (c :: b :: ci :: rest) 0x50 id
    else x := by
  have h255 : b.toNat = 255 ↔ b = 0xFF := BitVec.toNat_inj (y := 0xFF)
  have h253 : b.toNat = 253 ↔ b = 0xFD := BitVec.toNat_inj (y := 0xFD)
  have hform : True ∧ (c = 0x53 ∨ c = 0x73) := ⟨trivial, hc⟩
  unfold State.tgtAct
  simp only [List.getD_cons_zero, List.getD_cons_succ, tgtMine, h255, h253, decide_eq_true_eq, reduceCtorEq, if_false]
  rw [if_pos hform]

/-- A long frame that one target hears. -/
theorem gives_long {P : State → Prop} (h : Hears s p) {body : List Byte} (h3 : 3 ≤ body.length)
    (h255 : body.length ≤ 255) (hP : ∀ x, Heard p s x → P (x.tgtAct p (longJudged body))) :
    Gives (.targetFrame p (plainChars (longFrame body))) s P :=
  gives_target h (List.cons_ne_nil _ _) (judge_long h3 h255) rfl hP

/-- The state after the store of a frame, before its answer. -/
abbrev State.tgtKept (x : State) (p : Fin 2) (a n : Nat) (body : List Byte) (code : Nat) : State :=
  (x.bufWrite a ⟨body.take (n - 8), decide (n - 8 < body.length), false⟩ false code).tgtResult p code

namespace Heard

variable {body : List Byte}

theorem storeOr (h : Heard p s x) (hfit : bufOk (s.trcv p).1 (s.trcv p).2 = true)
    (hreg : s.engAllows p (s.trcv p).1 (bufSize (s.trcv p).2) true true = true) (next : State → State) :
    x.tgtStoreOr p body code next = next (x.tgtKept p (s.trcv p).1 (bufSize (s.trcv p).2) body code) := by
  have hst : x.tgtStore p body code = some (x.tgtKept p (s.trcv p).1 (bufSize (s.trcv p).2) body code) := by
    unfold State.tgtStore
    rw [h.trcv]
    simp [h.allows, hfit, hreg]
  rw [State.tgtStoreOr, hst]

theorem storeRefused (h : Heard p s x) (hfit : bufOk (s.trcv p).1 (s.trcv p).2 = true)
    (hreg : ¬s.engAllows p (s.trcv p).1 (bufSize (s.trcv p).2) true true = true) (next : State → State) :
    x.tgtStoreOr p body code next = x.put (F.P_ENG_STAT_REGION p) 1 := by
  have hst : x.tgtStore p body code = none := by
    unfold State.tgtStore
    rw [h.trcv]
    simp [h.allows, hfit, hreg]
  rw [State.tgtStoreOr, hst]
  simp only [h.trcv, hfit, if_true]

/-- The buffer, its header and the report of a stored frame. -/
theorem kept (h : Heard p s x) (fs : List Fld) {n : Nat} (hn : 8 ≤ n) :
    Reports p s.port[p].cq code (x.tgtKept p a n body code) ∧ BufHolds s a n body (x.tgtKept p a n body code) ∧
    (x.tgtKept p a n body code).port[p].answer = s.port[p].answer ∧
    TgtWork p (keysOf (fs ++ tgtFields p)) s (x.tgtKept p a n body code) := by
  have hbuf := bufHolds_bufWrite (x := x) (a := a) (code := code) (body := body) hn
  have hw := (h.workMore fs).bufWrite (a := a) (code := code)
    (st := ⟨body.take (n - 8), decide (n - 8 < body.length), false⟩) false
  have hmem := memOnly_bufWrite (x := x) (a := a) (code := code)
    (st := ⟨body.take (n - 8), decide (n - 8 < body.length), false⟩)
  rw [State.tgtKept]
  generalize x.bufWrite a ⟨body.take (n - 8), decide (n - 8 < body.length), false⟩ false code = w at hbuf hw hmem
  have hport : w.port = x.port := by rw [hmem]
  obtain ⟨hdata, hnew, htrunc, hout⟩ := bufHolds_of_mem hbuf (tgtResult_mem (p := p) (x := w) code)
  refine ⟨?_, ⟨hdata, hnew, htrunc, fun b hb => (hout b hb).trans (State.byte_of_mem h.mem b)⟩, ?_,
    hw.tgtResult (by simp [keysOf]) code⟩
  · rw [← h.cq, ← hport]
    exact tgtResult_reports code
  · rw [tgtResult_answer, hport, h.answer]

end Heard

theorem bufSize_ge (z : Nat) : 8 ≤ bufSize z := by
  have h := Nat.one_le_two_pow (n := z)
  unfold bufSize
  omega

end

/-! ## The answer's start (R246, R274) -/

section

variable {s x u : State} {p : Fin 2} {bs : List Byte} {code : Nat}

theorem frameOver_eq : s.frameOver p = { s with core := (s.frameOver p).core } := rfl

theorem frameOver_programs : ProgramsSame s (s.frameOver p) := ProgramsSame.retryStalls _

/-- The state of a target whose answer goes out. -/
abbrev State.tgtSends (s : State) (p : Fin 2) (bs : List Byte) : State :=
  ((s.portUpd p (fun x => { x with sentBytes := bs, junk := false })).put (F.P_STAT_TXHOLD p) 0).portUpd p
    (fun x => { x with answer := none })

theorem tgtSends_port :
    (s.tgtSends p bs).port[p] = { s.port[p] with sentBytes := bs, junk := false, answer := none } := by
  rw [State.tgtSends, portUpd_own]
  exact congrArg (fun y : PortSt => { y with answer := none })
    (portUpd_own (s := s) fun x => { x with sentBytes := bs, junk := false })

theorem answerOver_sent (hans : s.port[p].answer = some (bs, code)) :
    (s.portUpd p (fun x => { x with sentBytes := bs, junk := false })).answerOver p =
      (s.tgtSends p bs).frameOver p := by
  have hp : (s.portUpd p (fun x => { x with sentBytes := bs, junk := false })).port[p].answer = some (bs, code) := by
    rw [portUpd_own]
    exact hans
  rw [State.answerOver, hp]
  rfl

theorem targetAnswer_sent (hlive : s.engLive p = true ∧ s.isTarget p = true) (hstop : s.stopping = false)
    (hans : s.port[p].answer = some (bs, code)) (hwait : s.port[p].txWait = false) :
    s.targetAnswer p = if code = 0 then (s.tgtSends p bs).frameOver p
      else ((s.tgtSends p bs).frameOver p).tgtResult p code := by
  have hc : s.engLive p = true ∧ s.isTarget p = true ∧ s.stopping = false := ⟨hlive.1, hlive.2, hstop⟩
  rw [State.targetAnswer, if_pos hc, hans]
  dsimp only
  rw [hwait, answerOver_sent hans]
  rfl

/-- What an answer's start does beside its report. -/
structure Sends (p : Fin 2) (bs : List Byte) (s u : State) : Prop where
  keys : OnlyFields s u (F.P_STAT_TXHOLD p :: tgtFields p)
  blocks : BlocksBut [.port] s u
  programs : ProgramsSame s u
  sb : u.core.sb = s.core.sb
  pending : u.pending = s.pending
  mem : u.mem = s.mem
  hold : u.on (F.P_STAT_TXHOLD p) = false
  answer : u.port[p].answer = none
  bytes : u.port[p].sentBytes = bs

theorem sends_frameOver : Sends p bs s ((s.tgtSends p bs).frameOver p) ∧
    ((s.tgtSends p bs).frameOver p).port[p].cq = s.port[p].cq := by
  have hd : Dev (keysOf (F.P_STAT_TXHOLD p :: tgtFields p)) [.port] [] s (s.tgtSends p bs) :=
    (Dev.refl.portUpd.put (by simp [keysOf])).portUpd
  have hport := tgtSends_port (s := s) (p := p) (bs := bs)
  have hhold : (s.tgtSends p bs).on (F.P_STAT_TXHOLD p) = false := State.on_put_zero
  generalize s.tgtSends p bs = y at hd hport hhold
  obtain ⟨hprog, hsb, -⟩ := CoreBut.programs hd.core
  have hblocks : BlocksBut [.port] y (y.frameOver p) := by
    rw [frameOver_eq]
    simp [BlocksBut]
  have hp : (y.frameOver p).port[p] = y.port[p] := rfl
  rw [hport] at hp
  refine ⟨⟨fun g hg => hd.keys g hg, hd.blocks.trans hblocks, hprog.trans frameOver_programs, hsb, hd.pending, hd.mem,
    hhold, congrArg PortSt.answer hp, congrArg PortSt.sentBytes hp⟩, (congrArg PortSt.cq hp).trans rfl⟩

theorem tgtResult_sentBytes : (x.tgtResult p code).port[p].sentBytes = x.port[p].sentBytes := by
  unfold State.tgtResult State.cqAppend
  split
  · exact (congrArg PortSt.sentBytes (cqAppend_own _)).trans rfl
  · rfl

theorem txhold_ne (p : Fin 2) : (F.P_STAT_TXHOLD p).key ∉ (tgtFields p).map Fld.key := by
  decide +revert

theorem Sends.tgtResult (h : Sends p bs s x) : Sends p bs s (x.tgtResult p code) := by
  have hw : TgtWork p (keysOf (tgtFields p)) x (x.tgtResult p code) := TgtWork.refl.tgtResult (by simp [keysOf]) code
  have hanswer := tgtResult_answer (x := x) (p := p) code
  have hbytes := tgtResult_sentBytes (x := x) (p := p) (code := code)
  have hmem := tgtResult_mem (x := x) (p := p) code
  generalize x.tgtResult p code = w at hw hanswer hbytes hmem
  obtain ⟨hprog, hsb, -⟩ := CoreBut.programs hw.core
  exact ⟨fun g hg => (hw.keys g fun hk => hg (List.mem_cons_of_mem _ hk)).trans (h.keys g hg), h.blocks.trans hw.blocks,
    h.programs.trans hprog, hsb.trans h.sb, hw.pending.trans h.pending, hmem.trans h.mem,
    (State.on_of_get (hw.keys _ (txhold_ne p))).trans h.hold, hanswer.trans h.answer, hbytes.trans h.bytes⟩

/-- An answer that may start is sent, and its result reported. -/
theorem targetAnswer_sends (hlive : s.engLive p = true ∧ s.isTarget p = true) (hstop : s.stopping = false)
    (hans : s.port[p].answer = some (bs, code)) (hwait : s.port[p].txWait = false) :
    Sends p bs s (s.targetAnswer p) ∧ (code = 0 → (s.targetAnswer p).port[p].cq = s.port[p].cq) ∧
      (code ≠ 0 → Reports p s.port[p].cq code (s.targetAnswer p)) := by
  rw [targetAnswer_sent hlive hstop hans hwait]
  obtain ⟨hsends, hcq⟩ := sends_frameOver (s := s) (p := p) (bs := bs)
  generalize (s.tgtSends p bs).frameOver p = w at hsends hcq
  by_cases hc : code = 0
  · rw [if_pos hc]
    exact ⟨hsends, fun _ => hcq, fun hn => absurd hc hn⟩
  · rw [if_neg hc]
    exact ⟨hsends.tgtResult, fun h0 => absurd h0 hc, fun _ => hcq ▸ tgtResult_reports code⟩

end

/-! ## Selections (R274) -/

section

variable {s : State} {p : Fin 2} {ring : Ring}

theorem tselKeys_ne (p : Fin 2) : (F.P_TSEL_DECIDE p).key ≠ (F.P_TSEL_SELECTED p).key ∧
    (F.P_TSEL_SELECTED p).key ≠ (F.P_TSEL_DECIDE p).key := by
  decide +revert

/-- A selection that ends without being accepted. -/
theorem selection_dropped : ((s.put (F.P_TSEL_DECIDE p) 0).put (F.P_TSEL_SELECTED p) 0).on (F.P_TSEL_DECIDE p) = false ∧
    ((s.put (F.P_TSEL_DECIDE p) 0).put (F.P_TSEL_SELECTED p) 0).on (F.P_TSEL_SELECTED p) = false ∧
    Frame [F.P_TSEL_DECIDE p, F.P_TSEL_SELECTED p] [] [] s
      ((s.put (F.P_TSEL_DECIDE p) 0).put (F.P_TSEL_SELECTED p) 0) :=
  ⟨(State.on_put_ne (tselKeys_ne p).2).trans State.on_put_zero, State.on_put_zero, (Dev.refl.put.put).frame⟩

/-- The target selected, before its answer. -/
abbrev State.tselTaken (s : State) (p : Fin 2) : State := (s.put (F.P_TSEL_DECIDE p) 0).put (F.P_TSEL_SELECTED p) 1

theorem selection_accepted : ((s.tselTaken p).tgtAnswer p [0xE5] 0).on (F.P_TSEL_DECIDE p) = false ∧
    ((s.tselTaken p).tgtAnswer p [0xE5] 0).on (F.P_TSEL_SELECTED p) = true ∧
    Answers s p [0xE5] 0 ((s.tselTaken p).tgtAnswer p [0xE5] 0) ∧
    Frame [F.P_TSEL_DECIDE p, F.P_TSEL_SELECTED p] [.port] [] s ((s.tselTaken p).tgtAnswer p [0xE5] 0) := by
  have hd : Dev (keysOf [F.P_TSEL_DECIDE p, F.P_TSEL_SELECTED p]) [.port] [] s (s.tselTaken p) := Dev.refl.put.put
  have hdec : (s.tselTaken p).on (F.P_TSEL_DECIDE p) = false :=
    (State.on_put_ne (tselKeys_ne p).2).trans State.on_put_zero
  have hsel : (s.tselTaken p).on (F.P_TSEL_SELECTED p) = true := State.on_put_one
  refine ⟨(State.on_of_get (tgtAnswer_get _ _ _)).trans hdec, (State.on_of_get (tgtAnswer_get _ _ _)).trans hsel,
    tgtAnswer_answer (x := s.tselTaken p) _ _, ?_⟩
  unfold State.tgtAnswer
  split
  · exact hd.frame
  · exact hd.portUpd.frame

theorem gives_accept (hlive : s.portLive p = true) {P : State → Prop}
    (h : P (s.tselAccept p ring.val)) : Gives (.tselAccept p ring) s P := by
  refine ⟨_, congrArg Host.Outcome.next (if_pos hlive), h⟩

theorem gives_reject (hlive : s.portLive p = true) {P : State → Prop}
    (h : P (s.tselReject p ring.val)) : Gives (.tselReject p ring) s P := by
  refine ⟨_, congrArg Host.Outcome.next (if_pos hlive), h⟩

end

/-! ## Values that a store already holds -/

section

variable {β : Type} [DecidableEq β] {d : Nat → β}

omit [DecidableEq β] in
theorem Sparse.insert_insert (l : List (Nat × β)) (a : Nat) (v : β) :
    Sparse.insert (Sparse.insert l a v) a v = Sparse.insert l a v := by
  induction l with
  | nil => simp [Sparse.insert]
  | cons e t ih =>
    obtain ⟨k, w⟩ := e
    rw [Sparse.insert]
    split
    · simp [Sparse.insert]
    · next hlt =>
      split
      · simp [Sparse.insert]
      · next hne => rw [Sparse.insert, if_neg hlt, if_neg hne, ih]

theorem Sparse.set_set (l : List (Nat × β)) (a : Nat) (v : β) :
    Sparse.set d (Sparse.set d l a v) a v = Sparse.set d l a v := by
  unfold Sparse.set
  split
  · simp [Sparse.erase]
  · exact Sparse.insert_insert l a v

omit [DecidableEq β] in
/-- A value that a list holds at its place is still held when another key is written. -/
theorem Sparse.insert_held {l : List (Nat × β)} {a b : Nat} {v w : β} (hab : a ≠ b) (h : Sparse.insert l a v = l) :
    Sparse.insert (Sparse.insert l b w) a v = Sparse.insert l b w := by
  induction l with
  | nil => simp [Sparse.insert] at h
  | cons e t ih =>
    obtain ⟨k, x⟩ := e
    rw [Sparse.insert] at h
    split at h
    · have hlen := congrArg List.length h
      simp at hlen
    · next hlt =>
      split at h
      · next hk =>
        have hv : v = x := by simpa [hk] using h
        subst hk hv
        rw [Sparse.insert]
        split
        · next hb => simp [Sparse.insert, hab.symm, Nat.not_lt.mpr hb.le]
        · simp [Sparse.insert]
      · next hk =>
        have ht : Sparse.insert t a v = t := by simpa using h
        rw [Sparse.insert]
        split
        · next hb =>
          have hba : ¬a < b := by omega
          simp [Sparse.insert, hba, hab.symm, hlt, hk, ht]
        · split
          · next hb => simp [Sparse.insert, hb ▸ hlt, hab.symm, ht]
          · simp [Sparse.insert, hlt, hk, ih ht]

omit [DecidableEq β] in
theorem Sparse.erase_held {l : List (Nat × β)} {a b : Nat} {v : β} (hab : a ≠ b) (h : Sparse.insert l a v = l) :
    Sparse.insert (Sparse.erase l b) a v = Sparse.erase l b := by
  induction l with
  | nil => simp [Sparse.insert] at h
  | cons e t ih =>
    obtain ⟨k, x⟩ := e
    rw [Sparse.insert] at h
    split at h
    · have hlen := congrArg List.length h
      simp at hlen
    · next hlt =>
      split at h
      · next hk =>
        have hv : v = x := by simpa [hk] using h
        subst hk hv
        simp [Sparse.erase, Sparse.insert, hab]
      · next hk =>
        have ht : Sparse.insert t a v = t := by simpa using h
        have iht := ih ht
        unfold Sparse.erase at iht ⊢
        rw [List.filter_cons]
        split
        · rw [Sparse.insert, if_neg hlt, if_neg hk, iht]
        · exact iht

/-- A value that a store holds is still held when another key is written. -/
theorem Sparse.set_held {l : List (Nat × β)} {a b : Nat} {v w : β} (hab : a ≠ b) (h : Sparse.set d l a v = l) :
    Sparse.set d (Sparse.set d l b w) a v = Sparse.set d l b w := by
  unfold Sparse.set at h ⊢
  split at h
  · next hv =>
    rw [if_pos hv]
    rw [Sparse.erase, List.filter_eq_self] at h ⊢
    intro e he
    split at he
    · exact h e (List.mem_of_mem_filter he)
    · rcases Sparse.mem_insert _ _ _ _ he with rfl | he
      · simp [hab.symm]
      · exact h e he
  · next hv =>
    rw [if_neg hv]
    split
    · exact Sparse.erase_held hab h
    · exact Sparse.insert_held hab h

end

/-! ## A counter that stays -/

/-- Writing the field's present value changes nothing. -/
def Settled (f : Fld) (s : State) : Prop :=
  Sparse.set coldOf s.regs f.key (s.get f) = s.regs ∧ s.get f < 2 ^ f.width

section

variable {s : State} {f g : Fld}

theorem settled_put_self (n : Nat) : Settled f (s.put f n) := by
  rw [Settled, State.get_put_self]
  exact ⟨Sparse.set_set _ _ _, Nat.mod_lt _ (Nat.two_pow_pos _)⟩

theorem Settled.put (h : Settled f s) (hg : g.key ≠ f.key) (n : Nat) : Settled f (s.put g n) := by
  obtain ⟨hset, hlt⟩ := h
  rw [Settled, State.get_put_ne _ _ _ _ hg]
  exact ⟨Sparse.set_held hg.symm hset, hlt⟩

theorem Settled.of_regs {u : State} (h : Settled f s) (hr : u.regs = s.regs) : Settled f u := by
  rw [Settled, State.get_of_regs hr, hr]
  exact h

theorem Settled.bump_zero (h : Settled f s) : s.bump f 0 = s := by
  obtain ⟨hset, hlt⟩ := h
  have hmin : min (s.get f + 0) (2 ^ f.width - 1) = s.get f := by omega
  rw [State.bump, hmin, State.put, Nat.mod_eq_of_lt hlt, hset]

end

/-! ## Two telegrams one after the other (R263) -/

/-- The port remembers, or not, that it discards characters. -/
def State.deaf (s : State) (p : Fin 2) (b : Bool) : State := s.portUpd p fun y => { y with junk := b }

section

variable {s x u : State} {p : Fin 2} {b : Bool}

theorem portUpd_portUpd (f g : PortSt → PortSt) : (s.portUpd p f).portUpd p g = s.portUpd p fun y => g (f y) := by
  simp [State.portUpd]

theorem deaf_tgtAnswer (bs : List Byte) (code : Nat) :
    (x.deaf p b).tgtAnswer p bs code = (x.tgtAnswer p bs code).deaf p b := by
  have hs : (x.deaf p b).stopping = x.stopping := rfl
  unfold State.tgtAnswer
  rw [hs]
  split
  · rfl
  · rw [State.deaf, State.deaf, portUpd_portUpd, portUpd_portUpd]

theorem deaf_cqAppend (e : CqEntry) : (x.deaf p b).cqAppend p e = (x.cqAppend p e).deaf p b := by
  have hc : (x.deaf p b).port[p].cq = x.port[p].cq := by rw [State.deaf, portUpd_own]
  unfold State.cqAppend
  rw [hc]
  split
  · have hsame : (x.deaf p b).portUpd p (fun y => { y with cq := y.cq ++ [e] }) =
        (x.portUpd p fun y => { y with cq := y.cq ++ [e] }).deaf p b := by
      rw [State.deaf, State.deaf, portUpd_portUpd, portUpd_portUpd]
    rw [hsame]
    rfl
  · rfl

theorem deaf_tgtResult (code : Nat) : (x.deaf p b).tgtResult p code = (x.tgtResult p code).deaf p b :=
  congrArg State.tickFree (deaf_cqAppend ⟨x.fresh % 512, true, code⟩)

theorem deaf_tgtUd2 (m : Bool) : (x.deaf p b).tgtUd2 p m = (x.tgtUd2 p m).deaf p b := by
  have htrsp : (x.deaf p b).trsp p = x.trsp p := rfl
  have hmem : (x.deaf p b).mem = x.mem := rfl
  have hframe : (x.deaf p b).trspFrame p = x.trspFrame p := by
    simp only [State.trspFrame, htrsp, State.byte_of_mem hmem, bytes_of_mem hmem]
    rfl
  have hallows : ∀ a n, (x.deaf p b).engAllows p a n true false = x.engAllows p a n true false := fun _ _ => rfl
  have hbyte : ∀ a, (x.deaf p b).byte a = x.byte a := fun _ => rfl
  unfold State.tgtUd2
  rw [htrsp]
  simp only [hframe, hallows, hbyte, deaf_tgtAnswer, deaf_tgtResult]
  split
  · rfl
  · split
    · rfl
    · split
      · split
        · rfl
        · rfl
      · rfl

/-- What a target does with a short frame does not depend on what it discards. -/
theorem deaf_tgtAct (c a : Byte) :
    (x.deaf p b).tgtAct p (shortJudged c a) = (x.tgtAct p (shortJudged c a)).deaf p b := by
  have hmine : ∀ y : State, Mine (y.deaf p b) p a = Mine y p a := fun _ => rfl
  have hput : ∀ n, (x.deaf p b).put (F.P_TSEL_SELECTED p) n = (x.put (F.P_TSEL_SELECTED p) n).deaf p b := fun _ => rfl
  have hsel : (if a = 0xFD then (x.deaf p b).put (F.P_TSEL_SELECTED p) 0 else x.deaf p b) =
      (if a = 0xFD then x.put (F.P_TSEL_SELECTED p) 0 else x).deaf p b := by
    split
    · rfl
    · rfl
  simp only [tgtAct_short, hmine, hsel, deaf_tgtAnswer, deaf_tgtUd2]
  simp only [apply_ite (fun y : State => y.deaf p b)]

/-- A property that the steps of a target's work keep is kept by its work on a short frame. -/
theorem tgtAct_short_keeps {R : State → Prop} (c a : Byte) (hx : R x)
    (hput : ∀ y f n, f ∈ [F.P_TSEL_SELECTED p, F.P_ENG_STAT_REGION p, F.P_ENG_STAT_CQOVF p] → R y → R (y.put f n))
    (hans : ∀ y v, R y → R (y.portUpd p fun z => { z with answer := v }))
    (hcq : ∀ y e, R y → R ((y.portUpd p fun z => { z with cq := z.cq ++ [e] }).raise (12 + p.val)))
    (hfree : ∀ y, R y → R y.tickFree) : R (x.tgtAct p (shortJudged c a)) := by
  have hanswer : ∀ y bs code, R y → R (y.tgtAnswer p bs code) := fun y bs code hy => by
    unfold State.tgtAnswer
    split
    · exact hy
    · exact hans y _ hy
  have hresult : ∀ y code, R y → R (y.tgtResult p code) := fun y code hy => by
    unfold State.tgtResult State.cqAppend
    split
    · exact hfree _ (hcq y _ hy)
    · exact hfree _ (hput y _ _ (by simp) hy)
  have hud2 : ∀ y m, R y → R (y.tgtUd2 p m) := fun y m hy => by
    unfold State.tgtUd2
    dsimp only
    split
    · exact hy
    · split
      · exact hput y _ _ (by simp) hy
      · split
        · split
          · exact hfree _ (hanswer y _ _ hy)
          · exact hy
        · exact hresult y _ hy
  have hsel : R (if a = 0xFD then x.put (F.P_TSEL_SELECTED p) 0 else x) := by
    split
    · exact hput x _ _ (by simp) hx
    · exact hx
  rw [tgtAct_short]
  split
  · exact hx
  · split
    · split
      · exact hanswer _ _ _ hsel
      · exact hsel
    · split
      · split
        · exact hanswer x _ _ hx
        · exact hx
      · split
        · exact hud2 x _ hx
        · exact hx

/-- The state after a whole frame without discarded characters. -/
def State.heardTo (s : State) (p : Fin 2) (b : Bool) : State :=
  (s.bump (F.P_ENG_JUNK_JUNK p) 0).portUpd p fun y => { y with ignoring := false, junk := b }

theorem afterRx_last (c a : Byte) : s.afterRx p (shortJudged c a) = s.heardTo p true := rfl

theorem afterRx_more {d : RxChar} (hd : d.gapBefore = true) (c a : Byte) (ds : List RxChar) :
    s.afterRx p ⟨0, .short, [c, a], 2, true, d :: ds⟩ = s.heardTo p false := by
  unfold State.afterRx
  dsimp only
  rw [afterGap_cons hd, beforeGap_cons hd]
  rfl

theorem heardTo_deaf {b' : Bool} : (s.heardTo p b).deaf p b' = s.heardTo p b' := portUpd_portUpd _ _

theorem tgtAct_rest (c a : Byte) (t : List RxChar) :
    x.tgtAct p ⟨0, .short, [c, a], 2, true, t⟩ = x.tgtAct p (shortJudged c a) := rfl

/-- The fields that a target's work on a short frame writes are none of those that say whether it runs. -/
theorem runKeys_ne (p : Fin 2) : ∀ f ∈ [F.P_TSEL_SELECTED p, F.P_ENG_STAT_REGION p, F.P_ENG_STAT_CQOVF p,
    F.P_ENG_JUNK_JUNK p], ∀ g ∈ [F.P_ENG_CTL_RUN p, F.P_CTL_EN p, F.P_CTL_MODE p, F.SEQ_PG_PG, F.SYS_DOMSTAT_PG],
    f.key ≠ g.key := by
  decide +revert

theorem workKeys_ne (p : Fin 2) : ∀ f ∈ [F.P_TSEL_SELECTED p, F.P_ENG_STAT_REGION p, F.P_ENG_STAT_CQOVF p],
    f.key ≠ (F.P_ENG_JUNK_JUNK p).key := by
  decide +revert

/-- `u` runs as `s` does, discards characters, and its counter of them is settled. -/
structure Awaits (p : Fin 2) (s u : State) : Prop where
  regs : ∀ g ∈ [F.P_ENG_CTL_RUN p, F.P_CTL_EN p, F.P_CTL_MODE p, F.SEQ_PG_PG, F.SYS_DOMSTAT_PG], u.get g = s.get g
  pwr : u.pwr = s.pwr
  ignoring : u.port[p].ignoring = false
  junk : u.port[p].junk = true
  settled : Settled (F.P_ENG_JUNK_JUNK p) u

theorem awaits_heardTo : Awaits p s (s.heardTo p true) := by
  have hport : (s.heardTo p true).port[p] = { s.port[p] with ignoring := false, junk := true } := portUpd_own _
  refine ⟨fun g hg => ?_, rfl, congrArg PortSt.ignoring hport, congrArg PortSt.junk hport,
      (settled_put_self _).of_regs rfl⟩
  exact State.get_put_ne _ _ _ _ (runKeys_ne p _ (by simp) g hg)

theorem awaits_tgtAct (c a : Byte) (h : Awaits p s x) : Awaits p s (x.tgtAct p (shortJudged c a)) := by
  have hsub : ∀ f ∈ [F.P_TSEL_SELECTED p, F.P_ENG_STAT_REGION p, F.P_ENG_STAT_CQOVF p],
      f ∈ [F.P_TSEL_SELECTED p, F.P_ENG_STAT_REGION p, F.P_ENG_STAT_CQOVF p, F.P_ENG_JUNK_JUNK p] := by simp
  refine tgtAct_short_keeps c a h ?_ ?_ ?_ ?_
  · intro y f n hf hy
    exact ⟨fun g hg => (State.get_put_ne _ _ _ _ (runKeys_ne p f (hsub f hf) g hg)).trans (hy.regs g hg), hy.pwr,
      hy.ignoring, hy.junk, hy.settled.put (workKeys_ne p f hf) n⟩
  · intro y v hy
    have hp := answer_own (x := y) (p := p) v
    exact ⟨hy.regs, hy.pwr, (congrArg PortSt.ignoring hp).trans hy.ignoring, (congrArg PortSt.junk hp).trans hy.junk,
      hy.settled.of_regs rfl⟩
  · intro y e hy
    have hp := cqAppend_own (x := y) (p := p) e
    exact ⟨hy.regs, hy.pwr, (congrArg PortSt.ignoring hp).trans hy.ignoring, (congrArg PortSt.junk hp).trans hy.junk,
      hy.settled.of_regs rfl⟩
  · intro y hy
    exact ⟨hy.regs, hy.pwr, hy.ignoring, hy.junk, hy.settled.of_regs rfl⟩

theorem Awaits.live (h : Awaits p s u) (hl : s.engLive p = true ∧ s.isTarget p = true) :
    u.engLive p = true ∧ u.isTarget p = true := by
  have hrun := h.regs (F.P_ENG_CTL_RUN p) (by simp)
  have hen := h.regs (F.P_CTL_EN p) (by simp)
  have hmode := h.regs (F.P_CTL_MODE p) (by simp)
  have hpg := h.regs F.SEQ_PG_PG (by simp)
  have hdom := h.regs F.SYS_DOMSTAT_PG (by simp)
  have hpow := State.powered_of_pwr h.pwr
  unfold State.engLive State.portLive State.isTarget State.domPg State.pg State.bit State.on at hl ⊢
  rw [hrun, hen, hmode, hpg, hdom, hpow]
  exact hl

theorem Awaits.targetFrame (h : Awaits p s u) (hl : s.engLive p = true ∧ s.isTarget p = true) {d : RxChar}
    (hd : d.gapBefore = true) (ds : List RxChar) :
    u.targetFrame p (d :: ds) = (u.deaf p false).tgtFrames p (d :: ds).length (d :: ds) := by
  have hh : u.hear p (d :: ds) = (u.deaf p false, d :: ds) := by
    rw [State.hear, if_neg (by rw [h.ignoring]; exact Bool.false_ne_true), if_pos h.junk, afterGap_cons hd,
      beforeGap_cons hd, List.length_nil, h.settled.bump_zero]
    rfl
  rw [State.targetFrame, if_pos (h.live hl), hh]

/-- Telegrams are worked on as they would be one after the other. -/
theorem two_telegrams (h : Hears s p) {d : RxChar} (hd : d.gapBefore = true) (c a : Byte) (ds : List RxChar) :
    s.targetFrame p (plainChars (shortFrame c a) ++ d :: ds) =
      (s.targetFrame p (plainChars (shortFrame c a))).targetFrame p (d :: ds) := by
  have hj : judge (plainChars (shortFrame c a)) = shortJudged c a :=
    (congrArg judge (List.append_nil _).symm).trans (judge_short c a [])
  have hone : s.targetFrame p (plainChars (shortFrame c a)) = (s.heardTo p true).tgtAct p (shortJudged c a) :=
    (targetFrame_judged h (List.cons_ne_nil _ _) hj).trans (tgtFrames_nil _)
  have hboth : s.targetFrame p (plainChars (shortFrame c a) ++ d :: ds) =
      ((s.heardTo p false).tgtAct p (shortJudged c a)).tgtFrames p (d :: ds).length (d :: ds) := by
    have hne : plainChars (shortFrame c a) ++ d :: ds ≠ [] := List.cons_ne_nil _ _
    rw [targetFrame_judged h hne (judge_short c a (d :: ds)), afterRx_more hd, afterGap_cons hd]
    exact tgtFrames_fuel (by simp [plainChars, shortFrame]) le_rfl
  rw [hone, (awaits_tgtAct c a awaits_heardTo).targetFrame h.1 hd, ← deaf_tgtAct, heardTo_deaf, hboth]

end

/-! ## O55 -/

section

variable {s : State} {p : Fin 2}

theorem decideKey_ne (p : Fin 2) : (F.P_TSEL_DECIDE p).key ≠ (F.P_ENG_STAT_CQOVF p).key := by
  decide +revert

/-- The long frames that a target takes: selections by 253, and frames to itself or to all. -/
abbrev Wanted (s : State) (p : Fin 2) (a ci : Byte) : Prop :=
  ((ci = 0x52 ∨ ci = 0x56) ∧ a = 0xFD) ∨ (¬(ci = 0x52 ∨ ci = 0x56) ∧ (Mine s p a ∨ a = 0xFF))

namespace Heard

variable {x : State} {c a ci : Byte} {rest : List Byte}

theorem longIgnored (h : Heard p s x) (hc : c = 0x53 ∨ c = 0x73) (hw : ¬Wanted s p a ci) :
    x.tgtAct p (longJudged (c :: a :: ci :: rest)) = x := by
  simp only [tgtAct_long hc, h.mine]
  split
  · next hsel => exact if_neg fun ha => hw (Or.inl ⟨hsel, ha⟩)
  · next hsel =>
    rw [if_neg fun hm => hw (Or.inr ⟨hsel, Or.inl hm⟩), if_neg fun ha => hw (Or.inr ⟨hsel, Or.inr ha⟩)]

/-- A selection is stored and waits for its decision. -/
theorem longSelects (hc : c = 0x53 ∨ c = 0x73) (hsel : ci = 0x52 ∨ ci = 0x56) (ha : a = 0xFD) :
    x.tgtAct p (longJudged (c :: a :: ci :: rest)) =
      x.tgtStoreOr p (c :: a :: ci :: rest) 0x51 fun y => y.put (F.P_TSEL_DECIDE p) 1 := by
  rw [tgtAct_long hc, if_pos hsel, if_pos ha]

/-- Another frame is stored, and answered where it is the target's own. -/
theorem longStores (h : Heard p s x) (hc : c = 0x53 ∨ c = 0x73) (hsel : ¬(ci = 0x52 ∨ ci = 0x56))
    (hm : Mine s p a ∨ a = 0xFF) : x.tgtAct p (longJudged (c :: a :: ci :: rest)) =
      x.tgtStoreOr p (c :: a :: ci :: rest) 0x50 fun y => if Mine s p a then y.tgtAnswer p [0xE5] 0 else y := by
  simp only [tgtAct_long hc, h.mine]
  rw [if_neg hsel]
  split
  · rfl
  · next hn =>
    rw [if_pos (hm.resolve_left hn)]
    rfl

end Heard

/-- A wanted frame whose buffer lies outside the engine regions. -/
theorem gives_longRefused (h : Hears s p) {c a ci : Byte} {rest : List Byte} (hc : c = 0x53 ∨ c = 0x73)
    (hlen : rest.length ≤ 252) (hw : Wanted s p a ci) (hfit : bufOk (s.trcv p).1 (s.trcv p).2 = true)
    (hreg : ¬s.engAllows p (s.trcv p).1 (bufSize (s.trcv p).2) true true = true) :
    Gives (.targetFrame p (plainChars (longFrame (c :: a :: ci :: rest)))) s (fun u =>
      u.port[p].answer = s.port[p].answer ∧ TgtQuiet s p u ∧ u.on (F.P_ENG_STAT_REGION p) = true ∧
      InTarget s p [F.P_ENG_STAT_REGION p] u) := by
  refine gives_long h (by simp) (by simp only [List.length_cons]; omega) fun x hx => ?_
  rcases hw with ⟨hsel, ha⟩ | ⟨hsel, hm⟩
  · rw [Heard.longSelects hc hsel ha, hx.storeRefused hfit hreg]
    exact hx.refused
  · rw [hx.longStores hc hsel hm, hx.storeRefused hfit hreg]
    exact hx.refused

/-- A frame to the target, or to all, is stored. -/
theorem gives_longStored (h : Hears s p) {c a ci : Byte} {rest : List Byte} (hc : c = 0x53 ∨ c = 0x73)
    (hlen : rest.length ≤ 252) (hsel : ¬(ci = 0x52 ∨ ci = 0x56)) (hm : Mine s p a ∨ a = 0xFF)
    (hfit : bufOk (s.trcv p).1 (s.trcv p).2 = true)
    (hreg : s.engAllows p (s.trcv p).1 (bufSize (s.trcv p).2) true true = true) :
    Gives (.targetFrame p (plainChars (longFrame (c :: a :: ci :: rest)))) s (fun u => Reports p s.port[p].cq 0x50 u ∧
      BufHolds s (s.trcv p).1 (bufSize (s.trcv p).2) (c :: a :: ci :: rest) u ∧ (Mine s p a → Answers s p [0xE5] 0 u) ∧
      (¬Mine s p a → u.port[p].answer = s.port[p].answer) ∧ InTarget s p [] u) := by
  refine gives_long h (by simp) (by simp only [List.length_cons]; omega) fun x hx => ?_
  rw [hx.longStores hc hsel hm, hx.storeOr hfit hreg]
  obtain ⟨hrep, hbuf, hans, hwork⟩ := hx.kept (a := (s.trcv p).1) (code := 0x50) (body := c :: a :: ci :: rest) []
    (bufSize_ge (s.trcv p).2)
  generalize x.tgtKept p (s.trcv p).1 (bufSize (s.trcv p).2) (c :: a :: ci :: rest) 0x50 = w at hrep hbuf hans hwork
  by_cases hmine : Mine s p a
  · rw [if_pos hmine]
    refine ⟨?_, bufHolds_of_mem hbuf (tgtAnswer_mem _ _), fun _ => ?_, fun hn => absurd hmine hn,
        (hwork.tgtAnswer _ _).inTarget⟩
    · rw [Reports, tgtAnswer_cq, tgtAnswer_core, State.on_of_get (tgtAnswer_get _ _ _)]
      exact hrep
    · rw [Answers, tgtAnswer_answer, stopping_of_blocks hwork, hans]
  · rw [if_neg hmine]
    exact ⟨hrep, hbuf, fun hn => absurd hn hmine, fun _ => hans, hwork.inTarget⟩

/-- A selection is stored. -/
theorem gives_longSelects (h : Hears s p) {c a ci : Byte} {rest : List Byte} (hc : c = 0x53 ∨ c = 0x73)
    (hlen : rest.length ≤ 252) (hsel : ci = 0x52 ∨ ci = 0x56) (ha : a = 0xFD)
    (hfit : bufOk (s.trcv p).1 (s.trcv p).2 = true)
    (hreg : s.engAllows p (s.trcv p).1 (bufSize (s.trcv p).2) true true = true) :
    Gives (.targetFrame p (plainChars (longFrame (c :: a :: ci :: rest)))) s (fun u => Reports p s.port[p].cq 0x51 u ∧
      BufHolds s (s.trcv p).1 (bufSize (s.trcv p).2) (c :: a :: ci :: rest) u ∧ u.on (F.P_TSEL_DECIDE p) = true ∧
      u.port[p].answer = s.port[p].answer ∧ InTarget s p [F.P_TSEL_DECIDE p] u) := by
  refine gives_long h (by simp) (by simp only [List.length_cons]; omega) fun x hx => ?_
  rw [Heard.longSelects hc hsel ha, hx.storeOr hfit hreg]
  obtain ⟨hrep, hbuf, hans, hwork⟩ := hx.kept (a := (s.trcv p).1) (code := 0x51) (body := c :: a :: ci :: rest)
    [F.P_TSEL_DECIDE p] (bufSize_ge (s.trcv p).2)
  generalize x.tgtKept p (s.trcv p).1 (bufSize (s.trcv p).2) (c :: a :: ci :: rest) 0x51 = w at hrep hbuf hans hwork
  have hne : (F.P_TSEL_DECIDE p).key ≠ (F.P_ENG_STAT_CQOVF p).key := decideKey_ne p
  refine ⟨?_, bufHolds_of_mem hbuf rfl, State.on_put_one, hans, (hwork.put (by simp [keysOf])).inTarget⟩
  rw [Reports, State.on_put_ne hne]
  exact hrep

/-- RX_GAP_TIMEOUT at a target that hears. -/
theorem rxGap_target (h : Hears s p) : s.rxGapTimeout p =
    (s.portUpd p fun x => { x with ignoring := false, junk := false }).tgtResult p 0x54 := by
  obtain ⟨⟨hlive, htgt⟩, hign, hjunk⟩ := h
  unfold State.rxGapTimeout
  dsimp only
  rw [if_neg (by rw [hlive, hign, hjunk]; decide), if_pos htgt]

/-- REQ_UD2 to a target. -/
theorem gives_ud2 (h : Hears s p) {c a : Byte} (hc : c = 0x5B ∨ c = 0x7B) (hm : Mine s p a ∨ a = 0xFF)
    {P : State → Prop} (hP : ∀ x, Heard p s x → P (x.tgtUd2 p (decide (Mine s p a)))) :
    Gives (.targetFrame p (plainChars (shortFrame c a))) s P :=
  gives_short h c a fun x hx => (hx.ud2 hc hm).symm ▸ hP x hx

/-- The answer to a REQ_UD2 whose buffer is new. -/
theorem Heard.ud2Answers {x : State} (h : Heard p s x) {m : Prop} [Decidable m] {w : State}
    (hw : w = if decide m then (x.tgtAnswer p (s.trspFrame p) 0x52).tickFree else x) : TgtQuiet s p w ∧
    (m → Answers s p (s.trspFrame p) 0x52 w) ∧ (¬m → w.port[p].answer = s.port[p].answer) ∧ InTarget s p [] w := by
  subst hw
  by_cases hm : m
  · rw [if_pos (decide_eq_true hm)]
    exact ⟨h.answersQuiet _ _, fun _ => h.answers _ _, fun hn => absurd hm hn,
      ((h.workMore _).tgtAnswer _ _).tickFree.inTarget⟩
  · rw [if_neg (by simp [hm])]
    obtain ⟨hans, hquiet, hin⟩ := h.ignored
    exact ⟨hquiet, fun hn => absurd hn hm, fun _ => hans, hin⟩

end

/-- Settles O55: a telegram is judged first, character by character, and what the target then does depends on C, A and
CI alone; the state in which it does so differs from the one before by what the port remembers of the line. -/
theorem engineAsTarget : Obligations.EngineAsTarget := by
  intro s p
  dsimp only
  refine ⟨fun h a => ⟨fun hm => ?_, fun c hc hm => ?_, fun c hn => ?_, fun c hc hm => ⟨?_, ?_, ?_⟩,
      fun c ci rest hc hlen => ?_⟩,
    fun h => ⟨fun cs hcs hcode hrest => ?_, fun c a d ds v hd hv => ?_, ?_⟩, fun bs code hlive hans => ⟨?_, ?_, ?_⟩,
    fun ring hlive => ⟨fun hr => ?_, fun hr hdec => ?_, fun hdec => ?_, fun hr => ?_⟩, fun hlive hdec => ?_⟩
  · exact gives_short h _ a fun x hx => hx.nke hm
  · exact gives_short h c a fun x hx => hx.acked hc hm
  · exact gives_short h c a fun x hx => (hx.notForIt hn).symm ▸ hx.ignored
  · rintro ⟨hfit, hreg⟩ hnew
    exact gives_ud2 h hc hm fun x hx => hx.ud2Answers (hx.ud2New hfit hreg hnew _)
  · rintro ⟨hfit, hreg⟩ hnew
    refine gives_ud2 h hc hm fun x hx => ?_
    rw [hx.ud2Old hfit hreg hnew]
    obtain ⟨hrep, hans, hmem, hin⟩ := hx.onlyReported 0x53
    exact ⟨hans, hrep, hmem, hin⟩
  · intro hfit hn
    refine gives_ud2 h hc hm fun x hx => ?_
    rw [hx.ud2Refused hfit fun hreg => hn ⟨hfit, hreg⟩]
    exact hx.refused
  · refine ⟨fun hw => ?_, fun hw hfit hreg => gives_longRefused h hc hlen hw hfit hreg, fun hw hfit hreg hsel => ?_,
      fun hw hfit hreg hsel => ?_⟩
    · exact gives_long (body := c :: a :: ci :: rest) h (by simp) (by simp only [List.length_cons]; omega)
        fun x hx => (hx.longIgnored hc hw).symm ▸ hx.ignored
    · obtain ⟨hs, -⟩ | ⟨-, hm⟩ := hw
      · exact absurd hs hsel
      · exact gives_longStored h hc hlen hsel hm hfit hreg
    · obtain ⟨-, ha⟩ | ⟨hs, -⟩ := hw
      · exact gives_longSelects h hc hlen hsel ha hfit hreg
      · exact absurd hsel hs
  · refine gives_target h hcs rfl hrest fun x hx => ?_
    rw [State.tgtJudged, if_neg hcode]
    exact hx.onlyReported 0x54
  · have hv' : s.targetFrame p (plainChars (shortFrame c a)) = v := by
      injection hv
    exact congrArg Host.Outcome.next (hv' ▸ two_telegrams h hd c a ds)
  · refine ⟨_, congrArg Host.Outcome.next (rxGap_target h), ?_⟩
    exact heard_quiet.onlyReported 0x54
  · intro hstop
    refine ⟨_, rfl, ?_⟩
    rw [State.targetAnswer, if_neg fun hc => ?_]
    rw [hstop] at hc
    exact Bool.noConfusion hc.2.2
  · intro hstop hwait
    have hu : s.targetAnswer p = s.put (F.P_STAT_TXHOLD p) 1 := by
      rw [State.targetAnswer, if_pos ⟨hlive.1, hlive.2, hstop⟩, hans]
      exact if_pos hwait
    exact ⟨_, congrArg Host.Outcome.next hu, State.on_put_one, Dev.refl.put.frame⟩
  · intro hstop hwait
    obtain ⟨hs, hcq, hrep⟩ := targetAnswer_sends hlive hstop hans hwait
    exact ⟨_, rfl, hs.answer, hs.bytes, hs.hold, hcq, hrep, hs.mem, hs.keys, hs.blocks, hs.programs, hs.sb, hs.pending⟩
  · exact ⟨gives_accept hlive (if_neg fun hc => by omega), gives_reject hlive (if_neg (by omega))⟩
  · refine gives_accept hlive ?_
    rw [State.tselAccept, if_pos ⟨hr, hdec⟩]
    exact selection_accepted
  · exact gives_accept hlive (if_neg fun hc => by rw [hdec] at hc; exact Bool.noConfusion hc.2)
  · refine gives_reject hlive ?_
    rw [State.tselReject, if_pos hr]
    exact selection_dropped
  · exact ⟨_, congrArg Host.Outcome.next (if_pos ⟨hlive, hdec⟩), selection_dropped⟩

end Sys2Proof.Machine
end
